-- ==== Sys2Proof/Word.lean ====
section
/-! DEFINITION. The word and byte types of the model. -/

namespace Sys2Proof

/-- A register of the module (R11), and any 64-bit quantity. -/
abbrev Word := BitVec 64

/-- A byte of host memory, of a packet or of the store. -/
abbrev Byte := BitVec 8

end Sys2Proof
end

