-- ==== Sys2Proof/Syntax.lean ====
section
/-! DEFINITION. The commands the module takes, with their operands, and the types of what the operands carry: register
writes, the answers of host memory, packets and flits. -/

namespace Sys2Proof

/-- Which half of a register an access touches (R11, R62). -/
inductive Half where
  | full | lo | hi
  deriving DecidableEq, Repr

/-- A posted register write: the master that issues it (R70), the half it touches, and the data in place. -/
structure Wr where
  master : BitVec 4
  half : Half
  value : Word
  deriving DecidableEq, Repr

/-- The answer of one aligned 8-byte read of host memory through a link: the data, or `none` for a bus error. -/
structure HostRd where
  link : Fin 4
  addr : Nat
  data : Option Word
  deriving DecidableEq, Repr

/-- What the outside world shows the module during one command: the time since the last cold reset in ns as the
module's clocks count it, and what reads of host memory return. A word not listed is a free value. -/
structure Env where
  t : Nat
  host : List HostRd
  deriving DecidableEq, Repr

/-- The three feed registers of a check-value unit (R90). -/
inductive FeedWidth where
  | feed8 | feed16 | feed32
  deriving DecidableEq, Repr

/-- A network packet as it travels (R194, R197): the fields of the clear header, and the bytes that follow it, the tag in the last 16
of them. -/
structure Packet where
  dst : Nat
  src : Nat
  tc : Nat
  rmode : Nat
  vgroup : Nat
  hops : Nat
  trimmed : Bool
  mcast : Bool
  ordered : Bool
  cmark : Bool
  flits : Nat
  msn : Nat
  /-- the reserved header bits 115:96 -/
  rsvd : Nat
  nd : Nat
  psn : Nat
  attempt : Nat
  opcode : Nat
  epoch : Nat
  /-- the reserved header bits 7:0 -/
  rsvdLow : Nat
  body : List Byte
  deriving DecidableEq, Repr

/-- An offer that arrives at a tile (R479): of the mesh transfer of a queued packet, or of an engine that opens a transfer of so
many cells. -/
inductive Offer where
  | packet (id : Nat)
  | engine (src dst : Fin 64) (cells : Nat)
  deriving DecidableEq, Repr

/-- What error correction found in a cell (R487). -/
inductive Ecc where
  | good | corrected | bad
  deriving DecidableEq, Repr

/-- The adapted state of a receiver (R559): CTLE setting, gain, FFE and DFE coefficients, thresholds, clock phase offset,
and the temperature of the die region, °C. -/
structure Adapted where
  ctle : Nat
  gain : Nat
  ffe : List Int
  dfe : List Int
  thresholds : List Int
  phase : Int
  temp : Int
  deriving DecidableEq, Repr

/-- What Daylight reads at an epoch (R634) beside the registers: utilisation of the ports that are not idle, occupancy of the engine
tiles that are not idle, whether a tile throttled, and the input power averaged over the last 10 µs in 0.1 W. -/
structure Epoch where
  u : List (Nat × Nat)
  e : List (Nat × Nat)
  throttled : Bool
  power : Nat
  deriving DecidableEq, Repr

/-- What a lane's receiver sees when its bring-up stage ends (R554, R555): the estimate s, and in IDENT the position and kind it
reads, and whether the marker was inverted; at the end of READY, whether the far end's frames show a countdown of their own. -/
structure LaneSeen where
  s : Nat
  pos : Nat
  kind : Nat
  inverted : Bool
  temp : Int
  deriving DecidableEq, Repr

/-- A request of the firmware update: a write of FWCTL or an MCTP message (R712). -/
inductive FwReq where
  | reg (w : Wr)
  | mctp (msg : List Byte)
  deriving DecidableEq, Repr

/-- What starts a module reset beside a mode request (R673). -/
inductive ResetSrc where
  | pin
  | reg (w : Wr)
  deriving DecidableEq, Repr

/-- What the front end samples (PWR.MEAS, PWR.TEMP): input and output voltage in 10 mV, input current in mA, input power in 0.1 W,
the sensed and the modelled temperature of the FET in °C, whether foldback is active, and whether the gate is fully enhanced. -/
structure Meas where
  vin : Nat
  vout : Nat
  iin : Nat
  pin : Nat
  sensed : Int
  model : Int
  fold : Bool
  enhanced : Bool
  deriving DecidableEq, Repr

/-- The access whose data a read return brings (R765): the payload of a connection's next packet, the producer of a WQ, or the
consumer of a CR. -/
inductive ReadOf where
  | payload (cid : Nat)
  | pi (n : Nat)
  | ci (n : Nat)
  deriving DecidableEq, Repr


/-- The commands of the module: one constructor for each row of the table of operations and events. -/
inductive Instr where
  /-- AUX_3V3 rises at power-up or returns after a loss, and the whole module, AON included, returns to its cold-reset state (R673). -/
  | coldReset (auxReturn : Bool)
  /-- After 8 consecutive AON cycles of agreement, the module takes CHASSIS_ID and SLOT_ID, loads ROUTE.PMAP and may leave Midnight (R19). -/
  | strapSample (pins : BitVec 10)
  /-- The strap pins have differed from the sampled value for 8 AON cycles; the module sets strap_chg and keeps its FA (R21). -/
  | strapChanged (pins : BitVec 10)
  /-- A master writes DEV.FADDR.group; the first write sets the group and valid, and later different values are ignored (R22). -/
  | groupWrite (w : Wr)
  /-- A posted write to a register that has no row of its own is applied in its domain, including range checks and W1C or W1S handling (R58). -/
  | registerWrite (addr : BitVec 24) (w : Wr) (e : Env)
  /-- A BAR0 access of an illegal size or alignment completes as successful, changes nothing and is recorded in DEV.ACCERR (R763). -/
  | refusedAccess (master : BitVec 4) (addr : BitVec 24) (write : Bool)
  /-- A read of a page whose domain is stopped returns all ones within the domain's bound and is recorded in DEV.ACCERR (R64). -/
  | stoppedDomainRead (master : BitVec 4) (addr : BitVec 24)
  /-- A write to a page whose domain is stopped is discarded and recorded in DEV.ACCERR (R65). -/
  | stoppedDomainWrite (addr : BitVec 24) (w : Wr)
  /-- A write of PG_CTL.lock locks every RWL field of the page until cold reset (R52). -/
  | pageLock (page : BitVec 12) (w : Wr)
  /-- A W1C write clears pending causes; if the source stays asserted and enabled, one further message is sent (R76). -/
  | evtPendClear (page : BitVec 12) (w : Wr)
  /-- A W1C write to SRCPND clears a wake or software source and deasserts it (R73). -/
  | srcpndClear (k : Fin 4) (j : Fin 4) (w : Wr)
  /-- An event table entry is written; setting en on an asserted source sends one message, and a new destination applies from the next message (R77). -/
  | evtEntryWrite (n : BitVec 10) (w : Wr)
  /-- A write to EVT[0].SWSET with a number 0x250-0x3FF asserts that software source (R73). -/
  | swset (w : Wr)
  /-- The host unmasks an MSI-X vector, and the module sends the pending message if the source is still asserted (R79). -/
  | msixUnmask (link : Fin 4) (vector : BitVec 11)
  /-- A host link is up with MSI-X Enable set, and the module sends one message for each asserted, enabled source routed to it (R81). -/
  | msixEnable (link : Fin 4) (funcMask : Bool)
  /-- A master writes its own ID to SEM.LOCK[n].owner and takes the semaphore when it is free and the group mask allows the master (R82). -/
  | semClaim (n : BitVec 8) (w : Wr)
  /-- The holder writes owner 0; the semaphore is freed, broken is cleared, and the waiters are woken (R84). -/
  | semRelease (n : BitVec 8) (w : Wr)
  /-- The MMP writes owner 0 on a semaphore held by another master; the semaphore is freed with broken set (R85). -/
  | semForceRelease (n : BitVec 8) (w : Wr)
  /-- A write to SEM.WAIT arms a wake, or wakes at once if the semaphore is already free (R86). -/
  | semWait (w : Wr)
  /-- A write of CTL.start loads the initial value of sel into VAL and clears BYTES (R90). -/
  | chkStart (u : Fin 8) (w : Wr)
  /-- A write of CTL.sel without start changes the polynomial for later feeds and leaves VAL unchanged (R93). -/
  | chkSelWrite (u : Fin 8) (w : Wr)
  /-- A write to FEED8, FEED16 or FEED32 feeds 1, 2 or 4 bytes into the unit's CRC (R91). -/
  | chkFeed (u : Fin 8) (width : FeedWidth) (w : Wr)
  /-- QCTL.PG_CTL.enable goes from 0 to 1; the module checks the table sizes and contexts 0 and sets running, or sets table_err (R100). -/
  | queueBlockEnable (w : Wr) (e : Env)
  /-- QCTL.PG_CTL.enable is cleared; fetching stops, the cache and held completions are discarded, and every WQ and CR becomes FREE (R101). -/
  | queueBlockDisable (w : Wr) (e : Env)
  /-- A write to WQ_PI offers a new producer index, which is accepted, ignored as stale, or sends the WQ to ERROR with DB_OVERRUN (R104). -/
  | wqDoorbell (n : BitVec 16) (link : Fin 4) (half : Half) (value : Word) (e : Env)
  /-- A write to CR_CI offers a consumer index and possibly arm; R105 decides acceptance and R131 the arming (R105). -/
  | crDoorbell (n : BitVec 16) (link : Fin 4) (half : Half) (value : Word) (e : Env)
  /-- A 32-bit write to offset 0x00C with bit 0 set arms the CR without changing ci_known (R131). -/
  | crArm (n : BitVec 16) (link : Fin 4) (value : BitVec 32) (e : Env)
  /-- A write into the PUSH window adds bytes to the assembly; once all 64 bytes are present, the push takes effect as a doorbell under R112 (R110). -/
  | pushWrite (n : BitVec 16) (link : Fin 4) (off : BitVec 6) (data : List Byte) (e : Env)
  /-- The poll interval of a polled WQ expires, and the module reads the producer shadow and treats the value as a doorbell (R114). -/
  | shadowPoll (n : BitVec 16) (e : Env)
  /-- The module starts a read of up to 8 WQEs below pi_known when outstanding and the holding pool permit (R117). -/
  | wqeFetch (n : BitVec 16) (e : Env)
  /-- A WQE read returns; the WQEs are taken on chip, or a fault or bus error sends the WQ to ERROR with FETCH_FAULT (R120). -/
  | wqeFetchReturn (n : BitVec 16) (data : Option (List Word)) (e : Env)
  /-- After 16 WQEs, or 1 µs after the last one, the module writes ci to the WQ's consumer shadow (R121). -/
  | ciShadowWrite (n : BitVec 16) (e : Env)
  /-- A WQE with an unassigned or misplaced opcode, a disallowed tc or a reserved bit set completes with INVALID_WQE, and the WQ enters ERROR (R125). -/
  | unassignedOpcode (id : Nat) (e : Env)
  /-- A finished operation's completion is written to its CR, followed by the producer shadow and the vector, or held if the ring is full (R129). -/
  | completionWrite (k : Nat) (e : Env)
  /-- While a CR holds completions, the module rereads its consumer shadow at most once per µs and writes held completions as room allows (R138). -/
  | crShadowReread (n : BitVec 16) (e : Env)
  /-- Completions have been held for QCTL.CROVTO.timeout, and every bound WQ enters ERROR with CR_OVERFLOW (R139). -/
  | crOverflowTimeout (n : BitVec 16) (e : Env)
  /-- The admin command checks its fields, loads a WQ context as ACTIVE and increments the CR's binds (R144). -/
  | createWq (e : Env)
  /-- The admin command moves a WQ to CLOSING and refuses its doorbells (R146). -/
  | destroyWq (e : Env)
  /-- A CLOSING WQ reaches outstanding 0; the context is written back invalid, binds is decremented, and DESTROY_WQ completes (R133). -/
  | wqCloseDone (e : Env)
  /-- The admin command checks and applies a restart, tc_mask or poll change to a WQ (R773). -/
  | modifyWq (e : Env)
  /-- The admin command checks its fields and loads a CR context as ACTIVE (R144). -/
  | createCr (e : Env)
  /-- The admin command frees a CR with no binds and writes its context back invalid (R146). -/
  | destroyCr (e : Env)
  /-- The admin command writes back and drops cached WQ or CR contexts (R151). -/
  | invalidateContext (e : Env)
  /-- The admin command drops the selected translations from every DTU cache (R187). -/
  | invalidateTlb (e : Env)
  /-- Accesses that used the dropped translations have been issued and returned, and INVALIDATE_TLB completes (R191). -/
  | invalidateTlbDone (e : Env)
  /-- The admin command reads and checks the entry and sends the revocation to the four transport tiles, which mark it REVOKING (R277). -/
  | revokeRegion (e : Env)
  /-- Every access that passed before the marks is issued; the module writes valid = 0 and completes REVOKE_REGION (R278). -/
  | revokeDone (e : Env)
  /-- The admin command installs a domain key in a free slot 1-63 and binds its injection profile (R150). -/
  | setDomainKey (e : Env)
  /-- The admin command erases the ND's key slot, tears down its connections and region caches, and puts its WQs into ERROR (R149). -/
  | clearDomain (e : Env)
  /-- No operation of the ND remains in progress, and CLEAR_DOMAIN completes with the count of connections torn down (R149). -/
  | clearDomainDone (e : Env)
  /-- The admin command reads a member list and creates a one-hop multicast group (R337). -/
  | createMc (e : Env)
  /-- The admin command removes a multicast group that no live context names, once no packet of the group is being replicated (R343). -/
  | destroyMc (e : Env)
  /-- The admin command reads and checks a tree descriptor and loads a collective context as ACTIVE (R333). -/
  | createColl (e : Env)
  /-- The admin command moves a collective context to CLOSING, completes its WQEs with COLL_CONTEXT and discards its lists (R393). -/
  | destroyColl (e : Env)
  /-- Every completion of a CLOSING collective context is written; its resources are released and DESTROY_COLL completes (R335). -/
  | collContextFree (e : Env)
  /-- The admin command checks its fields and loads a matching context as ACTIVE with its bounce slots (R285). -/
  | createMatch (e : Env)
  /-- The admin command releases posted entries and bounce buffers, cancels unexpected RTSs and moves the context to CLOSING (R328). -/
  | destroyMatch (e : Env)
  /-- Every delivery of a CLOSING matching context has completed; the context becomes FREE and DESTROY_MATCH completes (R288). -/
  | matchContextFree (e : Env)
  /-- The admin command completes at once with result 0 (R143). -/
  | nop (e : Env)
  /-- The admin command creates an OPEN object, reserves its capacity and journals the creation (R578). -/
  | storeCreate (e : Env)
  /-- The admin command stages source bytes at the object's length and returns that offset (R579). -/
  | storeAppend (e : Env)
  /-- The admin command covers the staged bytes of an object, optionally seals it, and waits for programs and the journal (R580). -/
  | storeCommit (e : Env)
  /-- Every covered unit, its parity and the commit record are durable, and the commit or STORE_SYNC completes (R580). -/
  | storeCommitDone (k : Nat) (e : Env)
  /-- The admin command copies object bytes to host memory through the read recovery ladder (R581). -/
  | storeRead (e : Env)
  /-- The admin command removes an object, discards its staging, ends pending syncs and journals the deletion (R582). -/
  | storeDelete (e : Env)
  /-- The admin command writes object records from a cursor in increasing ID order (R583). -/
  | storeList (e : Env)
  /-- The admin command builds, signs and writes an attestation report with the requester's nonce (R706). -/
  | getAttestation (bad : Nat) (e : Env)
  /-- The admin command makes a mode request as the link's master and completes when it is accepted or refused (R622). -/
  | requestMode (e : Env)
  /-- A host link goes down or into reset; its queues and rings enter ERROR, held completions are discarded, and its host-side state resets (R156). -/
  | hostLinkReset (i : Fin 4) (perst : Bool) (e : Env)
  /-- A Function Level Reset acts as a host link reset while the PCIe link stays up (R673). -/
  | functionReset (i : Fin 4) (e : Env)
  /-- DTU.PG_CTL.enable changes, and the DTU drops every TLB, walk-cache and ASID-cache entry (R764). -/
  | dtuEnable (w : Wr)
  /-- A page-table or ASID-entry read returns; the walk continues, fills a TLB slot, or ends in a fault that is logged (R175). -/
  | walkReadReturn (n : BitVec 16) (data : Option (List Word)) (e : Env)
  /-- A non-posted data access completes; data is used, or a bus error ends the access with DATA_ACCESS (R765). -/
  | hostReadReturn (a : ReadOf) (e : Env)
  /-- A PUT WQE starts and segments its source buffer into PUT packets (R261). -/
  | put (id : Nat) (e : Env)
  /-- A GET WQE starts and sends a GET_REQ (R264). -/
  | get (id : Nat) (e : Env)
  /-- An ATOMIC WQE starts and sends an ATOMIC_REQ (R266). -/
  | atomic (id : Nat) (e : Env)
  /-- A PUT_SIGNAL WQE starts and sends its data with the signal operation (R271). -/
  | putSignal (id : Nat) (e : Env)
  /-- A STORE_PUT WQE starts and sends store-put packets, or stages locally when addressed to its own FA (R272). -/
  | storePut (id : Nat) (e : Env)
  /-- A STORE_SYNC WQE starts and sends a STORE_SYNC_REQ, or commits locally when addressed to its own FA (R588). -/
  | storeSync (id : Nat) (e : Env)
  /-- The transport tile segments and sends the next packet once the window, the descriptors and the injection shaper allow (R223). -/
  | packetSend (cid : Nat) (e : Env)
  /-- An arriving PROBE makes the receive direction answer with a CHALLENGE, a NO_DOMAIN NACK, or a new epoch (R219). -/
  | probe (k : Nat) (e : Env)
  /-- An arriving CHALLENGE is accepted or discarded; acceptance fails outstanding operations with PEER_RESET and opens the send direction (R220). -/
  | challenge (k : Nat) (e : Env)
  /-- An arriving ACK marks packets, advances tx_base, takes RTT samples and completes operations (R233). -/
  | ack (k : Nat) (e : Env)
  /-- An arriving NACK schedules a retransmission after the RNR delay, or at once for TRIMMED, or starts a NO_DOMAIN run (R226). -/
  | nack (k : Nat) (e : Env)
  /-- An arriving RESULT records an operation's error status and advances rsn_rcvd (R233). -/
  | result (k : Nat) (e : Env)
  /-- A trim notice arrives at its destination and is answered with one TRIMMED NACK, or discarded (R242). -/
  | trimNotice (k : Nat) (e : Env)
  /-- A packet with a reserved opcode, reserved bits set, ND 0xFFFF or a wrong flit count is discarded without response (R201). -/
  | malformedPacket (k : Nat) (e : Env)
  /-- The oldest unacknowledged packet has waited rto; eligible packets are retransmitted and rto doubles (R229). -/
  | retransmitTimeout (cid : Nat) (e : Env)
  /-- The probe timer expires; the PROBE is resent, or after 255 PROBEs the waiting operations fail (R243). -/
  | probeTimeout (cid : Nat) (e : Env)
  /-- The RNR delay of a refused packet expires, and the packet is retransmitted (R227). -/
  | rnrRetransmit (cid : Nat) (e : Env)
  /-- ack_delay after the first unreported acceptance expires, and the receiving end sends an ACK (R225). -/
  | ackDelay (cid : Nat) (e : Env)
  /-- A run of NO_DOMAIN NACKs has lasted nd_wait; waiting operations complete with NO_DOMAIN and the direction returns to IDLE (R237). -/
  | ndWaitExpiry (cid : Nat) (e : Env)
  /-- XPT[0].PG_CTL.enable changes; a new boot nonce is drawn and every connection context is freed (R210). -/
  | xptEnable (w : Wr)
  /-- An arriving MGMT_REQ performs its register entries as master 10, or refuses them, and sends an MGMT_RSP (R247). -/
  | mgmtReq (k : Nat) (e : Env)
  /-- An arriving PUT packet is checked against the key's Region Table entry and written at roffset + offset (R255). -/
  | putPacket (k : Nat) (e : Env)
  /-- An arriving PUT_SIGNAL packet is checked and written; the last one applies the signal after every data write (R271). -/
  | putSignalPacket (k : Nat) (e : Env)
  /-- An arriving GET_REQ is checked and answered with GET_RSP packets read from the region (R265). -/
  | getReq (k : Nat) (e : Env)
  /-- An arriving GET_RSP writes its payload to the get's local buffer, and the get may complete (R264). -/
  | getRsp (k : Nat) (e : Env)
  /-- An arriving ATOMIC_REQ is checked, performed on its word and answered with the old value (R268). -/
  | atomicReq (k : Nat) (e : Env)
  /-- An arriving ATOMIC_RSP delivers the old value; it is written to result_va and the atomic completes (R270). -/
  | atomicRsp (k : Nat) (e : Env)
  /-- An arriving store-put packet is checked against the window and the object and staged, or refused for want of staging room (R586). -/
  | storePutPacket (k : Nat) (e : Env)
  /-- An arriving STORE_SYNC_REQ starts a commit without seal of the window's object (R589). -/
  | storeSyncReq (k : Nat) (e : Env)
  /-- An arriving STORE_SYNC_RSP completes the STORE_SYNC with the committed length (R588). -/
  | storeSyncRsp (k : Nat) (e : Env)
  /-- A TSEND WQE starts, eagerly or by rendezvous with a rendezvous entry and an RTS (R291). -/
  | tsend (id : Nat) (e : Env)
  /-- A TRECV WQE searches the unexpected list, claims a message or appends a posted entry, and completes (R298). -/
  | trecv (id : Nat) (e : Env)
  /-- A TPROBE WQE searches the unexpected list and reports a match without claiming it (R300). -/
  | tprobe (id : Nat) (e : Env)
  /-- A TCANCEL WQE removes the earliest matching posted entry of its WQ (R300). -/
  | tcancel (id : Nat) (e : Env)
  /-- An arriving EAGER packet is delivered, bounced, order-held or starts the match step of its message (R310). -/
  | eager (k : Nat) (e : Env)
  /-- An arriving RTS takes part in MSN-ordered matching and, once matched, makes the target send an RDV_GET (R310). -/
  | rts (k : Nat) (e : Env)
  /-- An arriving RDV_GET makes the sender send RDV_DATA from its rendezvous entry, or a RESULT RDV_HANDLE (R319). -/
  | rdvGet (k : Nat) (e : Env)
  /-- An arriving RDV_DATA packet writes its payload to the receive buffer, and the receive may complete (R313). -/
  | rdvData (k : Nat) (e : Env)
  /-- An arriving RDV_CANCEL completes the rendezvous TSEND with the status it carries (R321). -/
  | rdvCancel (k : Nat) (e : Env)
  /-- A COLL WQE is checked and starts the collective, sending its UP segments (R346). -/
  | coll (id : Nat) (e : Env)
  /-- A CTR_ADD WQE adds to a device counter and returns the new value (R375). -/
  | ctrAdd (id : Nat) (e : Env)
  /-- A TRIG_LIST WQE registers a triggered list and loads its head entry (R376). -/
  | trigList (id : Nat) (e : Env)
  /-- The head entry's counter or fabric-time threshold is met, and the entry executes as a WQE of its WQ (R380). -/
  | triggerFire (n : Nat) (e : Env)
  /-- An arriving UP segment is held in its child's slot, and the node combines the segment once every input is present (R352). -/
  | up (k : Nat) (e : Env)
  /-- An arriving unicast or multicast DOWN segment is accepted, written and forwarded, or discarded (R354). -/
  | down (k : Nat) (e : Env)
  /-- An arriving DOWN_ACK lets the parent release retained result segments (R353). -/
  | downAck (k : Nat) (e : Env)
  /-- An arriving REPAIR makes the parent resend the named retained segment as unicast (R355). -/
  | repair (k : Nat) (e : Env)
  /-- An arriving ABORT makes the node abort the context and pass the ABORT on (R390). -/
  | abort (k : Nat) (e : Env)
  /-- A child has not acknowledged a retained segment within rto, and the parent resends it as unicast (R355). -/
  | downRetainTimeout (x : Nat) (child : Nat) (e : Env)
  /-- A write to TIME.SET at the grandmaster steps NOW and raises STEP (R388). -/
  | timeSet (w : Wr) (e : Env)
  /-- The offset to the time source has stayed within ±2 ns for 1 ms, and synced is set (R384). -/
  | synced (e : Env)
  /-- A synced module loses every time source and enters holdover (R387). -/
  | syncLost (e : Env)
  /-- A port's egress scheduler selects a head packet with credits, gate, window and bucket, and transmission starts (R396). -/
  | packetStart (p : Fin 48) (e : Env)
  /-- A write to a bucket register sets both levels of the pair to their burst sizes (R404). -/
  | bucketWrite (addr : BitVec 24) (w : Wr) (e : Env)
  /-- A write of GCTL.commit checks the staged schedule and makes it pending, or rejects it (R417). -/
  | gateCommit (p : Fin 48) (w : Wr) (e : Env)
  /-- Fabric time reaches the start of a pending schedule's cycle, and the schedule takes effect (R418). -/
  | schedSwitch (p : Fin 48) (e : Env)
  /-- A packet arrives on a network port; the link layer accepts or discards it, and an accepted packet is delivered or routed to an output queue (R510). -/
  | packetReceive (p : Fin 48) (seq : BitVec 12) (pkt : Packet) (e : Env)
  /-- A queued packet's dwell clock reaches T_dwell; it is trimmed, credits return and a trim notice is built (R447). -/
  | dwellTrim (id : Nat) (e : Env)
  /-- A trim notice's dwell clock reaches T_dwell, and the notice is dropped and its stub slot freed (R450). -/
  | noticeDrop (id : Nat) (e : Env)
  /-- A write of ROUTE.RCMD.go checks the new epoch and spreads the staging GRT to the port tiles, or rejects it (R460). -/
  | routeCommit (w : Wr)
  /-- Every ungated port tile holds the new table; the epoch is set and spread and go clear (R461). -/
  | commitDone
  /-- A write of ROUTE.RCMD.load copies the table in force into the staging copy (R462). -/
  | grtLoad (w : Wr)
  /-- A write to ROUTE.HLTH sets an exit's up bit in every copy of the GRT without a new epoch (R463). -/
  | hlth (w : Wr)
  /-- A write of ROUTE.QCTL.set quarantines a port with cause MASTER (R466). -/
  | quarantineSet (w : Wr) (e : Env)
  /-- A write of ROUTE.QCTL.clear ends a port's quarantine at both ends (R468). -/
  | quarantineClear (w : Wr) (e : Env)
  /-- An offer control cell arrives at a destination tile, which consumes it and grants room in arrival order (R479). -/
  | offer (o : Offer) (e : Env)
  /-- A grant arrives at the source tile, which injects the transfer's data cells (R480). -/
  | grant (id : Nat) (e : Env)
  /-- A data cell reaches its destination tile and is placed by xfer and index (R481). Error correction (R487): `ecc` says what the last
  router that looks at it finds, that router looks `after` core cycles on, and the routers before it correct `singles` single-bit errors
  in it. -/
  | cellEject (id index : Nat) (ecc : Ecc) (after singles : Nat) (e : Env)
  /-- A release arrives at the input tile, which frees the packet's flits and returns credits upstream (R484). -/
  | release (id : Nat) (e : Env)
  /-- A granted cell is still missing 1 µs after the grant; the packet is trimmed, or it is a fatal engine error (R486). -/
  | grantTimeout (id : Nat) (e : Env)
  /-- A gated tile finishes waking after an offer or a Daylight wake, and the pending grants follow (R496). -/
  | tileWake (n : Fin 64) (e : Env)
  /-- A write of TILE[n].HOLD.nogate forbids gating and wakes a gated tile (R497). -/
  | nogate (n : Fin 64) (w : Wr)
  /-- A received LINK flit releases acknowledged packets, adds credits, updates W_eff and carries hints and flags (R512). -/
  | link (p : Fin 48) (flit : List Byte) (e : Env)
  /-- A received REPLAY makes the sender resend every packet from seq onward (R514). -/
  | replay (p : Fin 48) (flit : List Byte) (e : Env)
  /-- A received IDLE control flit carries nothing but restores framing (R501). -/
  | idle (p : Fin 48) (flit : List Byte) (e : Env)
  /-- A control flit with a wrong CRC or a reserved type is discarded and counted, losing any credits it carried (R503). -/
  | badControlFlit (p : Fin 48) (flit : List Byte) (e : Env)
  /-- The FEC decoder marks a codeword uncorrectable; the overlapping flits are discarded and a REPLAY or hunting follows (R502). -/
  | uncorrectableCodeword (p : Fin 48) (took : Nat) (boundary inPacket : Bool) (e : Env)
  /-- 100 ns after an unreported change, or 1 µs after the last LINK flit, the receiver sends a LINK flit (R511). -/
  | linkFlitTimer (p : Fin 48) (e : Env)
  /-- The oldest unacknowledged packet has waited rpl_to, and the sender replays as on a REPLAY (R515). -/
  | replayTimeout (p : Fin 48) (e : Env)
  /-- A received TRAIN flit advances the exchange; on completion the link comes up with credits, sequence state and quarantine judged (R521). -/
  | train (p : Fin 48) (flit : List Byte) (e : Env)
  /-- Every microsecond in EXCHANGE, after FEC alignment, the port sends a TRAIN flit (R521). -/
  | trainFlitTimer (p : Fin 48) (e : Env)
  /-- 1 ms in EXCHANGE passes without completion, and the port returns to DOWN and restarts lane bring-up (R520). -/
  | exchangeTimeout (p : Fin 48) (e : Env)
  /-- A received time block gives the path delay and offset used for fabric time (R540). -/
  | time (p : Fin 48) (flit : List Byte) (e : Env)
  /-- TIME.CFG.period expires, and the port sends a TIME flit (R539). -/
  | timeFlitTimer (p : Fin 48) (e : Env)
  /-- A write of PORT[p].LCTL.retrain makes the port finish its packet, flag the retrain and run lane retrain (R528). -/
  | retrain (p : Fin 48) (w : Wr) (e : Env)
  /-- A write of PORT[p].LCTL.down sends a down LINK flit and takes the link down (R529). -/
  | takeLinkDown (p : Fin 48) (w : Wr) (e : Env)
  /-- A write of PORT[p].LCTL.en holds the link DOWN or lets it start lane bring-up (R520). -/
  | linkEnable (p : Fin 48) (w : Wr) (e : Env)
  /-- Symbol lock has been lost for down_us, or a retrain has not reached UP, and the link goes down and starts the grace timer (R529). -/
  | lockLossTimeout (p : Fin 48) (e : Env)
  /-- The grace timer expires before UP, and the replay buffer is discarded with state invalid (R530). -/
  | graceFlush (p : Fin 48) (e : Env)
  /-- A write of PORT[p].LWID.go starts a width change, with a PREP for a widening (R532). -/
  | widthGo (p : Fin 48) (w : Wr) (e : Env)
  /-- A received WIDTH REQ is answered with ACK or REFUSE, ignored under contention, or obeyed at once when forced (R534). -/
  | widthReq (p : Fin 48) (flit : List Byte) (e : Env)
  /-- A received WIDTH ACK makes the requester send MARK and switch its transmit lanes (R532). -/
  | widthAck (p : Fin 48) (flit : List Byte) (e : Env)
  /-- A received WIDTH REFUSE ends the change with result 1 and WIDTH_FAIL (R534). -/
  | widthRefuse (p : Fin 48) (flit : List Byte) (e : Env)
  /-- A received WIDTH YIELD lets the larger end's request proceed (R535). -/
  | widthYield (p : Fin 48) (flit : List Byte) (e : Env)
  /-- A received MARK switches the receive lanes and may complete the change with WIDTH_DONE (R532). -/
  | widthMark (p : Fin 48) (flit : List Byte) (e : Env)
  /-- A received WIDTH PREP brings the added lanes out of standby and adapts them (R533). -/
  | widthPrep (p : Fin 48) (flit : List Byte) (e : Env)
  /-- A received WIDTH READY lets the requester send its REQ once it has also sent READY (R533). -/
  | widthReady (p : Fin 48) (flit : List Byte) (e : Env)
  /-- An added lane has not reached READY within 20 ms, and the change is abandoned with result 4 (R563). -/
  | addedLaneTimeout (p : Fin 48) (e : Env)
  /-- A write of PORT[p].SPARE.req starts a spare substitution (R541). -/
  | spareRequest (p : Fin 48) (w : Wr) (e : Env)
  /-- A write of PORT[p].SPARE.release narrows the quad, returns the spare to standby and widens on the original duo (R542). -/
  | spareReleaseWrite (p : Fin 48) (w : Wr) (e : Env)
  /-- A received SPARE REQ is answered with ACK or REFUSE (R541). -/
  | spareReq (p : Fin 48) (flit : List Byte) (e : Env)
  /-- A received SPARE ACK makes the end steer its spare in and bring its lanes up (R541). -/
  | spareAck (p : Fin 48) (flit : List Byte) (e : Env)
  /-- A received SPARE READY lets the quad widen to x4 with the spare in place (R541). -/
  | spareReady (p : Fin 48) (flit : List Byte) (e : Env)
  /-- A received SPARE RELEASE returns the far end's spare to standby (R542). -/
  | spareRelease (p : Fin 48) (flit : List Byte) (e : Env)
  /-- A received SPARE REFUSE ends the substitution as refused (R541). -/
  | spareRefuse (p : Fin 48) (flit : List Byte) (e : Env)
  /-- A lane meets the exit condition of its bring-up stage and moves to the next one, up to RUN (R554). -/
  | bringupStageDone (n : Fin 96) (seen : LaneSeen) (e : Env)
  /-- Every lane of a port is in RUN or failed, or 20 ms have passed, and the port enters EXCHANGE (R558). -/
  | laneBringupComplete (p : Fin 48) (e : Env)
  /-- A bring-up stage exceeds its limit; the lane counts the attempt and returns to SIGNAL, or rejects its saved state (R554). -/
  | bringupFail (n : Fin 96) (e : Env)
  /-- A lane loses symbol lock, aborting scans, and a lane in use makes its port retrain (R550). -/
  | lockLost (n : Fin 96) (e : Env)
  /-- s stays below ser_warn for 1 ms, or above it for 100 ms, and the lane's degraded state changes (R551). -/
  | degraded (n : Fin 96) (on : Bool) (e : Env)
  /-- A lane fails; it enters standby and leaves the usable mask, and a lane in use forces a width REQ (R551). -/
  | laneFailed (n : Fin 96) (e : Env)
  /-- Every 1 ms a healthy lane in RUN copies its adapted state into its saved state (R559). -/
  | savedStateCopy (n : Fin 96) (adapted : Adapted) (e : Env)
  /-- A write of LANE[n].TXEQ.commit applies the staged transmitter settings, or rejects them (R546). -/
  | txeqCommit (n : Fin 96) (w : Wr)
  /-- A write to LANE[n].MODE sets lane mode; a rate write on an UP port starts a retrain (R544). -/
  | laneModeWrite (n : Fin 96) (w : Wr) (e : Env)
  /-- A write of LANE[n].SCAN.start starts an eye scan at one point, or refuses it (R565). -/
  | scanStart (n : Fin 96) (w : Wr)
  /-- An eye scan finishes its 2^depth symbols and reports its errors (R566). -/
  | scanDone (n : Fin 96) (errors : BitVec 40) (e : Env)
  /-- 32 of 256 checked symbols are in error, and the checker loses synchronisation and resynchronises (R568). -/
  | pchkSyncLost (n : Fin 96) (errors : Nat) (e : Env)
  /-- A write of RXCTL.repair retries a failed lane (R564). -/
  | laneRepair (n : Fin 96) (w : Wr) (e : Env)
  /-- repair_ivl expires with auto_repair set, and the failed lane is retried (R564). -/
  | autoRepair (n : Fin 96) (e : Env)
  /-- A stripe unit or parity unit is complete, and the store starts its die program (R591). -/
  | unitProgram (id u : Nat) (parity : Bool) (blk : Nat) (e : Env)
  /-- A partial unit has had no write for unit_idle and is programmed padded with zeros (R592). -/
  | unitIdle (id u : Nat) (e : Env)
  /-- A die program finishes; the unit or journal record is recorded, or a failure retires the block and repeats the program (R601). -/
  | nandProgramDone (k : Nat) (ok : Bool) (dst : Nat) (e : Env)
  /-- A block erase finishes, adding wear, or failing and retiring the block (R601). -/
  | nandEraseDone (blk : Nat) (ok : Bool) (dst : Nat) (e : Env)
  /-- A codeword read returns and climbs the recovery ladder, possibly queuing refresh or ending in STORE_MEDIA (R594). -/
  | codewordRead (id slot cw step corrected : Nat) (offset : Int) (dst : Nat) (e : Env)
  /-- The scrubber reads codewords of programmed blocks within each interval and refreshes queued blocks (R596). -/
  | scrubPass (blk dst : Nat) (e : Env)
  /-- A die does not answer for 10 ms and is declared absent (R603). -/
  | dieAbsent (die : Nat) (e : Env)
  /-- An absent die answers again and is returned as free space or with its remaining units (R607). -/
  | dieReturn (die dst : Nat) (e : Env)
  /-- The last unit of an absent die is rebuilt on other dies (R604). -/
  | rebuildDone (die dst : Nat) (e : Env)
  /-- At Dawn the store replays its journal and restores each object as SEALED, OPEN, TORN or deleted (R611). -/
  | storeReplay (failedDies markers : List Nat) (e : Env)
  /-- Time is not synced within 1 s of the end of replay, and every block is treated as late for scrubbing (R612). -/
  | replaySyncTimeout (e : Env)
  /-- A write of STORE.FMT.go formats the store in Small Hours, or is refused (R615). -/
  | format (w : Wr)
  /-- A format finishes with an empty journal and raises FORMAT_DONE (R615). -/
  | formatDone (e : Env)
  /-- A MODE.REQ write of code NOON leaves Twilight for Noon when no cause remains, drawing a new nonce (R630). -/
  | requestNoon (w : Wr) (e : Env)
  /-- A MODE.REQ write of code TWILIGHT enters Twilight with cause COMMAND (R629). -/
  | requestTwilight (w : Wr) (e : Env)
  /-- A MODE.REQ write of code DUSK_OFF enters Dusk with target Midnight, or leaves Small Hours for Midnight (R624). -/
  | requestDuskOff (w : Wr) (e : Env)
  /-- A MODE.REQ write of code DUSK_MAINT enters Dusk with target Small Hours (R624). -/
  | requestDuskMaint (w : Wr) (e : Env)
  /-- A MODE.REQ write of code DAWN powers up from Midnight or module-resets from Twilight or Small Hours (R617). -/
  | requestDawn (w : Wr) (e : Env)
  /-- Boot verification and self-test pass, and the module enters Noon, or Twilight after an engine self-test fault (R623). -/
  | dawnComplete (failed : List (Fin 64)) (mesh : Bool) (e : Env)
  /-- Every 10 µs Daylight reads its inputs and decides widths, standby, gating, SRAM sleep, core step, caps and WIN_LOW retrains (R634). -/
  | daylightEpoch (inp : Epoch) (e : Env)
  /-- The drain of Dusk is complete with the store stopped, and the module enters its target (R626). -/
  | drainComplete (e : Env)
  /-- dusk_to passes before the drain completes, and the module enters its target without further completions (R626). -/
  | duskTimeout (e : Env)
  /-- An engine tile has an uncorrectable state error, a grant timeout or a watchdog expiry, and the module enters Twilight (R628). -/
  | fatalEngineError (tile : Fin 64) (e : Env)
  /-- Every host link has been down for host_to, and the module enters Twilight with cause HOST (R627). -/
  | hostLossTimeout (e : Env)
  /-- Input power has exceeded the variant maximum for 1 ms, and the module enters Twilight with cause POWER (R627). -/
  | powerOverTimeout (power : Nat) (e : Env)
  /-- A W1C write to MODE.CAUSE clears Twilight causes whose conditions no longer hold (R627). -/
  | causeClear (w : Wr) (e : Env)
  /-- A sensor reaches or leaves a warning, throttle or Twilight limit, and the module acts on that level (R646). -/
  | sensorLimit (k : Fin 3) (temp : Int) (tile : Fin 64) (e : Env)
  /-- A sensor reaches its critical limit; the FET turns off, therm_latch is set, and the module enters Nightfall (R632). -/
  | thermalCritical (k : Fin 3) (temp : Int) (e : Env)
  /-- Power-good falls; the module sheds load within 50 µs and the store finishes on hold-up (R631). -/
  | nightfall (e : Env)
  /-- The store finishes under R609, and the module enters Midnight (R631). -/
  | nightfallDone (e : Env)
  /-- The start conditions have held for 10 ms, and the front end starts a ramp and its inrush timer (R650). -/
  | rampStart (x : Meas) (e : Env)
  /-- 5 ms into a ramp the output is checked and the front end trips with SHORT if it is shorted in foldback (R655). -/
  | shortCheck (x : Meas) (e : Env)
  /-- The output has lagged the reference by over 4 V in foldback for 1 ms, and the front end trips (R656). -/
  | rampCollapse (x : Meas) (e : Env)
  /-- The inrush timer reaches inrush_ms, and the front end trips (R654). -/
  | inrushTimeout (x : Meas) (e : Env)
  /-- The run timer reaches run_us while the current limit holds, and the front end trips (R657). -/
  | runTimeout (x : Meas) (e : Env)
  /-- The input current reaches 30 A, the fast comparator turns the FET off, and the trip is recorded (R658). -/
  | fastOc (x : Meas) (e : Env)
  /-- The FET temperature reaches 150 °C, and the front end trips (R659). -/
  | fetOt (x : Meas) (e : Env)
  /-- Sensed and modelled FET temperatures differ by over 20 °C for 1 ms (R659). -/
  | senseMismatch (x : Meas) (e : Env)
  /-- 2,500 consecutive good samples pass; power-good asserts, PG_OUT is released and Midnight leads to Dawn (R661). -/
  | pgRise (x : Meas) (e : Env)
  /-- The output stays below 80 % of the input for 250 samples, and power-good falls (R662). -/
  | pgDrop (x : Meas) (e : Env)
  /-- PWR_EN is low for 1 µs, and the FET turns off without a trip (R664). -/
  | pwrEnLow (x : Meas) (e : Env)
  /-- PWR_EN rises; after at least 10 ms low it clears a latch-off (R667). -/
  | pwrEnRise (x : Meas) (e : Env)
  /-- A write of PWR.CTL.sw_off to 1 turns the FET off without a trip (R664). -/
  | swOff (w : Wr) (e : Env)
  /-- The input stays below 38.5 V for 5 µs, and the FET turns off (R664). -/
  | undervoltage (x : Meas) (e : Env)
  /-- The input stays above 63 V for 10 µs, and the FET turns off (R664). -/
  | overvoltage (x : Meas) (e : Env)
  /-- Reverse current of 2 A lasts 500 ns, and the FET turns off (R664). -/
  | reverseCurrent (x : Meas) (e : Env)
  /-- 1 s in COOL passes with the FET below 70 °C, and the front end may ramp again (R665). -/
  | coolEnd (x : Meas) (e : Env)
  /-- Power-good has stayed asserted for 10 s, and tries returns to 0 (R666). -/
  | triesReset (x : Meas) (e : Env)
  /-- A write of PWR.CTL.clear clears a latch-off and returns the front end to OFF (R667). -/
  | latchClear (w : Wr) (e : Env)
  /-- AUX_3V3 is below 3.0 V for 10 µs; with power-good the module keeps running, otherwise everything stops (R672). -/
  | auxLost (x : Meas) (e : Env)
  /-- A write of RST.CTL.fabric by master 8 or 10 runs a module reset and clears DEV.FADDR (R678). -/
  | fabricReset (w : Wr) (e : Env)
  /-- MOD_RESET_N, RST.CTL.module or a mode request starts a module reset through to Dawn (R678). -/
  | moduleReset (src : ResetSrc) (e : Env)
  /-- MOD_RESET_N rises after step 3 of a module reset, and the MMP starts Dawn (R679). -/
  | modResetRelease (e : Env)
  /-- The MMP watchdog or RST.CTL.mmp restarts the MMP, which reverifies its firmware (R683). -/
  | mmpReset (w : Option Wr) (e : Env)
  /-- A soft reset of a tile resets its engine as its kind requires (R680). -/
  | tileReset (page : BitVec 12) (w : Wr) (e : Env)
  /-- A port reset takes the link down without grace, resets its lanes and brings it up with state_valid 0 (R681). -/
  | portReset (page : BitVec 12) (w : Wr) (e : Env)
  /-- A lane reset returns the lane to POWER, keeping saved state only with keep (R682). -/
  | laneReset (page : BitVec 12) (w : Wr) (e : Env)
  /-- An FWCTL open or FW_OPEN message erases the inactive slot and starts an update (R712). -/
  | fwOpen (r : FwReq) (e : Env)
  /-- An FWCTL write or FW_WRITE message programs image bytes into the slot (R712). -/
  | fwWrite (r : FwReq) (e : Env)
  /-- An FWCTL verify or FW_VERIFY message checks the slot's header, signature, svn and digests (R712). -/
  | fwVerify (r : FwReq) (e : Env)
  /-- An FWCTL activate or FW_ACTIVATE message marks the slot pending with tries 3 (R712). -/
  | fwActivate (r : FwReq) (e : Env)
  /-- An FWCTL confirm or FW_CONFIRM message makes the booted pending slot active (R712). -/
  | fwConfirm (r : FwReq) (e : Env)
  /-- An FWCTL advance or FW_ADVANCE message raises the fuse counters to the running svns (R696). -/
  | fwAdvance (r : FwReq) (e : Env)
  /-- An MCTP GET_REPORT returns a signed attestation report (R707). -/
  | getReport (msg : List Byte) (bad : Nat) (e : Env)
  /-- An MCTP GET_CERT returns the identity certificate (R707). -/
  | getCert (msg : List Byte) (e : Env)
  /-- An MCTP SET_MGMT_KEY installs the ND 0 key in slot 0, stores it wrapped and logs it (R709). -/
  | setMgmtKey (msg : List Byte) (e : Env)
  /-- An MCTP REG_ACCESS performs register entries as master 8 (R707). -/
  | regAccess (msg : List Byte) (e : Env)
  /-- An MCTP DEBUG_CHALLENGE returns a fresh 32-byte challenge (R711). -/
  | debugChallenge (msg : List Byte) (e : Env)
  /-- An MCTP DEBUG_UNLOCK verifies a vendor signature over the challenge and enables the debug port (R711). -/
  | debugUnlock (msg : List Byte) (e : Env)
  /-- A write to a counter sets its value and ovf (R716). -/
  | counterWrite (page : BitVec 12) (n : BitVec 8) (w : Wr)
  /-- A write of SAMPLE.CTR.freeze stops or resumes every counter at one instant (R719). -/
  | freeze (w : Wr) (e : Env)
  /-- A write of SAMPLE.CTR.snap copies every counter at one instant and records SNAPT (R720). -/
  | snapshot (w : Wr) (e : Env)
  /-- A SAMPLE.CFG commit with en = 1 checks k and the sample ring and starts tagging (R732). -/
  | sampleEnable (w : Wr) (e : Env)
  /-- A SAMPLE.CFG commit with en = 0 stops new draws, and binds is released after the last record (R733). -/
  | sampleDisable (w : Wr) (e : Env)
  /-- A network reference input is judged lost; the module switches inputs or, with none left, takes every port down (R755). -/
  | nrefLost (i : Fin 2) (e : Env)
  /-- A lost network reference input has 1 ms of good readings and becomes good again (R755). -/
  | nrefGood (i : Fin 2) (e : Env)
  /-- A write of CLK.NREF.sel naming a good input switches the network reference (R756). -/
  | nrefSelect (w : Wr) (e : Env)
  /-- A host reference clock is missing for 1 µs, and the module takes that host link down (R747). -/
  | refLost (i : Fin 4) (e : Env)
  /-- A host link finishes PCIe training and reaches L0; LSTS.up, rate, width and slow are set and LINK_UP (and SLOW) are raised (R745). -/
  | hostLinkUp (i : Fin 4) (rate : Fin 8) (width : Fin 17) (rev atomic : Bool) (e : Env)
  /-- A TAP reset of the debug port counts as a reset of master 9, freeing its semaphores as broken and clearing its waits (R88). -/
  | tapReset
  /-- The input current reaches 9.0 A in RUN; the front end regulates at 9 A and starts the run timer, or stops and clears it when the current falls back and the gate re-enhances (R657). -/
  | currentLimit (on : Bool) (x : Meas) (e : Env)
  /-- A thermal sensor stops answering or reads outside -40 to 150 °C; it counts as at its throttle limit and SENSOR_FAIL is raised (R647). -/
  | sensorFail (k : Fin 3) (e : Env)
  /-- During continuous adaptation a receiver coefficient reaches the end of its range; the lane holds it there and raises TAP_LIMIT (R548). -/
  | tapLimit (n : Fin 96) (e : Env)
  /-- The strap pins agree again with the sampled value for 8 consecutive AON cycles; EVT_RAW STRAP_CHANGED drops to 0 and a later difference can set strap_chg again (R21). -/
  | strapAgreement
  /-- MAIN_54V enters the range between the rising undervoltage and the overvoltage thresholds; in_ok is set, INPUT_RANGE is raised and the 10 ms count of R650 may start (R650). -/
  | inputRange (x : Meas) (e : Env)
  /-- An I3C controller assigns the sideband a dynamic address by SETDASA or ENTDAA, and the module switches to I3C SDR with MCTP over DSP0233 (R748). -/
  | dynamicAddressAssignment (addr : BitVec 7)
  /-- An I3C RSTDAA returns the sideband to I2C/SMBus operation at static address 0x32 (R748). -/
  | rstdaa
  /-- A character arrives on UART_RX and the MMP accepts it in OPEN, RETURNED or after a debug unlock, or discards it (R750). -/
  | consoleInput (c : Byte)
  /-- A missing host reference clock has been present again for 1 ms; refclk_lost clears and the link may train again (R747). -/
  | refclkReturn (i : Fin 4) (e : Env)
  deriving DecidableEq, Repr

end Sys2Proof
end

