-- ==== Sys2Proof/Machine/Bits.lean ====
section
/-! DEFINITION. Bit fields of words (R9), byte order (R10), and small arithmetic shared by the chapters. -/

namespace Sys2Proof.Machine

/-- Bits `hi:lo` of a word, as a number (R9). -/
def bits (w : Word) (hi lo : Nat) : Nat := (w.toNat >>> lo) % 2 ^ (hi + 1 - lo)

/-- The word with bits `hi:lo` replaced by the low bits of `v`. -/
def setBits (w : Word) (hi lo v : Nat) : Word :=
  let width := hi + 1 - lo
  let old := (w.toNat >>> lo) % 2 ^ width
  BitVec.ofNat 64 (w.toNat + (v % 2 ^ width) * 2 ^ lo - old * 2 ^ lo)

/-- Bit `i` of a word. -/
def bit (w : Word) (i : Nat) : Bool := w.toNat.testBit i

/-- Bit `i` of a number. -/
def nbit (n i : Nat) : Bool := n.testBit i

/-- 1 for true and 0 for false, as a field holds a flag. -/
def b2n (b : Bool) : Nat := if b then 1 else 0

/-- `n` as a two's complement number of `w` bits. -/
def signed (w n : Nat) : Int :=
  let v := n % 2 ^ w
  if v < 2 ^ (w - 1) then (v : Int) else (v : Int) - (2 ^ w : Nat)

/-- An integer as the bits of a two's complement number of `w` bits. -/
def unsigned (w : Nat) (i : Int) : Nat := (i % (2 ^ w : Nat)).toNat

/-- The little-endian bytes of a number (R10). -/
def leBytes : Nat → Nat → List Byte
  | 0, _ => []
  | n + 1, v => BitVec.ofNat 8 v :: leBytes n (v / 256)

/-- The number whose little-endian bytes are given (R10). -/
def leNat : List Byte → Nat
  | [] => 0
  | b :: l => b.toNat + 256 * leNat l

/-- The big-endian bytes of a number, as headers travel (R10). -/
def beBytes (n v : Nat) : List Byte := (leBytes n v).reverse

/-- The quotient rounded up. -/
def ceilDiv (a b : Nat) : Nat := (a + b - 1) / b

/-- `n` rounded up to a multiple of `k`. -/
def roundUp (n k : Nat) : Nat := ceilDiv n k * k

/-- The numbers `lo, lo + 1, …` of which there are `n`. -/
def rangeFrom (lo n : Nat) : List Nat := (List.range n).map (lo + ·)

/-- The number of bits set among the low `w` bits. -/
def popCount (w n : Nat) : Nat := ((List.range w).filter (fun i => nbit n i)).length

/-- The least element of a list by a key, the earlier one where keys are equal. -/
def minBy {α : Type} (f : α → Nat) : List α → Option α
  | [] => none
  | a :: l => match minBy f l with
    | none => some a
    | some b => if f a ≤ f b then some a else some b

/-- The distance from `a` to `b` in sequence arithmetic modulo `2 ^ w`. -/
def seqSub (w b a : Nat) : Nat := (b + 2 ^ w - a % 2 ^ w) % 2 ^ w

end Sys2Proof.Machine
end

