-- ==== Sys2Proof/Machine/Crc.lean ====
section
/-! DEFINITION. The cyclic redundancy checks: the four of the check-value units (R89) and the ones other chapters use. -/

namespace Sys2Proof.Machine

/-- `n` applications of a function. -/
def iterate {α : Type} (f : α → α) : Nat → α → α
  | 0, a => a
  | n + 1, a => iterate f n (f a)

/-- One bit of a reflected CRC: the register shifts right. -/
def crcBitR (poly reg : Nat) : Nat := if reg % 2 = 1 then (reg / 2) ^^^ poly else reg / 2

/-- One byte into a reflected CRC register. -/
def crcByteR (poly reg : Nat) (b : Byte) : Nat := iterate (crcBitR poly) 8 (reg ^^^ b.toNat)

/-- One bit of an unreflected CRC of `w` bits: the register shifts left. -/
def crcBit (w poly reg : Nat) : Nat :=
  let s := (reg * 2) % 2 ^ w
  if reg.testBit (w - 1) then s ^^^ poly else s

/-- One byte into an unreflected CRC register of `w` bits. -/
def crcByte (w poly reg : Nat) (b : Byte) : Nat := iterate (crcBit w poly) 8 (reg ^^^ (b.toNat * 2 ^ (w - 8)))

/-- One of the CRCs of R89: its width, the polynomial (bit-reversed where the CRC is reflected), and its constants. -/
structure CrcKind where
  width : Nat
  poly : Nat
  reflected : Bool
  init : Nat
  xor : Nat
  deriving DecidableEq, Repr

/-- The CRC a unit's sel names (R89). The reflected polynomials stand bit-reversed. -/
def crcKind : Nat → CrcKind
  | 0 => ⟨32, 0xEDB88320, true, 0xFFFFFFFF, 0xFFFFFFFF⟩
  | 1 => ⟨32, 0x82F63B78, true, 0xFFFFFFFF, 0xFFFFFFFF⟩
  | 2 => ⟨64, 0x42F0E1EBA9EA3693, false, 0, 0⟩
  | _ => ⟨16, 0x8BB7, false, 0, 0⟩

/-- The running value after feeding bytes, in the internal form. -/
def CrcKind.feed (k : CrcKind) (reg : Nat) (bs : List Byte) : Nat :=
  bs.foldl (fun r b => if k.reflected then crcByteR k.poly r b else crcByte k.width k.poly r b) (reg % 2 ^ k.width)

/-- CRC-32C of some bytes. -/
def crc32c (bs : List Byte) : Nat := (crcKind 1).feed 0xFFFFFFFF bs ^^^ 0xFFFFFFFF

end Sys2Proof.Machine
end

