-- ==== Sys2Proof/Machine/FlashTypes.lean ====
section
/-! DEFINITION. The boot flash (R689, R690, R700). -/

namespace Sys2Proof.Machine

/-- What a valid directory copy says (R690). -/
structure Dir where
  seq : Nat
  active : Nat
  pending : Nat
  tries : Nat
  flags : Nat
  deriving DecidableEq, Repr, Inhabited

/-- The boot flash (R689). -/
structure Nor where
  /-- the 32 bytes at the start of directory areas 0 and 1 -/
  area0 : List Byte
  area1 : List Byte
  /-- the image slots: bytes that are not erased, by offset -/
  slotA : List (Nat × Byte)
  slotB : List (Nat × Byte)
  /-- slots that are not named as a fallback (R696) -/
  barred : List Nat
  /-- the records appended in reservation areas 0 and 1, 32 bytes each (R700) -/
  resv0 : List (List Byte)
  resv1 : List (List Byte)
  /-- the certificate -/
  cert : List Byte
  /-- the wrapped ND 0 key, 40 bytes (R709) -/
  mgmtKey : Option (List Byte)
  deriving DecidableEq, Repr, Inhabited

end Sys2Proof.Machine
end

