-- ==== Sys2Proof/Config.lean ====
section
/-! DEFINITION. The free values of the model: constants without a body, applied to a counter of the state or to the
operands they depend on. Nothing can be proved of the values they take. -/

namespace Sys2Proof

/-- The n-th number the module draws at random: nonces, epochs, challenges, tokens, route and sampling draws (log 3). -/
opaque Config.draw : Nat → Nat

/-- What a read of host memory returns that a command's operand does not list: the counter of the state, the link and
the address (log 4). -/
opaque Config.hostWord : Nat → Nat → Nat → Word

/-- The capacity of the store of a variant in 64 KiB units in TLC mode: the spec gives it as about 13.8 and 6.9 TB (R570). -/
opaque Config.storeUnits : Nat → Nat

/-- Blocks of a die, and spare blocks among them: the spec gives no number (R602). -/
opaque Config.dieBlocks : Nat
opaque Config.dieSpares : Nat

/-- The boot flash as the module is shipped: the spec does not give its contents. -/
opaque Config.factoryFlash : Sys2Proof.Machine.Nor

/-- The vendor root public keys 0 and 1 (R692): 60 bytes each, as one number. -/
opaque Config.rootKey : Nat → Nat

/-- The key derived from the identity seed that wraps the ND 0 key (R709): 256 bits. -/
opaque Config.wrapKey : Nat

/-- The identity signature over a message, by its index (R698, R705): 3,124 bytes as one number. -/
opaque Config.identitySign : Nat → List Byte → Nat

/-- The public identity key, one 64-bit word of it at a time (R697). -/
opaque Config.identityPub : Nat → Word

/-- Digest and version of the boot ROM, as the log names them (R703). -/
opaque Config.romDigest : Nat
opaque Config.romVersion : Nat

/-- A digest in the log whose input the spec does not give (R703), 256 bits, by the counter of draws. -/
opaque Config.freeDigest : Nat → Nat

/-- What the 20-bit fields srtt and rttvar hold of a round-trip time that does not fit them (R206, R228; log 121). -/
opaque Config.rttField : Nat → BitVec 20

/-- Pending control packets at which a transport tile's queue of them is full: the spec gives no number (R456; log 146). -/
opaque Config.ctlRoom : Nat

end Sys2Proof
end

