-- ==== Sys2Proof/Machine/BaseTypes.lean ====
section
/-! DEFINITION. State of the module outside its registers that chapters 1, 2, 17 and 20 name: factory fuses, straps,
and each host link's MSI-X function. -/

namespace Sys2Proof.Machine

/-- What the factory fuses hold (R4, R689, R696); they keep through every reset (R684). -/
structure Fuses where
  /-- DEV.IDENT.variant: 0 T00, 1 T08, 2 T16 -/
  variant : Nat
  serial : Nat
  stepping : Nat
  lifecycle : Nat
  revoked : Nat
  ctr1 : Nat
  ctr2 : Nat
  ctr3 : Nat
  iana : Nat
  deriving DecidableEq, Repr

/-- The strap pins (R19–R21, R741): HOST_MODE in bits 9:8, CHASSIS_ID in 7:4, SLOT_ID in 3:0. -/
structure Straps where
  /-- a sample is due: none has been taken since the last cold, fabric or module reset (R19) -/
  due : Bool
  /-- the value last taken under R19; none until one is taken -/
  sampled : Option Nat
  /-- the pins differ from the sampled value (EVT_RAW, R21) -/
  differs : Bool
  /-- the value that last set strap_chg -/
  lastDiff : Option Nat
  deriving DecidableEq, Repr

/-- The MSI-X function of a host link: table words by byte offset in pages 0xF00–0xF07 (R51), vectors with their pending
bit set, those among them that a completion ring asked for, and the two bits of the function's MSI-X capability. -/
structure MsixFn where
  table : List (Nat × Word)
  pend : List Nat
  crPend : List Nat
  enable : Bool
  funcMask : Bool
  deriving DecidableEq, Repr

/-- The function's reset state (R81, R673): every vector masked, as PCI Express defines. -/
def MsixFn.init : MsixFn := { table := [], pend := [], crPend := [], enable := false, funcMask := false }

/-- What an unwritten word of the MSI-X table reads as: the mask bit of each vector's control word is 1. -/
def msixDefault (a : Nat) : Word := if a % 16 = 8 then 0x100000000 else 0

end Sys2Proof.Machine
end

