-- ==== Sys2Proof/Machine/Sparse.lean ====
section
/-! DEFINITION. Maps as plain data. A sparse map lists the keys whose value differs from a default, keys strictly rising;
a keyed map lists the keys that have a value at all, keys strictly rising. -/

namespace Sys2Proof.Machine

/-- The value at a key: the listed one, or the default. -/
def Sparse.read {V : Type} (d : Nat → V) : List (Nat × V) → Nat → V
  | [], k => d k
  | (k', v) :: l, k => if k = k' then v else Sparse.read d l k

/-- A keyed map with a value at a key, its keys rising. -/
def KMap.put {V : Type} : List (Nat × V) → Nat → V → List (Nat × V)
  | [], k, v => [(k, v)]
  | (k', v') :: l, k, v =>
    if k < k' then (k, v) :: (k', v') :: l
    else if k = k' then (k, v) :: l
    else (k', v') :: KMap.put l k v

/-- A keyed map without a key. -/
def KMap.erase {V : Type} (l : List (Nat × V)) (k : Nat) : List (Nat × V) := l.filter (fun e => e.1 ≠ k)

/-- The sparse map with a value written at a key. A value equal to the default leaves no entry. -/
def Sparse.write {V : Type} [DecidableEq V] (d : Nat → V) (l : List (Nat × V)) (k : Nat) (v : V) : List (Nat × V) :=
  if v = d k then KMap.erase l k else KMap.put (KMap.erase l k) k v

/-- Every key is above `lo`, keys rise strictly, and no entry equals the default. -/
def Sparse.wfFrom {V : Type} [DecidableEq V] (d : Nat → V) : Option Nat → List (Nat × V) → Bool
  | _, [] => true
  | lo, (k, v) :: l =>
    (match lo with
      | none => true
      | some b => decide (b < k)) && decide (v ≠ d k) && Sparse.wfFrom d (some k) l

/-- The canonical form of a sparse map. -/
def Sparse.wf {V : Type} [DecidableEq V] (d : Nat → V) (l : List (Nat × V)) : Bool := Sparse.wfFrom d none l

/-- The value of a keyed map at a key, if it has one. -/
def KMap.get {V : Type} : List (Nat × V) → Nat → Option V
  | [], _ => none
  | (k', v) :: l, k => if k = k' then some v else KMap.get l k

/-- The value at a key, or a default. -/
def KMap.getD {V : Type} (l : List (Nat × V)) (k : Nat) (d : V) : V := (KMap.get l k).getD d

/-- The keyed map with the value at a key changed, where it has one. -/
def KMap.update {V : Type} (l : List (Nat × V)) (k : Nat) (f : V → V) : List (Nat × V) :=
  l.map (fun e => if e.1 = k then (e.1, f e.2) else e)

/-- The elements of a list that fail a test, and the first that passes it. -/
def takeFirst {α : Type} (p : α → Bool) : List α → Option (α × List α)
  | [] => none
  | a :: l => if p a then some (a, l) else
    match takeFirst p l with
    | none => none
    | some (b, l') => some (b, a :: l')

end Sys2Proof.Machine
end

