-- ==== Sys2Proof/Machine/QueueTypes.lean ====
section
/-! DEFINITION. State of the queue block and of the device translation unit: contexts, what is in flight for a queue,
operations in progress, completions, the admin queue, translations and walks (chapters "Work queues" and
"Device translation"). -/

namespace Sys2Proof.Machine

/-! ## Translation -/

/-- What an access asks of a leaf (R170). -/
inductive Acc where
  | fetch | shadowRead | shadowWrite | localRead | localWrite | remoteWrite | remoteRead | remoteAtomic
  deriving DecidableEq, Repr

/-- One access to be translated: address space, address, what it asks, whether a user queue asks it (R171), whether side
effects are allowed (R170), the engine whose micro-TLB serves it, and the source and object a fault records (R183). -/
structure XReq where
  asid : Nat
  va : Nat
  acc : Acc
  user : Bool
  allowSe : Bool
  engine : Nat
  source : Nat
  object : Nat
  deriving DecidableEq, Repr

/-- A TLB slot (R178, R179): a block of pages of an address space, the first physical page, and the leaf's bits 5:0. -/
structure TlbSlot where
  asid : Nat
  vpn : Nat
  pages : Nat
  ppn : Nat
  rights : Nat
  deriving DecidableEq, Repr

/-- A walk-cache entry: the pointer found at a level of an address space. -/
structure WalkEnt where
  asid : Nat
  level : Nat
  prefx : Nat
  ppn : Nat
  deriving DecidableEq, Repr

/-- A walk that waits for a read: of the ASID entry at level 0, else of the table entry at a level. -/
structure Walk where
  req : XReq
  level : Nat
  table : Nat
  walkLink : Nat
  /-- an INVALIDATE_TLB started meanwhile: the result enters no cache (R192) -/
  stale : Bool
  deriving DecidableEq, Repr

/-- The caches of the DTU. -/
structure Dtu where
  tlb : List TlbSlot
  /-- micro-TLBs by engine -/
  micro : List (Nat × List TlbSlot)
  walkCache : List WalkEnt
  /-- cached ASID table entries -/
  asidCache : List (Nat × Word × Word)
  deriving DecidableEq, Repr

/-- Empty caches. -/
def Dtu.init : Dtu := { tlb := [], micro := [], walkCache := [], asidCache := [] }

/-! ## Contexts -/

/-- States of a WQ (R97). -/
inductive WqState where
  | free | active | stopped | error | closing
  deriving DecidableEq, Repr

/-- The number of a WQ state in its context (R97). -/
def WqState.code : WqState → Nat
  | .free => 0 | .active => 1 | .stopped => 2 | .error => 3 | .closing => 4

/-- A WQ context (R97). -/
structure WqCtx where
  ringVa : Nat
  size : Nat
  link : Nat
  user : Bool
  poll : Bool
  cr : Nat
  asid : Nat
  nd : Nat
  tcMask : Nat
  pollIvl : Nat
  piShadow : Nat
  ciShadow : Nat
  ci : Nat
  piKnown : Nat
  state : WqState
  errCause : Nat
  errIdx : Nat
  outstanding : Nat
  deriving DecidableEq, Repr

/-- A fetch of WQEs in flight: first index, number, bus address, whether it still waits for a walk, and whether its
translation has been dropped meanwhile (R191). -/
structure Fetch where
  idx : Nat
  n : Nat
  addr : Nat
  walk : Option Walk
  stale : Bool
  deriving DecidableEq, Repr

/-- What the module keeps for a WQ beside its context. -/
structure WqRt where
  /-- bytes of PUSH assembled so far (R110) -/
  push : List (Nat × Byte)
  /-- pushed WQEs not yet on chip, by index (R112) -/
  pushed : List (Nat × List Word)
  fetch : Option Fetch
  /-- WQEs consumed since the consumer shadow was last written (R121) -/
  ciSince : Nat
  /-- WQEs flushed by the DESTROY_WQ in progress -/
  flushed : Nat
  /-- operations that ended while the context was out of the cache: its outstanding count goes down by as many at the next load -/
  owed : Nat
  deriving DecidableEq, Repr

/-- Nothing in flight. -/
def WqRt.init : WqRt := { push := [], pushed := [], fetch := none, ciSince := 0, flushed := 0, owed := 0 }

/-- States of a CR (R98). -/
inductive CrState where
  | free | active | error
  deriving DecidableEq, Repr

/-- The number of a CR state in its context (R98). -/
def CrState.code : CrState → Nat
  | .free => 0 | .active => 1 | .error => 2

/-- A CR context (R98). -/
structure CrCtx where
  ringVa : Nat
  size : Nat
  link : Nat
  asid : Nat
  vector : Nat
  piShadow : Nat
  ciShadow : Nat
  pi : Nat
  ciKnown : Nat
  binds : Nat
  state : CrState
  armed : Bool
  ovf : Bool
  deriving DecidableEq, Repr

/-- What a completion belongs to. -/
inductive Owner where
  /-- an operation of a WQ, by its number in `ops` -/
  | op (id : Nat)
  /-- a matching context: a target-side completion or a matched receive without an operation -/
  | mctx (n : Nat)
  /-- a collective context -/
  | coll (n : Nat)
  /-- nothing the module still tracks -/
  | free
  deriving DecidableEq, Repr

/-- A completion: its ring, and the fields of its entry (R126). `write` is false for a success with sig = 0, which writes
no entry. -/
structure Completion where
  owner : Owner
  cr : Nat
  tag : Nat
  wq : Nat
  opcode : Nat
  status : Nat
  length : Nat
  info : Nat
  peerFa : Nat
  nd : Nat
  detail : Nat
  write : Bool
  deriving DecidableEq, Repr

/-- What the module keeps for a CR beside its context: completions held, oldest first, since when there have been some (R139), and
whether a link reset put the ring into ERROR (R156). -/
structure CrRt where
  held : List Completion
  heldAt : Nat
  linkDead : Bool
  deriving DecidableEq, Repr

/-- Nothing held. -/
def CrRt.init : CrRt := { held := [], heldAt := 0, linkDead := false }

/-- Where a fired entry comes from (R377, R381): its list, the context with its instance, and the offset of its done counter
(0xFFFF = none). -/
structure Fired where
  list : Nat
  coll : Nat
  inst : Nat
  done : Nat
  deriving DecidableEq, Repr

/-- An operation in progress: a WQE on chip, or a fired triggered entry. -/
structure Op where
  wq : Nat
  idx : Nat
  wqe : List Word
  started : Bool
  /-- fired from a triggered list -/
  trig : Option Fired
  /-- a fired entry that ends without completion, since its queue entered ERROR or was destroyed (R382) -/
  silent : Bool
  /-- the completion has been handed over -/
  finished : Bool
  /-- issues no further access on its link (R156) -/
  dead : Bool
  deriving DecidableEq, Repr

/-- The admin command that executes: its opcode, operation, body, and a count it reports at its end. -/
structure AdminOp where
  opcode : Nat
  op : Nat
  wqe : List Word
  count : Nat
  deriving DecidableEq, Repr

/-- The queue block. -/
structure Queues where
  /-- cached WQ contexts -/
  wqs : List (Nat × WqCtx)
  wqRt : List (Nat × WqRt)
  /-- cached CR contexts -/
  crs : List (Nat × CrCtx)
  /-- queues and rings whose context has gone back to the table -/
  awayWq : List Nat
  /-- polled queues among them (R116) -/
  awayPoll : List Nat
  awayCr : List Nat
  crRt : List (Nat × CrRt)
  ops : List (Nat × Op)
  nextOp : Nat
  /-- entries of the holding pool reserved (R119) -/
  pool : Nat
  /-- finished operations whose completion is not yet written -/
  done : List Completion
  admin : Option AdminOp
  deriving DecidableEq, Repr

/-- The queue block with nothing in it. -/
def Queues.init : Queues :=
  { wqs := [], wqRt := [], crs := [], awayWq := [], awayPoll := [], awayCr := [], crRt := [], ops := [], nextOp := 0, pool := 0, done := [], admin := none }

/-! ## Sampling -/

/-- A tagged command (R727, R729): its operation, what the record says of it, the ring it was tagged for, the time of stage 0
and the times of the stages reached. -/
structure Tagged where
  op : Nat
  wq : Nat
  opcode : Nat
  tag : Nat
  trig : Bool
  cr : Nat
  base : Nat
  stages : List (Nat × Nat)
  retx : Bool
  step : Bool
  deriving DecidableEq, Repr

/-- The sampler: the configuration in force and the commands tagged now. -/
structure Sampler where
  on : Bool
  k : Nat
  wqSel : Nat
  cr : Nat
  tagged : List Tagged
  /-- rings released once their last record is written (R733) -/
  releasing : List Nat
  /-- snapshot copies of counters, by BAR0 offset (R720) -/
  snap : List (Nat × Word)
  deriving DecidableEq, Repr

/-- No sampling. -/
def Sampler.init : Sampler :=
  { on := false, k := 10, wqSel := 0xFFFF, cr := 0, tagged := [], releasing := [], snap := [] }

end Sys2Proof.Machine
end

