-- ==== Sys2Proof/Machine/XptTypes.lean ====
section
/-! DEFINITION. State of the transport tiles and of remote memory: domain keys, connections with their messages and packets
under way, cached Region Tables (chapters "Connections" and "Registered regions"). -/

namespace Sys2Proof.Machine

/-- A packet with what its ciphertext holds (R194, R198): the operation part as one word, the extension and the payload, and whether
its tag vouches for them. -/
structure Opened extends Packet where
  opw : Word
  ext : List Byte
  payload : List Byte
  auth : Bool
  deriving DecidableEq, Repr

/-- What has landed of a message: the bytes from its start without a gap, and parts beyond, by offset and length (R172). -/
structure Landing where
  low : Nat
  ahead : List (Nat × Nat)
  deriving DecidableEq, Repr

/-- Nothing has landed. -/
def Landing.none : Landing := { low := 0, ahead := [] }

/-- States of a send direction (R206). -/
inductive TxState where
  | idle | probing | open | rolling | failing
  deriving DecidableEq, Repr

/-- States of a receive direction (R206). -/
inductive RxState where
  | none | challenged | open
  deriving DecidableEq, Repr

/-- What a message of the module's own is, for what follows its acknowledgement. -/
inductive MsgKind where
  | put | get | atomic | getRsp | atomicRsp | result | mgmtRsp
  | eager | rts | rdvGet | rdvData | rdvCancel
  | up | downAck | repair | abort | down
  | storePut | syncReq | syncRsp
  deriving DecidableEq, Repr

/-- Where the payload of a message comes from. -/
inductive Src where
  /-- bytes already on chip -/
  | inline (bytes : List Byte)
  /-- a local buffer: link, address space, address, whether of a user queue, fault source and object -/
  | buffer (link asid va : Nat) (user : Bool) (source object : Nat)
  /-- a region read for a get: key slot, index, link, address space, address, allow_se -/
  | region (slot index link asid va : Nat) (allowSe : Bool)
  /-- a region that has been revoked meanwhile (R278) -/
  | revoked
  deriving DecidableEq, Repr

/-- A message of a send direction that is not complete. -/
structure Msg where
  /-- number of the message in the module, for its packets to name it -/
  id : Nat
  kind : MsgKind
  /-- the operation it belongs to -/
  op : Option Nat
  /-- what its engine keeps with it: a request's MSN, a context, a segment -/
  ref : Nat
  ref2 : Nat
  /-- its MSN, once its first packet is sent -/
  msn : Option Nat
  opcode : Nat
  tc : Nat
  ordered : Bool
  xdata : Nat
  ext : List Byte
  src : Src
  len : Nat
  /-- payload bytes given to packets so far -/
  sent : Nat
  /-- MTU taken at its first packet (R196) -/
  mtu : Nat
  /-- every packet has been given a PSN -/
  segmented : Bool
  /-- ended early: offset of the abort, fault detail (R262, R771, R775) -/
  aborted : Option (Nat × Nat)
  /-- a response that failed a check when read: status and detail (R777) -/
  respFail : Option (Nat × Nat)
  /-- payload bytes of a response's packets acknowledged with their payload (R777) -/
  ackedBytes : Nat
  /-- its last-covered PSN, with the epoch, and the least rsn_next of the ACKs that cover it (R233) -/
  lastPsn : Option (Nat × Nat)
  needRsn : Option Nat
  /-- status, detail and info of a RESULT that named it -/
  result : Option (Nat × Nat × Nat)
  /-- bytes of the answer received (R264), and where they lie -/
  got : Nat
  landing : Landing
  /-- old value of an atomic received (R270) -/
  old : Option Nat
  deriving DecidableEq, Repr

/-- A packet of a send direction that is not acknowledged below tx_base: a descriptor (R208). -/
structure TxPkt where
  psn : Nat
  epoch : Nat
  msg : Nat
  off : Nat
  /-- the packet in the clear: it is sealed anew for every attempt -/
  pkt : Opened
  sentAt : Nat
  acked : Bool
  /-- its payload is read again for every transmission (R173, R265) -/
  reread : Bool
  /-- a retransmission waits for the RNR delay, until this time (R227) -/
  rnr : Option Nat
  /-- a retransmission that the injection shaper holds (R409) -/
  held : Bool
  deriving DecidableEq, Repr

/-- A message that arrives (R257, R258): bytes accepted and written, its full length once known, a failed check, whether it was
aborted, and whether it is over. -/
structure RxMsg where
  msn : Nat
  bytes : Nat
  landing : Landing
  written : Nat
  total : Option Nat
  failed : Option (Nat × Nat)
  aborted : Option Nat
  closed : Bool
  deriving DecidableEq, Repr

/-- A connection context (R206), with what the tile keeps while it is in use. -/
structure Conn where
  remote : Nat
  nd : Nat
  slot : Nat
  txState : TxState
  rxState : RxState
  peerNonce : Nat
  txEpoch : Nat
  rxEpoch : Nat
  txNext : Nat
  txBase : Nat
  txMsn : Nat
  rxBase : Nat
  rxCsn : Nat
  rxMsn : Nat
  srtt : Nat
  rttvar : Nat
  sampled : Bool
  rto : Nat
  rsnSent : Nat
  rsnRcvd : Nat
  lastChal : Nat
  /-- no further CHALLENGE goes out before this time (R219, R238) -/
  chalFree : Nat
  probes : Nat
  /-- when the PROBE goes out again (R243), and when one that met a NACK does (R226) -/
  probeDue : Nat
  probeRnr : Option Nat
  /-- operations whose completion a FAILING direction waits for (R230, R243) -/
  failOps : List Nat
  /-- a CHALLENGE has been accepted: the context is not new (R217) -/
  greeted : Bool
  /-- accepted PSNs at or above rx_base -/
  bitmap : List Nat
  msgs : List Msg
  tx : List TxPkt
  rnrDelay : Nat
  /-- when the run of NO_DOMAIN NACKs in progress has lasted nd_wait (R237, R238) -/
  ndRun : Option Nat
  /-- acceptances not yet reported (R225), their highest class, when their ACK is due, and until when a duplicate is not answered -/
  ackPend : Nat
  ackTc : Nat
  ackDue : Nat
  ackQuiet : Nat
  rxMsgs : List RxMsg
  /-- MSNs from rx_msn on that have been seen (R308) -/
  seen : List Nat
  /-- the receive direction has entered CHALLENGED from OPEN, and R312 is still to act -/
  anew : Bool
  /-- results received beyond rsn_rcvd -/
  rsnAhead : List Nat
  /-- trim notices answered (R242) -/
  trims : List (Nat × Nat)
  deriving DecidableEq, Repr

/-- A domain key in a slot (R41). -/
structure DomKey where
  nd : Nat
  key : Nat
  deriving DecidableEq, Repr

/-- A usable region directory entry (R249, R250). -/
structure RgnDir where
  size : Nat
  link : Nat
  base : Nat
  deriving DecidableEq, Repr

/-- A cached Region Table entry (R251, R254), and whether it is marked REVOKING (R277). -/
structure Region where
  storeTarget : Bool
  generation : Nat
  tag : Nat
  baseVa : Nat
  length : Nat
  asid : Nat
  link : Nat
  rd : Bool
  wr : Bool
  atomic : Bool
  allowSe : Bool
  pcieAtomic : Bool
  objectId : Nat
  revoking : Bool
  deriving DecidableEq, Repr

/-- The transport tiles. -/
structure Xpt where
  /-- domain keys by slot -/
  keys : List (Nat × DomKey)
  /-- connection contexts in the cache, by CID -/
  conns : List (Nat × Conn)
  /-- contexts evicted to the connection table, which only the module writes (R206, R207) -/
  evicted : List (Nat × Conn)
  /-- the table's link was reset since enable was last set (R774) -/
  tableLost : Bool
  nextMsg : Nat
  /-- messages that wait for a context: remote FA, ND (R204) -/
  waiting : List (Nat × Nat × Msg)
  /-- send directions that are to open once a context can be had: remote FA, ND, class (R204, R334) -/
  opening : List (Nat × Nat × Nat)
  /-- cached directory entries by slot -/
  dirs : List (Nat × RgnDir)
  /-- cached Region Table entries by slot × 2^24 + index -/
  regions : List (Nat × Region)
  /-- packets delivered to the module's own tiles, oldest first -/
  inbox : List Packet
  deriving DecidableEq, Repr

/-- Transport tiles with nothing in them. -/
def Xpt.init : Xpt :=
  { keys := [], conns := [], evicted := [], tableLost := false, nextMsg := 0, waiting := [], opening := [], dirs := [], regions := [],
    inbox := [] }

end Sys2Proof.Machine
end

