-- ==== Sys2Proof/Machine/CollTypes.lean ====
section
/-! DEFINITION. State of the collective tiles (chapter "Collectives, exact reductions and triggered operations"): contexts,
multicast groups, device counters and triggered lists. -/

namespace Sys2Proof.Machine

/-- What the header of a collective's packets says of it: kind, op, type and count (R348). -/
structure CollHdr where
  kind : Nat
  op : Nat
  type : Nat
  count : Nat
  deriving DecidableEq, Repr

/-- A COLL WQE that a context has accepted and not completed (R344, R346). -/
structure CollOp where
  id : Nat
  seq : Nat
  hdr : CollHdr
  srcVa : Nat
  dstVa : Nat
  coef : Nat
  doneCtr : Nat
  /-- segments combined or read so far -/
  next : Nat
  /-- UP segments complete under R233 -/
  upDone : List Nat
  /-- result segments written to dst_va or received -/
  wrote : List Nat
  /-- bytes written -/
  bytes : Nat
  /-- a fault on dst_va: its detail (R358) -/
  fault : Option Nat
  deriving DecidableEq, Repr

/-- A segment of a child in one of its slots (R350, R352): what has landed of it, by offset. -/
structure Slot where
  child : Nat
  seq : Nat
  seg : Nat
  hdr : CollHdr
  size : Nat
  parts : List (Nat × List Byte)
  deriving DecidableEq, Repr

/-- A result segment in a result slot (R353): the children it is still kept for, each with the time it
was last sent there, whether it is still to be delivered here, and the dseqs it was sent under. -/
structure Retained where
  seq : Nat
  seg : Nat
  hdr : CollHdr
  bytes : List Byte
  waiting : List (Nat × Nat)
  here : Bool
  dseqs : List Nat
  deriving DecidableEq, Repr

/-- A DOWN segment that arrives in several packets. -/
structure DownPart where
  seq : Nat
  seg : Nat
  parts : List (Nat × List Byte)
  deriving DecidableEq, Repr

/-- States of a collective context (R335); a FREE context has no entry. -/
inductive CollState where
  | active | error | closing
  deriving DecidableEq, Repr

/-- A collective context (R330–R335). -/
structure Coll where
  nd : Nat
  cr : Nat
  inst : Nat
  depth : Nat
  tc : Nat
  root : Bool
  exact : Bool
  parent : Nat
  mcRow : Nat
  mcCol : Nat
  ctrBase : Nat
  ctrCount : Nat
  /-- FA and via of each child -/
  children : List (Nat × Nat)
  state : CollState
  nextSeq : Nat
  ops : List CollOp
  slots : List Slot
  kept : List Retained
  downs : List DownPart
  /-- DOWN segments received, of operations from the current one on -/
  got : List (Nat × Nat)
  /-- as a parent: round and next dseq (R340, R341) -/
  round : Nat
  dseq : Nat
  /-- as a child: the parent's round, the next dseq expected, and those below it that are missing, as ranges (R354) -/
  rxRound : Nat
  rxDseq : Nat
  rxMissed : List (Nat × Nat)
  /-- senders that an ABORT has answered since ERROR (R391) -/
  answered : List Nat
  deriving DecidableEq, Repr

/-- A multicast group (R337). -/
structure McGroup where
  nd : Nat
  members : List Nat
  deriving DecidableEq, Repr

/-- A triggered list (R376–R382): its WQ and context, where it lies, its entries, the next one to fire, the entries on chip by number
(R379), and the fired ones that have not completed. -/
structure TrigList where
  wq : Nat
  coll : Nat
  va : Nat
  count : Nat
  head : Nat
  loaded : List (Nat × List Word)
  live : List Nat
  deriving DecidableEq, Repr

/-- The collective tiles. -/
structure Colls where
  ctxs : List (Nat × Coll)
  groups : List (Nat × McGroup)
  /-- device counters that are not 0 -/
  ctrs : List (Nat × Nat)
  lists : List (Nat × TrigList)
  nextList : Nat
  deriving DecidableEq, Repr

/-- Collective tiles with nothing in them. -/
def Colls.init : Colls := { ctxs := [], groups := [], ctrs := [], lists := [], nextList := 0 }

end Sys2Proof.Machine
end

