-- ==== Sys2Proof/Machine/Fields.lean ====
section
/-! DEFINITION. A name for every register field of the chapters' register tables: the BAR0 offset of its register
(page number times 0x1000 plus the offset in the page, R46) and its bits. A page or register that has several
instances takes the instance as an argument. -/

namespace Sys2Proof.Machine

/-- A register field: the BAR0 offset of its register, and the highest and lowest bit. -/
structure Fld where
  reg : Nat
  hi : Nat
  lo : Nat
  deriving DecidableEq, Repr

namespace F

/-- DEV.IDENT.serial -/
def devIdentSerial : Fld := ⟨0x00040, 63, 32⟩
/-- DEV.IDENT.store_dies -/
def devIdentStoreDies : Fld := ⟨0x00040, 23, 16⟩
/-- DEV.IDENT.stepping -/
def devIdentStepping : Fld := ⟨0x00040, 15, 8⟩
/-- DEV.IDENT.variant -/
def devIdentVariant : Fld := ⟨0x00040, 3, 0⟩
/-- DEV.FADDR.valid -/
def devFaddrValid : Fld := ⟨0x00048, 63, 63⟩
/-- DEV.FADDR.strap_chg -/
def devFaddrStrapChg : Fld := ⟨0x00048, 62, 62⟩
/-- DEV.FADDR.wire_chk -/
def devFaddrWireChk : Fld := ⟨0x00048, 61, 61⟩
/-- DEV.FADDR.group -/
def devFaddrGroup : Fld := ⟨0x00048, 41, 32⟩
/-- DEV.FADDR.fa -/
def devFaddrFa : Fld := ⟨0x00048, 17, 0⟩
/-- DEV.ACCERR.valid -/
def devAccerrValid : Fld := ⟨0x00050, 63, 63⟩
/-- DEV.ACCERR.overrun -/
def devAccerrOverrun : Fld := ⟨0x00050, 62, 62⟩
/-- DEV.ACCERR.write -/
def devAccerrWrite : Fld := ⟨0x00050, 61, 61⟩
/-- DEV.ACCERR.size -/
def devAccerrSize : Fld := ⟨0x00050, 60, 60⟩
/-- DEV.ACCERR.master -/
def devAccerrMaster : Fld := ⟨0x00050, 55, 52⟩
/-- DEV.ACCERR.domain -/
def devAccerrDomain : Fld := ⟨0x00050, 51, 48⟩
/-- DEV.ACCERR.page -/
def devAccerrPage : Fld := ⟨0x00050, 43, 32⟩
/-- DEV.ACCERR.offset -/
def devAccerrOffset : Fld := ⟨0x00050, 11, 0⟩
/-- QCTL.WQTAB.base -/
def qctlWqtabBase : Fld := ⟨0x28040, 63, 12⟩
/-- QCTL.WQTAB.link -/
def qctlWqtabLink : Fld := ⟨0x28040, 11, 10⟩
/-- QCTL.WQTAB.size -/
def qctlWqtabSize : Fld := ⟨0x28040, 4, 0⟩
/-- QCTL.CRTAB.base -/
def qctlCrtabBase : Fld := ⟨0x28048, 63, 12⟩
/-- QCTL.CRTAB.size -/
def qctlCrtabSize : Fld := ⟨0x28048, 4, 0⟩
/-- QCTL.ERRLOG.valid -/
def qctlErrlogValid : Fld := ⟨0x28058, 63, 63⟩
/-- QCTL.ERRLOG.overrun -/
def qctlErrlogOverrun : Fld := ⟨0x28058, 62, 62⟩
/-- QCTL.ERRLOG.kind -/
def qctlErrlogKind : Fld := ⟨0x28058, 61, 61⟩
/-- QCTL.ERRLOG.cause -/
def qctlErrlogCause : Fld := ⟨0x28058, 55, 48⟩
/-- QCTL.ERRLOG.queue -/
def qctlErrlogQueue : Fld := ⟨0x28058, 47, 32⟩
/-- QCTL.ERRLOG.index -/
def qctlErrlogIndex : Fld := ⟨0x28058, 31, 0⟩
/-- QCTL.CROVTO.timeout -/
def qctlCrovtoTimeout : Fld := ⟨0x28050, 31, 0⟩
/-- ADMIN.CUR.busy -/
def adminCurBusy : Fld := ⟨0x29040, 63, 63⟩
/-- ADMIN.CUR.opcode -/
def adminCurOpcode : Fld := ⟨0x29040, 39, 32⟩
/-- ADMIN.CUR.index -/
def adminCurIndex : Fld := ⟨0x29040, 31, 0⟩
/-- DTU.ASTAB.base -/
def dtuAstabBase : Fld := ⟨0x2A040, 63, 12⟩
/-- DTU.ASTAB.link -/
def dtuAstabLink : Fld := ⟨0x2A040, 11, 10⟩
/-- DTU.ASTAB.size -/
def dtuAstabSize : Fld := ⟨0x2A040, 4, 0⟩
/-- DTU.RBASE.base -/
def dtuRbaseBase (k : Nat) : Fld := ⟨0x2A100 + 16 * k, 63, 12⟩
/-- DTU.RBASE.link -/
def dtuRbaseLink (k : Nat) : Fld := ⟨0x2A100 + 16 * k, 11, 10⟩
/-- DTU.RBASE.en -/
def dtuRbaseEn (k : Nat) : Fld := ⟨0x2A100 + 16 * k, 0, 0⟩
/-- DTU.RLIM.limit -/
def dtuRlimLimit (k : Nat) : Fld := ⟨0x2A108 + 16 * k, 63, 12⟩
/-- DTU.FLTLOG.valid -/
def dtuFltlogValid : Fld := ⟨0x2A060, 63, 63⟩
/-- DTU.FLTLOG.overrun -/
def dtuFltlogOverrun : Fld := ⟨0x2A060, 62, 62⟩
/-- DTU.FLTLOG.source -/
def dtuFltlogSource : Fld := ⟨0x2A060, 59, 56⟩
/-- DTU.FLTLOG.type -/
def dtuFltlogType : Fld := ⟨0x2A060, 55, 48⟩
/-- DTU.FLTLOG.level -/
def dtuFltlogLevel : Fld := ⟨0x2A060, 47, 45⟩
/-- DTU.FLTLOG.asid -/
def dtuFltlogAsid : Fld := ⟨0x2A060, 31, 16⟩
/-- DTU.FLTLOG.object -/
def dtuFltlogObject : Fld := ⟨0x2A060, 15, 0⟩
/-- DTU.FLTVA.va -/
def dtuFltvaVa : Fld := ⟨0x2A068, 63, 0⟩
/-- XPT.CONNTAB.base -/
def xptConntabBase : Fld := ⟨0x30040, 63, 12⟩
/-- XPT.CONNTAB.link -/
def xptConntabLink : Fld := ⟨0x30040, 11, 10⟩
/-- XPT.CONNTAB.size -/
def xptConntabSize : Fld := ⟨0x30040, 4, 0⟩
/-- XPT.CFG.chal_gap -/
def xptCfgChalGap : Fld := ⟨0x30048, 31, 24⟩
/-- XPT.CFG.ack_delay -/
def xptCfgAckDelay : Fld := ⟨0x30048, 23, 16⟩
/-- XPT.CFG.ack_count -/
def xptCfgAckCount : Fld := ⟨0x30048, 15, 8⟩
/-- XPT.CFG.mtu -/
def xptCfgMtu : Fld := ⟨0x30048, 2, 0⟩
/-- XPT.RTO.rto_init -/
def xptRtoRtoInit : Fld := ⟨0x30050, 47, 32⟩
/-- XPT.RTO.rto_max -/
def xptRtoRtoMax : Fld := ⟨0x30050, 31, 16⟩
/-- XPT.RTO.rto_min -/
def xptRtoRtoMin : Fld := ⟨0x30050, 15, 0⟩
/-- XPT.RNR.nd_wait -/
def xptRnrNdWait : Fld := ⟨0x30058, 47, 32⟩
/-- XPT.RNR.rnr_max -/
def xptRnrRnrMax : Fld := ⟨0x30058, 31, 16⟩
/-- XPT.RNR.rnr_min -/
def xptRnrRnrMin : Fld := ⟨0x30058, 15, 0⟩
/-- XPT.NONCE.nonce -/
def xptNonceNonce : Fld := ⟨0x30060, 63, 0⟩
/-- XPT.FMGR.en -/
def xptFmgrEn (k : Nat) : Fld := ⟨0x30080 + 8 * k, 63, 63⟩
/-- XPT.FMGR.fa -/
def xptFmgrFa (k : Nat) : Fld := ⟨0x30080 + 8 * k, 17, 0⟩
/-- XPT.RGNDIR.base -/
def xptRgndirBase : Fld := ⟨0x300A0, 63, 12⟩
/-- XPT.RGNDIR.link -/
def xptRgndirLink : Fld := ⟨0x300A0, 11, 10⟩
/-- MATCH.SNDCFG.send_limit -/
def matchSndcfgSendLimit : Fld := ⟨0x34040, 16, 0⟩
/-- MATCH.SPILL.base -/
def matchSpillBase (i : Nat) : Fld := ⟨0x34048 + 0x1000 * i, 63, 12⟩
/-- MATCH.SPILL.link -/
def matchSpillLink (i : Nat) : Fld := ⟨0x34048 + 0x1000 * i, 11, 10⟩
/-- MATCH.SPILL.size -/
def matchSpillSize (i : Nat) : Fld := ⟨0x34048 + 0x1000 * i, 4, 0⟩
/-- MATCH.ERRLOG.valid -/
def matchErrlogValid (i : Nat) : Fld := ⟨0x34050 + 0x1000 * i, 63, 63⟩
/-- MATCH.ERRLOG.overrun -/
def matchErrlogOverrun (i : Nat) : Fld := ⟨0x34050 + 0x1000 * i, 62, 62⟩
/-- MATCH.ERRLOG.cause -/
def matchErrlogCause (i : Nat) : Fld := ⟨0x34050 + 0x1000 * i, 55, 48⟩
/-- MATCH.ERRLOG.fault -/
def matchErrlogFault (i : Nat) : Fld := ⟨0x34050 + 0x1000 * i, 47, 40⟩
/-- MATCH.ERRLOG.mctx -/
def matchErrlogMctx (i : Nat) : Fld := ⟨0x34050 + 0x1000 * i, 11, 0⟩
/-- MATCH.USE.bounce_free -/
def matchUseBounceFree (i : Nat) : Fld := ⟨0x34058 + 0x1000 * i, 48, 32⟩
/-- MATCH.USE.unexp -/
def matchUseUnexp (i : Nat) : Fld := ⟨0x34058 + 0x1000 * i, 31, 16⟩
/-- MATCH.USE.posted -/
def matchUsePosted (i : Nat) : Fld := ⟨0x34058 + 0x1000 * i, 15, 0⟩
/-- COLL.ERRLOG.valid -/
def collErrlogValid (i : Nat) : Fld := ⟨0x36050 + 0x1000 * i, 63, 63⟩
/-- COLL.ERRLOG.overrun -/
def collErrlogOverrun (i : Nat) : Fld := ⟨0x36050 + 0x1000 * i, 62, 62⟩
/-- COLL.ERRLOG.status -/
def collErrlogStatus (i : Nat) : Fld := ⟨0x36050 + 0x1000 * i, 61, 54⟩
/-- COLL.ERRLOG.desc_off -/
def collErrlogDescOff (i : Nat) : Fld := ⟨0x36050 + 0x1000 * i, 53, 46⟩
/-- COLL.ERRLOG.origin_fa -/
def collErrlogOriginFa (i : Nat) : Fld := ⟨0x36050 + 0x1000 * i, 45, 28⟩
/-- COLL.ERRLOG.coll -/
def collErrlogColl (i : Nat) : Fld := ⟨0x36050 + 0x1000 * i, 9, 0⟩
/-- COLL.USE.buf_free -/
def collUseBufFree (i : Nat) : Fld := ⟨0x36058 + 0x1000 * i, 44, 32⟩
/-- COLL.USE.lists -/
def collUseLists (i : Nat) : Fld := ⟨0x36058 + 0x1000 * i, 31, 18⟩
/-- COLL.USE.entries -/
def collUseEntries (i : Nat) : Fld := ⟨0x36058 + 0x1000 * i, 17, 0⟩
/-- PSCH.WEIGHT.w -/
def pschWeightW (i : Nat) : Fld := ⟨0xB0040 + 0x1000 * i, 47, 0⟩
/-- XPT.SHPSEL.prof -/
def xptShpselProf (k : Nat) : Fld := ⟨0x300C0 + 8 * k, 63, 0⟩
/-- PSCH.GCTL.commit -/
def pschGctlCommit (i : Nat) : Fld := ⟨0xB00C0 + 0x1000 * i, 63, 63⟩
/-- PSCH.GCTL.en -/
def pschGctlEn (i : Nat) : Fld := ⟨0xB00C0 + 0x1000 * i, 62, 62⟩
/-- PSCH.GCTL.count -/
def pschGctlCount (i : Nat) : Fld := ⟨0xB00C0 + 0x1000 * i, 20, 16⟩
/-- PSCH.GCTL.result -/
def pschGctlResult (i : Nat) : Fld := ⟨0xB00C0 + 0x1000 * i, 15, 8⟩
/-- PSCH.GSTS.active -/
def pschGstsActive (i : Nat) : Fld := ⟨0xB00C8 + 0x1000 * i, 63, 63⟩
/-- PSCH.GSTS.pending -/
def pschGstsPending (i : Nat) : Fld := ⟨0xB00C8 + 0x1000 * i, 62, 62⟩
/-- PSCH.GSTS.tflit -/
def pschGstsTflit (i : Nat) : Fld := ⟨0xB00C8 + 0x1000 * i, 47, 32⟩
/-- PSCH.GSTS.bypass -/
def pschGstsBypass (i : Nat) : Fld := ⟨0xB00C8 + 0x1000 * i, 15, 8⟩
/-- PSCH.GSTS.entry -/
def pschGstsEntry (i : Nat) : Fld := ⟨0xB00C8 + 0x1000 * i, 3, 0⟩
/-- PSCH.GBASE.base -/
def pschGbaseBase (i : Nat) : Fld := ⟨0xB00D0 + 0x1000 * i, 63, 0⟩
/-- PSCH.GENT.open -/
def pschGentOpen (i k : Nat) : Fld := ⟨0xB0100 + 0x1000 * i + 8 * k, 39, 32⟩
/-- PSCH.GENT.dur -/
def pschGentDur (i k : Nat) : Fld := ⟨0xB0100 + 0x1000 * i + 8 * k, 31, 0⟩
/-- ROUTE.CFG.hop_max -/
def routeCfgHopMax : Fld := ⟨0x180040, 31, 27⟩
/-- ROUTE.CFG.imode -/
def routeCfgImode : Fld := ⟨0x180040, 24, 24⟩
/-- ROUTE.CFG.gmode -/
def routeCfgGmode : Fld := ⟨0x180040, 23, 22⟩
/-- ROUTE.CFG.ngroups -/
def routeCfgNgroups : Fld := ⟨0x180040, 10, 0⟩
/-- ROUTE.DWELL.tdwell -/
def routeDwellTdwell : Fld := ⟨0x180048, 9, 0⟩
/-- ROUTE.ADAPT.mark -/
def routeAdaptMark : Fld := ⟨0x180050, 47, 32⟩
/-- ROUTE.ADAPT.vbias -/
def routeAdaptVbias : Fld := ⟨0x180050, 31, 16⟩
/-- ROUTE.ADAPT.ibias -/
def routeAdaptIbias : Fld := ⟨0x180050, 15, 4⟩
/-- ROUTE.ADAPT.hshift -/
def routeAdaptHshift : Fld := ⟨0x180050, 3, 0⟩
/-- ROUTE.EPOCH.spread -/
def routeEpochSpread : Fld := ⟨0x180058, 63, 63⟩
/-- ROUTE.EPOCH.epoch -/
def routeEpochEpoch : Fld := ⟨0x180058, 15, 0⟩
/-- ROUTE.RCMD.go -/
def routeRcmdGo : Fld := ⟨0x180060, 63, 63⟩
/-- ROUTE.RCMD.load -/
def routeRcmdLoad : Fld := ⟨0x180060, 62, 62⟩
/-- ROUTE.RCMD.result -/
def routeRcmdResult : Fld := ⟨0x180060, 55, 48⟩
/-- ROUTE.RCMD.new_epoch -/
def routeRcmdNewEpoch : Fld := ⟨0x180060, 15, 0⟩
/-- ROUTE.GSEL.view -/
def routeGselView : Fld := ⟨0x180068, 63, 63⟩
/-- ROUTE.GSEL.index -/
def routeGselIndex : Fld := ⟨0x180068, 9, 0⟩
/-- ROUTE.GDATA.entry -/
def routeGdataEntry : Fld := ⟨0x180070, 63, 0⟩
/-- ROUTE.HLTH.up -/
def routeHlthUp : Fld := ⟨0x180078, 31, 31⟩
/-- ROUTE.HLTH.exit -/
def routeHlthExit : Fld := ⟨0x180078, 17, 16⟩
/-- ROUTE.HLTH.index -/
def routeHlthIndex : Fld := ⟨0x180078, 9, 0⟩
/-- ROUTE.QCTL.set -/
def routeQctlSet : Fld := ⟨0x180080, 9, 9⟩
/-- ROUTE.QCTL.clear -/
def routeQctlClear : Fld := ⟨0x180080, 8, 8⟩
/-- ROUTE.QCTL.duo -/
def routeQctlDuo : Fld := ⟨0x180080, 5, 0⟩
/-- ROUTE.QSTS.cause -/
def routeQstsCause (k : Nat) : Fld := ⟨0x180088 + 8 * k, 63, 0⟩
/-- ROUTE.PMAP.map -/
def routePmapMap (k : Nat) : Fld := ⟨0x1800A0 + 8 * k, 63, 0⟩
/-- MESH.CFG.senior -/
def meshCfgSenior : Fld := ⟨0x38040, 39, 32⟩
/-- MESH.CFG.thr_hi -/
def meshCfgThrHi : Fld := ⟨0x38040, 23, 16⟩
/-- MESH.CFG.thr_lo -/
def meshCfgThrLo : Fld := ⟨0x38040, 15, 8⟩
/-- MESH.CFG.thr_gap -/
def meshCfgThrGap : Fld := ⟨0x38040, 7, 4⟩
/-- MESH.CFG.mid_en -/
def meshCfgMidEn : Fld := ⟨0x38040, 0, 0⟩
/-- TILE.STATE.kind -/
def tileStateKind (i : Nat) : Fld := ⟨0x200040 + 0x1000 * i, 55, 48⟩
/-- TILE.STATE.unit -/
def tileStateUnit (i : Nat) : Fld := ⟨0x200040 + 0x1000 * i, 47, 40⟩
/-- TILE.STATE.throttled -/
def tileStateThrottled (i : Nat) : Fld := ⟨0x200040 + 0x1000 * i, 31, 31⟩
/-- TILE.STATE.state -/
def tileStateState (i : Nat) : Fld := ⟨0x200040 + 0x1000 * i, 26, 24⟩
/-- TILE.STATE.row -/
def tileStateRow (i : Nat) : Fld := ⟨0x200040 + 0x1000 * i, 5, 3⟩
/-- TILE.STATE.col -/
def tileStateCol (i : Nat) : Fld := ⟨0x200040 + 0x1000 * i, 2, 0⟩
/-- TILE.HOLD.nogate -/
def tileHoldNogate (i : Nat) : Fld := ⟨0x200048 + 0x1000 * i, 0, 0⟩
/-- PORT.LSTS.state -/
def portLstsState (i : Nat) : Fld := ⟨0x80040 + 0x1000 * i, 63, 61⟩
/-- PORT.LSTS.quar -/
def portLstsQuar (i : Nat) : Fld := ⟨0x80040 + 0x1000 * i, 60, 60⟩
/-- PORT.LSTS.grace -/
def portLstsGrace (i : Nat) : Fld := ⟨0x80040 + 0x1000 * i, 59, 59⟩
/-- PORT.LSTS.wchg -/
def portLstsWchg (i : Nat) : Fld := ⟨0x80040 + 0x1000 * i, 58, 58⟩
/-- PORT.LSTS.width -/
def portLstsWidth (i : Nat) : Fld := ⟨0x80040 + 0x1000 * i, 57, 56⟩
/-- PORT.LSTS.rate -/
def portLstsRate (i : Nat) : Fld := ⟨0x80040 + 0x1000 * i, 55, 54⟩
/-- PORT.LSTS.lanes -/
def portLstsLanes (i : Nat) : Fld := ⟨0x80040 + 0x1000 * i, 53, 50⟩
/-- PORT.LSTS.spare -/
def portLstsSpare (i : Nat) : Fld := ⟨0x80040 + 0x1000 * i, 49, 49⟩
/-- PORT.LSTS.spare_pos -/
def portLstsSparePos (i : Nat) : Fld := ⟨0x80040 + 0x1000 * i, 48, 48⟩
/-- PORT.LSTS.tx_seq -/
def portLstsTxSeq (i : Nat) : Fld := ⟨0x80040 + 0x1000 * i, 47, 36⟩
/-- PORT.LSTS.rx_seq -/
def portLstsRxSeq (i : Nat) : Fld := ⟨0x80040 + 0x1000 * i, 35, 24⟩
/-- PORT.LCFG.down_us -/
def portLcfgDownUs (i : Nat) : Fld := ⟨0x80048 + 0x1000 * i, 63, 48⟩
/-- PORT.LCFG.grace_us -/
def portLcfgGraceUs (i : Nat) : Fld := ⟨0x80048 + 0x1000 * i, 47, 32⟩
/-- PORT.LCFG.rpl_to -/
def portLcfgRplTo (i : Nat) : Fld := ⟨0x80048 + 0x1000 * i, 31, 24⟩
/-- PORT.LCFG.rpl_max -/
def portLcfgRplMax (i : Nat) : Fld := ⟨0x80048 + 0x1000 * i, 23, 20⟩
/-- PORT.LCTL.down -/
def portLctlDown (i : Nat) : Fld := ⟨0x80050 + 0x1000 * i, 2, 2⟩
/-- PORT.LCTL.retrain -/
def portLctlRetrain (i : Nat) : Fld := ⟨0x80050 + 0x1000 * i, 1, 1⟩
/-- PORT.LCTL.en -/
def portLctlEn (i : Nat) : Fld := ⟨0x80050 + 0x1000 * i, 0, 0⟩
/-- PORT.LWID.go -/
def portLwidGo (i : Nat) : Fld := ⟨0x80058 + 0x1000 * i, 63, 63⟩
/-- PORT.LWID.result -/
def portLwidResult (i : Nat) : Fld := ⟨0x80058 + 0x1000 * i, 62, 60⟩
/-- PORT.LWID.mask -/
def portLwidMask (i : Nat) : Fld := ⟨0x80058 + 0x1000 * i, 51, 48⟩
/-- PORT.LWID.req -/
def portLwidReq (i : Nat) : Fld := ⟨0x80058 + 0x1000 * i, 1, 0⟩
/-- PORT.WIN.low -/
def portWinLow (i : Nat) : Fld := ⟨0x80060 + 0x1000 * i, 63, 63⟩
/-- PORT.WIN.floor -/
def portWinFloor (i : Nat) : Fld := ⟨0x80060 + 0x1000 * i, 47, 32⟩
/-- PORT.WIN.min -/
def portWinMin (i : Nat) : Fld := ⟨0x80060 + 0x1000 * i, 31, 16⟩
/-- PORT.WIN.eff -/
def portWinEff (i : Nat) : Fld := ⟨0x80060 + 0x1000 * i, 15, 0⟩
/-- PORT.PEER.valid -/
def portPeerValid (i : Nat) : Fld := ⟨0x80068 + 0x1000 * i, 63, 63⟩
/-- PORT.PEER.gvalid -/
def portPeerGvalid (i : Nat) : Fld := ⟨0x80068 + 0x1000 * i, 62, 62⟩
/-- PORT.PEER.duo -/
def portPeerDuo (i : Nat) : Fld := ⟨0x80068 + 0x1000 * i, 61, 56⟩
/-- PORT.PEER.epoch -/
def portPeerEpoch (i : Nat) : Fld := ⟨0x80068 + 0x1000 * i, 55, 40⟩
/-- PORT.PEER.kind -/
def portPeerKind (i : Nat) : Fld := ⟨0x80068 + 0x1000 * i, 39, 38⟩
/-- PORT.PEER.fa -/
def portPeerFa (i : Nat) : Fld := ⟨0x80068 + 0x1000 * i, 17, 0⟩
/-- PORT.SPARE.req -/
def portSpareReq (i : Nat) : Fld := ⟨0x80070 + 0x1000 * i, 63, 63⟩
/-- PORT.SPARE.release -/
def portSpareRelease (i : Nat) : Fld := ⟨0x80070 + 0x1000 * i, 62, 62⟩
/-- PORT.SPARE.state -/
def portSpareState (i : Nat) : Fld := ⟨0x80070 + 0x1000 * i, 61, 59⟩
/-- PORT.SPARE.pos -/
def portSparePos (i : Nat) : Fld := ⟨0x80070 + 0x1000 * i, 58, 58⟩
/-- PORT.SPARE.auto -/
def portSpareAuto (i : Nat) : Fld := ⟨0x80070 + 0x1000 * i, 57, 57⟩
/-- LANE.MODE.rate -/
def laneModeRate (i : Nat) : Fld := ⟨0x100040 + 0x1000 * i, 11, 10⟩
/-- LANE.MODE.profile -/
def laneModeProfile (i : Nat) : Fld := ⟨0x100040 + 0x1000 * i, 9, 8⟩
/-- LANE.MODE.tx_inv -/
def laneModeTxInv (i : Nat) : Fld := ⟨0x100040 + 0x1000 * i, 7, 7⟩
/-- LANE.MODE.rx_pol -/
def laneModeRxPol (i : Nat) : Fld := ⟨0x100040 + 0x1000 * i, 6, 5⟩
/-- LANE.MODE.rx_norev -/
def laneModeRxNorev (i : Nat) : Fld := ⟨0x100040 + 0x1000 * i, 4, 4⟩
/-- LANE.MODE.loop -/
def laneModeLoop (i : Nat) : Fld := ⟨0x100040 + 0x1000 * i, 3, 2⟩
/-- LANE.TXEQ.commit -/
def laneTxeqCommit (i : Nat) : Fld := ⟨0x100048 + 0x1000 * i, 63, 63⟩
/-- LANE.TXEQ.reject -/
def laneTxeqReject (i : Nat) : Fld := ⟨0x100048 + 0x1000 * i, 62, 62⟩
/-- LANE.TXEQ.swing -/
def laneTxeqSwing (i : Nat) : Fld := ⟨0x100048 + 0x1000 * i, 54, 48⟩
/-- LANE.TXEQ.c_p1 -/
def laneTxeqCP1 (i : Nat) : Fld := ⟨0x100048 + 0x1000 * i, 34, 28⟩
/-- LANE.TXEQ.c_0 -/
def laneTxeqC0 (i : Nat) : Fld := ⟨0x100048 + 0x1000 * i, 27, 21⟩
/-- LANE.TXEQ.c_m1 -/
def laneTxeqCM1 (i : Nat) : Fld := ⟨0x100048 + 0x1000 * i, 20, 14⟩
/-- LANE.TXEQ.c_m2 -/
def laneTxeqCM2 (i : Nat) : Fld := ⟨0x100048 + 0x1000 * i, 13, 7⟩
/-- LANE.TXEQ.c_m3 -/
def laneTxeqCM3 (i : Nat) : Fld := ⟨0x100048 + 0x1000 * i, 6, 0⟩
/-- LANE.SCAN.start -/
def laneScanStart (i : Nat) : Fld := ⟨0x100068 + 0x1000 * i, 63, 63⟩
/-- LANE.SCAN.busy -/
def laneScanBusy (i : Nat) : Fld := ⟨0x100068 + 0x1000 * i, 62, 62⟩
/-- LANE.SCAN.status -/
def laneScanStatus (i : Nat) : Fld := ⟨0x100068 + 0x1000 * i, 61, 60⟩
/-- LANE.SCAN.eye -/
def laneScanEye (i : Nat) : Fld := ⟨0x100068 + 0x1000 * i, 59, 58⟩
/-- LANE.SCAN.phase -/
def laneScanPhase (i : Nat) : Fld := ⟨0x100068 + 0x1000 * i, 57, 52⟩
/-- LANE.SCAN.volt -/
def laneScanVolt (i : Nat) : Fld := ⟨0x100068 + 0x1000 * i, 51, 45⟩
/-- LANE.SCAN.depth -/
def laneScanDepth (i : Nat) : Fld := ⟨0x100068 + 0x1000 * i, 37, 32⟩
/-- LANE.SCANRES.errors -/
def laneScanresErrors (i : Nat) : Fld := ⟨0x100070 + 0x1000 * i, 39, 0⟩
/-- LANE.PGEN.en -/
def lanePgenEn (i : Nat) : Fld := ⟨0x100050 + 0x1000 * i, 63, 63⟩
/-- LANE.PGEN.pattern -/
def lanePgenPattern (i : Nat) : Fld := ⟨0x100050 + 0x1000 * i, 62, 60⟩
/-- LANE.PGEN.inj_traffic -/
def lanePgenInjTraffic (i : Nat) : Fld := ⟨0x100050 + 0x1000 * i, 59, 59⟩
/-- LANE.PGEN.inj_burst -/
def lanePgenInjBurst (i : Nat) : Fld := ⟨0x100050 + 0x1000 * i, 55, 48⟩
/-- LANE.PGEN.inj_period -/
def lanePgenInjPeriod (i : Nat) : Fld := ⟨0x100050 + 0x1000 * i, 47, 24⟩
/-- LANE.PCHK.en -/
def lanePchkEn (i : Nat) : Fld := ⟨0x100078 + 0x1000 * i, 63, 63⟩
/-- LANE.PCHK.pattern -/
def lanePchkPattern (i : Nat) : Fld := ⟨0x100078 + 0x1000 * i, 62, 60⟩
/-- LANE.PCHK.sync -/
def lanePchkSync (i : Nat) : Fld := ⟨0x100078 + 0x1000 * i, 59, 59⟩
/-- LANE.RXSTS.stage -/
def laneRxstsStage (i : Nat) : Fld := ⟨0x100058 + 0x1000 * i, 63, 61⟩
/-- LANE.RXSTS.lock -/
def laneRxstsLock (i : Nat) : Fld := ⟨0x100058 + 0x1000 * i, 60, 60⟩
/-- LANE.RXSTS.standby -/
def laneRxstsStandby (i : Nat) : Fld := ⟨0x100058 + 0x1000 * i, 59, 59⟩
/-- LANE.RXSTS.degraded -/
def laneRxstsDegraded (i : Nat) : Fld := ⟨0x100058 + 0x1000 * i, 58, 58⟩
/-- LANE.RXSTS.failed -/
def laneRxstsFailed (i : Nat) : Fld := ⟨0x100058 + 0x1000 * i, 57, 57⟩
/-- LANE.RXSTS.inv -/
def laneRxstsInv (i : Nat) : Fld := ⟨0x100058 + 0x1000 * i, 56, 56⟩
/-- LANE.RXSTS.rev -/
def laneRxstsRev (i : Nat) : Fld := ⟨0x100058 + 0x1000 * i, 55, 55⟩
/-- LANE.RXSTS.fpos -/
def laneRxstsFpos (i : Nat) : Fld := ⟨0x100058 + 0x1000 * i, 54, 53⟩
/-- LANE.RXSTS.saved -/
def laneRxstsSaved (i : Nat) : Fld := ⟨0x100058 + 0x1000 * i, 52, 52⟩
/-- LANE.RXSTS.attempts -/
def laneRxstsAttempts (i : Nat) : Fld := ⟨0x100058 + 0x1000 * i, 51, 48⟩
/-- LANE.RXSTS.ser -/
def laneRxstsSer (i : Nat) : Fld := ⟨0x100058 + 0x1000 * i, 47, 40⟩
/-- LANE.RXCTL.repair -/
def laneRxctlRepair (i : Nat) : Fld := ⟨0x100060 + 0x1000 * i, 63, 63⟩
/-- LANE.RXCTL.freeze -/
def laneRxctlFreeze (i : Nat) : Fld := ⟨0x100060 + 0x1000 * i, 62, 62⟩
/-- LANE.RXCTL.nosaved -/
def laneRxctlNosaved (i : Nat) : Fld := ⟨0x100060 + 0x1000 * i, 61, 61⟩
/-- LANE.RXCTL.auto_repair -/
def laneRxctlAutoRepair (i : Nat) : Fld := ⟨0x100060 + 0x1000 * i, 60, 60⟩
/-- LANE.RXCTL.ser_warn -/
def laneRxctlSerWarn (i : Nat) : Fld := ⟨0x100060 + 0x1000 * i, 47, 40⟩
/-- LANE.RXCTL.ser_fail -/
def laneRxctlSerFail (i : Nat) : Fld := ⟨0x100060 + 0x1000 * i, 39, 32⟩
/-- LANE.RXCTL.tap_age -/
def laneRxctlTapAge (i : Nat) : Fld := ⟨0x100060 + 0x1000 * i, 31, 16⟩
/-- LANE.RXCTL.repair_ivl -/
def laneRxctlRepairIvl (i : Nat) : Fld := ⟨0x100060 + 0x1000 * i, 15, 8⟩
/-- STORE.CFG.unit_idle -/
def storeCfgUnitIdle : Fld := ⟨0x40040, 63, 48⟩
/-- STORE.CFG.stage_hi -/
def storeCfgStageHi : Fld := ⟨0x40040, 47, 40⟩
/-- STORE.CFG.bg_share -/
def storeCfgBgShare : Fld := ⟨0x40040, 39, 32⟩
/-- STORE.CFG.rebuild -/
def storeCfgRebuild : Fld := ⟨0x40040, 0, 0⟩
/-- STORE.STS.state -/
def storeStsState : Fld := ⟨0x40048, 63, 60⟩
/-- STORE.STS.rebuilding -/
def storeStsRebuilding : Fld := ⟨0x40048, 59, 59⟩
/-- STORE.STS.degraded -/
def storeStsDegraded : Fld := ⟨0x40048, 58, 58⟩
/-- STORE.STS.dies -/
def storeStsDies : Fld := ⟨0x40048, 48, 40⟩
/-- STORE.STS.objects -/
def storeStsObjects : Fld := ⟨0x40048, 20, 0⟩
/-- STORE.SPACE.free -/
def storeSpaceFree : Fld := ⟨0x40050, 63, 32⟩
/-- STORE.SPACE.reserved -/
def storeSpaceReserved : Fld := ⟨0x40050, 31, 0⟩
/-- STORE.SCRUB.interval -/
def storeScrubInterval : Fld := ⟨0x40058, 63, 54⟩
/-- STORE.SCRUB.thresh -/
def storeScrubThresh : Fld := ⟨0x40058, 53, 44⟩
/-- STORE.SCRUB.rd_limit -/
def storeScrubRdLimit : Fld := ⟨0x40058, 43, 24⟩
/-- STORE.WEAR.delta -/
def storeWearDelta : Fld := ⟨0x40060, 63, 48⟩
/-- STORE.WEAR.life -/
def storeWearLife : Fld := ⟨0x40060, 47, 32⟩
/-- STORE.WEAR.max -/
def storeWearMax : Fld := ⟨0x40060, 31, 16⟩
/-- STORE.WEAR.min -/
def storeWearMin : Fld := ⟨0x40060, 15, 0⟩
/-- STORE.ABSENT.die -/
def storeAbsentDie (k : Nat) : Fld := ⟨0x40070 + 8 * k, 63, 0⟩
/-- STORE.FMT.go -/
def storeFmtGo : Fld := ⟨0x40090, 63, 63⟩
/-- STORE.FMT.result -/
def storeFmtResult : Fld := ⟨0x40090, 7, 0⟩
/-- STORE.GDLOG.valid -/
def storeGdlogValid : Fld := ⟨0x40098, 63, 63⟩
/-- STORE.GDLOG.overrun -/
def storeGdlogOverrun : Fld := ⟨0x40098, 62, 62⟩
/-- STORE.GDLOG.cause -/
def storeGdlogCause : Fld := ⟨0x40098, 61, 60⟩
/-- STORE.GDLOG.die -/
def storeGdlogDie : Fld := ⟨0x40098, 31, 24⟩
/-- STORE.GDLOG.block -/
def storeGdlogBlock : Fld := ⟨0x40098, 23, 0⟩
/-- STORE.RECOV.clean -/
def storeRecovClean : Fld := ⟨0x400A0, 63, 63⟩
/-- STORE.RECOV.torn -/
def storeRecovTorn : Fld := ⟨0x400A0, 40, 20⟩
/-- STORE.RECOV.dropped -/
def storeRecovDropped : Fld := ⟨0x400A0, 19, 0⟩
/-- STCH.BUS.present -/
def stchBusPresent (i : Nat) : Fld := ⟨0x41040 + 0x1000 * i, 15, 8⟩
/-- STCH.BUS.rate -/
def stchBusRate (i : Nat) : Fld := ⟨0x41040 + 0x1000 * i, 1, 0⟩
/-- MODE.STS.busy -/
def modeStsBusy : Fld := ⟨0x01040, 63, 63⟩
/-- MODE.STS.therm_latch -/
def modeStsThermLatch : Fld := ⟨0x01040, 62, 62⟩
/-- MODE.STS.mid_cause -/
def modeStsMidCause : Fld := ⟨0x01040, 19, 16⟩
/-- MODE.STS.target -/
def modeStsTarget : Fld := ⟨0x01040, 11, 8⟩
/-- MODE.STS.prev -/
def modeStsPrev : Fld := ⟨0x01040, 6, 4⟩
/-- MODE.STS.mode -/
def modeStsMode : Fld := ⟨0x01040, 2, 0⟩
/-- MODE.REQ.result -/
def modeReqResult : Fld := ⟨0x01048, 15, 8⟩
/-- MODE.REQ.code -/
def modeReqCode : Fld := ⟨0x01048, 3, 0⟩
/-- MODE.CFG.dusk_to -/
def modeCfgDuskTo : Fld := ⟨0x01050, 31, 16⟩
/-- MODE.CFG.host_to -/
def modeCfgHostTo : Fld := ⟨0x01050, 15, 0⟩
/-- MODE.CAUSE.tile -/
def modeCauseTile : Fld := ⟨0x01058, 13, 8⟩
/-- MODE.CAUSE.cause -/
def modeCauseCause : Fld := ⟨0x01058, 5, 0⟩
/-- GOV.CTL.freeze -/
def govCtlFreeze : Fld := ⟨0x02040, 1, 1⟩
/-- GOV.CTL.en -/
def govCtlEn : Fld := ⟨0x02040, 0, 0⟩
/-- GOV.BUDGET.max_rt -/
def govBudgetMaxRt : Fld := ⟨0x02048, 47, 40⟩
/-- GOV.BUDGET.min_step -/
def govBudgetMinStep : Fld := ⟨0x02048, 33, 32⟩
/-- GOV.BUDGET.pcap -/
def govBudgetPcap : Fld := ⟨0x02048, 15, 0⟩
/-- GOV.PORTPOL.nar_lo -/
def govPortpolNarLo : Fld := ⟨0x02050, 63, 56⟩
/-- GOV.PORTPOL.wid_hi -/
def govPortpolWidHi : Fld := ⟨0x02050, 55, 48⟩
/-- GOV.PORTPOL.nar_n -/
def govPortpolNarN : Fld := ⟨0x02050, 47, 36⟩
/-- GOV.PORTPOL.hold -/
def govPortpolHold : Fld := ⟨0x02050, 35, 24⟩
/-- GOV.PORTPOL.wide_q -/
def govPortpolWideQ : Fld := ⟨0x02050, 23, 12⟩
/-- GOV.PORTPOL.sb_delay -/
def govPortpolSbDelay : Fld := ⟨0x02050, 11, 8⟩
/-- GOV.PORTPOL.min_g -/
def govPortpolMinG : Fld := ⟨0x02050, 7, 6⟩
/-- GOV.PORTPOL.min_y -/
def govPortpolMinY : Fld := ⟨0x02050, 5, 5⟩
/-- GOV.PORTPOL.min_x -/
def govPortpolMinX : Fld := ⟨0x02050, 4, 4⟩
/-- GOV.COREPOL.core_lo -/
def govCorepolCoreLo : Fld := ⟨0x02058, 63, 56⟩
/-- GOV.COREPOL.core_hi -/
def govCorepolCoreHi : Fld := ⟨0x02058, 55, 48⟩
/-- GOV.COREPOL.core_n -/
def govCorepolCoreN : Fld := ⟨0x02058, 47, 36⟩
/-- GOV.GATEPOL.gate_idle -/
def govGatepolGateIdle : Fld := ⟨0x02060, 63, 48⟩
/-- GOV.GATEPOL.pg_idle -/
def govGatepolPgIdle : Fld := ⟨0x02060, 47, 32⟩
/-- GOV.GATEPOL.probe_ivl -/
def govGatepolProbeIvl : Fld := ⟨0x02060, 31, 16⟩
/-- GOV.STS.power -/
def govStsPower : Fld := ⟨0x02068, 63, 48⟩
/-- GOV.STS.retraining -/
def govStsRetraining : Fld := ⟨0x02068, 47, 40⟩
/-- GOV.STS.gated -/
def govStsGated : Fld := ⟨0x02068, 39, 33⟩
/-- GOV.STS.asleep -/
def govStsAsleep : Fld := ⟨0x02068, 32, 26⟩
/-- GOV.STS.saving -/
def govStsSaving : Fld := ⟨0x02068, 2, 2⟩
/-- GOV.STS.step -/
def govStsStep : Fld := ⟨0x02068, 1, 0⟩
/-- THERM.LIM.warn -/
def thermLimWarn (k : Nat) : Fld := ⟨0x04040 + 8 * k, 63, 56⟩
/-- THERM.LIM.throttle -/
def thermLimThrottle (k : Nat) : Fld := ⟨0x04040 + 8 * k, 55, 48⟩
/-- THERM.LIM.twi -/
def thermLimTwi (k : Nat) : Fld := ⟨0x04040 + 8 * k, 47, 40⟩
/-- THERM.LIM.crit -/
def thermLimCrit (k : Nat) : Fld := ⟨0x04040 + 8 * k, 39, 32⟩
/-- THERM.STS.die -/
def thermStsDie : Fld := ⟨0x04060, 63, 56⟩
/-- THERM.STS.die_tile -/
def thermStsDieTile : Fld := ⟨0x04060, 55, 50⟩
/-- THERM.STS.nand -/
def thermStsNand : Fld := ⟨0x04060, 47, 40⟩
/-- THERM.STS.cool -/
def thermStsCool : Fld := ⟨0x04060, 39, 32⟩
/-- THERM.STS.sensor_fail -/
def thermStsSensorFail : Fld := ⟨0x04060, 6, 6⟩
/-- THERM.STS.level -/
def thermStsLevel : Fld := ⟨0x04060, 5, 0⟩
/-- PWR.CTL.clear -/
def pwrCtlClear : Fld := ⟨0x03040, 2, 2⟩
/-- PWR.CTL.sw_off -/
def pwrCtlSwOff : Fld := ⟨0x03040, 1, 1⟩
/-- PWR.CFG.inrush_ms -/
def pwrCfgInrushMs : Fld := ⟨0x03048, 63, 48⟩
/-- PWR.CFG.run_us -/
def pwrCfgRunUs : Fld := ⟨0x03048, 47, 32⟩
/-- PWR.CFG.fold_w -/
def pwrCfgFoldW : Fld := ⟨0x03048, 31, 23⟩
/-- PWR.CFG.retries -/
def pwrCfgRetries : Fld := ⟨0x03048, 22, 20⟩
/-- PWR.STS.state -/
def pwrStsState : Fld := ⟨0x03050, 63, 61⟩
/-- PWR.STS.pg -/
def pwrStsPg : Fld := ⟨0x03050, 60, 60⟩
/-- PWR.STS.pwr_en -/
def pwrStsPwrEn : Fld := ⟨0x03050, 59, 59⟩
/-- PWR.STS.in_ok -/
def pwrStsInOk : Fld := ⟨0x03050, 58, 58⟩
/-- PWR.STS.aux_ok -/
def pwrStsAuxOk : Fld := ⟨0x03050, 57, 57⟩
/-- PWR.STS.fold -/
def pwrStsFold : Fld := ⟨0x03050, 56, 56⟩
/-- PWR.STS.ilim -/
def pwrStsIlim : Fld := ⟨0x03050, 55, 55⟩
/-- PWR.STS.sense_mis -/
def pwrStsSenseMis : Fld := ⟨0x03050, 54, 54⟩
/-- PWR.STS.tries -/
def pwrStsTries : Fld := ⟨0x03050, 53, 50⟩
/-- PWR.MEAS.vin -/
def pwrMeasVin : Fld := ⟨0x03058, 63, 48⟩
/-- PWR.MEAS.vout -/
def pwrMeasVout : Fld := ⟨0x03058, 47, 32⟩
/-- PWR.MEAS.iin -/
def pwrMeasIin : Fld := ⟨0x03058, 31, 16⟩
/-- PWR.MEAS.pin -/
def pwrMeasPin : Fld := ⟨0x03058, 15, 0⟩
/-- PWR.TEMP.sensed -/
def pwrTempSensed : Fld := ⟨0x03060, 63, 56⟩
/-- PWR.TEMP.model -/
def pwrTempModel : Fld := ⟨0x03060, 55, 48⟩
/-- PWR.TEMP.used -/
def pwrTempUsed : Fld := ⟨0x03060, 47, 40⟩
/-- PWR.FLTLOG.valid -/
def pwrFltlogValid : Fld := ⟨0x03068, 63, 63⟩
/-- PWR.FLTLOG.overrun -/
def pwrFltlogOverrun : Fld := ⟨0x03068, 62, 62⟩
/-- PWR.FLTLOG.cause -/
def pwrFltlogCause : Fld := ⟨0x03068, 55, 48⟩
/-- PWR.FLTLOG.tries -/
def pwrFltlogTries : Fld := ⟨0x03068, 47, 44⟩
/-- PWR.FLTLOG.at_ms -/
def pwrFltlogAtMs : Fld := ⟨0x03068, 31, 0⟩
/-- RST.CTL.module -/
def rstCtlModule : Fld := ⟨0x06040, 63, 63⟩
/-- RST.CTL.fabric -/
def rstCtlFabric : Fld := ⟨0x06040, 62, 62⟩
/-- RST.CTL.mmp -/
def rstCtlMmp : Fld := ⟨0x06040, 61, 61⟩
/-- RST.CTL.lane -/
def rstCtlLane : Fld := ⟨0x06040, 60, 60⟩
/-- RST.CTL.keep -/
def rstCtlKeep : Fld := ⟨0x06040, 59, 59⟩
/-- RST.CTL.lane_no -/
def rstCtlLaneNo : Fld := ⟨0x06040, 6, 0⟩
/-- RST.LAST.valid -/
def rstLastValid : Fld := ⟨0x06048, 63, 63⟩
/-- RST.LAST.kind -/
def rstLastKind : Fld := ⟨0x06048, 62, 60⟩
/-- RST.LAST.source -/
def rstLastSource : Fld := ⟨0x06048, 59, 56⟩
/-- RST.LAST.master -/
def rstLastMaster : Fld := ⟨0x06048, 55, 52⟩
/-- RST.LAST.count -/
def rstLastCount : Fld := ⟨0x06048, 15, 0⟩
/-- TRUST.STS.lifecycle -/
def trustStsLifecycle : Fld := ⟨0x08040, 63, 62⟩
/-- TRUST.STS.slot -/
def trustStsSlot : Fld := ⟨0x08040, 61, 61⟩
/-- TRUST.STS.fallback -/
def trustStsFallback : Fld := ⟨0x08040, 60, 60⟩
/-- TRUST.STS.debug -/
def trustStsDebug : Fld := ⟨0x08040, 59, 59⟩
/-- TRUST.STS.revoked -/
def trustStsRevoked : Fld := ⟨0x08040, 58, 57⟩
/-- TRUST.STS.trunc -/
def trustStsTrunc : Fld := ⟨0x08040, 56, 56⟩
/-- TRUST.STS.log_n -/
def trustStsLogN : Fld := ⟨0x08040, 55, 48⟩
/-- TRUST.SVN.run3 -/
def trustSvnRun3 : Fld := ⟨0x08048, 47, 40⟩
/-- TRUST.SVN.run2 -/
def trustSvnRun2 : Fld := ⟨0x08048, 39, 32⟩
/-- TRUST.SVN.run1 -/
def trustSvnRun1 : Fld := ⟨0x08048, 31, 24⟩
/-- TRUST.SVN.ctr3 -/
def trustSvnCtr3 : Fld := ⟨0x08048, 23, 16⟩
/-- TRUST.SVN.ctr2 -/
def trustSvnCtr2 : Fld := ⟨0x08048, 15, 8⟩
/-- TRUST.SVN.ctr1 -/
def trustSvnCtr1 : Fld := ⟨0x08048, 7, 0⟩
/-- TRUST.IDSTS.busy -/
def trustIdstsBusy : Fld := ⟨0x08050, 63, 63⟩
/-- TRUST.IDSTS.exhausted -/
def trustIdstsExhausted : Fld := ⟨0x08050, 62, 62⟩
/-- TRUST.IDSTS.left -/
def trustIdstsLeft : Fld := ⟨0x08050, 55, 32⟩
/-- TRUST.IDSTS.next -/
def trustIdstsNext : Fld := ⟨0x08050, 24, 0⟩
/-- TRUST.MCTPID.iana -/
def trustMctpidIana : Fld := ⟨0x08058, 31, 0⟩
/-- TRUST.FWCTL.open -/
def trustFwctlOpen : Fld := ⟨0x09040, 63, 63⟩
/-- TRUST.FWCTL.write -/
def trustFwctlWrite : Fld := ⟨0x09040, 62, 62⟩
/-- TRUST.FWCTL.verify -/
def trustFwctlVerify : Fld := ⟨0x09040, 61, 61⟩
/-- TRUST.FWCTL.activate -/
def trustFwctlActivate : Fld := ⟨0x09040, 60, 60⟩
/-- TRUST.FWCTL.confirm -/
def trustFwctlConfirm : Fld := ⟨0x09040, 59, 59⟩
/-- TRUST.FWCTL.advance -/
def trustFwctlAdvance : Fld := ⟨0x09040, 58, 58⟩
/-- TRUST.FWCTL.busy -/
def trustFwctlBusy : Fld := ⟨0x09040, 57, 57⟩
/-- TRUST.FWCTL.result -/
def trustFwctlResult : Fld := ⟨0x09040, 15, 8⟩
/-- TRUST.FWCTL.slot -/
def trustFwctlSlot : Fld := ⟨0x09040, 0, 0⟩
/-- TRUST.FWOFF.offset -/
def trustFwoffOffset : Fld := ⟨0x09048, 24, 10⟩
/-- TRUST.KSLOT.used -/
def trustKslotUsed (k : Nat) : Fld := ⟨0x0A100 + 8 * k, 63, 63⟩
/-- TRUST.KSLOT.nd -/
def trustKslotNd (k : Nat) : Fld := ⟨0x0A100 + 8 * k, 15, 0⟩
/-- SAMPLE.CTR.snap -/
def sampleCtrSnap : Fld := ⟨0x18040, 1, 1⟩
/-- SAMPLE.CTR.freeze -/
def sampleCtrFreeze : Fld := ⟨0x18040, 0, 0⟩
/-- SAMPLE.SNAPT.ns -/
def sampleSnaptNs : Fld := ⟨0x18048, 63, 0⟩
/-- SAMPLE.UVIS.vis -/
def sampleUvisVis (k : Nat) : Fld := ⟨0x18080 + 8 * k, 63, 0⟩
/-- SAMPLE.CFG.commit -/
def sampleCfgCommit : Fld := ⟨0x18050, 63, 63⟩
/-- SAMPLE.CFG.en -/
def sampleCfgEn : Fld := ⟨0x18050, 62, 62⟩
/-- SAMPLE.CFG.k -/
def sampleCfgK : Fld := ⟨0x18050, 52, 48⟩
/-- SAMPLE.CFG.wq_sel -/
def sampleCfgWqSel : Fld := ⟨0x18050, 47, 32⟩
/-- SAMPLE.CFG.cr -/
def sampleCfgCr : Fld := ⟨0x18050, 31, 16⟩
/-- SAMPLE.CFG.result -/
def sampleCfgResult : Fld := ⟨0x18050, 15, 8⟩
/-- SAMPLE.STS.active -/
def sampleStsActive : Fld := ⟨0x18058, 63, 63⟩
/-- SAMPLE.STS.err -/
def sampleStsErr : Fld := ⟨0x18058, 62, 62⟩
/-- SAMPLE.STS.tagged -/
def sampleStsTagged : Fld := ⟨0x18058, 40, 32⟩
/-- HOST.LSTS.up -/
def hostLstsUp (i : Nat) : Fld := ⟨0x20040 + 0x1000 * i, 63, 63⟩
/-- HOST.LSTS.perst -/
def hostLstsPerst (i : Nat) : Fld := ⟨0x20040 + 0x1000 * i, 62, 62⟩
/-- HOST.LSTS.rate -/
def hostLstsRate (i : Nat) : Fld := ⟨0x20040 + 0x1000 * i, 61, 59⟩
/-- HOST.LSTS.width -/
def hostLstsWidth (i : Nat) : Fld := ⟨0x20040 + 0x1000 * i, 58, 54⟩
/-- HOST.LSTS.arr -/
def hostLstsArr (i : Nat) : Fld := ⟨0x20040 + 0x1000 * i, 53, 52⟩
/-- HOST.LSTS.rev -/
def hostLstsRev (i : Nat) : Fld := ⟨0x20040 + 0x1000 * i, 51, 51⟩
/-- HOST.LSTS.slow -/
def hostLstsSlow (i : Nat) : Fld := ⟨0x20040 + 0x1000 * i, 50, 50⟩
/-- HOST.LSTS.refclk_lost -/
def hostLstsRefclkLost (i : Nat) : Fld := ⟨0x20040 + 0x1000 * i, 49, 49⟩
/-- HOST.LSTS.atomic -/
def hostLstsAtomic (i : Nat) : Fld := ⟨0x20040 + 0x1000 * i, 48, 48⟩
/-- CLK.NREF.ok1 -/
def clkNrefOk1 : Fld := ⟨0x05040, 4, 4⟩
/-- CLK.NREF.ok0 -/
def clkNrefOk0 : Fld := ⟨0x05040, 3, 3⟩
/-- CLK.NREF.act -/
def clkNrefAct : Fld := ⟨0x05040, 2, 2⟩
/-- CLK.NREF.auto -/
def clkNrefAuto : Fld := ⟨0x05040, 1, 1⟩
/-- CLK.NREF.sel -/
def clkNrefSel : Fld := ⟨0x05040, 0, 0⟩
/-- TIME.NOW.ns -/
def timeNowNs : Fld := ⟨0x14040, 63, 0⟩
/-- TIME.NOWF.ns_lo -/
def timeNowfNsLo : Fld := ⟨0x14048, 63, 16⟩
/-- TIME.NOWF.frac -/
def timeNowfFrac : Fld := ⟨0x14048, 15, 0⟩
/-- TIME.STS.synced -/
def timeStsSynced : Fld := ⟨0x14050, 63, 63⟩
/-- TIME.STS.holdover -/
def timeStsHoldover : Fld := ⟨0x14050, 62, 62⟩
/-- TIME.STS.gm -/
def timeStsGm : Fld := ⟨0x14050, 61, 61⟩
/-- TIME.STS.port -/
def timeStsPort : Fld := ⟨0x14050, 55, 50⟩
/-- TIME.STS.dist -/
def timeStsDist : Fld := ⟨0x14050, 49, 45⟩
/-- TIME.STS.offset -/
def timeStsOffset : Fld := ⟨0x14050, 31, 0⟩
/-- TIME.CFG.period -/
def timeCfgPeriod : Fld := ⟨0x14058, 15, 8⟩
/-- TIME.CFG.gm -/
def timeCfgGm : Fld := ⟨0x14058, 0, 0⟩
/-- TIME.SET.ns -/
def timeSetNs : Fld := ⟨0x14060, 63, 0⟩
/-- SEM.GMASK.mask -/
def semGmaskMask (k : Nat) : Fld := ⟨0x0C040 + 8 * k, 15, 0⟩
/-- SEM.WAIT.n -/
def semWaitN : Fld := ⟨0x0C0C0, 7, 0⟩
/-- SEM.WKPND.pend -/
def semWkpndPend (k : Nat) : Fld := ⟨0x0C100 + 8 * k, 63, 0⟩
/-- SEM.LOCK.waiters -/
def semLockWaiters (k : Nat) : Fld := ⟨0x0C800 + 8 * k, 31, 16⟩
/-- SEM.LOCK.broken -/
def semLockBroken (k : Nat) : Fld := ⟨0x0C800 + 8 * k, 4, 4⟩
/-- SEM.LOCK.owner -/
def semLockOwner (k : Nat) : Fld := ⟨0x0C800 + 8 * k, 3, 0⟩
/-- CHK.CTL.start -/
def chkCtlStart (k : Nat) : Fld := ⟨0x0D100 + 64 * k, 2, 2⟩
/-- CHK.CTL.sel -/
def chkCtlSel (k : Nat) : Fld := ⟨0x0D100 + 64 * k, 1, 0⟩
/-- CHK.VAL.val -/
def chkValVal (k : Nat) : Fld := ⟨0x0D108 + 64 * k, 63, 0⟩
/-- CHK.RESULT.result -/
def chkResultResult (k : Nat) : Fld := ⟨0x0D110 + 64 * k, 63, 0⟩
/-- CHK.FEED8.feed -/
def chkFeed8Feed (k : Nat) : Fld := ⟨0x0D118 + 64 * k, 7, 0⟩
/-- CHK.FEED16.feed -/
def chkFeed16Feed (k : Nat) : Fld := ⟨0x0D120 + 64 * k, 15, 0⟩
/-- CHK.FEED32.feed -/
def chkFeed32Feed (k : Nat) : Fld := ⟨0x0D128 + 64 * k, 31, 0⟩
/-- CHK.BYTES.bytes -/
def chkBytesBytes (k : Nat) : Fld := ⟨0x0D130 + 64 * k, 47, 0⟩
/-- EVT.ENT.en -/
def evtEntEn (i k : Nat) : Fld := ⟨0x10800 + 0x1000 * i + 8 * k, 63, 63⟩
/-- EVT.ENT.dest -/
def evtEntDest (i k : Nat) : Fld := ⟨0x10800 + 0x1000 * i + 8 * k, 62, 62⟩
/-- EVT.ENT.fallback -/
def evtEntFallback (i k : Nat) : Fld := ⟨0x10800 + 0x1000 * i + 8 * k, 61, 61⟩
/-- EVT.ENT.asserted -/
def evtEntAsserted (i k : Nat) : Fld := ⟨0x10800 + 0x1000 * i + 8 * k, 60, 60⟩
/-- EVT.ENT.link -/
def evtEntLink (i k : Nat) : Fld := ⟨0x10800 + 0x1000 * i + 8 * k, 57, 56⟩
/-- EVT.ENT.vector -/
def evtEntVector (i k : Nat) : Fld := ⟨0x10800 + 0x1000 * i + 8 * k, 42, 32⟩
/-- EVT.SRCPND.pend -/
def evtSrcpndPend (i k : Nat) : Fld := ⟨0x10040 + 0x1000 * i + 8 * k, 63, 0⟩
/-- PSCH.BKT.cir -/
def pschBktCir (i k : Nat) : Fld := ⟨0xB0080 + 0x1000 * i + 8 * k, 63, 44⟩
/-- PSCH.BKT.pir -/
def pschBktPir (i k : Nat) : Fld := ⟨0xB0080 + 0x1000 * i + 8 * k, 43, 24⟩
/-- PSCH.BKT.cbs -/
def pschBktCbs (i k : Nat) : Fld := ⟨0xB0080 + 0x1000 * i + 8 * k, 23, 12⟩
/-- PSCH.BKT.pbs -/
def pschBktPbs (i k : Nat) : Fld := ⟨0xB0080 + 0x1000 * i + 8 * k, 11, 0⟩
/-- XPT.INJSHP.cir -/
def xptInjshpCir (k : Nat) : Fld := ⟨0x30400 + 8 * k, 63, 44⟩
/-- XPT.INJSHP.pir -/
def xptInjshpPir (k : Nat) : Fld := ⟨0x30400 + 8 * k, 43, 24⟩
/-- XPT.INJSHP.cbs -/
def xptInjshpCbs (k : Nat) : Fld := ⟨0x30400 + 8 * k, 23, 12⟩
/-- XPT.INJSHP.pbs -/
def xptInjshpPbs (k : Nat) : Fld := ⟨0x30400 + 8 * k, 11, 0⟩
/-- TRUST.FWWIN.data -/
def trustFwwinData (k : Nat) : Fld := ⟨0x09100 + 8 * k, 63, 0⟩
/-- TRUST.IDPUB.key -/
def trustIdpubKey (k : Nat) : Fld := ⟨0x08080 + 8 * k, 63, 0⟩
/-- EVT.SWSET.n -/
def evtSwsetN : Fld := ⟨0x10080, 9, 0⟩

end F

end Sys2Proof.Machine
end

