-- ==== Sys2Proof/Machine/TrainFrames.lean ====
section
/-! DEFINITION. What a lane's transmitter sends (R552, R553, R567, R569): training frames symbol by symbol, patterns, and the symbols that
error injection replaces. -/

namespace Sys2Proof.Machine

/-- What the identity block of a training frame says (R553). -/
structure TrainFrame where
  pos : Nat
  kind : Nat
  ready : Bool
  count : Nat
  rate : Nat
  spare : Bool
  deriving DecidableEq, Repr

/-- What a lane's transmitter sends: electrical idle, training frames of an identity, the flit stream, or a pattern of PGEN. -/
inductive LaneTx where
  | idle
  | frames (f : TrainFrame)
  | flits
  | pattern (k : Nat)
  deriving DecidableEq, Repr

/-- A PAM4 level for two bits, Gray-coded (R543, R552): the first is the most significant. -/
def grayLevel (a b : Bool) : Nat :=
  match a, b with
  | false, false => 0
  | false, true => 1
  | true, true => 2
  | true, false => 3

/-- A step of the generator of x^13 + x^12 + x^2 + x + 1 (R552): its next bit, and the register with that bit shifted in (log 147). -/
def prbs13Step (s : Nat) : Bool × Nat :=
  let b := ((nbit s 0 ^^ nbit s 1) ^^ (nbit s 11 ^^ nbit s 12))
  (b, (2 * s + b2n b) % 2 ^ 13)

/-- The first symbols of PRBS13Q from a register (R552). -/
def prbs13q : Nat → Nat → List Nat
  | 0, _ => []
  | n + 1, s =>
    let (a, s1) := prbs13Step s
    let (b, s2) := prbs13Step s1
    grayLevel a b :: prbs13q n s2

/-- The generator's seed at a transmit position (R552). -/
def trainSeed : Nat → Nat
  | 0 => 0x1ABD
  | 1 => 0x0F3C
  | 2 => 0x05E1
  | _ => 0x1762

/-- The marker of a training frame (R552). -/
def trainMarker : List Nat := [3, 3, 3, 0, 0, 0, 3, 3, 0, 0, 3, 0, 3, 0, 0, 3, 3, 3, 3, 0, 0, 0, 0, 0, 3, 0, 3, 3, 0, 3, 0, 0]

/-- The identity block (R553), its check over bits 63:16. -/
def TrainFrame.block (f : TrainFrame) : Nat :=
  let head := f.pos % 4 * 2 ^ 46 + f.kind % 4 * 2 ^ 44 + b2n f.ready * 2 ^ 43 + f.count % 16 * 2 ^ 39 + f.rate % 4 * 2 ^ 37 + b2n f.spare * 2 ^ 36
  head * 2 ^ 16 + (crcKind 3).feed 0 (beBytes 6 head)

/-- The symbols of an identity block: two bits each, the most significant first (R553). -/
def TrainFrame.identity (f : TrainFrame) : List Nat :=
  (List.range 32).map fun i => grayLevel (nbit f.block (63 - 2 * i)) (nbit f.block (62 - 2 * i))

/-- The 16,384 symbols of a training frame (R552). -/
def TrainFrame.symbols (f : TrainFrame) : List Nat := prbs13q 16320 (trainSeed f.pos) ++ trainMarker ++ f.identity

/-- The level adjacent to one, as a single-bit error makes it (R569; log 148). -/
def adjacentLevel (k : Nat) : Nat := if k % 2 = 0 then k + 1 else k - 1

/-- Whether a symbol, numbered from the start of the injection, is replaced (R569): the first of every period are (log 148). -/
def injectsAt (burst period i : Nat) : Bool := decide (i % (period * 1024) < burst)

/-- A stretch of symbols as error injection leaves it, from the i-th on (R569). -/
def injectErrors (burst period : Nat) : Nat → List Nat → List Nat
  | _, [] => []
  | i, k :: l => (if injectsAt burst period i then adjacentLevel k else k) :: injectErrors burst period (i + 1) l

/-- Symbols that have been replaced among the first n (R569). -/
def injectedIn (burst period n : Nat) : Nat := n / (period * 1024) * burst + min burst (n % (period * 1024))

/-- Symbols of a lane in some ns at a rate (R543). -/
def symbolsIn (rate ns : Nat) : Nat :=
  ns * (match rate with
    | 0 => 1120000
    | 1 => 1062500
    | 2 => 531250
    | _ => 265625) / 10000

end Sys2Proof.Machine
end

