-- ==== Sys2Proof/Machine/Emit.lean ====
section
/-! DEFINITION. What the module sends out. -/

namespace Sys2Proof.Machine

/-- One thing the module sends, in the order it sends it. -/
inductive Emit where
  /-- An MSI-X message on a host link, with the address and data of its table entry (R74). -/
  | msix (link vector : Nat) (addr data : Word)
  /-- An event message to the MMP for a source (R74, R80). -/
  | mmpMsg (source : Nat)
  /-- A posted write to host memory through a link (R161). -/
  | hostWrite (link addr : Nat) (bytes : List Byte)
  /-- A PCI Express AtomicOp through a link: 0 FetchAdd, 1 Swap, 2 CAS, with its operands (R269, R746). -/
  | hostAtomic (link addr op : Nat) (a b : Word)
  /-- The bytes of a packet started on a port, with its link sequence number (R194, R508). -/
  | packet (port seq : Nat) (bytes : List Byte)
  /-- A control flit sent on a port (R503). -/
  | flit (port : Nat) (bytes : List Byte)
  /-- An MCTP message answered on the sideband (R707). -/
  | mctp (bytes : List Byte)
  /-- A change of what a lane's transmitter sends (R552, R562, R567). -/
  | lane (n : Nat) (what : LaneTx)
  /-- New transmitter settings of a lane, as TXEQ holds them (R547). -/
  | settings (n : Nat) (txeq : Word)
  /-- From now on a lane's transmitter replaces so many symbols in every period of so many × 1,024; 0 symbols end it (R569). -/
  | inject (n burst period : Nat)
  deriving DecidableEq, Repr

end Sys2Proof.Machine
end

