-- ==== Sys2Proof/Machine/MatchTypes.lean ====
section
/-! DEFINITION. State of the matching tiles (chapter "Tag matching, eager delivery and rendezvous"). -/

namespace Sys2Proof.Machine

/-- States of a matching context (R288); a FREE context has no entry. -/
inductive MctxState where
  | active | error | closing
  deriving DecidableEq, Repr

/-- A posted entry (R307). `spill` is its place in the tile's spill pool; none = on chip. -/
structure Posted where
  tag : Nat
  ignore : Nat
  rank : Nat
  wq : Nat
  user : Bool
  bufVa : Nat
  length : Nat
  wqeTag : Nat
  statusVa : Nat
  postSeq : Nat
  asid : Nat
  link : Nat
  spill : Option Nat
  deriving DecidableEq, Repr

/-- A message that is unexpected or order-held (R307), with the connection and MSN its packets carry; `conn` is none once
that receive direction has started over. -/
structure Unexp where
  mctx : Nat
  tag : Nat
  rank : Nat
  srcFa : Nat
  msgLen : Nat
  bounce : Option Nat
  rts : Bool
  held : Bool
  handle : Nat
  landed : Nat
  /-- offset and length of what has landed in the bounce buffer, by offset -/
  parts : List (Nat × Nat)
  arrSeq : Nat
  conn : Option Nat
  msn : Nat
  tc : Nat
  spill : Option Nat
  deriving DecidableEq, Repr

/-- A matched message that is being delivered (R313–R325): the receive it goes to, bytes expected, accepted and written. -/
structure Delivery where
  mctx : Nat
  recv : Posted
  tag : Nat
  rank : Nat
  srcFa : Nat
  msgLen : Nat
  expect : Nat
  rts : Bool
  /-- the connection it arrives on, and the MSN of an EAGER message's packets -/
  conn : Option Nat
  msn : Nat
  /-- rendezvous: number in the module of the RDV_GET, and its MSN once it is acknowledged -/
  getMsg : Nat
  getMsn : Option Nat
  /-- bounce buffer to free at the end -/
  bounce : Option Nat
  landed : Nat
  landing : Landing
  written : Nat
  deriving DecidableEq, Repr

/-- A matching context. -/
structure Mctx where
  nd : Nat
  cr : Nat
  eagerLimit : Nat
  bounceSize : Nat
  bounceVa : Nat
  bounceCount : Nat
  state : MctxState
  posted : List Posted
  postSeq : Nat
  arrSeq : Nat
  cursor : Nat
  /-- bounce buffers in use -/
  bounces : List Nat
  /-- entries released by the DESTROY_MATCH in progress -/
  released : Nat
  deriving DecidableEq, Repr

/-- A live rendezvous entry (R318): its generation, the TSEND and its source, and how far it is. -/
structure Rdv where
  gen : Nat
  op : Nat
  va : Nat
  length : Nat
  asid : Nat
  link : Nat
  user : Bool
  fa : Nat
  nd : Nat
  rtsDone : Bool
  /-- an RDV_GET has arrived: the length it asks -/
  asked : Option Nat
  dataDone : Bool
  deriving DecidableEq, Repr

/-- The matching tiles. -/
structure Matching where
  ctxs : List (Nat × Mctx)
  unexp : List Unexp
  deliveries : List Delivery
  rdvs : List (Nat × Rdv)
  /-- generations of the rendezvous entries; unlisted = 0 -/
  gens : List (Nat × Nat)
  /-- the places of the spill pools in use, by tile × 2^32 + index: the `next` and `landed` that stand there (R307) -/
  pool : List (Nat × Nat × Nat)
  deriving DecidableEq, Repr

/-- Matching tiles with nothing in them. -/
def Matching.init : Matching := { ctxs := [], unexp := [], deliveries := [], rdvs := [], gens := [], pool := [] }

end Sys2Proof.Machine
end

