-- ==== Sys2Proof/Machine/NetTypes.lean ====
section
/-! DEFINITION. State of the fabric side of the module: output queues and the egress scheduler, the die mesh, the route tables,
the links, and the lanes (chapters "Traffic classes", "Adaptive routing", "The on-die tile mesh", "The link layer" and
"224 Gb/s lanes"). -/

namespace Sys2Proof.Machine

/-! ## Queues, buckets and gates -/

/-- A packet queued for an output port (R446, R482): a descriptor. -/
structure QPkt where
  /-- number of the packet in the module; its mesh transfer bears the same -/
  id : Nat
  pkt : Packet
  /-- the tile that holds its cells (R482) -/
  inTile : Nat
  /-- the network port whose receive buffer holds it; none where the module originated it -/
  inPort : Option Nat
  /-- a notice built here, in a slot the port kept for itself (R507) -/
  ownStub : Bool
  /-- start and length of its dwell clock, ns (R446, R453) -/
  enq : Nat
  dwell : Nat
  /-- held at a gate, held by a bucket: already counted (R726) -/
  heldGate : Bool
  heldBucket : Bool
  deriving DecidableEq, Repr

/-- A bucket pair (R402): levels in 1/3200 byte, and the time they stood so. -/
structure Bucket where
  peak : Int
  comm : Int
  time : Nat
  deriving DecidableEq, Repr

/-- A gate schedule (R414): whether there are gates at all, the base instant, and each entry's open mask and duration, ns. -/
structure Sched where
  en : Bool
  base : Nat
  ents : List (Nat × Nat)
  deriving DecidableEq, Repr

/-! ## The mesh -/

/-- How far a data transfer across the mesh has come (R479–R481). -/
inductive XferStage where
  /-- its descriptor waits at the source for an offer credit (R482) -/
  | unsent
  /-- the offer is on its way -/
  | offered
  /-- the offer has been consumed and waits for room -/
  | queued
  /-- the grant is on its way -/
  | granting
  /-- the source may inject -/
  | granted
  deriving DecidableEq, Repr

/-- A data transfer across the mesh: of a packet to its output port, or of an engine. -/
structure Xfer where
  id : Nat
  src : Nat
  dst : Nat
  cells : Nat
  /-- output port of a packet's transfer -/
  out : Option Nat
  /-- number of the multicast it belongs to; 0 for none (R488) -/
  group : Nat
  stage : XferStage
  grantedAt : Nat
  /-- indices placed at the destination -/
  placed : List Nat
  deriving DecidableEq, Repr

/-- Where a cell is: at its source, not yet injected (R477); on its way to a tile's router, with the core cycles left before it gets
there (R474); or ejected at its destination. -/
inductive CellAt where
  | waiting
  | link (tile wait : Nat)
  | sunk
  deriving DecidableEq, Repr

/-- A cell: its sideband (R473), where it is, and what the sideband does not hold: the multicast it belongs to, whether it asks for
relaying (R489), and whether its reaching the senior age has been counted. -/
structure Cell where
  xfer : Nat
  index : Nat
  /-- destination; of a multicast, a tile of the row or column it serves -/
  dst : Nat
  src : Nat
  mid : Nat
  phase : Bool
  age : Nat
  kind : Nat
  mask : Nat
  mdim : Bool
  /-- number of the multicast a copy belongs to; 0 for none -/
  group : Nat
  /-- a cell of the group route table (R461, R489), and whether it is relayed -/
  table : Bool
  relay : Bool
  aged : Bool
  place : CellAt
  deriving DecidableEq, Repr

/-- A release on its way to an input tile (R484). -/
structure Rel where
  id : Nat
  inTile : Nat
  inPort : Option Nat
  flits : Nat
  notice : Bool
  ownStub : Bool
  deriving DecidableEq, Repr

/-! ## Links -/

/-- A packet in a replay buffer (R509): when its replay timer, started at its last transmission, runs out (R515), and whether it spends
credits when sent again (R526). -/
structure RPkt where
  seq : Nat
  pkt : Packet
  due : Nat
  respend : Bool
  deriving DecidableEq, Repr

/-- A control flit a port owes (R505). -/
inductive Ctl where
  | replay (seq reason : Nat)
  | width (op width : Nat) (forced : Bool) (mask id : Nat)
  | spare (op pos : Nat)
  | link (qclr retrain down : Bool)
  | time
  | train
  deriving DecidableEq, Repr

/-- What a received TRAIN flit says (R504), its time block apart. -/
structure Train where
  fa : Nat
  gvalid : Bool
  qmaster : Bool
  ack : Bool
  stateValid : Bool
  epoch : Nat
  duo : Nat
  kind : Nat
  width : Nat
  rate : Nat
  lanes : Nat
  lastAcc : Nat
  freeReg : Nat
  freeStub : Nat
  token : Nat
  deriving DecidableEq, Repr

/-- A width change that this end asked for (R532, R533). -/
structure WOwn where
  id : Nat
  width : Nat
  mask : Nat
  forced : Bool
  /-- it widens: PREP first -/
  prep : Bool
  sentReady : Bool
  gotReady : Bool
  reqSent : Bool
  txDone : Bool
  rxDone : Bool
  deriving DecidableEq, Repr

/-- A width change that the other end asked for. -/
structure WFar where
  id : Nat
  width : Nat
  mask : Nat
  txDone : Bool
  rxDone : Bool
  deriving DecidableEq, Repr

/-- Lanes the other end, or a substitution, asked to bring up: the mask, and whether READY has been sent (R533). -/
structure WAdd where
  id : Nat
  width : Nat
  mask : Nat
  sentReady : Bool
  /-- for a substitution (R541): the READY is a SPARE READY -/
  spare : Bool
  since : Nat
  deriving DecidableEq, Repr

/-- A congestion hint received (R439, R440): up bit and level of each quad, the X and the Y level, and when. -/
structure Hint where
  quads : List (Bool × Nat)
  x : Nat
  y : Nat
  time : Nat
  deriving DecidableEq, Repr

/-- A time block received (R539): its stamps, whole ns and 2^−16 parts, and when it arrived. -/
structure Stamp where
  ns : Nat
  frac : Nat
  rx : Nat
  deriving DecidableEq, Repr

/-- A port, beside its registers. A quad's port is that of its lead duo. -/
structure Port where
  queue : List QPkt
  /-- deficits of TC0–TC5 and the class last served, in the committed and in the peak tier (R399) -/
  defC : List Nat
  defP : List Nat
  posC : Nat
  posP : Nat
  /-- the class last served in a tier was on a visit of nonzero weight, which its deficit may go on with (R399–R401) -/
  midC : Bool
  midP : Bool
  buckets : List (Nat × Bucket)
  sched : Option Sched
  next : Option (Nat × Sched)
  /-- end of the packet in transmission, ps -/
  busy : Nat
  owes : List Ctl
  /-- credits held -/
  credReg : Nat
  credStub : Nat
  replay : List RPkt
  /-- packets of it that are to be sent again (R514, R526) -/
  again : List Nat
  /-- the packet that replays name in succession, and how many have (R516) -/
  rplSeq : Nat
  rplCount : Nat
  /-- receive side: slots that hold flits of accepted packets, stub slots that hold notices received and built -/
  rxReg : Nat
  rxStub : Nat
  rxOwn : Nat
  /-- slots freed that no LINK flit has carried, of each pool -/
  freedReg : Nat
  freedStub : Nat
  /-- slots reserved for the sender (R510) -/
  reserved : Nat
  hunting : Bool
  /-- the expected number of the last REPLAY sent, and when another may go (R513) -/
  rplSent : Option (Nat × Nat)
  /-- first change not reported, and the time of the last LINK flit (R511) -/
  unreported : Option Nat
  lastLink : Nat
  hint : Option Hint
  /-- sequence state is valid (R525) -/
  stateValid : Bool
  /-- the exchange: when it began, whether this end has sent an ack, and what has been received -/
  exchAt : Nat
  sentAck : Bool
  far : Option Train
  farAck : Bool
  token : Nat
  /-- the peer's token, for R535 -/
  peerToken : Nat
  /-- a retrain is under way, and when it takes the link down (R520) -/
  retrainEnd : Option Nat
  /-- set by a master's QCTL: survives retraining (R467) -/
  qmaster : Bool
  /-- the grace timer runs, and when it runs out (R530) -/
  graceEnd : Option Nat
  /-- when the first lane of the port reached RUN (R558) -/
  firstRun : Option Nat
  /-- the rate agreed at an exchange, where it is not that of MODE (R522, R544) -/
  rate : Option Nat
  /-- width agreed at the last training (R619, R644) -/
  trained : Nat
  wown : Option WOwn
  wfar : Option WFar
  wadd : Option WAdd
  /-- writes of LWID made while a change is in progress: staged once it has ended (R69) -/
  lwidLate : List Wr
  nextId : Nat
  /-- spare substitution: this end asked for it; READY sent and received -/
  spAsked : Bool
  spSent : Bool
  spGot : Bool
  /-- the release has narrowed and waits to widen again (R542) -/
  spBack : Bool
  /-- the last time block received (R539, R540) -/
  stamp : Option Stamp
  /-- dist and synced that the neighbour reports (R383), path delay and offset, ns -/
  farDist : Nat
  farSynced : Bool
  delay : Int
  offset : Option Int
  lastTime : Nat
  deriving DecidableEq, Repr

/-- A port with nothing queued and no link. -/
def Port.init : Port :=
  { queue := [], defC := [0, 0, 0, 0, 0, 0], defP := [0, 0, 0, 0, 0, 0], posC := 5, posP := 5, midC := false, midP := false, buckets := [], sched := none,
    next := none, busy := 0, owes := [], credReg := 0, credStub := 0, replay := [], again := [], rplSeq := 0, rplCount := 0, rxReg := 0,
    rxStub := 0, rxOwn := 0, freedReg := 0, freedStub := 0, reserved := 0, hunting := false, rplSent := none,
    unreported := none, lastLink := 0, hint := none, stateValid := false, exchAt := 0, sentAck := false, far := none,
    farAck := false, token := 0, peerToken := 0, retrainEnd := none, qmaster := false, graceEnd := none,
    firstRun := none, rate := none, trained := 0, wown := none, wfar := none, wadd := none, lwidLate := [], nextId := 0, spAsked := false, spSent := false, spGot := false,
    spBack := false, stamp := none, farDist := 31, farSynced := false, delay := 0, offset := none, lastTime := 0 }

/-! ## Lanes -/

/-- A lane's saved state (R559, R560): when it was taken, under which rate and profile, the polarity decision. -/
structure Saved where
  time : Nat
  rate : Nat
  profile : Nat
  inv : Bool
  adapted : Adapted
  deriving DecidableEq, Repr

/-- Error injection under way in a lane (R569): its setting and rate, since when, and how many replaced symbols have been counted. -/
structure Injection where
  burst : Nat
  period : Nat
  rate : Nat
  since : Nat
  counted : Nat
  deriving DecidableEq, Repr

/-- A lane, beside its registers. -/
structure Lane where
  saved : Option Saved
  /-- it comes up from saved state (R560) -/
  fast : Bool
  /-- it comes up as an added lane of a running port, without countdown (R563) -/
  added : Bool
  /-- MODE as the last bring-up took it -/
  mode : Word
  /-- TXEQ in force -/
  txeq : Word
  /-- start of the current stage -/
  stageAt : Nat
  /-- failed, and to be retried at the next bring-up of its port (R564) -/
  retry : Bool
  inj : Option Injection
  deriving DecidableEq, Repr

/-! ## The whole -/

/-- The fabric side of the module. -/
structure Net where
  ports : List (Nat × Port)
  lanes : List (Nat × Lane)
  /-- injection buckets by tile × 128 + profile × 8 + class (R411) -/
  inj : List (Nat × Bucket)
  nextPkt : Nat
  nextGroup : Nat
  xfers : List Xfer
  cells : List Cell
  rels : List Rel
  /-- core cycles the mesh has run, and in which of them a tile last put a cell on a plane, by 2 × tile + plane (R490) -/
  meshTime : Nat
  injectAt : List (Nat × Nat)
  /-- when a tile entered throttling -/
  throttleAt : List (Nat × Nat)
  /-- staging copy and master copy of the GRT, and the table before the spread in progress (R461) -/
  grtStage : List (Nat × Word)
  grt : List (Nat × Word)
  grtOld : List (Nat × Word)
  /-- port tiles known to use the new table of the spread in progress -/
  grtNew : List Nat
  /-- cells of the spread in progress that a port tile has received -/
  grtGot : List (Nat × Nat)
  /-- ports on which the last TC7 packet of an FA arrived (R767) -/
  lastTc7 : List (Nat × Nat)
  /-- fabric time: a correction in progress from a time on, ns (R386) -/
  slewAt : Nat
  slewBy : Int
  /-- since when the offset has stayed within ±2 ns (R384) -/
  nearAt : Option Nat
  /-- the time source as it was last judged (R383, R384) -/
  source : Option Nat
  deriving DecidableEq, Repr

/-- The fabric side at rest. -/
def Net.init : Net :=
  { ports := [], lanes := [], inj := [], nextPkt := 0, nextGroup := 1, xfers := [], cells := [], rels := [], meshTime := 0,
    injectAt := [], throttleAt := [], grtStage := [], grt := [], grtOld := [], grtNew := [], grtGot := [], lastTc7 := [], slewAt := 0, slewBy := 0,
    nearAt := none, source := none }

end Sys2Proof.Machine
end

