-- ==== Sys2Proof/Machine/RegTable.lean ====
section
/-! DEFINITION. The register map of the module: the page allocation (R49), and for every register of the
chapters' register tables its page block, offset, array shape, clock domain and fields with access type (R13),
range (R766) and reset value (R15). The numbers are those of the register tables of the spec; a reset value the spec
gives as fused, strapped, per port or per profile stands here as 0 and is set by the reset operation.
An access of type `own` belongs to a field whose write has a command of its own. -/

namespace Sys2Proof.Machine

/-- Access types of register fields (R13); `own` = the write is the effect of a command of its own. -/
inductive Access where
  | rw | ro | w1c | w1s | wo | rc | rwl | own
  deriving DecidableEq, Repr

/-- Clock domains (R57), in the order of their numbers in DEV.ACCERR.domain (R66). -/
inductive Dom where
  | core | lane | ltx | host | store | mgmt | aon
  deriving DecidableEq, Repr

/-- The number of a domain in DEV.ACCERR.domain (R66). -/
def Dom.code : Dom → Nat
  | .core => 0 | .lane => 1 | .ltx => 2 | .host => 3 | .store => 4 | .mgmt => 5 | .aon => 6

/-- One field of a register: its bits, access type, reset value, and the least and largest value a write may
set (R766); `hi < lo` never occurs, and a field without a stated range carries the full one. -/
structure FieldD where
  hi : Nat
  lo : Nat
  acc : Access
  reset : Nat
  min : Nat
  max : Nat
  deriving DecidableEq, Repr

/-- A field with no range of its own. -/
def fld (hi lo : Nat) (acc : Access) (reset : Nat) : FieldD :=
  { hi := hi, lo := lo, acc := acc, reset := reset, min := 0, max := 2 ^ (hi + 1 - lo) - 1 }

/-- A field with the range its table gives (R766). -/
def fldR (hi lo : Nat) (acc : Access) (reset min max : Nat) : FieldD :=
  { hi := hi, lo := lo, acc := acc, reset := reset, min := min, max := max }

/-- One register, or an array of `n` registers `stride` bytes apart, of every page of its block, or of the page with
instance `only` alone. -/
structure RegD where
  off : Nat
  n : Nat
  stride : Nat
  only : Option Nat
  dom : Dom
  fields : List FieldD
  deriving DecidableEq, Repr

/-- The blocks of R49. -/
inductive Blk where
  | dev | mode | gov | pwr | therm | clk | rst | trust | sem | chk | evt | time | sample | host | qctl | admin | dtu | xpt | match | coll | mesh | store | stch | port | psch | lane | route | tile
  deriving DecidableEq, Repr

/-- What R49 gives a block: its first page, its number of pages, the value of PG_ID.type and the clock domain of its
page header. -/
structure BlkInfo where
  blk : Blk
  base : Nat
  count : Nat
  type : Nat
  dom : Dom
  deriving DecidableEq, Repr

/-- The page allocation of R49, without the MSI-X pages, which R51 gives a layout of their own. -/
def pageMap : List BlkInfo := [
  ⟨.dev, 0x000, 1, 0x01, .mgmt⟩,
  ⟨.mode, 0x001, 1, 0x02, .mgmt⟩,
  ⟨.gov, 0x002, 1, 0x03, .mgmt⟩,
  ⟨.pwr, 0x003, 1, 0x04, .aon⟩,
  ⟨.therm, 0x004, 1, 0x05, .mgmt⟩,
  ⟨.clk, 0x005, 1, 0x06, .mgmt⟩,
  ⟨.rst, 0x006, 1, 0x07, .aon⟩,
  ⟨.trust, 0x008, 4, 0x08, .mgmt⟩,
  ⟨.sem, 0x00C, 1, 0x0C, .mgmt⟩,
  ⟨.chk, 0x00D, 1, 0x0D, .mgmt⟩,
  ⟨.evt, 0x010, 4, 0x10, .core⟩,
  ⟨.time, 0x014, 1, 0x14, .core⟩,
  ⟨.sample, 0x018, 1, 0x18, .core⟩,
  ⟨.host, 0x020, 4, 0x20, .host⟩,
  ⟨.qctl, 0x028, 1, 0x28, .core⟩,
  ⟨.admin, 0x029, 1, 0x29, .core⟩,
  ⟨.dtu, 0x02A, 1, 0x2A, .core⟩,
  ⟨.xpt, 0x030, 4, 0x30, .core⟩,
  ⟨.match, 0x034, 2, 0x34, .core⟩,
  ⟨.coll, 0x036, 2, 0x36, .core⟩,
  ⟨.mesh, 0x038, 1, 0x38, .core⟩,
  ⟨.store, 0x040, 1, 0x40, .store⟩,
  ⟨.stch, 0x041, 16, 0x41, .store⟩,
  ⟨.port, 0x080, 48, 0x80, .core⟩,
  ⟨.psch, 0x0B0, 48, 0xB0, .core⟩,
  ⟨.lane, 0x100, 96, 0xC0, .lane⟩,
  ⟨.route, 0x180, 1, 0xD0, .core⟩,
  ⟨.tile, 0x200, 64, 0xE0, .core⟩]

/-- Registers of the DEV page, without the page header and the counters. -/
def devRegs : List RegD := [
  -- DEV.IDENT: serial, store_dies, stepping, variant
  ⟨0x040, 1, 8, none, .mgmt, [fld 63 32 .ro 0, fld 23 16 .ro 0, fld 15 8 .ro 0, fld 3 0 .ro 0]⟩,
  -- DEV.FADDR: valid, strap_chg, wire_chk, group, fa
  ⟨0x048, 1, 8, none, .mgmt, [fld 63 63 .ro 0, fld 62 62 .w1c 0, fld 61 61 .rw 1, fld 41 32 .own 0, fld 17 0 .ro 0]⟩,
  -- DEV.ACCERR: valid, overrun, write, size, master, domain, page, offset
  ⟨0x050, 1, 8, none, .mgmt, [fld 63 63 .w1c 0, fld 62 62 .w1c 0, fld 61 61 .ro 0, fld 60 60 .ro 0, fld 55 52 .ro 0, fld 51 48 .ro 0, fld 43 32 .ro 0, fld 11 0 .ro 0]⟩]

/-- Registers of the MODE page, without the page header and the counters. -/
def modeRegs : List RegD := [
  -- MODE.STS: busy, therm_latch, mid_cause, target, prev, mode
  ⟨0x040, 1, 8, none, .mgmt, [fld 63 63 .ro 0, fld 62 62 .ro 0, fld 19 16 .ro 0, fld 11 8 .ro 0, fld 6 4 .ro 0, fld 2 0 .ro 0]⟩,
  -- MODE.REQ: result, code
  ⟨0x048, 1, 8, none, .mgmt, [fld 15 8 .ro 0, fld 3 0 .own 0]⟩,
  -- MODE.CFG: dusk_to, host_to
  ⟨0x050, 1, 8, none, .mgmt, [fldR 31 16 .rw 100 1 60000, fld 15 0 .rw 1000]⟩,
  -- MODE.CAUSE: tile, cause
  ⟨0x058, 1, 8, none, .mgmt, [fld 13 8 .ro 0, fld 5 0 .own 0]⟩]

/-- Registers of the GOV page, without the page header and the counters. -/
def govRegs : List RegD := [
  -- GOV.CTL: freeze, en
  ⟨0x040, 1, 8, none, .mgmt, [fld 1 1 .rw 0, fld 0 0 .rw 1]⟩,
  -- GOV.BUDGET: max_rt, min_step, pcap
  ⟨0x048, 1, 8, none, .mgmt, [fldR 47 40 .rw 2 1 48, fld 33 32 .rw 3, fld 15 0 .rw 0]⟩,
  -- GOV.PORTPOL: nar_lo, wid_hi, nar_n, hold, wide_q, sb_delay, min_g, min_y, min_x
  ⟨0x050, 1, 8, none, .mgmt, [fld 63 56 .rw 64, fld 55 48 .rw 192, fldR 47 36 .rw 100 1 4095, fld 35 24 .rw 1000, fldR 23 12 .rw 256 16 4095, fld 11 8 .rw 1, fldR 7 6 .rw 1 0 2, fld 5 5 .rw 0, fld 4 4 .rw 0]⟩,
  -- GOV.COREPOL: core_lo, core_hi, core_n
  ⟨0x058, 1, 8, none, .mgmt, [fld 63 56 .rw 102, fld 55 48 .rw 204, fldR 47 36 .rw 100 1 4095]⟩,
  -- GOV.GATEPOL: gate_idle, pg_idle, probe_ivl
  ⟨0x060, 1, 8, none, .mgmt, [fldR 63 48 .rw 100 10 65535, fldR 47 32 .rw 10 1 65535, fldR 31 16 .rw 100 10 65535]⟩,
  -- GOV.STS: power, retraining, gated, asleep, saving, step
  ⟨0x068, 1, 8, none, .mgmt, [fld 63 48 .ro 0, fld 47 40 .ro 0, fld 39 33 .ro 0, fld 32 26 .ro 0, fld 2 2 .ro 0, fld 1 0 .ro 0]⟩]

/-- Registers of the PWR page, without the page header and the counters. -/
def pwrRegs : List RegD := [
  -- PWR.CTL: clear, sw_off
  ⟨0x040, 1, 8, none, .aon, [fld 2 2 .own 0, fld 1 1 .own 0]⟩,
  -- PWR.CFG: inrush_ms, run_us, fold_w, retries
  ⟨0x048, 1, 8, none, .aon, [fldR 63 48 .rwl 80 10 200, fldR 47 32 .rwl 2000 100 10000, fldR 31 23 .rwl 150 75 300, fld 22 20 .rwl 3]⟩,
  -- PWR.STS: state, pg, pwr_en, in_ok, aux_ok, fold, ilim, sense_mis, tries
  ⟨0x050, 1, 8, none, .aon, [fld 63 61 .ro 0, fld 60 60 .ro 0, fld 59 59 .ro 0, fld 58 58 .ro 0, fld 57 57 .ro 0, fld 56 56 .ro 0, fld 55 55 .ro 0, fld 54 54 .ro 0, fld 53 50 .ro 0]⟩,
  -- PWR.MEAS: vin, vout, iin, pin
  ⟨0x058, 1, 8, none, .aon, [fld 63 48 .ro 0, fld 47 32 .ro 0, fld 31 16 .ro 0, fld 15 0 .ro 0]⟩,
  -- PWR.TEMP: sensed, model, used
  ⟨0x060, 1, 8, none, .aon, [fld 63 56 .ro 0, fld 55 48 .ro 0, fld 47 40 .ro 0]⟩,
  -- PWR.FLTLOG: valid, overrun, cause, tries, at_ms
  ⟨0x068, 1, 8, none, .aon, [fld 63 63 .w1c 0, fld 62 62 .w1c 0, fld 55 48 .ro 0, fld 47 44 .ro 0, fld 31 0 .ro 0]⟩]

/-- Registers of the THERM page, without the page header and the counters. -/
def thermRegs : List RegD := [
  -- THERM.LIM: warn, throttle, twi, crit
  ⟨0x040, 3, 8, none, .mgmt, [fld 63 56 .rwl 0, fld 55 48 .rwl 0, fld 47 40 .rwl 0, fld 39 32 .rwl 0]⟩,
  -- THERM.STS: die, die_tile, nand, cool, sensor_fail, level
  ⟨0x060, 1, 8, none, .mgmt, [fld 63 56 .ro 0, fld 55 50 .ro 0, fld 47 40 .ro 0, fld 39 32 .ro 0, fld 6 6 .ro 0, fld 5 0 .ro 0]⟩]

/-- Registers of the CLK page, without the page header and the counters. -/
def clkRegs : List RegD := [
  -- CLK.NREF: ok1, ok0, act, auto, sel
  ⟨0x040, 1, 8, none, .mgmt, [fld 4 4 .ro 0, fld 3 3 .ro 0, fld 2 2 .ro 0, fld 1 1 .rw 1, fld 0 0 .own 0]⟩]

/-- Registers of the RST page, without the page header and the counters. -/
def rstRegs : List RegD := [
  -- RST.CTL: module, fabric, mmp, lane, keep, lane_no
  ⟨0x040, 1, 8, none, .aon, [fld 63 63 .own 0, fld 62 62 .own 0, fld 61 61 .own 0, fld 60 60 .own 0, fld 59 59 .rw 0, fldR 6 0 .rw 0 0 95]⟩,
  -- RST.LAST: valid, kind, source, master, count
  ⟨0x048, 1, 8, none, .aon, [fld 63 63 .w1c 1, fld 62 60 .ro 0, fld 59 56 .ro 0, fld 55 52 .ro 0, fld 15 0 .ro 0]⟩]

/-- Registers of the TRUST pages, without the page header and the counters. -/
def trustRegs : List RegD := [
  -- TRUST.STS: lifecycle, slot, fallback, debug, revoked, trunc, log_n
  ⟨0x040, 1, 8, some 0, .mgmt, [fld 63 62 .ro 0, fld 61 61 .ro 0, fld 60 60 .ro 0, fld 59 59 .ro 0, fld 58 57 .ro 0, fld 56 56 .ro 0, fld 55 48 .ro 0]⟩,
  -- TRUST.SVN: run3, run2, run1, ctr3, ctr2, ctr1
  ⟨0x048, 1, 8, some 0, .mgmt, [fld 47 40 .ro 0, fld 39 32 .ro 0, fld 31 24 .ro 0, fld 23 16 .ro 0, fld 15 8 .ro 0, fld 7 0 .ro 0]⟩,
  -- TRUST.IDSTS: busy, exhausted, left, next
  ⟨0x050, 1, 8, some 0, .mgmt, [fld 63 63 .ro 0, fld 62 62 .ro 0, fld 55 32 .ro 0, fld 24 0 .ro 0]⟩,
  -- TRUST.MCTPID: iana
  ⟨0x058, 1, 8, some 0, .mgmt, [fld 31 0 .ro 0]⟩,
  -- TRUST.FWCTL: open, write, verify, activate, confirm, advance, busy, result, slot
  ⟨0x040, 1, 8, some 1, .mgmt, [fld 63 63 .own 0, fld 62 62 .own 0, fld 61 61 .own 0, fld 60 60 .own 0, fld 59 59 .own 0, fld 58 58 .own 0, fld 57 57 .ro 0, fld 15 8 .ro 0, fld 0 0 .rw 0]⟩,
  -- TRUST.FWOFF: offset
  ⟨0x048, 1, 8, some 1, .mgmt, [fld 24 10 .rw 0]⟩,
  -- TRUST.KSLOT: used, nd
  ⟨0x100, 64, 8, some 2, .mgmt, [fld 63 63 .ro 0, fld 15 0 .ro 0]⟩,
  -- TRUST.FWWIN: data
  ⟨0x100, 128, 8, some 1, .mgmt, [fld 63 0 .rw 0]⟩,
  -- TRUST.IDPUB: key
  ⟨0x080, 8, 8, some 0, .mgmt, [fld 63 0 .ro 0]⟩]

/-- Registers of the SEM page, without the page header and the counters. -/
def semRegs : List RegD := [
  -- SEM.GMASK: mask
  ⟨0x040, 16, 8, none, .mgmt, [fld 15 0 .rwl 1822]⟩,
  -- SEM.WAIT: n
  ⟨0x0C0, 1, 8, none, .mgmt, [fld 7 0 .own 0]⟩,
  -- SEM.WKPND: pend
  ⟨0x100, 64, 8, none, .mgmt, [fld 63 0 .w1c 0]⟩,
  -- SEM.LOCK: waiters, broken, owner
  ⟨0x800, 256, 8, none, .mgmt, [fld 31 16 .ro 0, fld 4 4 .ro 0, fld 3 0 .own 0]⟩]

/-- Registers of the CHK page, without the page header and the counters. -/
def chkRegs : List RegD := [
  -- CHK.CTL: start, sel
  ⟨0x100, 8, 64, none, .mgmt, [fld 2 2 .own 0, fld 1 0 .own 0]⟩,
  -- CHK.VAL: val
  ⟨0x108, 8, 64, none, .mgmt, [fld 63 0 .rw 0]⟩,
  -- CHK.RESULT: result
  ⟨0x110, 8, 64, none, .mgmt, [fld 63 0 .ro 0]⟩,
  -- CHK.FEED8: feed
  ⟨0x118, 8, 64, none, .mgmt, [fld 7 0 .own 0]⟩,
  -- CHK.FEED16: feed
  ⟨0x120, 8, 64, none, .mgmt, [fld 15 0 .own 0]⟩,
  -- CHK.FEED32: feed
  ⟨0x128, 8, 64, none, .mgmt, [fld 31 0 .own 0]⟩,
  -- CHK.BYTES: bytes
  ⟨0x130, 8, 64, none, .mgmt, [fld 47 0 .rw 0]⟩]

/-- Registers of the EVT pages, without the page header and the counters. -/
def evtRegs : List RegD := [
  -- EVT.ENT: en, dest, fallback, asserted, link, vector
  ⟨0x800, 256, 8, none, .core, [fld 63 63 .own 0, fld 62 62 .own 0, fld 61 61 .own 0, fld 60 60 .ro 0, fld 57 56 .own 0, fld 42 32 .own 0]⟩,
  -- EVT.SRCPND: pend
  ⟨0x040, 4, 8, none, .core, [fld 63 0 .own 0]⟩,
  -- EVT.SWSET: n
  ⟨0x080, 1, 8, some 0, .core, [fld 9 0 .own 0]⟩]

/-- Registers of the TIME page, without the page header and the counters. -/
def timeRegs : List RegD := [
  -- TIME.NOW: ns
  ⟨0x040, 1, 8, none, .core, [fld 63 0 .ro 0]⟩,
  -- TIME.NOWF: ns_lo, frac
  ⟨0x048, 1, 8, none, .core, [fld 63 16 .ro 0, fld 15 0 .ro 0]⟩,
  -- TIME.STS: synced, holdover, gm, port, dist, offset
  ⟨0x050, 1, 8, none, .core, [fld 63 63 .ro 0, fld 62 62 .ro 0, fld 61 61 .ro 0, fld 55 50 .ro 0, fld 49 45 .ro 31, fld 31 0 .ro 0]⟩,
  -- TIME.CFG: period, gm
  ⟨0x058, 1, 8, none, .core, [fldR 15 8 .rw 10 1 255, fld 0 0 .rw 0]⟩,
  -- TIME.SET: ns
  ⟨0x060, 1, 8, none, .core, [fld 63 0 .own 0]⟩]

/-- Registers of the SAMPLE page, without the page header and the counters. -/
def sampleRegs : List RegD := [
  -- SAMPLE.CTR: snap, freeze
  ⟨0x040, 1, 8, none, .core, [fld 1 1 .own 0, fld 0 0 .own 0]⟩,
  -- SAMPLE.SNAPT: ns
  ⟨0x048, 1, 8, none, .core, [fld 63 0 .ro 0]⟩,
  -- SAMPLE.UVIS: vis
  ⟨0x080, 9, 8, none, .core, [fld 63 0 .rw 0]⟩,
  -- SAMPLE.CFG: commit, en, k, wq_sel, cr, result
  ⟨0x050, 1, 8, none, .core, [fld 63 63 .own 0, fld 62 62 .rw 0, fld 52 48 .rw 10, fld 47 32 .rw 65535, fld 31 16 .rw 0, fld 15 8 .ro 0]⟩,
  -- SAMPLE.STS: active, err, tagged
  ⟨0x058, 1, 8, none, .core, [fld 63 63 .ro 0, fld 62 62 .w1c 0, fld 40 32 .ro 0]⟩]

/-- Registers of the HOST pages, without the page header and the counters. -/
def hostRegs : List RegD := [
  -- HOST.LSTS: up, perst, rate, width, arr, rev, slow, refclk_lost, atomic
  ⟨0x040, 1, 8, none, .host, [fld 63 63 .ro 0, fld 62 62 .ro 0, fld 61 59 .ro 0, fld 58 54 .ro 0, fld 53 52 .ro 0, fld 51 51 .ro 0, fld 50 50 .ro 0, fld 49 49 .ro 0, fld 48 48 .ro 0]⟩]

/-- Registers of the QCTL page, without the page header and the counters. -/
def qctlRegs : List RegD := [
  -- QCTL.WQTAB: base, link, size
  ⟨0x040, 1, 8, none, .core, [fld 63 12 .rw 0, fld 11 10 .rw 0, fldR 4 0 .rw 0 4 16]⟩,
  -- QCTL.CRTAB: base, size
  ⟨0x048, 1, 8, none, .core, [fld 63 12 .rw 0, fldR 4 0 .rw 0 4 16]⟩,
  -- QCTL.ERRLOG: valid, overrun, kind, cause, queue, index
  ⟨0x058, 1, 8, none, .core, [fld 63 63 .w1c 0, fld 62 62 .w1c 0, fld 61 61 .ro 0, fld 55 48 .ro 0, fld 47 32 .ro 0, fld 31 0 .ro 0]⟩,
  -- QCTL.CROVTO: timeout
  ⟨0x050, 1, 8, none, .core, [fldR 31 0 .rw 10000 0 1000000]⟩]

/-- Registers of the ADMIN page, without the page header and the counters. -/
def adminRegs : List RegD := [
  -- ADMIN.CUR: busy, opcode, index
  ⟨0x040, 1, 8, none, .core, [fld 63 63 .ro 0, fld 39 32 .ro 0, fld 31 0 .ro 0]⟩]

/-- Registers of the DTU page, without the page header and the counters. -/
def dtuRegs : List RegD := [
  -- DTU.ASTAB: base, link, size
  ⟨0x040, 1, 8, none, .core, [fld 63 12 .rw 0, fld 11 10 .rw 0, fldR 4 0 .rw 0 4 16]⟩,
  -- DTU.RBASE: base, link, en
  ⟨0x100, 16, 16, none, .core, [fld 63 12 .rwl 0, fld 11 10 .rwl 0, fld 0 0 .rwl 0]⟩,
  -- DTU.RLIM: limit
  ⟨0x108, 16, 16, none, .core, [fld 63 12 .rwl 0]⟩,
  -- DTU.FLTLOG: valid, overrun, source, type, level, asid, object
  ⟨0x060, 1, 8, none, .core, [fld 63 63 .w1c 0, fld 62 62 .w1c 0, fld 59 56 .ro 0, fld 55 48 .ro 0, fld 47 45 .ro 0, fld 31 16 .ro 0, fld 15 0 .ro 0]⟩,
  -- DTU.FLTVA: va
  ⟨0x068, 1, 8, none, .core, [fld 63 0 .ro 0]⟩]

/-- Registers of the XPT pages, without the page header and the counters. -/
def xptRegs : List RegD := [
  -- XPT.CONNTAB: base, link, size
  ⟨0x040, 1, 8, some 0, .core, [fld 63 12 .rw 0, fld 11 10 .rw 0, fldR 4 0 .rw 0 10 20]⟩,
  -- XPT.CFG: chal_gap, ack_delay, ack_count, mtu
  ⟨0x048, 1, 8, some 0, .core, [fldR 31 24 .rw 10 1 255, fldR 23 16 .rw 4 1 64, fldR 15 8 .rw 16 1 63, fldR 2 0 .rw 4 0 4]⟩,
  -- XPT.RTO: rto_init, rto_max, rto_min
  ⟨0x050, 1, 8, some 0, .core, [fldR 47 32 .rw 100 10 10000, fldR 31 16 .rw 10000 100 65535, fldR 15 0 .rw 20 2 1000]⟩,
  -- XPT.RNR: nd_wait, rnr_max, rnr_min
  ⟨0x058, 1, 8, some 0, .core, [fld 47 32 .rw 1000, fldR 31 16 .rw 8000 10 65535, fldR 15 0 .rw 8 1 1000]⟩,
  -- XPT.NONCE: nonce
  ⟨0x060, 1, 8, some 0, .core, [fld 63 0 .ro 0]⟩,
  -- XPT.FMGR: en, fa
  ⟨0x080, 4, 8, some 0, .core, [fld 63 63 .rwl 0, fld 17 0 .rwl 0]⟩,
  -- XPT.RGNDIR: base, link
  ⟨0x0A0, 1, 8, some 0, .core, [fld 63 12 .rw 0, fld 11 10 .rw 0]⟩,
  -- XPT.SHPSEL: prof
  ⟨0x0C0, 4, 8, some 0, .core, [fld 63 0 .rw 0]⟩,
  -- XPT.INJSHP: cir, pir, cbs, pbs
  ⟨0x400, 128, 8, some 0, .core, [fld 63 44 .rw 1048575, fld 43 24 .rw 1048575, fld 23 12 .rw 255, fld 11 0 .rw 255]⟩]

/-- Registers of the MATCH pages, without the page header and the counters. -/
def matchRegs : List RegD := [
  -- MATCH.SNDCFG: send_limit
  ⟨0x040, 1, 8, some 0, .core, [fldR 16 0 .rw 8192 0 65536]⟩,
  -- MATCH.SPILL: base, link, size
  ⟨0x048, 1, 8, none, .core, [fld 63 12 .rw 0, fld 11 10 .rw 0, fld 4 0 .rw 0]⟩,
  -- MATCH.ERRLOG: valid, overrun, cause, fault, mctx
  ⟨0x050, 1, 8, none, .core, [fld 63 63 .w1c 0, fld 62 62 .w1c 0, fld 55 48 .ro 0, fld 47 40 .ro 0, fld 11 0 .ro 0]⟩,
  -- MATCH.USE: bounce_free, unexp, posted
  ⟨0x058, 1, 8, none, .core, [fld 48 32 .ro 65536, fld 31 16 .ro 0, fld 15 0 .ro 0]⟩]

/-- Registers of the COLL pages, without the page header and the counters. -/
def collRegs : List RegD := [
  -- COLL.ERRLOG: valid, overrun, status, desc_off, origin_fa, coll
  ⟨0x050, 1, 8, none, .core, [fld 63 63 .w1c 0, fld 62 62 .w1c 0, fld 61 54 .ro 0, fld 53 46 .ro 0, fld 45 28 .ro 0, fld 9 0 .ro 0]⟩,
  -- COLL.USE: buf_free, lists, entries
  ⟨0x058, 1, 8, none, .core, [fld 44 32 .ro 4096, fld 31 18 .ro 0, fld 17 0 .ro 0]⟩]

/-- Registers of the MESH page, without the page header and the counters. -/
def meshRegs : List RegD := [
  -- MESH.CFG: senior, thr_hi, thr_lo, thr_gap, mid_en
  ⟨0x040, 1, 8, none, .core, [fldR 39 32 .rw 32 8 255, fldR 23 16 .rw 48 8 255, fld 15 8 .rw 16, fldR 7 4 .rw 2 2 15, fld 0 0 .rw 1]⟩]

/-- Registers of the STORE page, without the page header and the counters. -/
def storeRegs : List RegD := [
  -- STORE.CFG: unit_idle, stage_hi, bg_share, rebuild
  ⟨0x040, 1, 8, none, .store, [fldR 63 48 .rw 100 1 65535, fldR 47 40 .rw 75 25 95, fldR 39 32 .rw 10 1 50, fld 0 0 .rw 1]⟩,
  -- STORE.STS: state, rebuilding, degraded, dies, objects
  ⟨0x048, 1, 8, none, .store, [fld 63 60 .ro 0, fld 59 59 .ro 0, fld 58 58 .ro 0, fld 48 40 .ro 0, fld 20 0 .ro 0]⟩,
  -- STORE.SPACE: free, reserved
  ⟨0x050, 1, 8, none, .store, [fld 63 32 .ro 0, fld 31 0 .ro 0]⟩,
  -- STORE.SCRUB: interval, thresh, rd_limit
  ⟨0x058, 1, 8, none, .store, [fldR 63 54 .rw 168 1 720, fldR 53 44 .rw 80 1 255, fldR 43 24 .rw 100000 1000 1000000]⟩,
  -- STORE.WEAR: delta, life, max, min
  ⟨0x060, 1, 8, none, .store, [fldR 63 48 .rw 3000 100 30000, fld 47 32 .ro 0, fld 31 16 .ro 0, fld 15 0 .ro 0]⟩,
  -- STORE.ABSENT: die
  ⟨0x070, 4, 8, none, .store, [fld 63 0 .ro 0]⟩,
  -- STORE.FMT: go, result
  ⟨0x090, 1, 8, none, .store, [fld 63 63 .own 0, fld 7 0 .ro 0]⟩,
  -- STORE.GDLOG: valid, overrun, cause, die, block
  ⟨0x098, 1, 8, none, .store, [fld 63 63 .w1c 0, fld 62 62 .w1c 0, fld 61 60 .ro 0, fld 31 24 .ro 0, fld 23 0 .ro 0]⟩,
  -- STORE.RECOV: clean, torn, dropped
  ⟨0x0A0, 1, 8, none, .store, [fld 63 63 .ro 0, fld 40 20 .ro 0, fld 19 0 .ro 0]⟩]

/-- Registers of the STCH pages, without the page header and the counters. -/
def stchRegs : List RegD := [
  -- STCH.BUS: present, rate
  ⟨0x040, 1, 8, none, .store, [fld 15 8 .ro 0, fld 1 0 .rwl 0]⟩]

/-- Registers of the PORT pages, without the page header and the counters. -/
def portRegs : List RegD := [
  -- PORT.LSTS: state, quar, grace, wchg, width, rate, lanes, spare, spare_pos, tx_seq, rx_seq
  ⟨0x040, 1, 8, none, .core, [fld 63 61 .ro 0, fld 60 60 .ro 0, fld 59 59 .ro 0, fld 58 58 .ro 0, fld 57 56 .ro 0, fld 55 54 .ro 0, fld 53 50 .ro 0, fld 49 49 .ro 0, fld 48 48 .ro 0, fld 47 36 .ro 0, fld 35 24 .ro 0]⟩,
  -- PORT.LCFG: down_us, grace_us, rpl_to, rpl_max
  ⟨0x048, 1, 8, none, .core, [fldR 63 48 .rw 100 1 10000, fld 47 32 .rw 2000, fldR 31 24 .rw 60 5 255, fldR 23 20 .rw 8 1 15]⟩,
  -- PORT.LCTL: down, retrain, en
  ⟨0x050, 1, 8, none, .core, [fld 2 2 .own 0, fld 1 1 .own 0, fld 0 0 .own 1]⟩,
  -- PORT.LWID: go, result, mask, req
  ⟨0x058, 1, 8, none, .core, [fld 63 63 .own 0, fld 62 60 .ro 0, fld 51 48 .rw 15, fld 1 0 .rw 0]⟩,
  -- PORT.WIN: low, floor, min, eff
  ⟨0x060, 1, 8, none, .core, [fld 63 63 .w1c 0, fld 47 32 .rw 0, fld 31 16 .ro 0, fld 15 0 .ro 0]⟩,
  -- PORT.PEER: valid, gvalid, duo, epoch, kind, fa
  ⟨0x068, 1, 8, none, .core, [fld 63 63 .ro 0, fld 62 62 .ro 0, fld 61 56 .ro 0, fld 55 40 .ro 0, fld 39 38 .ro 0, fld 17 0 .ro 0]⟩,
  -- PORT.SPARE: req, release, state, pos, auto
  ⟨0x070, 1, 8, none, .core, [fld 63 63 .own 0, fld 62 62 .own 0, fld 61 59 .ro 0, fld 58 58 .rw 0, fld 57 57 .rw 1]⟩]

/-- Registers of the PSCH pages, without the page header and the counters. -/
def pschRegs : List RegD := [
  -- PSCH.WEIGHT: w
  ⟨0x040, 1, 8, none, .core, [fld 47 0 .rw 8830587504648]⟩,
  -- PSCH.GCTL: commit, en, count, result
  ⟨0x0C0, 1, 8, none, .core, [fld 63 63 .own 0, fld 62 62 .rw 0, fld 20 16 .rw 0, fld 15 8 .ro 0]⟩,
  -- PSCH.GSTS: active, pending, tflit, bypass, entry
  ⟨0x0C8, 1, 8, none, .core, [fld 63 63 .ro 0, fld 62 62 .ro 0, fld 47 32 .ro 2420, fld 15 8 .ro 0, fld 3 0 .ro 0]⟩,
  -- PSCH.GBASE: base
  ⟨0x0D0, 1, 8, none, .core, [fld 63 0 .rw 0]⟩,
  -- PSCH.GENT: open, dur
  ⟨0x100, 16, 8, none, .core, [fld 39 32 .rw 255, fld 31 0 .rw 0]⟩,
  -- PSCH.BKT: cir, pir, cbs, pbs
  ⟨0x080, 8, 8, none, .core, [fld 63 44 .rw 1048575, fld 43 24 .rw 1048575, fld 23 12 .rw 255, fld 11 0 .rw 255]⟩]

/-- Registers of the LANE pages, without the page header and the counters. -/
def laneRegs : List RegD := [
  -- LANE.MODE: rate, profile, tx_inv, rx_pol, rx_norev, loop
  ⟨0x040, 1, 8, none, .ltx, [fld 11 10 .own 0, fldR 9 8 .rw 0 0 2, fld 7 7 .rw 0, fldR 6 5 .rw 0 0 2, fld 4 4 .rw 0, fldR 3 2 .rw 0 0 2]⟩,
  -- LANE.TXEQ: commit, reject, swing, c_p1, c_0, c_m1, c_m2, c_m3
  ⟨0x048, 1, 8, none, .ltx, [fld 63 63 .own 0, fld 62 62 .ro 0, fld 54 48 .rw 0, fld 34 28 .rw 0, fld 27 21 .rw 0, fld 20 14 .rw 0, fld 13 7 .rw 0, fld 6 0 .rw 0]⟩,
  -- LANE.SCAN: start, busy, status, eye, phase, volt, depth
  ⟨0x068, 1, 8, none, .lane, [fld 63 63 .own 0, fld 62 62 .ro 0, fld 61 60 .ro 0, fldR 59 58 .rw 1 0 2, fld 57 52 .rw 0, fld 51 45 .rw 0, fldR 37 32 .rw 20 16 40]⟩,
  -- LANE.SCANRES: errors
  ⟨0x070, 1, 8, none, .lane, [fld 39 0 .ro 0]⟩,
  -- LANE.PGEN: en, pattern, inj_traffic, inj_burst, inj_period
  ⟨0x050, 1, 8, none, .ltx, [fld 63 63 .rw 0, fldR 62 60 .rw 0 0 4, fld 59 59 .rw 0, fld 55 48 .rw 0, fldR 47 24 .rw 1024 1 16777215]⟩,
  -- LANE.PCHK: en, pattern, sync
  ⟨0x078, 1, 8, none, .lane, [fld 63 63 .rw 0, fldR 62 60 .rw 0 0 4, fld 59 59 .ro 0]⟩,
  -- LANE.RXSTS: stage, lock, standby, degraded, failed, inv, rev, fpos, saved, attempts, ser
  ⟨0x058, 1, 8, none, .lane, [fld 63 61 .ro 0, fld 60 60 .ro 0, fld 59 59 .ro 0, fld 58 58 .ro 0, fld 57 57 .ro 0, fld 56 56 .ro 0, fld 55 55 .ro 0, fld 54 53 .ro 0, fld 52 52 .ro 0, fld 51 48 .ro 0, fld 47 40 .ro 0]⟩,
  -- LANE.RXCTL: repair, freeze, nosaved, auto_repair, ser_warn, ser_fail, tap_age, repair_ivl
  ⟨0x060, 1, 8, none, .lane, [fld 63 63 .own 0, fld 62 62 .rw 0, fld 61 61 .rw 0, fld 60 60 .rw 1, fld 47 40 .rw 40, fld 39 32 .rw 33, fldR 31 16 .rw 100 1 10000, fldR 15 8 .rw 10 1 255]⟩]

/-- Registers of the ROUTE page, without the page header and the counters. -/
def routeRegs : List RegD := [
  -- ROUTE.CFG: hop_max, imode, gmode, ngroups
  ⟨0x040, 1, 8, none, .core, [fldR 31 27 .rw 16 10 31, fld 24 24 .rw 1, fldR 23 22 .rw 0 0 2, fldR 10 0 .rw 1 1 1024]⟩,
  -- ROUTE.DWELL: tdwell
  ⟨0x048, 1, 8, none, .core, [fldR 9 0 .rw 8 1 1000]⟩,
  -- ROUTE.ADAPT: mark, vbias, ibias, hshift
  ⟨0x050, 1, 8, none, .core, [fld 47 32 .rw 1024, fld 31 16 .rw 128, fld 15 4 .rw 64, fldR 3 0 .rw 7 4 10]⟩,
  -- ROUTE.EPOCH: spread, epoch
  ⟨0x058, 1, 8, none, .core, [fld 63 63 .ro 0, fld 15 0 .ro 0]⟩,
  -- ROUTE.RCMD: go, load, result, new_epoch
  ⟨0x060, 1, 8, none, .core, [fld 63 63 .own 0, fld 62 62 .own 0, fld 55 48 .ro 0, fld 15 0 .rw 0]⟩,
  -- ROUTE.GSEL: view, index
  ⟨0x068, 1, 8, none, .core, [fld 63 63 .rw 0, fld 9 0 .rw 0]⟩,
  -- ROUTE.GDATA: entry
  ⟨0x070, 1, 8, none, .core, [fld 63 0 .own 0]⟩,
  -- ROUTE.HLTH: up, exit, index
  ⟨0x078, 1, 8, none, .core, [fld 31 31 .own 0, fld 17 16 .own 0, fld 9 0 .own 0]⟩,
  -- ROUTE.QCTL: set, clear, duo
  ⟨0x080, 1, 8, none, .core, [fld 9 9 .own 0, fld 8 8 .own 0, fld 5 0 .own 0]⟩,
  -- ROUTE.QSTS: cause
  ⟨0x088, 3, 8, none, .core, [fld 63 0 .ro 0]⟩,
  -- ROUTE.PMAP: map
  ⟨0x0A0, 4, 8, none, .core, [fld 63 0 .rwl 0]⟩]

/-- Registers of the TILE pages, without the page header and the counters. -/
def tileRegs : List RegD := [
  -- TILE.STATE: kind, unit, throttled, state, row, col
  ⟨0x040, 1, 8, none, .core, [fld 55 48 .ro 0, fld 47 40 .ro 0, fld 31 31 .ro 0, fld 26 24 .ro 0, fld 5 3 .ro 0, fld 2 0 .ro 0]⟩,
  -- TILE.HOLD: nogate
  ⟨0x048, 1, 8, none, .core, [fld 0 0 .rw 0]⟩]

/-- The registers of a block (R12). -/
def regsOf : Blk → List RegD
  | .dev => devRegs
  | .mode => modeRegs
  | .gov => govRegs
  | .pwr => pwrRegs
  | .therm => thermRegs
  | .clk => clkRegs
  | .rst => rstRegs
  | .trust => trustRegs
  | .sem => semRegs
  | .chk => chkRegs
  | .evt => evtRegs
  | .time => timeRegs
  | .sample => sampleRegs
  | .host => hostRegs
  | .qctl => qctlRegs
  | .admin => adminRegs
  | .dtu => dtuRegs
  | .xpt => xptRegs
  | .match => matchRegs
  | .coll => collRegs
  | .mesh => meshRegs
  | .store => storeRegs
  | .stch => stchRegs
  | .port => portRegs
  | .psch => pschRegs
  | .lane => laneRegs
  | .route => routeRegs
  | .tile => tileRegs

end Sys2Proof.Machine
end

