-- ==== Sys2Proof/Machine/RegReset.lean ====
section
/-! DEFINITION. Which page and register an offset of BAR0 names (R46, R49), and the value a register holds after a
cold reset (R15): the page header (R52), the values of the register tables, and the values the tables give per port,
per lane, per tile or by a table of their own. -/

namespace Sys2Proof.Machine

/-- The block of a page and the instance of the page in it (R49); none for a page that R49 does not list. -/
def blockOf (page : Nat) : Option (BlkInfo × Nat) :=
  match pageMap.find? (fun b => decide (b.base ≤ page) && decide (page < b.base + b.count)) with
  | none => none
  | some b => some (b, page - b.base)

/-- Whether a register of the table of a page's block lies at an offset of the page. -/
def RegD.at (inst off : Nat) (r : RegD) : Bool :=
  (match r.only with
    | none => true
    | some i => decide (i = inst)) &&
  decide (r.off ≤ off) && decide ((off - r.off) % r.stride = 0) && decide ((off - r.off) / r.stride < r.n)

/-- The register of the chapters' tables at an offset of BAR0. -/
def regAt (a : Nat) : Option RegD :=
  match blockOf (a / 0x1000) with
  | none => none
  | some (b, inst) => (regsOf b.blk).find? (RegD.at inst (a % 0x1000))

/-- A register's reset value from the reset values of its fields. -/
def RegD.resetWord (r : RegD) : Word := r.fields.foldl (fun w f => setBits w f.hi f.lo f.reset) 0

/-- Number of counters of each instance of a block (R726). -/
def ctrCount : Blk → Nat
  | .port => 12 | .psch => 24 | .lane => 9 | .route => 8 | .mesh => 12 | .xpt => 15 | .qctl => 8 | .dtu => 6
  | .match => 7 | .coll => 6 | .host => 5 | .store => 12 | .stch => 4 | .sample => 4
  | _ => 0

/-- The tile map of R469, row by row: the kind number TILE.STATE.kind gives, and the unit. -/
def tileMap : List (Nat × Nat) :=
  (List.range 16).map (fun d => (1, d)) ++
  [(1, 16), (1, 17), (2, 0), (3, 0), (3, 1), (2, 1), (1, 24), (1, 25)] ++
  [(1, 18), (1, 19), (4, 0), (6, 0), (7, 0), (4, 1), (1, 26), (1, 27)] ++
  [(1, 20), (1, 21), (5, 0), (9, 0), (8, 0), (5, 1), (1, 28), (1, 29)] ++
  [(1, 22), (1, 23), (2, 2), (3, 2), (3, 3), (2, 3), (1, 46), (1, 47)] ++
  (List.range 16).map (fun d => (1, 30 + d))

/-- Kind and unit of a tile (R469). -/
def tileKind (n : Nat) : Nat × Nat := (tileMap[n]?).getD (0, 0)

/-- The tile of a kind and unit (R469). -/
def tileOf (kind unit : Nat) : Nat := tileMap.findIdx (fun e => decide (e = (kind, unit)))

/-- Profile of a lane in the reference wiring (R545): 0 KR, 1 CR, 2 C2M. -/
def laneProfile (n : Nat) : Nat := if n < 30 then 0 else if n < 60 then 1 else 2

/-- TXEQ defaults of a profile (R545): swing in units of 10 mV, c(1), c(0), c(−1). -/
def txeqDefault : Nat → Nat × Int × Int × Int
  | 0 => (100, -4, 52, -8)
  | 1 => (90, -4, 54, -6)
  | _ => (60, -2, 58, -4)

/-- The reset value of TXEQ of a lane. -/
def txeqReset (n : Nat) : Word :=
  let (sw, p1, c0, m1) := txeqDefault (laneProfile n)
  setBits (setBits (setBits (setBits 0 54 48 sw) 34 28 (unsigned 7 p1)) 27 21 (unsigned 7 c0)) 20 14 (unsigned 7 m1)

/-- Whether a duo leads or belongs to a global quad in the reference wiring (R28). -/
def isQuadDuo (d : Nat) : Bool := decide (30 ≤ d) && decide (d < 46)

/-- The cold-reset thermal limits (R645), packed as THERM.LIM. -/
def thermReset : Nat → Word
  | 0 => setBits (setBits (setBits (setBits 0 63 56 95) 55 48 100) 47 40 105) 39 32 115
  | 1 => setBits (setBits (setBits (setBits 0 63 56 70) 55 48 75) 47 40 80) 39 32 85
  | _ => setBits (setBits (setBits (setBits 0 63 56 40) 55 48 45) 47 40 50) 39 32 55

/-- The header register at an offset below 0x040 of a page (R52). PG_CTL.enable resets to 0 (DESIGN CHOICE, log 2). -/
def headerReset (b : BlkInfo) (inst page off : Nat) : Word :=
  if off = 0x000 then setBits (setBits (setBits 0 27 16 page) 15 8 inst) 7 0 b.type
  else if off = 0x008 then 0x0100
  else 0

/-- The value after a cold reset of the register at an offset of BAR0. Fused and strapped values stand here as 0; the
cold reset and the strap sample write them. -/
def resetWord (a : Nat) : Word :=
  let page := a / 0x1000
  let off := a % 0x1000
  match blockOf page with
  | none => if off = 0 then setBits 0 27 16 page else 0
  | some (b, inst) =>
    if off < 0x40 then headerReset b inst page off
    else match b.blk, off with
      | .lane, 0x040 => setBits 0 9 8 (laneProfile inst)
      | .lane, 0x048 => txeqReset inst
      | .port, 0x040 => if isQuadDuo inst && inst % 2 = 1 then setBits 0 63 61 5 else 0
      | .port, 0x058 => setBits (setBits 0 51 48 0xF) 1 0 (if isQuadDuo inst then 2 else 1)
      | .port, 0x060 => setBits 0 47 32 (if isQuadDuo inst then 3672 else 1829)
      | .therm, 0x040 => thermReset 0
      | .therm, 0x048 => thermReset 1
      | .therm, 0x050 => thermReset 2
      | .gov, 0x048 => setBits (setBits (setBits 0 47 40 2) 33 32 3) 15 0 250
      | .tile, 0x040 =>
        let k := tileKind inst
        setBits (setBits (setBits (setBits 0 55 48 k.1) 47 40 k.2) 5 3 (inst / 8)) 2 0 (inst % 8)
      | _, _ =>
        match (regsOf b.blk).find? (RegD.at inst off) with
        | none => 0
        | some r => r.resetWord

end Sys2Proof.Machine
end

