-- ==== Sys2Proof/Machine/StoreTypes.lean ====
section
/-! DEFINITION. State of the checkpoint store (chapter "The checkpoint store"): objects, staging, programs under way, the journal,
commits, blocks and dies. -/

namespace Sys2Proof.Machine

/-- States of a live object (R573); a FREE object has no entry. -/
inductive ObjState where
  | opened | sealed | torn
  deriving DecidableEq, Repr

/-- A live object (R572–R575). Places in NAND are block keys: die × 2^24 + block. -/
structure Obj where
  /-- number of the object among all the store has had, so that what belongs to a deleted one is known -/
  inc : Nat
  state : ObjState
  capacity : Nat
  tlc : Bool
  damaged : Bool
  length : Nat
  /-- bytes that differ from 0 -/
  data : List (Nat × Byte)
  /-- a commit with seal has started (R580) -/
  sealing : Bool
  /-- length and bytes of the last journaled commit -/
  committed : Option (Nat × List (Nat × Byte))
  /-- where its units and parity units lay at that commit -/
  comPlaced : List (Nat × Nat)
  comParity : List (Nat × Nat)
  /-- that commit is one with seal -/
  sealRec : Bool
  /-- units of its reservation not yet drawn on, in TLC terms (R593) -/
  reserved : Nat
  /-- where its programmed units lie -/
  placed : List (Nat × Nat)
  /-- where its groups' parity units lie -/
  parity : List (Nat × Nat)
  /-- groups whose parity unit does not cover what is programmed -/
  stale : List Nat
  /-- groups among them whose parity is to be programmed though the group is not whole (R592) -/
  parDue : List Nat
  /-- units lost to two absent dies (R605): data unit u as 2u, the parity of group g as 2g + 1 -/
  lost : List Nat
  /-- its creation is journaled -/
  journaled : Bool
  deriving DecidableEq, Repr

/-- A unit of an object in staging: the ranges written, the time of its last write, and whether it is to be programmed though
partial (R592). -/
structure Staged where
  id : Nat
  inc : Nat
  u : Nat
  ranges : List (Nat × Nat)
  lastWrite : Nat
  due : Bool
  deriving DecidableEq, Repr

/-- A journal record (R608). -/
inductive JRec where
  | created (id inc : Nat)
  | unit (id inc slot blk : Nat)
  | superseded (id inc slot blk : Nat)
  | committed (n : Nat)
  | deleted (id inc : Nat)
  | retired (blk : Nat)
  | cleanStop
  deriving DecidableEq, Repr

/-- A program under way: data units of one channel, a parity unit, or a journal record in both copies. -/
inductive Prog where
  | data (id inc blk : Nat) (units : List Staged)
  | parity (id inc blk g : Nat)
  | record (r : JRec)
  deriving DecidableEq, Repr

/-- Whom a commit answers. -/
inductive Committer where
  | admin
  /-- a STORE_SYNC to the module's own FA -/
  | op (id : Nat)
  /-- a STORE_SYNC_REQ: connection, MSN and class -/
  | remote (cid msn tc : Nat)
  /-- the store itself, before it stops (R610) -/
  | stop
  deriving DecidableEq, Repr

/-- A commit in progress (R580): what it covers, and what of it is still to be programmed. -/
structure Commit where
  n : Nat
  id : Nat
  inc : Nat
  who : Committer
  seals : Bool
  length : Nat
  data : List (Nat × Byte)
  units : List Nat
  groups : List Nat
  issued : Bool
  durable : Bool
  deriving DecidableEq, Repr

/-- Bytes of local memory that are being staged (R579, R587): for a STORE_APPEND, or for a STORE_PUT to the module's own FA. -/
structure Feed where
  /-- none: the STORE_APPEND in progress -/
  op : Option Nat
  id : Nat
  inc : Nat
  off : Nat
  done : Nat
  len : Nat
  va : Nat
  asid : Nat
  link : Nat
  user : Bool
  deriving DecidableEq, Repr

/-- The STORE_READ in progress (R581). -/
structure Reading where
  id : Nat
  inc : Nat
  off : Nat
  done : Nat
  len : Nat
  dst : Nat
  deriving DecidableEq, Repr

/-- A NAND block that is not free and unworn. -/
structure Block where
  /-- programmed since its last erase, and its mode -/
  used : Bool
  tlc : Bool
  wear : Nat
  /-- data units programmed into it, in TLC terms -/
  cost : Nat
  reads : Nat
  /-- tracked read-threshold offset (R594) -/
  offset : Int
  scrubbed : Nat
  refresh : Bool
  /-- to be scrubbed before any other scrub work (R597, R607, R612) -/
  late : Bool
  bad : Bool
  deriving DecidableEq, Repr

/-- A free, unworn block. -/
def Block.fresh : Block :=
  { used := false, tlc := false, wear := 0, cost := 0, reads := 0, offset := 0, scrubbed := 0, refresh := false, late := false,
    bad := false }

/-- States of the store (STORE.STS). -/
inductive StoreState where
  | off | scanning | replay | run | stopped | formatting | unformatted
  deriving DecidableEq, Repr

/-- The number of a state in STORE.STS. -/
def StoreState.code : StoreState → Nat
  | .off => 0 | .scanning => 1 | .replay => 2 | .run => 3 | .stopped => 4 | .formatting => 5 | .unformatted => 6

/-- The checkpoint store. -/
structure Store where
  state : StoreState
  objs : List (Nat × Obj)
  nextInc : Nat
  staged : List Staged
  progs : List Prog
  /-- deleted objects whose deletion is not journaled -/
  leaving : List (Nat × Obj)
  commits : List Commit
  nextCommit : Nat
  feeds : List Feed
  reading : Option Reading
  blocks : List (Nat × Block)
  /-- the block that a channel programs in a mode: channel × 2 + 1 for TLC -/
  current : List (Nat × Nat)
  /-- absent dies, with the fabric time since when, where it is known -/
  absent : List (Nat × Option Nat)
  rebuilding : List Nat
  /-- writes failed for want of a usable die (R606) -/
  noDie : Nat
  /-- a valid store format is in the system blocks (R600) -/
  formatted : Bool
  /-- a format has started and not ended (R615) -/
  formatPend : Bool
  /-- it is to stop once all is programmed (R610) -/
  stopping : Bool
  /-- the journal ends with a clean-stop record -/
  clean : Bool
  /-- when replay ended, while blocks are still to be judged late since (R612) -/
  judge : Option Nat
  /-- TIME.STS.synced has been set since Dawn (R607) -/
  timed : Bool
  deriving DecidableEq, Repr

/-- A store that has never been used. -/
def Store.init : Store :=
  { state := .off, objs := [], nextInc := 0, staged := [], progs := [], leaving := [], commits := [], nextCommit := 0, feeds := [],
    reading := none, blocks := [], current := [], absent := [], rebuilding := [], noDie := 0, formatted := false,
    formatPend := false, stopping := false, clean := false, judge := none, timed := false }

end Sys2Proof.Machine
end

