-- ==== Sys2Proof/Machine/SysTypes.lean ====
section
/-! DEFINITION. State of the module around its registers that the chapters "Operating modes", "Power entry", "Resets", "Secure
boot" and "Connectors" name: the front end, Daylight, the boot flash, the measurement log, and the small pins and buses. -/

namespace Sys2Proof.Machine

/-- The front end (R648–R672), beside the PWR page: starts of its timers, ns. -/
structure Front where
  /-- start of the 10 ms of R650 -/
  waitAt : Option Nat
  /-- start of the ramp and of the inrush timer (R654) -/
  rampAt : Option Nat
  /-- the inrush timer runs -/
  inrush : Bool
  /-- start of the run timer (R657) -/
  runAt : Option Nat
  /-- start of COOL (R665) -/
  coolAt : Option Nat
  /-- when power-good asserted (R666) -/
  pgAt : Option Nat
  /-- since when PWR_EN has been low (R667) -/
  enLowAt : Option Nat
  /-- what last turned the FET off, as mid_cause (R669) -/
  offBy : Nat
  /-- AUX_3V3 was lost while power-good was asserted (R672) -/
  auxGone : Bool
  /-- FAULT_N is driven low (R668) -/
  fault : Bool
  /-- PWR.CFG as the ramp took it, and as the run timer did -/
  rampCfg : Word
  runCfg : Word
  /-- the FET temperature of R659, °C -/
  used : Int
  deriving DecidableEq, Repr

/-- The front end with the FET off. -/
def Front.init : Front :=
  { waitAt := none, rampAt := none, inrush := false, runAt := none, coolAt := none, pgAt := none, enLowAt := none, offBy := 0,
    auxGone := false, fault := false, rampCfg := 0, runCfg := 0, used := 0 }

/-- What Daylight counts of a port (R635): epochs below nar_lo, epochs at or above wid_hi, epochs since the last width change. -/
structure DayPort where
  low : Nat
  high : Nat
  since : Nat
  /-- u of the last epoch (R636) -/
  u : Nat
  /-- a retrain has superseded a width change, and the hold count restarts at UP (R637) -/
  again : Bool
  deriving DecidableEq, Repr

/-- A port of which nothing has been counted: its width has not changed. -/
def DayPort.init : DayPort := { low := 0, high := 0, since := 4095, u := 0, again := false }

/-- Daylight (R634–R644), beside the GOV page. -/
structure Daylight where
  ports : List (Nat × DayPort)
  /-- epochs the core has been quiet, and epochs since the last change of the step (R641) -/
  coreLow : Nat
  coreSince : Nat
  /-- input power of the last 100 epochs, 0.1 W (R642) -/
  power : List Nat
  /-- since when a tile has met the conditions of gating (R639) -/
  idle : List (Nat × Nat)
  /-- since when a lane has not been used by its port, or has been in standby for a port that is DOWN (R638) -/
  unused : List (Nat × Nat)
  /-- lanes of a DOWN port that are awake to look for signal, and since when (R638) -/
  probing : List (Nat × Nat)
  /-- GOV.CTL.en and GOV.PORTPOL's wid_hi and wide_q as the last epoch took them (R634), for the answers of R636 -/
  on : Bool
  widHi : Nat
  wideQ : Nat
  deriving DecidableEq, Repr

/-- Daylight at the start: no step has changed, and GOV holds its reset values. -/
def Daylight.init : Daylight :=
  { ports := [], coreLow := 0, coreSince := 4095, power := [], idle := [], unused := [], probing := [], on := true, widHi := 192,
    wideQ := 256 }

/-- An entry of the measurement log (R703). -/
structure LogEnt where
  kind : Nat
  slot : Nat
  svn : Nat
  version : Nat
  digest : List Byte
  deriving DecidableEq, Repr

/-- The module around its registers. -/
structure Sys where
  fe : Front
  day : Daylight
  nor : Nor
  log : List LogEnt
  logDigest : List Byte
  /-- next signature index and programmed limit (R698) -/
  idNext : Nat
  idLimit : Nat
  /-- version of the running image -/
  version : Nat
  /-- the recovery responder runs in place of the firmware (R694) -/
  recovery : Bool
  /-- the ports are held DOWN in Dawn with BOOT_FAIL (R623) -/
  bootFailed : Bool
  /-- the debug challenge that waits for its answer (R711) -/
  challenge : Option (List Byte)
  /-- a MODE.REQ DAWN in Midnight waits for power-good (R652) -/
  dawnWait : Bool
  /-- entry to Dusk (R626) -/
  duskAt : Nat
  /-- dusk_to passed before the drain was complete (R626) -/
  duskLate : Bool
  /-- since when every host link has been down (R627) -/
  hostDownAt : Option Nat
  /-- whether input power is over the variant maximum, and since when it has been below pcap (R627) -/
  powerOver : Bool
  powerLowAt : Option Nat
  /-- sensors that do not answer (R647), and the last temperature of those that do, °C -/
  sensorsOut : List Nat
  temps : List (Nat × Int)
  /-- MOD_RESET_N is low, and a module reset waits before step 4 for it (R679); whether that reset is a fabric reset -/
  resetLow : Bool
  resetWait : Bool
  /-- a reset has been recorded, and RESET_DONE is due at the next entry to Noon or Twilight (R688) -/
  resetDue : Bool
  /-- I3C dynamic address of the sideband (R748) -/
  dynAddr : Option Nat
  /-- console characters accepted (R750) -/
  console : List Byte
  /-- host links whose reference clock is missing (R747), and whose PERST_N is low -/
  refLost : List Nat
  perstLow : List Nat
  /-- the slot that this Dawn, or the last MMP reset, boots (R694): 0 A, 1 B, 0xFF none -/
  bootSlot : Nat
  deriving DecidableEq, Repr

/-- The module around its registers after a cold reset. -/
def Sys.init : Sys :=
  { fe := Front.init, day := Daylight.init, nor := Config.factoryFlash, log := [], logDigest := List.replicate 32 0, idNext := 0, idLimit := 0, version := 0,
    recovery := false, bootFailed := false, challenge := none, dawnWait := false, duskAt := 0, duskLate := false, hostDownAt := some 0,
    powerOver := false, powerLowAt := none, sensorsOut := [], temps := [], resetLow := false, resetWait := false, resetDue := true, dynAddr := none,
    console := [], refLost := [], perstLow := [], bootSlot := 0xFF }

end Sys2Proof.Machine
end

