-- ==== Sys2Proof/Machine/State.lean ====
section
/-! DEFINITION. The state of the module, its reset, and the reasons a step can stop. -/

namespace Sys2Proof.Machine

/-- Everything the spec gives the module but the queue of waiting commands. -/
structure Module where
  /-- registers that differ from `resetWord`, by BAR0 offset -/
  regs : List (Nat × Word)
  /-- the model's own counter of random draws (log 3) -/
  draws : Nat
  /-- the model's own counter of free host reads (log 4) -/
  reads : Nat
  /-- the module's clock in ns, as the last command that shows it had it (log 5) -/
  now : Nat
  /-- what the module has sent, oldest first (log 6) -/
  out : List Emit
  fuses : Fuses
  straps : Straps
  /-- MSI-X functions by host link -/
  msix : List (Nat × MsixFn)
  q : Queues
  dtu : Dtu
  smp : Sampler
  x : Xpt
  mt : Matching
  cl : Colls
  st : Store
  n : Net
  y : Sys
  /-- fabric time less the module's clock, ns (R383) -/
  timeOffset : Int
  deriving DecidableEq, Repr

/-- The state: the module and the commands that wait, first in first out. -/
structure State extends Module where
  pending : List Instr
  deriving DecidableEq, Repr

/-- Why the module could stop with a fault: no command does. The spec gives every command an effect, and a condition it does not
cover leaves the state as it was or takes a free value. The type has no constructor, so no fault can be answered. -/
inductive Fault where
  deriving DecidableEq, Repr

/-- Why a command could be refused. -/
inductive Refusal where
  /-- A command without a meaning, by its mnemonic. No command of the table raises it; were one to, it would be safe: the run stops. -/
  | notModelled (mnemonic : String)
  deriving DecidableEq, Repr

/-- The fuses of the module as delivered: a T16 in lifecycle OPEN, with every other fuse 0 (DESIGN CHOICE, log 1). -/
def Fuses.delivered : Fuses :=
  { variant := 2, serial := 0, stepping := 0, lifecycle := 0, revoked := 0, ctr1 := 0, ctr2 := 0, ctr3 := 0, iana := 0 }

/-- The module right after a cold reset (R15, R19, R616, R673, R684, R688): in Midnight, straps not yet taken, every register at its
reset value but DEV.IDENT, which shows the fuses of a T16. -/
def Module.reset : Module :=
  { regs := [(0x00040, 0x0000000000800002)]
    draws := 0
    reads := 0
    now := 0
    out := []
    fuses := Fuses.delivered
    straps := { due := true, sampled := none, differs := false, lastDiff := none }
    msix := []
    q := Queues.init
    dtu := Dtu.init
    smp := Sampler.init
    x := Xpt.init
    mt := Matching.init
    cl := Colls.init
    st := Store.init
    n := Net.init
    y := Sys.init
    timeOffset := 0 }

/-- The state after reset: no command waits. -/
def State.reset : State := { toModule := Module.reset, pending := [] }

end Sys2Proof.Machine
end

