-- ==== Sys2Proof/Machine/Ops.lean ====
section
/-! DEFINITION. The named operations over the state that every chapter shares: registers and their fields, counters,
random draws, host memory, events and their delivery, register writes, and the reset of a master's semaphores. -/

namespace Sys2Proof.Machine

/-- What a meaning answers. -/
abbrev Res := Host.Outcome State Fault Refusal

/-- A meaning that always runs: the module goes through `f`, the queue stays. -/
def State.run (s : State) (f : Module → Module) : Res := .next { s with toModule := f s.toModule }

/-! ## Registers -/

/-- The register at an offset of BAR0. -/
def Module.word (m : Module) (a : Nat) : Word := Sparse.read resetWord m.regs a

/-- The module with a register set. -/
def Module.setWord (m : Module) (a : Nat) (w : Word) : Module := { m with regs := Sparse.write resetWord m.regs a w }

/-- A field of a register. -/
def Module.get (m : Module) (f : Fld) : Nat := bits (m.word f.reg) f.hi f.lo

/-- A one-bit field of a register. -/
def Module.flag (m : Module) (f : Fld) : Bool := decide (m.get f ≠ 0)

/-- The module with a field of a register set. -/
def Module.put (m : Module) (f : Fld) (v : Nat) : Module := m.setWord f.reg (setBits (m.word f.reg) f.hi f.lo v)

/-- The module with a flag of a register set. -/
def Module.putFlag (m : Module) (f : Fld) (v : Bool) : Module := m.put f (b2n v)

namespace F

/-- PG_CTL.enable of a page (R52) -/
def pgEnable (page : Nat) : Fld := ⟨page * 0x1000 + 0x18, 0, 0⟩
/-- PG_CTL.lock of a page (R52) -/
def pgLock (page : Nat) : Fld := ⟨page * 0x1000 + 0x18, 1, 1⟩
/-- PG_STS.in_reset of a page (R52) -/
def pgInReset (page : Nat) : Fld := ⟨page * 0x1000 + 0x20, 63, 63⟩
/-- PG_STS.gated of a page (R52) -/
def pgGated (page : Nat) : Fld := ⟨page * 0x1000 + 0x20, 62, 62⟩
/-- PG_STS.locked of a page (R52) -/
def pgLocked (page : Nat) : Fld := ⟨page * 0x1000 + 0x20, 61, 61⟩
/-- A bit of PG_STS.block of a page (R52) -/
def pgBlock (page hi lo : Nat) : Fld := ⟨page * 0x1000 + 0x20, hi, lo⟩
/-- EVT_EN of a page (R52) -/
def evtEn (page : Nat) : Fld := ⟨page * 0x1000 + 0x30, 31, 0⟩
/-- EVT_PEND of a page (R52) -/
def evtPend (page : Nat) : Fld := ⟨page * 0x1000 + 0x38, 31, 0⟩
/-- One cause of EVT_PEND of a page (R54) -/
def cause (page bit : Nat) : Fld := ⟨page * 0x1000 + 0x38, bit, bit⟩
/-- The value of counter n of a page (R714) -/
def ctrValue (page n : Nat) : Fld := ⟨page * 0x1000 + 0x800 + 8 * n, 47, 0⟩
/-- The ovf bit of counter n of a page (R714) -/
def ctrOvf (page n : Nat) : Fld := ⟨page * 0x1000 + 0x800 + 8 * n, 63, 63⟩
/-- The asserted bit of a wake or software source in EVT[k].SRCPND (R73) -/
def srcPend (n : Nat) : Fld := ⟨(0x10 + n / 256) * 0x1000 + 0x040 + 8 * (n % 256 / 64), n % 64, n % 64⟩
/-- A field of the event table entry of source n (R73) -/
def evtEnt (n hi lo : Nat) : Fld := ⟨(0x10 + n / 256) * 0x1000 + 0x800 + 8 * (n % 256), hi, lo⟩

end F

/-- Page numbers of the blocks (R49). -/
def pgDev : Nat := 0x000
def pgMode : Nat := 0x001
def pgGov : Nat := 0x002
def pgPwr : Nat := 0x003
def pgTherm : Nat := 0x004
def pgClk : Nat := 0x005
def pgRst : Nat := 0x006
def pgTrust (i : Nat) : Nat := 0x008 + i
def pgSem : Nat := 0x00C
def pgChk : Nat := 0x00D
def pgTime : Nat := 0x014
def pgSample : Nat := 0x018
def pgHost (i : Nat) : Nat := 0x020 + i
def pgQctl : Nat := 0x028
def pgAdmin : Nat := 0x029
def pgDtu : Nat := 0x02A
def pgXpt (i : Nat) : Nat := 0x030 + i
def pgMatch (i : Nat) : Nat := 0x034 + i
def pgColl (i : Nat) : Nat := 0x036 + i
def pgMesh : Nat := 0x038
def pgStore : Nat := 0x040
def pgStch (i : Nat) : Nat := 0x041 + i
def pgPort (p : Nat) : Nat := 0x080 + p
def pgPsch (p : Nat) : Nat := 0x0B0 + p
def pgLane (n : Nat) : Nat := 0x100 + n
def pgRoute : Nat := 0x180
def pgTile (n : Nat) : Nat := 0x200 + n

/-! ## Event causes of the pages (the cause tables of the chapters) -/
namespace Ev
/-- cause 0 of the DEV page -/
def regAccess : Nat := 0
/-- cause 1 of the DEV page -/
def strapChanged : Nat := 1
/-- cause 2 of the DEV page -/
def faConflict : Nat := 2
/-- cause 0 of the SEM page -/
def denied : Nat := 0
/-- cause 0 of the QCTL page -/
def wqError : Nat := 0
/-- cause 1 of the QCTL page -/
def crOverflow : Nat := 1
/-- cause 2 of the QCTL page -/
def dbDiscard : Nat := 2
/-- cause 3 of the QCTL page -/
def pushMismatch : Nat := 3
/-- cause 4 of the QCTL page -/
def ciInvalid : Nat := 4
/-- cause 5 of the QCTL page -/
def heldDiscard : Nat := 5
/-- cause 6 of the QCTL page -/
def tableErr : Nat := 6
/-- cause 0 of the DTU page -/
def dtuFault : Nat := 0
/-- cause 1 of the DTU page -/
def dtuTable : Nat := 1
/-- cause 0 of the XPT page -/
def authFail : Nat := 0
/-- cause 1 of the XPT page -/
def connFailed : Nat := 1
/-- cause 2 of the XPT page -/
def descExhausted : Nat := 2
/-- cause 3 of the XPT page -/
def xptTable : Nat := 3
/-- cause 4 of the XPT page -/
def peerReset : Nat := 4
/-- cause 5 of the XPT page -/
def connExhausted : Nat := 5
/-- cause 0 of the MATCH page -/
def mContextError : Nat := 0
/-- cause 1 of the MATCH page -/
def spillInUse : Nat := 1
/-- cause 2 of the MATCH page -/
def spillFull : Nat := 2
/-- cause 3 of the MATCH page -/
def spillError : Nat := 3
/-- cause 4 of the MATCH page -/
def oversize : Nat := 4
/-- cause 5 of the MATCH page -/
def rdvExhausted : Nat := 5
/-- cause 0 of the TIME page -/
def synced : Nat := 0
/-- cause 1 of the TIME page -/
def syncLost : Nat := 1
/-- cause 2 of the TIME page -/
def timeStep : Nat := 2
/-- cause 0 of the COLL page -/
def cContextError : Nat := 0
/-- cause 1 of the COLL page -/
def trigDiscard : Nat := 1
/-- cause 2 of the COLL page -/
def mcDiscard : Nat := 2
/-- cause 0 of the PSCH page -/
def gateReject : Nat := 0
/-- cause 1 of the PSCH page -/
def schedSwitch : Nat := 1
/-- cause 2 of the PSCH page -/
def gateBypass : Nat := 2
/-- cause 0 of the ROUTE page -/
def commitDone : Nat := 0
/-- cause 1 of the ROUTE page -/
def commitReject : Nat := 1
/-- cause 2 of the ROUTE page -/
def quarantine : Nat := 2
/-- cause 3 of the ROUTE page -/
def noRoute : Nat := 3
/-- cause 4 of the ROUTE page -/
def hopDrop : Nat := 4
/-- cause 0 of the MESH page -/
def meshEcc : Nat := 0
/-- cause 1 of the MESH page -/
def throttle : Nat := 1
/-- cause 2 of the MESH page -/
def grantTimeout : Nat := 2
/-- cause 0 of the PORT page -/
def linkUp : Nat := 0
/-- cause 1 of the PORT page -/
def linkDown : Nat := 1
/-- cause 2 of the PORT page -/
def retrain : Nat := 2
/-- cause 3 of the PORT page -/
def winLow : Nat := 3
/-- cause 4 of the PORT page -/
def replayLimit : Nat := 4
/-- cause 5 of the PORT page -/
def widthDone : Nat := 5
/-- cause 6 of the PORT page -/
def widthFail : Nat := 6
/-- cause 7 of the PORT page -/
def spare : Nat := 7
/-- cause 8 of the PORT page -/
def graceFlush : Nat := 8
/-- cause 9 of the PORT page -/
def miswire : Nat := 9
/-- cause 0 of the LANE page -/
def lock : Nat := 0
/-- cause 1 of the LANE page -/
def lockLost : Nat := 1
/-- cause 2 of the LANE page -/
def degraded : Nat := 2
/-- cause 3 of the LANE page -/
def failed : Nat := 3
/-- cause 4 of the LANE page -/
def bringupFail : Nat := 4
/-- cause 5 of the LANE page -/
def polarity : Nat := 5
/-- cause 6 of the LANE page -/
def laneMap : Nat := 6
/-- cause 7 of the LANE page -/
def savedReject : Nat := 7
/-- cause 8 of the LANE page -/
def tapLimit : Nat := 8
/-- cause 9 of the LANE page -/
def scanDone : Nat := 9
/-- cause 10 of the LANE page -/
def pchkSyncLost : Nat := 10
/-- cause 0 of the STORE page -/
def storeReady : Nat := 0
/-- cause 1 of the STORE page -/
def dieAbsent : Nat := 1
/-- cause 2 of the STORE page -/
def dieReturn : Nat := 2
/-- cause 3 of the STORE page -/
def rebuildDone : Nat := 3
/-- cause 4 of the STORE page -/
def grownDefect : Nat := 4
/-- cause 5 of the STORE page -/
def mediaError : Nat := 5
/-- cause 6 of the STORE page -/
def spareLow : Nat := 6
/-- cause 7 of the STORE page -/
def scrubLate : Nat := 7
/-- cause 8 of the STORE page -/
def formatDone : Nat := 8
/-- cause 9 of the STORE page -/
def torn : Nat := 9
/-- cause 0 of the MODE page -/
def modeChange : Nat := 0
/-- cause 1 of the MODE page -/
def reqRefused : Nat := 1
/-- cause 2 of the MODE page -/
def duskTimeout : Nat := 2
/-- cause 3 of the MODE page -/
def bootFail : Nat := 3
/-- cause 0 of the GOV page -/
def capExceeded : Nat := 0
/-- cause 1 of the GOV page -/
def winRetrain : Nat := 1
/-- cause 0 of the THERM page -/
def tempWarn : Nat := 0
/-- cause 1 of the THERM page -/
def tempThrottle : Nat := 1
/-- cause 2 of the THERM page -/
def tempTwilight : Nat := 2
/-- cause 3 of the THERM page -/
def sensorFail : Nat := 3
/-- cause 0 of the PWR page -/
def pgRise : Nat := 0
/-- cause 1 of the PWR page -/
def pgFall : Nat := 1
/-- cause 2 of the PWR page -/
def trip : Nat := 2
/-- cause 3 of the PWR page -/
def latchOff : Nat := 3
/-- cause 4 of the PWR page -/
def senseMismatch : Nat := 4
/-- cause 5 of the PWR page -/
def auxLost : Nat := 5
/-- cause 6 of the PWR page -/
def inputRange : Nat := 6
/-- cause 0 of the RST page -/
def resetDone : Nat := 0
/-- cause 0 of the TRUST page -/
def signFail : Nat := 0
/-- cause 1 of the TRUST page -/
def idLow : Nat := 1
/-- cause 2 of the TRUST page -/
def mgmtKeyLost : Nat := 2
/-- cause 3 of the TRUST page -/
def fwDone : Nat := 3
/-- cause 4 of the TRUST page -/
def debugUnlock : Nat := 4
/-- cause 0 of the SAMPLE page -/
def ctrOvf : Nat := 0
/-- cause 1 of the SAMPLE page -/
def sampleErr : Nat := 1
/-- cause 0 of the HOST page -/
def hostUp : Nat := 0
/-- cause 1 of the HOST page -/
def hostDown : Nat := 1
/-- cause 2 of the HOST page -/
def slow : Nat := 2
/-- cause 3 of the HOST page -/
def refLost : Nat := 3
/-- cause 0 of the CLK page -/
def nrefSwitch : Nat := 0
/-- cause 1 of the CLK page -/
def nrefLost : Nat := 1
/-- cause 2 of the CLK page -/
def nrefNone : Nat := 2
end Ev

/-! ## Modes, domains and absent pages -/

/-- MODE.STS.mode codes (R616). -/
def mMidnight : Nat := 0
def mDawn : Nat := 1
def mNoon : Nat := 2
def mAfternoon : Nat := 3
def mDusk : Nat := 4
def mTwilight : Nat := 5
def mNightfall : Nat := 6
def mSmallHours : Nat := 7

/-- The mode the module is in (R616). -/
def Module.mode (m : Module) : Nat := m.get F.modeStsMode

/-- Noon or Afternoon: fully operational (R616). -/
def Module.noonish (m : Module) : Bool := decide (m.mode = mNoon) || decide (m.mode = mAfternoon)

/-- Whether HOST_MODE provides a host link (R743). -/
def linkProvided (hostMode i : Nat) : Bool :=
  match hostMode with
  | 0 => decide (i < 2)
  | 1 => decide (i < 3)
  | 2 => decide (i < 4)
  | _ => false

/-- HOST_MODE as sampled; 3, which provides no link, until the straps are taken (R743, R744). -/
def Module.hostMode (m : Module) : Nat :=
  match m.straps.sampled with
  | none => 3
  | some v => v / 256 % 4

/-- Whether a host link is up (HOST[i].LSTS.up). -/
def Module.linkUp (m : Module) (i : Nat) : Bool := m.flag (F.hostLstsUp i)

/-- Whether a master reaches the register space: the debug port does so in OPEN, in RETURNED and after a debug unlock (R710). -/
def Module.masterReaches (m : Module) (master : Nat) : Bool :=
  decide (master ≠ 9) || decide (m.fuses.lifecycle ≠ 1) || m.flag F.trustStsDebug

/-- A meaning that is the access of a master: without effect where the master does not reach the register space (R710). -/
def State.runAs (s : State) (master : BitVec 4) (f : Module → Module) : Res :=
  s.run fun m => if m.masterReaches master.toNat then f m else m

/-- Whether a page reads as absent: not listed in R49 (R50), the store of a T00 (R2), or the page of a host link that
HOST_MODE does not provide (R744). -/
def Module.absent (m : Module) (page : Nat) : Bool :=
  match blockOf page with
  | none => true
  | some (b, inst) =>
    match b.blk with
    | .store => decide (m.fuses.variant = 0)
    | .stch => decide (m.fuses.variant = 0)
    | .host => !linkProvided m.hostMode inst
    | _ => false

/-- Whether every domain but AON and MGMT, and in Nightfall but that of the store, is stopped because the main input is off (R57, R64,
R631). -/
def Module.mainOff (m : Module) : Bool := decide (m.mode = mMidnight) || decide (m.mode = mNightfall)

/-- Whether a page's domain is stopped (R64, log 7): the main input is off, a host link is in reset, or a lane is in
standby and the register lives in the lane's receive domain. -/
def Module.domStopped (m : Module) (page : Nat) (d : Dom) : Bool :=
  match d with
  | .aon => false
  | .mgmt => false
  | .host => m.mainOff || m.flag (F.hostLstsPerst (page - 0x20))
  | .store => decide (m.mode = mMidnight)
  | .lane => m.mainOff || m.flag (F.laneRxstsStandby (page - 0x100))
  | _ => m.mainOff

/-- Whether an offset lies in the MSI-X table or its pending bits (R49). -/
def isMsixPage (page : Nat) : Bool := decide (0xF00 ≤ page) && decide (page ≤ 0xF08)

/-- The domain of the register at an offset of BAR0 (R49, R57): the MSI-X pages are in HOST. -/
def domOf (a : Nat) : Dom :=
  if isMsixPage (a / 0x1000) then .host
  else match regAt a with
  | some r => r.dom
  | none =>
    match blockOf (a / 0x1000) with
    | some (b, _) => b.dom
    | none => .core

/-! ## The fabric address -/

/-- CHASSIS_ID as sampled (R19). -/
def Module.chassis (m : Module) : Nat := (m.straps.sampled.getD 0) / 16 % 16

/-- SLOT_ID as sampled (R19). -/
def Module.slot (m : Module) : Nat := (m.straps.sampled.getD 0) % 16

/-- The module's own fabric address (R17, R18). -/
def Module.fa (m : Module) : Nat := m.get F.devFaddrFa

/-- Whether a group has been assigned (R22). -/
def Module.groupValid (m : Module) : Bool := m.flag F.devFaddrValid

/-! ## Draws and outputs -/

/-- The next random number, and the module with the counter of draws advanced. -/
def Module.draw (m : Module) : Nat × Module := (Config.draw m.draws, { m with draws := m.draws + 1 })

/-- What a command that shows no host read shows (log 4): every read gives a free value. -/
def Env.bare (t : Nat) : Env := { t := t, host := [] }

/-- The module with one thing sent. -/
def Module.emit (m : Module) (x : Emit) : Module := { m with out := m.out ++ [x] }

/-- The module with several things sent. -/
def Module.emits (m : Module) (xs : List Emit) : Module := { m with out := m.out ++ xs }

/-- The module with its clock moved to a time a command shows; the clock never runs back. -/
def Module.at (m : Module) (e : Env) : Module := { m with now := max m.now e.t }

/-! ## Host memory -/

/-- What an aligned 8-byte read through a link returns: the word the command lists, or a free one (log 4). -/
def Module.read8 (m : Module) (e : Env) (link addr : Nat) : Option Word :=
  match e.host.find? (fun h => decide (h.link.val = link) && decide (h.addr = addr)) with
  | some h => h.data
  | none => some (Config.hostWord m.reads link addr)

/-- The module after a read of host memory: later free words are other ones. -/
def Module.readDone (m : Module) : Module := { m with reads := m.reads + 1 }

/-- `n` consecutive aligned words of host memory; none where one of them ends in a bus error. -/
def Module.readWords (m : Module) (e : Env) (link : Nat) : Nat → Nat → Option (List Word)
  | 0, _ => some []
  | n + 1, addr =>
    match m.read8 e link addr with
    | none => none
    | some w =>
      match m.readWords e link n (addr + 8) with
      | none => none
      | some l => some (w :: l)

/-- The bytes of some words, little-endian (R10). -/
def wordBytes (ws : List Word) : List Byte := ws.flatMap (fun w => leBytes 8 w.toNat)

/-- `n` bytes of host memory from any address; none for a bus error. -/
def Module.readBytes (m : Module) (e : Env) (link addr n : Nat) : Option (List Byte) :=
  let first := addr / 8 * 8
  match m.readWords e link ((addr + n + 7) / 8 - addr / 8) first with
  | none => none
  | some ws => some (((wordBytes ws).drop (addr - first)).take n)

/-- A little-endian field of some bytes (R10). -/
def fieldLE (bs : List Byte) (off n : Nat) : Nat := leNat ((bs.drop off).take n)

/-! ## Events -/

/-- Whether an event source is asserted (R56, R73): a page source while EVT_PEND AND EVT_EN of its page is not zero, a wake
or software source while its bit in SRCPND is 1. -/
def Module.asserted (m : Module) (n : Nat) : Bool :=
  if n < 0x240 then
    !m.absent n && decide (m.get (F.evtPend n) &&& m.get (F.evtEn n) ≠ 0)
  else m.flag (F.srcPend n)

/-- The MSI-X function of a link. -/
def Module.msixFn (m : Module) (i : Nat) : MsixFn := KMap.getD m.msix i MsixFn.init

/-- The module with the MSI-X function of a link changed. -/
def Module.setMsix (m : Module) (i : Nat) (f : MsixFn) : Module := { m with msix := KMap.put m.msix i f }

/-- A word of a link's MSI-X table (R51). -/
def MsixFn.word (f : MsixFn) (a : Nat) : Word := Sparse.read msixDefault f.table a

/-- Whether a vector is masked, by its own mask bit or by the function's (R79). -/
def MsixFn.masked (f : MsixFn) (v : Nat) : Bool := f.funcMask || bit (f.word (16 * v + 8)) 32

/-- A list of numbers with one more, kept without repeats. -/
def addNum (l : List Nat) (n : Nat) : List Nat := if l.contains n then l else l ++ [n]

/-- The message of a vector, from its table entry. -/
def MsixFn.msg (f : MsixFn) (link v : Nat) : Emit :=
  .msix link v (f.word (16 * v)) (BitVec.ofNat 64 (bits (f.word (16 * v + 8)) 31 0))

/-- Whether a link's function can take a message: the link is up and MSI-X is enabled (R80, R81). -/
def Module.canTake (m : Module) (i : Nat) : Bool := m.linkUp i && (m.msixFn i).enable

/-- Counter n of a page counts `k` more (R714, R715): nothing while SAMPLE.CTR.freeze is 1 (R719); the value wraps modulo
2^48, and a wrap sets ovf. The CTR_OVF cause of a wrap is raised by `countUp`, and for the counter of messages by `countMsg`. -/
def Module.addCtr (m : Module) (page n k : Nat) : Module :=
  if m.flag F.sampleCtrFreeze then m
  else
    let v := m.get (F.ctrValue page n) + k
    let m1 := m.put (F.ctrValue page n) (v % 2 ^ 48)
    if 2 ^ 48 ≤ v then m1.put (F.ctrOvf page n) 1 else m1

/-- Whether counting `k` more in counter n of a page wraps it (R715, R719). -/
def Module.wraps (m : Module) (page n k : Nat) : Bool :=
  !m.flag F.sampleCtrFreeze && decide (2 ^ 48 ≤ m.get (F.ctrValue page n) + k)

/-- A vector's pending bit is set, for a completion ring or for a source (R79). -/
def Module.pendVector (m : Module) (link v : Nat) (fromCr : Bool) : Module :=
  let f := m.msixFn link
  m.setMsix link { f with pend := addNum f.pend v, crPend := if fromCr then addNum f.crPend v else f.crPend }

/-- Where the message of a source goes (R74, R80, R81): nowhere, to the MMP, or to a vector of a link. The event table lives in CORE,
so nothing is delivered while the main input is off. -/
def Module.dest (m : Module) (n : Nat) : Option (Option (Nat × Nat)) :=
  if m.mainOff || m.get (F.evtEnt n 63 63) = 0 then none
  else if m.get (F.evtEnt n 62 62) = 1 then some none
  else
    let link := m.get (F.evtEnt n 57 56)
    if m.canTake link then some (some (link, m.get (F.evtEnt n 42 32)))
    else if m.get (F.evtEnt n 61 61) = 1 then some none
    else none

/-- The message of the CTR_OVF cause that a wrap of a counter of messages makes (R74, R715). The message counts in its turn; a wrap of
that count finds the cause set and makes no further message (R75). -/
def Module.ovfMessage (m : Module) : Module :=
  match m.dest pgSample with
  | none => m
  | some none => m.emit (.mmpMsg pgSample)
  | some (some (link, v)) =>
    if (m.msixFn link).masked v then m.pendVector link v false
    else (m.addCtr (pgHost link) 4 1).emit ((m.msixFn link).msg link v)

/-- A message on a link is counted (R715, R726): a wrap raises CTR_OVF. -/
def Module.countMsg (m : Module) (link : Nat) : Module :=
  let m1 := m.addCtr (pgHost link) 4 1
  if m.wraps (pgHost link) 4 1 then
    let m2 := m1.put (F.cause pgSample Ev.ctrOvf) 1
    if !m1.asserted pgSample && m2.asserted pgSample then m2.ovfMessage else m2
  else m1

/-- A message for a vector of a link that can take it: sent, or the pending bit set while it is masked (R79). -/
def Module.sendVector (m : Module) (link v : Nat) (fromCr : Bool) : Module :=
  if (m.msixFn link).masked v then m.pendVector link v fromCr
  else (m.emit ((m.msixFn link).msg link v)).countMsg link

/-- One message of a source to its entry's destination (R74, R80, R81). -/
def Module.deliver (m : Module) (n : Nat) : Module :=
  match m.dest n with
  | none => m
  | some none => m.emit (.mmpMsg n)
  | some (some (link, v)) => m.sendVector link v false

/-- After a change from `old`, one message of source n where it has become asserted (R74, R75). -/
def Module.onRise (m old : Module) (n : Nat) : Module :=
  if !old.asserted n && m.asserted n then m.deliver n else m

/-- An event cause of a page occurs (R54, R56, R74). -/
def Module.raise (m : Module) (page cause : Nat) : Module :=
  (m.put (F.cause page cause) 1).onRise m page

/-- Counter n of a page counts `k` more, with the CTR_OVF cause where it wraps (R715). -/
def Module.countUp (m : Module) (page n k : Nat) : Module :=
  let m1 := m.addCtr page n k
  if m.wraps page n k then m1.raise pgSample Ev.ctrOvf else m1

/-- Counter n of a page counts one more. -/
def Module.count (m : Module) (page n : Nat) : Module := m.countUp page n 1

/-- A wake or software source is asserted (R73, R74). -/
def Module.assertSrc (m : Module) (n : Nat) : Module := (m.put (F.srcPend n) 1).onRise m n

/-! ## Register writes -/

/-- A register with the written half replaced (R62). -/
def mergeHalf (h : Half) (old new : Word) : Word :=
  match h with
  | .full => new
  | .lo => setBits old 31 0 (bits new 31 0)
  | .hi => setBits old 63 32 (bits new 63 32)

/-- The ones a write carries in the half it touches. -/
def writeOnes (w : Wr) : Word := mergeHalf w.half 0 w.value

/-- Whether a write touches some bit of a field. -/
def touches (h : Half) (hi lo : Nat) : Bool :=
  match h with
  | .full => true
  | .lo => decide (lo < 32)
  | .hi => decide (32 ≤ hi)

/-- A field after a write, by its access type (R13). -/
def FieldD.write (f : FieldD) (locked : Bool) (w : Wr) (old acc : Word) : Word :=
  let new := bits (mergeHalf w.half old w.value) f.hi f.lo
  match f.acc with
  | .rw => setBits acc f.hi f.lo new
  | .rwl => if locked then acc else setBits acc f.hi f.lo new
  | .w1c => setBits acc f.hi f.lo (bits (old &&& ~~~ writeOnes w) f.hi f.lo)
  | .w1s => setBits acc f.hi f.lo (bits (old ||| writeOnes w) f.hi f.lo)
  | .ro | .wo | .rc | .own => acc

/-- Whether a write keeps a field inside its range (R766). A field that the write cannot set is not judged. -/
def FieldD.inRange (f : FieldD) (locked : Bool) (w : Wr) (old : Word) : Bool :=
  let new := bits (mergeHalf w.half old w.value) f.hi f.lo
  let judged := touches w.half f.hi f.lo && (match f.acc with
    | .rw => true
    | .rwl => !locked
    | _ => false)
  !judged || (decide (f.min ≤ new) && decide (new ≤ f.max))

/-- A register after a write: unchanged where a field would leave its range (R766), else field by field (R13). -/
def RegD.write (r : RegD) (locked : Bool) (w : Wr) (old : Word) : Word :=
  if r.fields.all (fun f => f.inRange locked w old) then
    r.fields.foldl (fun acc f => f.write locked w old acc) old
  else old

/-- Largest input power of the variant, W (R1). -/
def Module.variantMax (m : Module) : Nat :=
  match m.fuses.variant with
  | 0 => 195
  | 1 => 225
  | _ => 250

/-- The limits of a THERM.LIM register in order, none above its cold-reset value (the register's table). -/
def thermOk (k : Nat) (w : Word) : Bool :=
  let r := thermReset k
  decide (bits w 63 56 ≤ bits r 63 56) && decide (bits w 55 48 ≤ bits r 55 48) &&
  decide (bits w 47 40 ≤ bits r 47 40) && decide (bits w 39 32 ≤ bits r 39 32) &&
  decide (bits w 63 56 < bits w 55 48) && decide (bits w 55 48 < bits w 47 40) && decide (bits w 47 40 < bits w 39 32)

/-- The lead duo of the port that a duo belongs to in the reference wiring: D(30+2k) for a quad (R28, R471). -/
def leadDuo (d : Nat) : Nat := if isQuadDuo d then d / 2 * 2 else d

/-- Whether a lane's generator or checker may be enabled (R567). -/
def Module.patternAllowed (m : Module) (lane : Nat) : Bool :=
  let p := leadDuo (lane / 2)
  decide (m.mode = mSmallHours) || (decide (m.get (F.portLstsState p) = 0) && decide (m.get (F.portLctlEn p) = 0))

/-- Conditions over a whole register that its table or its chapter adds to the ranges of its fields: false where the write
that leaves `new` is ignored. -/
def Module.writeOk (m : Module) (a : Nat) (old new : Word) : Bool :=
  let page := a / 0x1000
  let off := a % 0x1000
  match blockOf page with
  | none => true
  | some (b, inst) =>
    match b.blk, off with
    | .mesh, 0x040 => decide (bits new 15 8 < bits new 23 16)
    | .gov, 0x048 => decide (bits new 15 0 ≤ m.variantMax)
    | .gov, 0x050 => decide (bits new 63 56 < bits new 55 48)
    | .gov, 0x058 => decide (bits new 63 56 < bits new 55 48)
    | .therm, 0x040 => old = new || thermOk 0 new
    | .therm, 0x048 => old = new || thermOk 1 new
    | .therm, 0x050 => old = new || thermOk 2 new
    | .lane, 0x060 => decide (bits new 39 32 < bits new 47 40)
    | .lane, 0x050 => bits new 63 63 = 0 || m.patternAllowed inst
    | .lane, 0x078 => bits new 63 63 = 0 || m.patternAllowed inst
    | .match, 0x048 => bits new 4 0 = 0 || (decide (10 ≤ bits new 4 0) && decide (bits new 4 0 ≤ 24))
    | .route, 0x060 => decide (bits old 63 63 = 0)
    | _, _ => true

/-- The table registers that their block's enable holds (R96, R159, R205, R248, R306): none for another register, else
the page whose enable decides and the TABLE_ERROR cause a refused write sets there, if it sets one. -/
def tableLock (a : Nat) : Option (Nat × Option Nat) :=
  match a with
  | 0x28040 => some (pgQctl, some Ev.tableErr)
  | 0x28048 => some (pgQctl, some Ev.tableErr)
  | 0x2A040 => some (pgDtu, some Ev.dtuTable)
  | 0x30040 => some (pgXpt 0, some Ev.xptTable)
  | 0x300A0 => some (pgXpt 0, some Ev.xptTable)
  | 0x34048 => some (pgMatch 0, none)
  | 0x35048 => some (pgMatch 1, none)
  | _ => none

/-- An access that failed or was refused is recorded in DEV.ACCERR, or sets overrun, and raises REG_ACCESS_ERROR (R66). -/
def Module.accessError (m : Module) (write size : Bool) (master : Nat) (d : Dom) (a : Nat) : Module :=
  let m1 :=
    if m.flag F.devAccerrValid then m.put F.devAccerrOverrun 1
    else
      let m := m.put F.devAccerrValid 1
      let m := m.putFlag F.devAccerrWrite write
      let m := m.putFlag F.devAccerrSize size
      let m := m.put F.devAccerrMaster master
      let m := m.put F.devAccerrDomain d.code
      let m := m.put F.devAccerrPage (a / 0x1000)
      m.put F.devAccerrOffset (a % 0x1000)
  m1.raise pgDev Ev.regAccess

/-- The aligned register an access touches. -/
def regAddr (a : Nat) : Nat := a / 8 * 8

/-- A vector of a link is unmasked: a pending message is sent if a source routed to it is still asserted, or a completion
ring asked for it (R79). -/
def Module.unmasked (m : Module) (link v : Nat) : Module :=
  let f := m.msixFn link
  if f.masked v || !f.pend.contains v then m
  else
    let routed := (List.range 1024).any (fun n =>
      decide (m.get (F.evtEnt n 63 63) = 1) && decide (m.get (F.evtEnt n 62 62) = 0) &&
      decide (m.get (F.evtEnt n 57 56) = link) && decide (m.get (F.evtEnt n 42 32) = v) && m.asserted n)
    let due := f.crPend.contains v || routed
    let m1 := m.setMsix link { f with pend := f.pend.filter (· ≠ v), crPend := f.crPend.filter (· ≠ v) }
    if due then (m1.emit (f.msg link v)).countMsg link else m1

/-- A write of the MSI-X table of the writing link's function (R51). The pending bits are read-only. -/
def Module.msixWrite (m : Module) (a : Nat) (w : Wr) : Module :=
  let link := w.master.toNat - 1
  let off := a - 0xF00000
  if w.master.toNat = 0 || 4 < w.master.toNat || 0x8000 ≤ off then m
  else
    let f := m.msixFn link
    let f1 := { f with table := Sparse.write msixDefault f.table off (mergeHalf w.half (f.word off) w.value) }
    (m.setMsix link f1).unmasked link (off / 16)

/-- Blocks whose PG_CTL.enable has commands of its own (R100, R101, R764, R774). -/
def ownEnable (page : Nat) : Bool := decide (page = pgQctl) || decide (page = pgDtu) || decide (page = pgXpt 0)

/-- The header register writes that have no command of their own: PG_CTL.enable and EVT_EN (R52). -/
def Module.headerWrite (m : Module) (page off : Nat) (w : Wr) : Module :=
  if off = 0x018 then
    if touches w.half 0 0 && !ownEnable page then m.put (F.pgEnable page) (bits w.value 0 0) else m
  else if off = 0x030 then
    if touches w.half 31 0 then (m.put (F.evtEn page) (bits w.value 31 0)).onRise m page else m
  else m

/-- Why a register write is not applied, or what is left of it: the target's domain is stopped, the write is ignored, the
write only raises a cause, or it is applied. -/
inductive WriteFate where
  | stopped | ignored | tableError (page cause : Nat) | applied
  deriving DecidableEq, Repr

/-- What becomes of a write (R65, R50, R766, R96 and its like). -/
def Module.fate (m : Module) (a : Nat) : WriteFate :=
  let page := a / 0x1000
  if isMsixPage page then .applied
  else if m.absent page then .ignored
  else if m.domStopped page (domOf a) then .stopped
  else match tableLock a with
    | some (p, c) =>
      if m.flag (F.pgEnable p) then
        match c with
        | some c => .tableError p c
        | none => .ignored
      else .applied
    | none => .applied

/-- The register a write leaves, where it is a register of the chapters' tables. -/
def Module.writtenWord (m : Module) (a : Nat) (w : Wr) : Word :=
  match regAt a with
  | none => m.word a
  | some r =>
    let new := r.write (m.flag (F.pgLock (a / 0x1000))) w (m.word a)
    if m.writeOk a (m.word a) new then new else m.word a

/-- A posted register write, without the effects that have commands of their own (R13, R50, R58, R62, R65, R766). -/
def Module.regWrite (m : Module) (addr : Nat) (w : Wr) : Module :=
  let a := regAddr addr
  match m.fate a with
  | .stopped => m.accessError true false w.master.toNat (domOf a) addr
  | .ignored => m
  | .tableError p c => m.raise p c
  | .applied =>
    if isMsixPage (a / 0x1000) then m.msixWrite a w
    else if a % 0x1000 < 0x40 then m.headerWrite (a / 0x1000) (a % 0x1000) w
    else m.setWord a (m.writtenWord a w)

/-- Whether a write reaches its register: the page exists and its domain runs. -/
def Module.reaches (m : Module) (addr : Nat) : Bool := decide (m.fate (regAddr addr) = .applied)

/-- A write of a page's PG_CTL without the effect of an enable that has commands of its own: lock is set by a 1 and shown
in PG_STS.locked (R52); another enable follows its access type. -/
def Module.pageCtl (m : Module) (a : Nat) (w : Wr) : Module :=
  let page := a / 0x1000
  let m1 := m.regWrite a w
  if m.reaches a && !isMsixPage page && touches w.half 1 1 && bit w.value 1 then
    (m1.put (F.pgLock page) 1).put (F.pgLocked page) 1
  else m1

/-! ## Semaphores -/

/-- A semaphore has become free: each waiter's wake bit is set, its source asserted, and the waiters cleared (R87). -/
def Module.semWake (m : Module) (n : Nat) : Module :=
  let waiters := m.get (F.semLockWaiters n)
  let m1 := m.put (F.semLockWaiters n) 0
  (List.range 16).foldl (fun m i =>
    if nbit waiters i then
      let f := F.semWkpndPend (4 * i + n / 64)
      (m.put ⟨f.reg, n % 64, n % 64⟩ 1).assertSrc (0x240 + i)
    else m) m1

/-- A master is reset (R88): its waits are cleared, and every semaphore it holds is freed with broken set. -/
def Module.masterReset (m : Module) (id : Nat) : Module :=
  let m1 := (List.range 256).foldl (fun m n =>
    m.put ⟨(F.semLockWaiters n).reg, 16 + id, 16 + id⟩ 0) m
  (List.range 256).foldl (fun m n =>
    if m.get (F.semLockOwner n) = id then
      ((m.put (F.semLockOwner n) 0).put (F.semLockBroken n) 1).semWake n
    else m) m1

end Sys2Proof.Machine
end

