-- ==== Sys2Proof/Machine/Dtu.lean ====
section
/-! DEFINITION. Device translation (R159–R193, R764, R765): declared ranges, walks, TLBs, permissions and faults; and the
translated reads and writes of host memory that the engines make. -/

namespace Sys2Proof.Machine

/-- Fault types (R181). -/
def ftInvalid : Nat := 0x01
def ftFormat : Nat := 0x02
def ftRange : Nat := 0x03
def ftAsid : Nat := 0x04
def ftRead : Nat := 0x10
def ftWrite : Nat := 0x11
def ftExec : Nat := 0x12
def ftUser : Nat := 0x13
def ftSe : Nat := 0x14
def ftWalkAccess : Nat := 0x20
def ftWalkTarget : Nat := 0x21
def ftDataAccess : Nat := 0x22

/-- A fault: its type and level (R182). -/
structure XFault where
  type : Nat
  level : Nat
  deriving DecidableEq, Repr

/-- The detail a completion carries for a fault (R182). -/
def XFault.detail (f : XFault) : Nat := f.type + 256 * f.level

/-- The rights of R170 an access needs, in the order they are reported: bit of the leaf and fault. -/
def Acc.needs : Acc → List (Nat × Nat)
  | .fetch => [(1, ftRead), (3, ftExec)]
  | .shadowRead => [(1, ftRead)]
  | .shadowWrite => [(2, ftWrite)]
  | .localRead => [(1, ftRead)]
  | .localWrite => [(2, ftWrite)]
  | .remoteWrite => [(2, ftWrite)]
  | .remoteRead => [(1, ftRead)]
  | .remoteAtomic => [(1, ftRead), (2, ftWrite)]

/-- Whether an access is a remote one at a target. -/
def Acc.remote : Acc → Bool
  | .remoteWrite | .remoteRead | .remoteAtomic => true
  | _ => false

/-- The first check of a leaf's rights that an access fails (R170, R171): the rights, then U, then SE. -/
def leafFault (r : XReq) (rights : Nat) : Option Nat :=
  match r.acc.needs.find? (fun n => !nbit rights n.1) with
  | some n => some n.2
  | none =>
    if r.user && !nbit rights 4 then some ftUser
    else if r.acc.remote && nbit rights 5 && !r.allowSe then some ftSe
    else none

/-- Whether a table address lies in the declared ranges of a link (R163). -/
def Module.inRanges (m : Module) (link table : Nat) : Bool :=
  (List.range 16).any fun i =>
    m.flag (F.dtuRbaseEn i) && decide (m.get (F.dtuRbaseLink i) = link) &&
    decide (m.get (F.dtuRbaseBase i) ≤ table / 4096) && decide (table / 4096 ≤ m.get (F.dtuRlimLimit i))

/-- Whether a virtual address is in range for W bits (R169). -/
def vaInRange (w va : Nat) : Bool := decide (va / 2 ^ (w - 1) = 0) || decide (va / 2 ^ (w - 1) = 2 ^ (65 - w) - 1)

/-- The slot of a list that covers a page of an address space. -/
def findSlot (l : List TlbSlot) (asid vpn : Nat) : Option TlbSlot :=
  l.find? (fun s => decide (s.asid = asid) && decide (s.vpn ≤ vpn) && decide (vpn < s.vpn + s.pages))

/-- A list with one more entry at its front, held to a capacity: the oldest entry leaves (R178; DESIGN CHOICE, log 8). -/
def pushCap {α : Type} (cap : Nat) (l : List α) (a : α) : List α := (a :: l).take cap

/-- A translation found by an engine: its micro-TLB, then the shared TLB. -/
def Module.tlbHit (m : Module) (r : XReq) : Option TlbSlot :=
  match findSlot (KMap.getD m.dtu.micro r.engine []) r.asid (r.va / 4096) with
  | some s => some s
  | none => findSlot m.dtu.tlb r.asid (r.va / 4096)

/-- The module with a slot in an engine's micro-TLB (64 entries). -/
def Module.microFill (m : Module) (engine : Nat) (s : TlbSlot) : Module :=
  let l := KMap.getD m.dtu.micro engine []
  if l.contains s then m
  else { m with dtu := { m.dtu with micro := KMap.put m.dtu.micro engine (pushCap 64 l s) } }

/-- The fault is recorded and raised (R183). -/
def Module.logFault (m : Module) (r : XReq) (f : XFault) : Module :=
  let m := m.count pgDtu 5
  let m1 :=
    if m.flag F.dtuFltlogValid then m.put F.dtuFltlogOverrun 1
    else
      let m := m.put F.dtuFltlogValid 1
      let m := m.put F.dtuFltlogSource r.source
      let m := m.put F.dtuFltlogType f.type
      let m := m.put F.dtuFltlogLevel f.level
      let m := m.put F.dtuFltlogAsid r.asid
      let m := m.put F.dtuFltlogObject r.object
      m.put F.dtuFltvaVa r.va
  m1.raise pgDtu Ev.dtuFault

/-- Where a translation stands: it needs a read, it is done, or it has failed. -/
inductive WStep where
  | read (w : Walk)
  | done (pa : Nat) (se : Bool)
  | fail (f : XFault)
  deriving DecidableEq, Repr

/-- The physical address a slot gives, or the fault of its rights (R170, R179, R182: level 1). -/
def slotResult (r : XReq) (s : TlbSlot) : WStep :=
  match leafFault r s.rights with
  | some t => .fail ⟨t, 1⟩
  | none => .done ((s.ppn + (r.va / 4096 - s.vpn)) * 4096 + r.va % 4096) (nbit s.rights 5)

/-- From a table of a level: pass the levels the walk cache knows, check the range, and ask for the entry's read
(R163, R164). -/
def Module.descend (m : Module) (r : XReq) (link : Nat) : Nat → Nat → WStep
  | 0, _ => .fail ⟨ftInvalid, 0⟩
  | l + 1, table =>
    match if l = 0 then none else m.dtu.walkCache.find? (fun w => decide (w.asid = r.asid) && decide (w.level = l + 1) &&
        decide (w.prefx = r.va / 2 ^ (12 + 9 * l))) with
    | some w => m.descend r link l (w.ppn * 4096)
    | none =>
      if m.inRanges link table then .read { req := r, level := l + 1, table := table, walkLink := link, stale := false }
      else .fail ⟨ftWalkTarget, l + 1⟩

/-- The walk from a known ASID entry. -/
def Module.walkFromEntry (m : Module) (r : XReq) (w0 w1 : Word) : WStep :=
  if !bit w0 0 then .fail ⟨ftAsid, 0⟩
  else if bits w0 2 1 = 3 then .fail ⟨ftFormat, 0⟩
  else
    let n := 3 + bits w0 2 1
    if !vaInRange (12 + 9 * n) r.va then .fail ⟨ftRange, 0⟩
    else m.descend r (bits w1 1 0) n (bits w0 63 12 * 4096)

/-- Whether the DTU translates (R764). -/
def Module.dtuOn (m : Module) : Bool :=
  m.flag (F.pgEnable pgDtu) && decide (4 ≤ m.get F.dtuAstabSize) && decide (m.get F.dtuAstabSize ≤ 16)

/-- The start of a translation: the TLBs, then a walk. -/
def Module.startWalk (m : Module) (r : XReq) : WStep :=
  if !m.dtuOn || decide (2 ^ m.get F.dtuAstabSize ≤ r.asid) then .fail ⟨ftAsid, 0⟩
  else
    match KMap.get m.dtu.asidCache r.asid with
    | some (w0, w1) => m.walkFromEntry r w0 w1
    | none => .read { req := r, level := 0, table := m.get F.dtuAstabBase * 4096 + 16 * r.asid,
                      walkLink := m.get F.dtuAstabLink, stale := false }

/-- The bus address a walk's read goes to (R160, R165). -/
def Walk.addr (w : Walk) : Nat :=
  if w.level = 0 then w.table
  else w.table + 8 * (w.req.va / 2 ^ (12 + 9 * (w.level - 1)) % 512)

/-- The slot a leaf fills (R178, R179), and whether its hint did not agree. -/
def leafSlot (asid va : Nat) (pte : Word) : TlbSlot × Bool :=
  let vpn := va % 2 ^ 64 / 4096
  let ppn := bits pte 56 12
  let n := match bits pte 7 6 with
    | 1 => 16
    | 2 => 512
    | _ => 1
  if ppn % n = vpn % n then (⟨asid, vpn - vpn % n, n, ppn - ppn % n, bits pte 5 0⟩, false)
  else (⟨asid, vpn, 1, ppn, bits pte 5 0⟩, true)

/-- A read of a walk has returned (R175): the walk continues, fills a slot, or fails. A walk that the DTU's enable has left behind
fails (R764). -/
def Module.walkReturn (m : Module) (w : Walk) (data : Option (List Word)) : WStep × Module :=
  let m := m.count pgDtu 3
  if !m.dtuOn then (.fail ⟨ftAsid, 0⟩, m)
  else
  match data with
  | none => (.fail ⟨ftWalkAccess, w.level⟩, m)
  | some ws =>
    let d0 := (ws[0]?).getD 0
    if w.level = 0 then
      let d1 := (ws[1]?).getD 0
      let m1 := if bit d0 0 && !w.stale then
          { m with dtu := { m.dtu with asidCache := (KMap.put m.dtu.asidCache w.req.asid (d0, d1)).take 256 } } else m
      (match m1.walkFromEntry w.req d0 d1 with
        | .read w' => .read { w' with stale := w.stale }
        | x => x, m1)
    else if !bit d0 0 then (.fail ⟨ftInvalid, w.level⟩, m)
    else if bits d0 11 8 ≠ 0 || bits d0 63 57 ≠ 0 || (w.level = 1 && bits d0 7 6 = 3) then (.fail ⟨ftFormat, w.level⟩, m)
    else if w.level = 1 then
      let (s, bad) := leafSlot w.req.asid w.req.va d0
      match slotResult w.req s with
      | .done pa se =>
        let m := if bad then m.count pgDtu 4 else m
        let m := if w.stale then m
          else ({ m with dtu := { m.dtu with tlb := pushCap 8192 m.dtu.tlb s } }).microFill w.req.engine s
        (.done pa se, m)
      | x => (x, m)
    else
      let ent : WalkEnt := ⟨w.req.asid, w.level, w.req.va / 2 ^ (12 + 9 * (w.level - 1)), bits d0 56 12⟩
      let m1 := if w.stale then m
        else { m with dtu := { m.dtu with walkCache := pushCap 512 m.dtu.walkCache ent } }
      (match m1.descend w.req w.walkLink (w.level - 1) (bits d0 56 12 * 4096) with
        | .read w' => .read { w' with stale := w.stale }
        | x => x, m1)

/-- Where a translation stands at its start, with its counters: a hit, or a walk to make. -/
def Module.lookup (m : Module) (r : XReq) : WStep × Module :=
  let m := m.count pgDtu 0
  if !m.dtuOn then (.fail ⟨ftAsid, 0⟩, m)
  else
    match m.tlbHit r with
    | some s => (slotResult r s, m.microFill r.engine s)
    | none => (m.startWalk r, (m.count pgDtu 1).count pgDtu 2)

/-- A walk made to its end within one command, from the answers the command shows. -/
def Module.walkAll (m : Module) (e : Env) : Nat → WStep → WStep × Module
  | 0, s => (s, m)
  | n + 1, .read w =>
    let data := m.readWords e w.walkLink (if w.level = 0 then 2 else 1) w.addr
    let (s, m1) := m.readDone.walkReturn w data
    m1.walkAll e n s
  | _ + 1, s => (s, m)

/-- The result of a translation (R161–R183). -/
inductive TrRes where
  | ok (pa : Nat) (se : Bool)
  | fault (f : XFault)
  deriving DecidableEq, Repr

/-- A translation within one command; a fault is recorded (R183). -/
def Module.translate (m : Module) (e : Env) (r : XReq) : TrRes × Module :=
  let (s0, m) := m.lookup r
  let (s, m) := m.walkAll e 8 s0
  match s with
  | .done pa se => (.ok pa se, m)
  | .fail f => (.fault f, m.logFault r f)
  | .read w => (.fault ⟨ftInvalid, w.level⟩, m)

/-! ## Translated accesses -/

/-- The length of the part of a buffer that lies in the first page. -/
def pagePart (va n : Nat) : Nat := min n (4096 - va % 4096)

/-- A translated read, page by page (R176, R177): the bytes, or the fault and the offset at which it was found. Bus errors are
DATA_ACCESS faults (R765). -/
def Module.readVirtAux (m : Module) (e : Env) (link : Nat) (r : XReq) : Nat → Nat → Nat → List Byte →
    (Except (XFault × Nat) (List Byte)) × Module
  | 0, _, _, acc => (.ok acc, m)
  | fuel + 1, off, n, acc =>
    if n = 0 then (.ok acc, m)
    else
      let r1 := { r with va := (r.va + off) % 2 ^ 64 }
      let k := pagePart r1.va n
      match m.translate e r1 with
      | (.fault f, m1) => (.error (f, off), m1)
      | (.ok pa _, m1) =>
        let m2 := (m1.count (pgHost link) 2).readDone
        match m1.readBytes e link pa k with
        | none => (.error (⟨ftDataAccess, 1⟩, off), m2.logFault r1 ⟨ftDataAccess, 1⟩)
        | some bs => (m2.countUp (pgHost link) 0 k).readVirtAux e link r fuel (off + k) (n - k) (acc ++ bs)

/-- A translated read of `n` bytes. -/
def Module.readVirt (m : Module) (e : Env) (link : Nat) (r : XReq) (n : Nat) :
    (Except (XFault × Nat) (List Byte)) × Module :=
  m.readVirtAux e link r (n / 4096 + 2) 0 n []

/-- A translated write, page by page (R176): posted, in address order; none where it is issued whole, else the fault and the
offset at which it was found, with the earlier pages written. -/
def Module.writeVirtAux (m : Module) (e : Env) (link : Nat) (r : XReq) : Nat → Nat → List Byte →
    Option (XFault × Nat) × Module
  | 0, _, _ => (none, m)
  | fuel + 1, off, bs =>
    if bs.isEmpty then (none, m)
    else
      let r1 := { r with va := (r.va + off) % 2 ^ 64 }
      let k := pagePart r1.va bs.length
      match m.translate e r1 with
      | (.fault f, m1) => (some (f, off), m1)
      | (.ok pa _, m1) =>
        let m2 := ((m1.emit (.hostWrite link pa (bs.take k))).countUp (pgHost link) 1 k).count (pgHost link) 3
        m2.writeVirtAux e link r fuel (off + k) (bs.drop k)

/-- A translated write of some bytes. -/
def Module.writeVirt (m : Module) (e : Env) (link : Nat) (r : XReq) (bs : List Byte) : Option (XFault × Nat) × Module :=
  m.writeVirtAux e link r (bs.length / 4096 + 2) 0 bs

/-- Whether some of the pages of `n` bytes translate to a page with side effects (R172): asked before any access, which changes
nothing. -/
def Module.seAhead (m : Module) (e : Env) (r : XReq) (n : Nat) : Bool :=
  (List.range (n / 4096 + 2)).any fun i =>
    let off := if i = 0 then 0 else 4096 * i - r.va % 4096
    decide (off < n) && (match (m.translate e { r with va := (r.va + off) % 2 ^ 64 }).1 with
      | .ok _ se => se
      | .fault _ => false)

/-- A write to a bus address, not translated (R95). -/
def Module.busWrite (m : Module) (link addr : Nat) (bs : List Byte) : Module :=
  ((m.emit (.hostWrite link addr bs)).countUp (pgHost link) 1 bs.length).count (pgHost link) 3

/-! ## Enable and invalidation -/

/-- Every cache of the DTU is dropped (R186, R764). -/
def Module.dtuDrop (m : Module) : Module := { m with dtu := Dtu.init }

/-- Fetches in flight use a translation that has been dropped: what their walks find enters no cache (R191, R192, R764). -/
def Module.staleFetches (m : Module) : Module :=
  let mark (rt : WqRt) : WqRt := { rt with fetch := rt.fetch.map (fun f =>
    { f with stale := true, walk := f.walk.map (fun w => { w with stale := true }) }) }
  { m with q := { m.q with wqRt := m.q.wqRt.map (fun p => (p.1, mark p.2)) } }

/-- A write of DTU.PG_CTL (R764): a change of enable drops every cache. -/
def Module.dtuEnable (m : Module) (w : Wr) : Module :=
  let a := pgDtu * 0x1000 + 0x18
  let m1 := m.pageCtl a w
  if m.reaches a && touches w.half 0 0 && bits w.value 0 0 ≠ m.get (F.pgEnable pgDtu) then
    (m1.put (F.pgEnable pgDtu) (bits w.value 0 0)).dtuDrop.staleFetches
  else m1

/-- Meaning of DTU_ENABLE (R764). -/
def execDtuEnable (w : Wr) (s : State) : Res := s.runAs w.master fun m => m.dtuEnable w

/-- What an INVALIDATE_TLB selects (R187). -/
inductive TlbSel where
  | all
  | asid (n : Nat)
  | pages (asid vpn count : Nat)
  deriving DecidableEq, Repr

/-- Whether a slot covers a selected page (R189). -/
def TlbSel.hits (sel : TlbSel) (s : TlbSlot) : Bool :=
  match sel with
  | .all => true
  | .asid n => decide (s.asid = n)
  | .pages a v c => decide (s.asid = a) && decide (s.vpn < v + c) && decide (v < s.vpn + s.pages)

/-- Whether an ASID's walk-cache entries are dropped (R189). -/
def TlbSel.walkHit (sel : TlbSel) (a : Nat) : Bool :=
  match sel with
  | .all => true
  | .asid n => decide (n = a)
  | .pages n _ c => decide (n = a) && decide (0 < c)

/-- Whether an ASID's cached table entry is dropped (R189). -/
def TlbSel.asidHit (sel : TlbSel) (a : Nat) : Bool :=
  match sel with
  | .all => true
  | .asid n => decide (n = a)
  | .pages _ _ _ => false

/-- The selected translations leave every cache (R189); walks and fetches that use them are marked (R191, R192). -/
def Module.tlbDrop (m : Module) (sel : TlbSel) : Module :=
  let d := m.dtu
  let d1 : Dtu :=
    { tlb := d.tlb.filter (fun s => !sel.hits s)
      micro := d.micro.map (fun p => (p.1, p.2.filter (fun s => !sel.hits s)))
      walkCache := d.walkCache.filter (fun w => !sel.walkHit w.asid)
      asidCache := d.asidCache.filter (fun p => !sel.asidHit p.1) }
  { m with dtu := d1 }.staleFetches

end Sys2Proof.Machine
end

