-- ==== Sys2Proof/Machine/Queues.lean ====
section
/-! DEFINITION. Work queues and completion rings (R95–R140, R151–R158): contexts and their loading, doorbells, pushes and
polls, fetching, operations and their completions, overflow, and queue errors. Tagged sampling (R727–R735) is here as far
as operations and completions need it. -/

namespace Sys2Proof.Machine

/-! ## Status codes and error causes -/

/-- Completion status codes (R127). -/
def stSuccess : Nat := 0x00
def stFlushed : Nat := 0x01
def stInvalidWqe : Nat := 0x02
def stLocalFault : Nat := 0x03
def stRemoteKey : Nat := 0x04
def stRemoteAccess : Nat := 0x05
def stConnFailed : Nat := 0x06
def stNoDomain : Nat := 0x07
def stTruncated : Nat := 0x08
def stRevoked : Nat := 0x09
def stStoreAbsent : Nat := 0x0A
def stAdminInvalid : Nat := 0x10
def stAdminState : Nat := 0x11
def stAdminNoResource : Nat := 0x12

/-- WQ error causes (R133). -/
def ecLocal : Nat := 0x01
def ecCrOverflow : Nat := 0x02
def ecDbOverrun : Nat := 0x03
def ecBadContext : Nat := 0x04
def ecLinkReset : Nat := 0x05
def ecDomainCleared : Nat := 0x06
def ecFetchFault : Nat := 0x07

/-! ## Fabric time and sampling -/

/-- How far a correction of fabric time has come (R386): its rate changes by 100 ppm (log 20). -/
def Module.slewed (m : Module) : Int :=
  let d : Int := ((m.now - m.n.slewAt) / 10000 : Nat)
  if m.n.slewBy < 0 then max m.n.slewBy (-d) else min m.n.slewBy d

/-- Fabric time in ns (R383), modulo 2^64. -/
def Module.fabricNow (m : Module) : Nat := unsigned 64 ((m.now : Int) + m.timeOffset + m.slewed)

/-- The sampler with the tagged commands of a list, and SAMPLE.STS.tagged kept beside it. -/
def Module.setTagged (m : Module) (l : List Tagged) : Module :=
  ({ m with smp := { m.smp with tagged := l } }).put F.sampleStsTagged l.length

/-- A command takes a sampling draw (R727, R728). -/
def Module.sampleDraw (m : Module) (id : Nat) (op : Op) (opcode tag : Nat) : Module :=
  let named := if m.smp.wqSel = 0xFFFF then decide (op.wq ≠ 0) else decide (op.wq = m.smp.wqSel)
  if m.smp.on && named && decide (1 ≤ opcode) && decide (opcode ≤ 0x7F) then
    let (d, m) := m.draw
    if d % 2 ^ m.smp.k ≠ 0 then m
    else if m.smp.tagged.length < 256 then
      let t : Tagged := { op := id, wq := op.wq, opcode := opcode, tag := tag, trig := op.trig.isSome, cr := m.smp.cr,
                          base := m.fabricNow, stages := [], retx := false, step := false }
      (m.setTagged (m.smp.tagged ++ [t])).count pgSample 0
    else m.count pgSample 3
  else m

/-- What is noted of a tagged command changes. -/
def Module.onTagged (m : Module) (id : Nat) (f : Tagged → Tagged) : Module :=
  { m with smp := { m.smp with tagged := m.smp.tagged.map (fun t => if t.op = id then f t else t) } }

/-- A tagged command first reaches a stage (R729). -/
def Module.stage (m : Module) (id st : Nat) : Module :=
  m.onTagged id fun t => if t.stages.any (fun p => p.1 = st) then t else { t with stages := t.stages ++ [(st, m.fabricNow)] }

/-- The command that something belongs to, where it belongs to one, first reaches a stage. -/
def Module.stageOf (m : Module) (op : Option Nat) (st : Nat) : Module :=
  match op with
  | none => m
  | some id => m.stage id st

/-- A tagged command sends a further packet: its last one, and the acknowledgement of all, are still to come (R729: stages 7 and 9). -/
def Module.unstage (m : Module) (id : Nat) : Module :=
  m.onTagged id fun t => { t with stages := t.stages.filter (fun p => p.1 ≠ 7 && p.1 ≠ 9) }

/-- The bytes of a sample record (R730). -/
def sampleBytes (t : Tagged) (status : Nat) : List Byte :=
  let reached := t.stages.foldl (fun a p => a ||| 2 ^ p.1) 1
  let flags := reached + 2 ^ 12 * b2n t.retx + 2 ^ 13 * b2n t.step + 2 ^ 14 * b2n t.trig
  let delta (st : Nat) : Nat :=
    match t.stages.find? (fun p => p.1 = st) with
    | none => 0
    | some p => min (seqSub 64 p.2 t.base) 0xFFFFFFFF
  leBytes 4 t.tag ++ leBytes 2 t.wq ++ leBytes 1 t.opcode ++ leBytes 1 status ++ leBytes 2 flags ++ leBytes 6 0 ++
    leBytes 8 t.base ++ (rangeFrom 1 11).flatMap (fun s => leBytes 4 (delta s)) ++ leBytes 4 0

/-! ## Contexts -/

/-- A cached WQ context. -/
def Module.wq (m : Module) (n : Nat) : Option WqCtx := KMap.get m.q.wqs n

/-- A cached CR context. -/
def Module.cr (m : Module) (n : Nat) : Option CrCtx := KMap.get m.q.crs n

/-- What the module keeps for a WQ beside its context. -/
def Module.wqRt (m : Module) (n : Nat) : WqRt := KMap.getD m.q.wqRt n WqRt.init

/-- What the module keeps for a CR beside its context. -/
def Module.crRt (m : Module) (n : Nat) : CrRt := KMap.getD m.q.crRt n CrRt.init

/-- The module with a WQ context set. -/
def Module.setWq (m : Module) (n : Nat) (c : WqCtx) : Module := { m with q := { m.q with wqs := KMap.put m.q.wqs n c } }

/-- The module with a CR context set. -/
def Module.setCr (m : Module) (n : Nat) (c : CrCtx) : Module := { m with q := { m.q with crs := KMap.put m.q.crs n c } }

/-- The module with what it keeps for a WQ set. -/
def Module.setWqRt (m : Module) (n : Nat) (c : WqRt) : Module := { m with q := { m.q with wqRt := KMap.put m.q.wqRt n c } }

/-- The module with what it keeps for a CR set. -/
def Module.setCrRt (m : Module) (n : Nat) (c : CrRt) : Module := { m with q := { m.q with crRt := KMap.put m.q.crRt n c } }

/-- Whether the queue block runs (R100). -/
def Module.running (m : Module) : Bool := m.flag (F.pgBlock pgQctl 0 0)

/-- Whether a WQ number lies in the table (R95). -/
def Module.wqInTable (m : Module) (n : Nat) : Bool := m.running && decide (n < 2 ^ m.get F.qctlWqtabSize)

/-- Whether a CR number lies in the table (R95). -/
def Module.crInTable (m : Module) (n : Nat) : Bool := m.running && decide (n < 2 ^ m.get F.qctlCrtabSize)

/-- Bus address of a WQ context (R97). -/
def Module.wqAddr (m : Module) (n : Nat) : Nat := m.get F.qctlWqtabBase * 4096 + 128 * n

/-- Bus address of a CR context (R98). -/
def Module.crAddr (m : Module) (n : Nat) : Nat := m.get F.qctlCrtabBase * 4096 + 64 * n

/-- A WQ state from its number; the reserved numbers read as FREE. -/
def WqState.ofCode : Nat → WqState
  | 1 => .active | 2 => .stopped | 3 => .error | 4 => .closing | _ => .free

/-- A CR state from its number. -/
def CrState.ofCode : Nat → CrState
  | 1 => .active | 2 => .error | _ => .free

/-- The WQ context of 16 words, and whether it describes a queue (R97). -/
def WqCtx.parse (w : List Word) : WqCtx × Bool :=
  let g (i hi lo : Nat) := bits ((w[i]?).getD 0) hi lo
  ({ ringVa := g 0 63 0, size := g 1 4 0, link := g 1 7 6, user := g 1 8 8 = 1, poll := g 1 9 9 = 1, cr := g 1 31 16,
     asid := g 1 47 32, nd := g 1 63 48, tcMask := g 2 7 0, pollIvl := g 2 27 16, piShadow := g 3 63 0,
     ciShadow := g 4 63 0, ci := g 8 31 0, piKnown := g 8 63 32, state := WqState.ofCode (g 9 2 0),
     errCause := g 9 15 8, errIdx := g 9 63 32, outstanding := g 10 8 0 }, g 1 5 5 = 1)

/-- The CR context of 8 words, and whether it describes a ring (R98). -/
def CrCtx.parse (w : List Word) : CrCtx × Bool :=
  let g (i hi lo : Nat) := bits ((w[i]?).getD 0) hi lo
  ({ ringVa := g 0 63 0, size := g 1 4 0, link := g 1 7 6, asid := g 1 47 32, vector := g 1 58 48, piShadow := g 2 63 0,
     ciShadow := g 3 63 0, pi := g 4 31 0, ciKnown := g 4 63 32, binds := g 5 15 0, state := CrState.ofCode (g 5 17 16),
     armed := g 5 18 18 = 1, ovf := g 5 19 19 = 1 }, g 1 5 5 = 1)

/-- The static part of a WQ context (R97). -/
def WqCtx.staticBytes (c : WqCtx) (valid : Bool) : List Byte :=
  leBytes 8 c.ringVa ++
  leBytes 8 (c.size + 32 * b2n valid + 64 * c.link + 256 * b2n c.user + 512 * b2n c.poll + 2 ^ 16 * c.cr + 2 ^ 32 * c.asid +
    2 ^ 48 * c.nd) ++
  leBytes 8 (c.tcMask + 2 ^ 16 * c.pollIvl) ++ leBytes 8 c.piShadow ++ leBytes 8 c.ciShadow ++ leBytes 24 0

/-- The dynamic part of a WQ context (R97). -/
def WqCtx.dynBytes (c : WqCtx) : List Byte :=
  leBytes 8 (c.ci + 2 ^ 32 * c.piKnown) ++ leBytes 8 (c.state.code + 256 * c.errCause + 2 ^ 32 * c.errIdx) ++
  leBytes 8 c.outstanding ++ leBytes 40 0

/-- The static part of a CR context (R98). -/
def CrCtx.staticBytes (c : CrCtx) (valid : Bool) : List Byte :=
  leBytes 8 c.ringVa ++
  leBytes 8 (c.size + 32 * b2n valid + 64 * c.link + 2 ^ 32 * c.asid + 2 ^ 48 * c.vector) ++
  leBytes 8 c.piShadow ++ leBytes 8 c.ciShadow

/-- The dynamic part of a CR context (R98). -/
def CrCtx.dynBytes (c : CrCtx) : List Byte :=
  leBytes 8 (c.pi + 2 ^ 32 * c.ciKnown) ++
  leBytes 8 (c.binds + 2 ^ 16 * c.state.code + 2 ^ 18 * b2n c.armed + 2 ^ 19 * b2n c.ovf) ++ leBytes 16 0

/-- The dynamic part of a WQ context goes back to the table (R99, R151). -/
def Module.writebackWq (m : Module) (n : Nat) (c : WqCtx) : Module :=
  m.busWrite (m.get F.qctlWqtabLink) (m.wqAddr n + 64) c.dynBytes

/-- The dynamic part of a CR context goes back to the table (R99, R151). -/
def Module.writebackCr (m : Module) (n : Nat) (c : CrCtx) : Module :=
  m.busWrite (m.get F.qctlWqtabLink) (m.crAddr n + 32) c.dynBytes

/-- A WQ context leaves the cache: its dynamic part goes back to the table (R99, R151). -/
def Module.leaveWq (m : Module) (n : Nat) (c : WqCtx) : Module :=
  let poll := if c.poll then addNum m.q.awayPoll n else m.q.awayPoll
  ({ m with q := { m.q with wqs := KMap.erase m.q.wqs n, awayWq := addNum m.q.awayWq n, awayPoll := poll } }).writebackWq n c

/-- The cache of WQ contexts takes one more; beyond 4,096 the first one that is neither polled nor WQ 0 and has no fetch in flight is
written back and leaves (R99; which one leaves is DESIGN CHOICE, log 8). -/
def Module.cacheWq (m : Module) (n : Nat) (c : WqCtx) : Module :=
  let m := if m.q.wqs.length < 4096 then m
    else match m.q.wqs.find? (fun p => p.1 ≠ 0 && !p.2.poll && (m.wqRt p.1).fetch.isNone) with
      | none => m
      | some p => m.leaveWq p.1 p.2
  let q := { m.q with awayWq := m.q.awayWq.filter (· ≠ n), awayPoll := m.q.awayPoll.filter (· ≠ n) }
  ({ m with q := q }).setWq n c

/-- The cache of CR contexts takes one more (R99). -/
def Module.cacheCr (m : Module) (n : Nat) (c : CrCtx) : Module :=
  let m := if m.q.crs.length < 4096 then m
    else match m.q.crs.find? (fun p => p.1 ≠ 0) with
      | none => m
      | some p => ({ m with q := { m.q with crs := KMap.erase m.q.crs p.1, awayCr := addNum m.q.awayCr p.1 } }).writebackCr p.1 p.2
  ({ m with q := { m.q with awayCr := m.q.awayCr.filter (· ≠ n) } }).setCr n c

/-- Whether a ring size is one a queue may have (R100, R155). -/
def sizeOk (n : Nat) : Bool := decide (4 ≤ n) && decide (n ≤ 20)

/-! ## Errors -/

/-- An error is recorded in QCTL.ERRLOG, or sets overrun (R102). -/
def Module.logQueue (m : Module) (kind cause queue index : Nat) : Module :=
  if m.flag F.qctlErrlogValid then m.put F.qctlErrlogOverrun 1
  else
    let m := m.put F.qctlErrlogValid 1
    let m := m.put F.qctlErrlogKind kind
    let m := m.put F.qctlErrlogCause cause
    let m := m.put F.qctlErrlogQueue queue
    m.put F.qctlErrlogIndex index

/-- A field of a WQE or of an admin body: `n` bytes at a byte offset (R124). -/
def wqeField (w : List Word) (off n : Nat) : Nat :=
  ((w[off / 8]?).getD 0).toNat / 2 ^ (8 * (off % 8)) % 2 ^ (8 * n)

/-- Bits of the WQE word at a byte offset. -/
def wqeBits (w : List Word) (off hi lo : Nat) : Nat := bits ((w[off / 8]?).getD 0) hi lo

/-- The header fields of a WQE (R124). -/
def wqeOpcode (w : List Word) : Nat := wqeField w 0 1
def wqeSig (w : List Word) : Bool := decide (wqeBits w 0 8 8 = 1)
def wqeFence (w : List Word) : Bool := decide (wqeBits w 0 9 9 = 1)
def wqeOrdered (w : List Word) : Bool := decide (wqeBits w 0 10 10 = 1)
def wqeTag (w : List Word) : Nat := wqeField w 4 4
def wqeDest (w : List Word) : Nat := wqeBits w 8 17 0
def wqeTc (w : List Word) : Nat := wqeBits w 8 20 18

/-- An operation in progress. -/
def Module.op (m : Module) (id : Nat) : Option Op := KMap.get m.q.ops id

/-- The module with an operation changed. -/
def Module.setOp (m : Module) (id : Nat) (o : Op) : Module := { m with q := { m.q with ops := KMap.put m.q.ops id o } }

/-- Entries of the holding pool return. -/
def Module.poolFree (m : Module) (k : Nat) : Module := { m with q := { m.q with pool := m.q.pool - k } }

/-- An operation has completed: a FAILING direction whose last one it was is in IDLE (R243). -/
def Conn.opOver (c : Conn) (id : Nat) : Conn :=
  let rest := c.failOps.filter (· ≠ id)
  if c.txState = .failing && rest.isEmpty then { c with txState := .idle, failOps := [] } else { c with failOps := rest }

/-- What an operation's end gives back (R97, R119, R243): its place in `ops`, its outstanding count and its pool entry, and its place
among those a FAILING direction waits for. A context that is out of the cache takes the count at its next load. -/
def Module.retire (m : Module) (o : Owner) : Module :=
  match o with
  | .op id =>
    match m.op id with
    | none => m
    | some op =>
      let m := { m with q := { m.q with ops := KMap.erase m.q.ops id }
                        x := { m.x with conns := m.x.conns.map (fun (p : Nat × Conn) => (p.1, if p.2.failOps.contains id then p.2.opOver id else p.2)) } }
      let m := m.poolFree 1
      if op.trig.isSome then m
      else match m.wq op.wq with
        | none => m.setWqRt op.wq { m.wqRt op.wq with owed := (m.wqRt op.wq).owed + 1 }
        | some c => m.setWq op.wq { c with outstanding := c.outstanding - 1 }
  | _ => m.poolFree 1

/-- Rings whose last tagged command has been recorded lose their bind (R733); a ring that is out of the cache does so when it is
loaded. -/
def Module.sampleRelease (m : Module) : Module :=
  let (go, stay) := m.smp.releasing.partition (fun r => !(m.smp.tagged.any (fun t => t.cr = r)) && (m.cr r).isSome)
  go.foldl (fun m r => match m.cr r with
    | none => m
    | some c => m.setCr r { c with binds := c.binds - 1 }) { m with smp := { m.smp with releasing := stay } }

/-- An operation ends without completion (R156, R382): it leaves no sample record either (R729). -/
def Module.abandon (m : Module) (id : Nat) : Module :=
  let m := m.retire (.op id)
  if m.smp.tagged.any (fun t => t.op = id) then (m.setTagged (m.smp.tagged.filter (fun t => t.op ≠ id))).sampleRelease else m

/-- A finished operation's completion is handed over, to be written by COMPLETION_WRITE (R126, R129). An error always writes an
entry; a success writes one where sig is 1 or the WQ is the admin queue's command. A silent operation only ends (R382). -/
def Module.opDone (m : Module) (id status length info peer detail : Nat) : Module :=
  match m.op id with
  | none => m
  | some o =>
    if o.finished then m
    else if o.silent then m.abandon id
    else
      let c := m.wq o.wq
      let opcode := wqeOpcode o.wqe
      let comp : Completion :=
        { owner := .op id, cr := (c.map (·.cr)).getD 0, tag := wqeTag o.wqe, wq := o.wq, opcode := opcode, status := status,
          length := length, info := info, peerFa := peer, nd := (c.map (·.nd)).getD 0, detail := detail,
          write := status ≠ 0 || wqeSig o.wqe || decide (0x80 ≤ opcode) }
      let m := m.setOp id { o with started := true, finished := true }
      { m with q := { m.q with done := m.q.done ++ [comp] } }

/-- A WQ's fetched operations that have not started. -/
def Module.unstarted (m : Module) (n : Nat) : List Nat :=
  (m.q.ops.filter (fun p => decide (p.2.wq = n) && !p.2.started && p.2.trig.isNone)).map (·.1)

/-- A fetch in flight is given up; its reserved entries return. -/
def Module.dropFetch (m : Module) (n : Nat) : Module :=
  match (m.wqRt n).fetch with
  | none => m
  | some f => (m.setWqRt n { m.wqRt n with fetch := none }).poolFree f.n

/-! ## Device counters and triggered lists -/

/-- A device counter (R373). -/
def Module.ctr (m : Module) (i : Nat) : Nat := KMap.getD m.cl.ctrs i 0

/-- A device counter set; a counter of 0 is not listed. -/
def Module.setCtr (m : Module) (i v : Nat) : Module :=
  let l := if v % 2 ^ 64 = 0 then KMap.erase m.cl.ctrs i else KMap.put m.cl.ctrs i (v % 2 ^ 64)
  { m with cl := { m.cl with ctrs := l } }

/-- The counter at an offset of a context's range goes up (R373, R374); an offset of 0xFFFF or outside the range names none. -/
def Module.bumpCtr (m : Module) (x off v : Nat) : Module :=
  match KMap.get m.cl.ctxs x with
  | none => m
  | some c => if off < c.ctrCount then m.setCtr (c.ctrBase + off) (m.ctr (c.ctrBase + off) + v) else m

/-- KiB of a context's slots (R350). -/
def Coll.poolKib (c : Coll) : Nat := c.depth * (c.children.length + 2) * (if c.exact then 18 else 4)

/-- COLL[t].USE shows what a tile holds (R350, R376). -/
def Module.collUse (m : Module) (t : Nat) : Module :=
  let ctxs := m.cl.ctxs.filter (fun p => p.1 % 2 = t)
  let lists := m.cl.lists.filter (fun p => p.2.coll % 2 = t)
  let m := m.put (F.collUseBufFree t) (4096 - (ctxs.map (fun p => p.2.poolKib)).sum)
  (m.put (F.collUseLists t) lists.length).put (F.collUseEntries t) (lists.map (fun p => p.2.count - p.2.head)).sum

/-- Lists are discarded (R382, R393): their remaining entries are gone without completion, and TRIG_DISCARD is set on their tiles. The
entries that have fired go on. -/
def Module.dropLists (m : Module) (sel : Nat → TrigList → Bool) : Module :=
  let gone := m.cl.lists.filter (fun p => sel p.1 p.2)
  let m := { m with cl := { m.cl with lists := m.cl.lists.filter (fun p => !sel p.1 p.2) } }
  gone.foldl (fun m p => (m.collUse (p.2.coll % 2)).raise (pgColl (p.2.coll % 2)) Ev.trigDiscard) m

/-- Fired entries of a queue that enters ERROR or is destroyed get no completion (R382): one that has not started ends, one that has
ends without completion when it is over. One whose completion has been handed over keeps it. -/
def Module.silenceFired (m : Module) (n : Nat) : Module :=
  let mine (o : Op) : Bool := decide (o.wq = n) && o.trig.isSome && !o.finished
  let idle := (m.q.ops.filter (fun p => mine p.2 && !p.2.started)).map (·.1)
  let m := { m with q := { m.q with ops := m.q.ops.map (fun (p : Nat × Op) =>
    if mine p.2 then (p.1, { p.2 with silent := true }) else p) } }
  idle.foldl (fun m id => m.abandon id) m

/-- The triggered lists of a queue that enters ERROR or is destroyed are discarded, with no completion for the entries fired (R382). -/
def Module.discardLists (m : Module) (n : Nat) : Module := (m.dropLists fun _ l => l.wq = n).silenceFired n

/-- A fired entry completes (R374, R382): its done counter goes up on success, else the rest of its list is discarded. A list
whose last entry has completed is over. -/
def Module.trigEnd (m : Module) (id status : Nat) : Module :=
  match (m.op id).bind (·.trig) with
  | none => m
  | some f =>
    let mine := (KMap.get m.cl.ctxs f.coll).map (·.inst) = some f.inst
    let m := if status = 0 && mine then m.bumpCtr f.coll f.done 1 else m
    match KMap.get m.cl.lists f.list with
    | none => m
    | some l =>
      let l1 := { l with live := l.live.filter (· ≠ id) }
      if status ≠ 0 then m.dropLists (fun k _ => k = f.list)
      else if l1.head = l1.count && l1.live.isEmpty then
        ({ m with cl := { m.cl with lists := KMap.erase m.cl.lists f.list } }).collUse (l.coll % 2)
      else { m with cl := { m.cl with lists := KMap.put m.cl.lists f.list l1 } }

/-- ci goes to the WQ's consumer shadow (R121, R134). A fault here is recorded; the caller decides what it means. -/
def Module.writeCi (m : Module) (e : Env) (n : Nat) (c : WqCtx) : Option (XFault × Nat) × Module :=
  let m := m.setWqRt n { m.wqRt n with ciSince := 0 }
  m.writeVirt e c.link { asid := c.asid, va := c.ciShadow, acc := .shadowWrite, user := c.user, allowSe := true, engine := 0,
                         source := 0, object := n } (leBytes 4 c.ci)

/-- A WQ enters ERROR (R133, R134): fetching stops, WQEs not started are flushed (under R156 they are discarded), the consumer
shadow is written where it is reached, the queue is logged. LINK_RESET and DOMAIN_CLEARED act in ERROR as well. -/
def Module.wqErrorAs (m : Module) (e : Env) (n cause : Nat) (idx : Option Nat) (shadow : Bool) : Module :=
  match m.wq n with
  | none => m
  | some c =>
    let strong := cause = ecLinkReset || cause = ecDomainCleared
    if !(c.state = .active || c.state = .stopped || (strong && c.state = .error)) then m
    else
      let at_ := idx.getD c.ci
      let m := m.dropFetch n
      let m := m.setWq n { c with state := .error, errCause := cause, errIdx := at_ }
      let m := m.setWqRt n { m.wqRt n with push := [], pushed := [] }
      let m := (m.unstarted n).foldl (fun m id =>
        if cause = ecLinkReset then m.abandon id else m.opDone id stFlushed 0 0 0 0) m
      let m := m.discardLists n
      let m := if shadow then (m.writeCi e n c).2 else m
      (m.logQueue 0 cause n at_).raise pgQctl Ev.wqError

/-- A WQ enters ERROR (R133, R134); the link of a LINK_RESET takes no consumer shadow (R156). -/
def Module.wqError (m : Module) (e : Env) (n cause : Nat) (idx : Option Nat) : Module :=
  m.wqErrorAs e n cause idx (cause ≠ ecLinkReset)

/-- WQs in the cache bound to a CR. -/
def Module.boundWqs (m : Module) (cr : Nat) : List Nat := (m.q.wqs.filter (fun p => p.2.cr = cr)).map (·.1)

/-- A WQ context is in the cache after this, where the table describes one (R99, R136, R154, R155, R769). A context that could not be
read holds 0 in every field but its state (log 130), so it names no consumer shadow. -/
def Module.needWq (m : Module) (e : Env) (n : Nat) : Module :=
  if (m.wq n).isSome || !m.wqInTable n then m
  else
    match m.readWords e (m.get F.qctlWqtabLink) 16 (m.wqAddr n) with
    | none =>
      let c : WqCtx := { (WqCtx.parse []).1 with state := .active }
      ((m.cacheWq n c).wqErrorAs e n ecBadContext none false).raise pgQctl Ev.tableErr
    | some ws =>
      let (c, valid) := WqCtx.parse ws
      let c := { c with outstanding := c.outstanding - (m.wqRt n).owed }
      if !valid then m.readDone else
      let m := m.readDone.setWqRt n { m.wqRt n with owed := 0 }
      if !sizeOk c.size then
        ((m.cacheWq n { c with state := if c.state = .closing then .closing else .active }).wqError e n ecBadContext
          none).raise pgQctl Ev.tableErr
      else
        let runs := c.state = .active || c.state = .stopped
        m.cacheWq n { c with state := if !runs then c.state else if (m.crRt c.cr).held.isEmpty then .active else .stopped }

/-- Each queue that a test selects goes through `f`; one whose context has gone back to the table is loaded again (R99). -/
def Module.eachWq (m : Module) (e : Env) (p : WqCtx → Bool) (f : Module → Nat → Module) : Module :=
  let m := ((m.q.wqs.filter (fun k => p k.2)).map (·.1)).foldl f m
  m.q.awayWq.foldl (fun m n =>
    let m := m.needWq e n
    match m.wq n with
    | none => m
    | some c => if p c then f m n else m) m

/-- A ring enters ERROR. Where it is the sample ring, sampling stops, the records of tagged commands are discarded, and with none left
the ring's binds goes down (R733, R735). -/
def Module.crError (m : Module) (n : Nat) : Module :=
  match m.cr n with
  | none => m
  | some c =>
    if m.smp.on && m.smp.cr = n then
      let m := m.setCr n { c with state := .error, binds := c.binds - 1 }
      let m := ({ m with smp := { m.smp with on := false } }).setTagged (m.smp.tagged.filter (fun t => t.cr ≠ n))
      (((m.put F.sampleCfgEn 0).put F.sampleStsActive 0).put F.sampleStsErr 1).raise pgSample Ev.sampleErr
    else m.setCr n { c with state := .error }

/-- A completion is discarded and counted (R140, R148, R156, R770). Its command has ended without an entry: a tagged one leaves no
record. -/
def Module.discard (m : Module) (c : Completion) : Module :=
  let m := match c.owner with
    | .op id => m.abandon id
    | o => m.retire o
  (m.count pgQctl 7).raise pgQctl Ev.heldDiscard

/-- A ring holds no completions any more: ovf clears, and the queues that stopped for it resume (R133, R136). -/
def Module.heldOver (m : Module) (n : Nat) : Module :=
  if !(m.crRt n).held.isEmpty then m
  else
    let m := match m.cr n with
      | none => m
      | some k => m.setCr n { k with ovf := false }
    (m.boundWqs n).foldl (fun m q => match m.wq q with
      | none => m
      | some w => if w.state = .stopped then m.setWq q { w with state := .active } else m) m

/-- Held completions of a ring that a test selects are discarded (R148, R156). -/
def Module.discardHeld (m : Module) (n : Nat) (p : Completion → Bool) : Module :=
  let rt := m.crRt n
  if rt.held.any p then
    let m := m.setCrRt n { rt with held := rt.held.filter (fun c => !p c) }
    ((rt.held.filter p).foldl (fun m c => m.discard c) m).heldOver n
  else m

/-- Whether the object a completion belongs to is being destroyed, or gone: completions to a ring in ERROR are discarded for it
(R148). -/
def Module.ownerClosing (m : Module) (o : Owner) : Bool :=
  match o with
  | .op id =>
    match m.op id with
    | none => true
    | some op => match m.wq op.wq with
      | none => !m.q.awayWq.contains op.wq
      | some c => c.state = .closing
  | .mctx n => match KMap.get m.mt.ctxs n with
    | none => true
    | some c => c.state = .closing
  | .coll n => match KMap.get m.cl.ctxs n with
    | none => true
    | some c => c.state = .closing
  | .free => false

/-- A CR enters ERROR through a fault or a bad context, and so do the WQs bound to it (R155, R182). What it holds for an object that is
being destroyed is discarded (R148). -/
def Module.crFault (m : Module) (e : Env) (n : Nat) : Module :=
  match m.cr n with
  | none => m
  | some _ =>
    let m := (m.crError n).eachWq e (fun w => w.cr = n) (fun m q => m.wqError e q ecBadContext none)
    m.discardHeld n fun c => m.ownerClosing c.owner

/-- A CR context is in the cache after this, where the table describes one (R99, R154, R155, R769). A context that could not be read
holds 0 in every field but its state (log 130). A bind that a sampling commit owes goes down (R733). -/
def Module.needCr (m : Module) (e : Env) (n : Nat) : Module :=
  if (m.cr n).isSome || !m.crInTable n then m
  else
    match m.readWords e (m.get F.qctlWqtabLink) 8 (m.crAddr n) with
    | none => ((m.cacheCr n ({ (CrCtx.parse []).1 with state := .active } : CrCtx)).crFault e n).raise pgQctl Ev.tableErr
    | some ws =>
      let (c, valid) := CrCtx.parse ws
      let m := m.readDone
      if !valid then m
      else if !sizeOk c.size then ((m.cacheCr n ({ c with state := .active } : CrCtx)).crFault e n).raise pgQctl Ev.tableErr
      else (m.cacheCr n c).sampleRelease

/-! ## Completion rings -/

/-- Entries in a ring that the driver has not consumed. -/
def CrCtx.used (c : CrCtx) : Nat := seqSub 32 c.pi c.ciKnown

/-- Whether a ring is full (R103). -/
def CrCtx.full (c : CrCtx) : Bool := decide (2 ^ c.size ≤ c.used)

/-- The access of a CR's entries and shadows (R161, R171). -/
def crReq (n : Nat) (c : CrCtx) (va : Nat) (acc : Acc) : XReq :=
  { asid := c.asid, va := va, acc := acc, user := false, allowSe := true, engine := 0, source := 1, object := n }

/-- A consumer value is offered to a ring (R105). -/
def Module.crConsume (m : Module) (n v : Nat) : Module :=
  match m.cr n with
  | none => m
  | some c =>
    if seqSub 32 v c.ciKnown ≤ c.used then m.setCr n { c with ciKnown := v } else m.raise pgQctl Ev.ciInvalid

/-- The ring's consumer shadow is read, where it has one, and offered (R135, R138). A fault puts the ring into ERROR. -/
def Module.crReadShadow (m : Module) (e : Env) (n : Nat) : Module :=
  match m.cr n with
  | none => m
  | some c =>
    if c.ciShadow = 0 || c.state ≠ .active then m
    else
      match m.readVirt e c.link (crReq n c c.ciShadow .shadowRead) 4 with
      | (.error _, m1) => m1.crFault e n
      | (.ok bs, m1) => m1.crConsume n (leNat bs)

/-- The vector of an armed ring that is not empty goes out (R131, R132). -/
def Module.crNotify (m : Module) (n : Nat) : Module :=
  match m.cr n with
  | none => m
  | some c =>
    if c.armed && c.state = .active && c.pi ≠ c.ciKnown then
      let m := m.setCr n { c with armed := false }
      if m.canTake c.link then m.sendVector c.link c.vector true else m
    else m

/-- Entries are written to a ring one after another from its producer index: false where a fault stops them (R182). -/
def Module.crEntries (m : Module) (e : Env) (n : Nat) : List (List Byte) → Bool × Module
  | [] => (true, m)
  | b :: l =>
    match m.cr n with
    | none => (false, m)
    | some c =>
      match m.writeVirt e c.link (crReq n c ((c.ringVa + 32 * (c.pi % 2 ^ c.size)) % 2 ^ 64) .shadowWrite) b with
      | (some _, m1) => (false, m1.crFault e n)
      | (none, m1) => (m1.setCr n { c with pi := (c.pi + 1) % 2 ^ 32 }).crEntries e n l

/-- The producer shadow of a ring is written, then its notification considered (R130, R132). -/
def Module.crShadow (m : Module) (e : Env) (n : Nat) : Module :=
  match m.cr n with
  | none => m
  | some c =>
    match m.writeVirt e c.link (crReq n c c.piShadow .shadowWrite) (leBytes 4 c.pi) with
    | (some _, m1) => m1.crFault e n
    | (none, m1) => m1.crNotify n

/-- The bytes of a completion entry (R126). -/
def Completion.bytes (c : Completion) : List Byte :=
  leBytes 4 c.tag ++ leBytes 2 c.wq ++ leBytes 1 c.opcode ++ leBytes 1 c.status ++ leBytes 8 c.length ++ leBytes 8 c.info ++
  leBytes 4 c.peerFa ++ leBytes 2 c.nd ++ leBytes 2 c.detail

/-- A tagged command has completed: its record goes to the sample ring, or is discarded where the ring has no room
(R729–R734). -/
def Module.sampleRecord (m : Module) (e : Env) (id status : Nat) : Module :=
  match m.smp.tagged.find? (fun t => t.op = id) with
  | none => m
  | some t =>
    let m := m.setTagged (m.smp.tagged.filter (fun t => t.op ≠ id))
    let m := m.needCr e t.cr
    let m := match m.cr t.cr with
      | none => m.count pgSample 2
      | some c =>
        if c.state ≠ CrState.active || 2 ^ c.size < c.used + 2 then m.count pgSample 2
        else
          let b := sampleBytes t status
          match m.crEntries e t.cr [b.take 32, b.drop 32] with
          | (false, m1) => m1
          | (true, m1) => (m1.crShadow e t.cr).count pgSample 1
    m.sampleRelease

/-- A completion is held: the ring is marked, logged and its queues stop (R102, R135, R136). -/
def Module.hold (m : Module) (n : Nat) (c : Completion) : Module :=
  let rt := m.crRt n
  let since := if rt.held.isEmpty then m.now else rt.heldAt
  let m := (m.setCrRt n { rt with held := rt.held ++ [c], heldAt := since }).count pgQctl 6
  match m.cr n with
  | none => m
  | some k =>
    if k.state ≠ .active then m
    else
      let m := m.setCr n { k with ovf := true }
      let m := (m.boundWqs n).foldl (fun m q => match m.wq q with
        | none => m
        | some w => if w.state = .active then (m.dropFetch q).setWq q { w with state := .stopped } else m) m
      (if rt.held.isEmpty then m.logQueue 1 2 n k.pi else m).raise pgQctl Ev.crOverflow

/-- The entry of a completion is written to a ring with room, with the shadow and the vector (R129–R132). A sampled command reaches
stages 10 and 11 thereby, but not where it was flushed (R729). -/
def Module.crWrite (m : Module) (e : Env) (n : Nat) (c : Completion) : Module :=
  match m.crEntries e n [c.bytes] with
  | (false, m1) => m1.hold n c
  | (true, m1) =>
    let m1 := m1.count pgQctl 1
    let id := match c.owner with
      | .op id => id
      | _ => m1.q.nextOp
    let m1 := if c.status = stFlushed then m1 else m1.stage id 10
    let m1 := m1.crShadow e n
    let shown := c.status ≠ stFlushed && decide ((m1.cr n).map (·.state) = some .active)
    let m1 := if shown then m1.stage id 11 else m1
    (m1.retire c.owner).sampleRecord e id c.status

/-- Held completions go out in order while the ring has room; once none is left ovf clears and the stopped queues resume
(R133, R136, R138). -/
def Module.drainHeld (m : Module) (e : Env) (n : Nat) : Nat → Module
  | 0 => m
  | fuel + 1 =>
    match m.cr n, (m.crRt n).held with
    | some k, c :: l =>
      if k.state ≠ .active || k.full then m
      else
        let m := m.setCrRt n { m.crRt n with held := l }
        let m := m.crWrite e n c
        if l.isEmpty then m.heldOver n else m.drainHeld e n fuel
    | _, _ => m

/-- An operation's completion takes its ring and ND from its WQ's context, which is loaded again where it has left the cache (R99). -/
def Module.addressed (m : Module) (e : Env) (c : Completion) : Completion × Module :=
  match c.owner with
  | .op _ =>
    let m := m.needWq e c.wq
    match m.wq c.wq with
    | none => (c, m)
    | some k => ({ c with cr := k.cr, nd := k.nd }, m)
  | _ => (c, m)

/-- A completion goes to its ring, or is held, or discarded (R129–R136, R140, R148, R156, R770). -/
def Module.post (m : Module) (e : Env) (c : Completion) : Module :=
  let (c, m) := m.addressed e c
  let m := m.needCr e c.cr
  match m.cr c.cr with
  | none =>
    let m := match c.owner with
      | .op id => match m.op id with
        | none => m
        | some o => m.wqError e o.wq ecBadContext none
      | _ => m
    (m.discard c).raise pgQctl Ev.tableErr
  | some k =>
    if k.state = .error then
      if (m.crRt c.cr).linkDead || m.ownerClosing c.owner then m.discard c else m.hold c.cr c
    else if !(m.crRt c.cr).held.isEmpty then m.hold c.cr c
    else if k.full then
      let m := m.crReadShadow e c.cr
      match m.cr c.cr with
      | none => m.discard c
      | some k => if k.state = .active && !k.full then m.crWrite e c.cr c else m.hold c.cr c
    else m.crWrite e c.cr c

/-- The WQ context of an operation is in the cache after this (R99). -/
def Module.needOp (m : Module) (e : Env) (id : Nat) : Module :=
  match m.op id with
  | none => m
  | some o => m.needWq e o.wq

/-- An operation ends with a status that also puts its WQ into ERROR with cause LOCAL (R127, R133). -/
def Module.opFail (m : Module) (e : Env) (id status length info peer detail : Nat) : Module :=
  match m.op id with
  | none => m
  | some o =>
    let m := (m.needWq e o.wq).opDone id status length info peer detail
    m.wqError e o.wq ecLocal (if o.trig.isSome then none else some o.idx)

/-- Whether an arriving operation that would complete to a ring is refused (R137, R156): the ring holds completions, the
holding pool is full, or the ring is not ACTIVE. -/
def Module.crRefuses (m : Module) (n : Nat) : Bool :=
  !(m.crRt n).held.isEmpty || decide (16384 ≤ m.q.pool) ||
  (match m.cr n with
    | none => true
    | some k => decide (k.state ≠ .active))

/-- An entry of the holding pool is reserved. -/
def Module.poolTake (m : Module) (k : Nat) : Module := { m with q := { m.q with pool := m.q.pool + k } }

/-- A completion joins the finished ones. -/
def Module.finish (m : Module) (c : Completion) : Module := { m with q := { m.q with done := m.q.done ++ [c] } }

/-! ## The block's enable -/

/-- Whether a ring's address has the alignment its size asks (R97, R98). -/
def ringAligned (va size entry : Nat) : Bool := decide (va % min (entry * 2 ^ size) 4096 = 0)

/-- The conditions of R100 on contexts 0. -/
def contextsOk (wv cv : Bool) (w : WqCtx) (c : CrCtx) : Bool :=
  wv && cv && sizeOk w.size && sizeOk c.size && ringAligned w.ringVa w.size 64 && ringAligned c.ringVa c.size 32 &&
  decide (w.ciShadow % 4 = 0) && decide (c.piShadow % 4 = 0) && (!w.poll || decide (w.piShadow % 4 = 0)) &&
  decide (c.ciShadow % 4 = 0) && !w.user && decide (w.cr = 0) && decide (w.nd ≠ 0xFFFF) &&
  (!w.poll || (decide (1 ≤ w.pollIvl) && decide (w.pollIvl ≤ 4000))) && decide (c.vector ≤ 2047)

/-- The queue block is emptied: every queue and ring FREE, what is held or cached gone (R101), and no FAILING direction waits for an
operation of it (R243). Operation numbers run on. -/
def Module.queuesClear (m : Module) : Module :=
  let m := ({ m with q := { Queues.init with nextOp := m.q.nextOp }, smp := { m.smp with releasing := [] } }).setTagged []
  let rest (c : Conn) : Conn := if c.txState = .failing then { c with txState := .idle, failOps := [] } else c
  let m := { m with x := { m.x with conns := m.x.conns.map (fun (p : Nat × Conn) => (p.1, rest p.2)) } }
  (((m.put (F.pgBlock pgQctl 0 0) 0).put F.adminCurBusy 0).put F.adminCurOpcode 0).put F.adminCurIndex 0

/-- QCTL.PG_CTL.enable goes from 0 to 1 (R100, R147). -/
def Module.queuesEnable (m : Module) (e : Env) : Module :=
  let m := (m.queuesClear).put (F.pgBlock pgQctl 1 1) 0
  let fail (m : Module) : Module :=
    ((m.put (F.pgEnable pgQctl) 0).put (F.pgBlock pgQctl 1 1) 1).raise pgQctl Ev.tableErr
  let sw := m.get F.qctlWqtabSize
  let sc := m.get F.qctlCrtabSize
  let m := m.put (F.pgEnable pgQctl) 1
  if sw < 4 || 16 < sw || sc < 4 || 16 < sc then fail m
  else
    let l := m.get F.qctlWqtabLink
    match m.readWords e l 16 (m.wqAddr 0), m.readWords e l 8 (m.crAddr 0) with
    | some ws, some cs =>
      let (w, wv) := WqCtx.parse ws
      let (c, cv) := CrCtx.parse cs
      let m := m.readDone
      if contextsOk wv cv w c then
        let m := m.put (F.pgBlock pgQctl 0 0) 1
        let m := m.setCr 0 { c with state := .active, binds := 1, ovf := false }
        m.setWq 0 { w with state := .active, errCause := 0, errIdx := 0, outstanding := 0 }
      else fail m
    | _, _ => fail m.readDone

/-- A write of QCTL.PG_CTL (R100, R101). -/
def Module.queueCtl (m : Module) (w : Wr) (e : Env) : Module :=
  let a := pgQctl * 0x1000 + 0x18
  let was := m.get (F.pgEnable pgQctl)
  let new := bits w.value 0 0
  let m1 := m.pageCtl a w
  if !m.reaches a || !touches w.half 0 0 || was = new then m1
  else if new = 1 then m1.queuesEnable e
  else (m1.put (F.pgEnable pgQctl) 0).queuesClear

/-- Meaning of QUEUE_BLOCK_ENABLE (R100): a write of QCTL.PG_CTL that sets enable. -/
def execQueueBlockEnable (w : Wr) (e : Env) (s : State) : Res :=
  s.runAs w.master fun m => if bit w.value 0 then (m.at e).queueCtl w e else m

/-- Meaning of QUEUE_BLOCK_DISABLE (R101): a write of QCTL.PG_CTL that clears enable. -/
def execQueueBlockDisable (w : Wr) (e : Env) (s : State) : Res :=
  s.runAs w.master fun m => if bit w.value 0 then m else (m.at e).queueCtl w e

/-! ## Doorbells -/

/-- A producer value is offered to a WQ (R104). -/
def Module.wqProduce (m : Module) (e : Env) (n p : Nat) : Module :=
  match m.wq n with
  | none => m
  | some c =>
    let dNew := seqSub 32 p c.ci
    let dOld := seqSub 32 c.piKnown c.ci
    if dNew = dOld then m
    else if dNew < dOld then m.count pgQctl 2
    else if dNew ≤ 2 ^ c.size then m.setWq n { c with piKnown := p % 2 ^ 32 }
    else m.wqError e n ecDbOverrun none

/-- A doorbell write is discarded (R107). -/
def Module.dbDiscard (m : Module) : Module := (m.count pgQctl 3).raise pgQctl Ev.dbDiscard

/-- Whether a WQ takes doorbells from a link (R107). -/
def Module.wqTakes (m : Module) (n link : Nat) : Bool :=
  match m.wq n with
  | none => false
  | some c => (c.state = .active || c.state = .stopped) && decide (c.link = link)

/-- Whether a CR takes doorbells from a link (R107). -/
def Module.crTakes (m : Module) (n link : Nat) : Bool :=
  match m.cr n with
  | none => false
  | some c => decide (c.state = .active) && decide (c.link = link)


/-- A ring is armed; a ring that is not empty notifies at once (R131). -/
def Module.crArm (m : Module) (n : Nat) : Module :=
  match m.cr n with
  | none => m
  | some c => (m.setCr n { c with armed := true }).crNotify n

/-- A write to WQ_PI of a doorbell page (R104, R107, R108). A 32-bit write to offset 0x004 carries no index. -/
def Module.wqPi (m : Module) (e : Env) (n link : Nat) (half : Half) (value : Word) : Module :=
  let m := m.needWq e n
  if half = .hi || !m.wqTakes n link then m.dbDiscard else m.wqProduce e n (bits value 31 0)

/-- A write to CR_CI of a doorbell page (R105, R107, R131, R138): of 64 bits, or of 32 bits with the index at 0x008 or arm at
0x00C. -/
def Module.crCi (m : Module) (e : Env) (n link : Nat) (half : Half) (value : Word) : Module :=
  let m := m.needCr e n
  if !m.crTakes n link then m.dbDiscard
  else
    let m := if half = .hi then m else (m.crConsume n (bits value 31 0)).drainHeld e n 16385
    if half ≠ .lo && bit value 32 then m.crArm n else m

/-- A write of up to 8 bytes to a doorbell page (R106), at an offset that is a multiple of 8: outside WQ_PI and CR_CI, and the PUSH
window that PUSH_WRITE serves, it is discarded. -/
def Module.bar2Write (m : Module) (e : Env) (n link off : Nat) (half : Half) (value : Word) : Module :=
  if off = 0x000 then m.wqPi e n link half value else if off = 0x008 then m.crCi e n link half value else m

/-- What a read of a doorbell page returns, at any offset (R106). -/
def Module.bar2Read (_m : Module) (_n _off : Nat) : Word := 0

/-- Meaning of WQ_DOORBELL (R104, R107, R108): a write of WQ_PI. -/
def execWqDoorbell (n : BitVec 16) (link : Fin 4) (half : Half) (value : Word) (e : Env) (s : State) : Res :=
  s.run fun m => (m.at e).bar2Write e n.toNat link.val 0x000 half value

/-- Meaning of CR_DOORBELL (R105, R107, R131, R138): a write of CR_CI. -/
def execCrDoorbell (n : BitVec 16) (link : Fin 4) (half : Half) (value : Word) (e : Env) (s : State) : Res :=
  s.run fun m => (m.at e).bar2Write e n.toNat link.val 0x008 half value

/-- Meaning of CR_ARM (R131): a 32-bit write to offset 0x00C, the upper half of CR_CI; its bit 0 arms. -/
def execCrArm (n : BitVec 16) (link : Fin 4) (value : BitVec 32) (e : Env) (s : State) : Res :=
  s.run fun m => (m.at e).bar2Write e n.toNat link.val 0x008 .hi (BitVec.ofNat 64 (2 ^ 32 * value.toNat))

/-- A WQE comes on chip as an operation that has not started (R119, R121, R727). -/
def Module.takeWqe (m : Module) (n idx : Nat) (wqe : List Word) : Module :=
  let id := m.q.nextOp
  let o : Op := { wq := n, idx := idx, wqe := wqe, started := false, trig := none, silent := false, finished := false, dead := false }
  let m := { m with q := { m.q with ops := KMap.put m.q.ops id o, nextOp := id + 1 } }
  m.sampleDraw id o (wqeOpcode wqe) (wqeTag wqe)

/-- Whether a WQ may fetch now: the block runs in a mode that fetches (R616, R624), the queue is ACTIVE, and before a group is
assigned only WQ 0 fetches (R25). -/
def Module.mayFetch (m : Module) (n : Nat) : Bool :=
  m.running && m.noonish && (m.groupValid || decide (n = 0)) &&
  (match m.wq n with
    | none => false
    | some c => decide (c.state = .active))

/-- ci goes to the consumer shadow of a queue that has consumed WQEs since the last write; a fault puts it into ERROR (R120, R121). -/
def Module.ciShadow (m : Module) (e : Env) (n : Nat) : Module :=
  match m.wq n with
  | none => m
  | some c =>
    if (m.wqRt n).ciSince = 0 then m
    else match m.writeCi e n c with
      | (none, m1) => m1
      | (some _, m1) => m1.wqError e n ecFetchFault none

/-- The consumer shadow is written before a queue consumes more than 16 WQEs without it: `k` more are to come (R121). -/
def Module.ciDue (m : Module) (e : Env) (n k : Nat) : Module := if 16 < (m.wqRt n).ciSince + k then m.ciShadow e n else m

/-- Pushed WQEs at the head of a WQ come on chip without a read, while the counts permit (R112, R119). -/
def Module.takePushed (m : Module) (e : Env) (n : Nat) : Nat → Module
  | 0 => m
  | fuel + 1 =>
    match m.wq n with
    | none => m
    | some c =>
      let rt := m.wqRt n
      match KMap.get rt.pushed c.ci with
      | none => m
      | some w =>
        if rt.fetch.isSome || !m.mayFetch n || c.ci = c.piKnown || 256 ≤ c.outstanding || 16384 ≤ m.q.pool then m
        else
          let m := m.setWqRt n { rt with pushed := KMap.erase rt.pushed c.ci, ciSince := rt.ciSince + 1 }
          let m := m.setWq n { c with ci := (c.ci + 1) % 2 ^ 32, outstanding := c.outstanding + 1 }
          ((((m.poolTake 1).takeWqe n c.ci w).ciDue e n 1)).takePushed e n fuel

/-- A complete push acts as a doorbell for the next slot (R112). -/
def Module.pushDone (m : Module) (e : Env) (n : Nat) (bytes : List Byte) : Module :=
  match m.wq n with
  | none => m
  | some c =>
    let ws := (List.range 8).map (fun i => BitVec.ofNat 64 (fieldLE bytes (8 * i) 8))
    let old := c.piKnown
    let m := m.wqProduce e n ((old + 1) % 2 ^ 32)
    match m.wq n with
    | none => m
    | some c1 =>
      if wqeField ws 2 2 ≠ old % 2 ^ 16 then (m.count pgQctl 4).raise pgQctl Ev.pushMismatch
      else if c1.piKnown = (old + 1) % 2 ^ 32 then
        let rt := m.wqRt n
        (m.setWqRt n { rt with pushed := KMap.put rt.pushed old ws }).takePushed e n 1
      else m

/-- Bytes written into the PUSH window (R110, R111). -/
def pushBytes (off : Nat) (data : List Byte) : List (Nat × Byte) :=
  (data.zipIdx.map (fun p => (off + p.2, p.1))).filter (fun p => p.1 < 64)

/-- Meaning of PUSH_WRITE (R47, R107, R110–R112): a write of some bytes at an offset of the PUSH window. -/
def execPushWrite (n : BitVec 16) (link : Fin 4) (off : BitVec 6) (data : List Byte) (e : Env) (s : State) : Res :=
  s.run fun m =>
    let m := (m.at e).needWq e n.toNat
    if !m.wqTakes n.toNat link.val then m.dbDiscard
    else
      let rt := m.wqRt n.toNat
      let new := pushBytes off.toNat data
      let repeated := new.any (fun p => (KMap.get rt.push p.1).isSome)
      let base := if repeated then [] else rt.push
      let m := if repeated then (m.count pgQctl 4).raise pgQctl Ev.pushMismatch else m
      let asm := new.foldl (fun l p => KMap.put l p.1 p.2) base
      if asm.length = 64 then
        (m.setWqRt n.toNat { m.wqRt n.toNat with push := [] }).pushDone e n.toNat (asm.map (·.2))
      else m.setWqRt n.toNat { m.wqRt n.toNat with push := asm }

/-! ## Polls and fetches -/

/-- The producer shadow of a polled queue is read, and what it holds is taken (R114, R115, R120, R765). -/
def Module.shadowPoll (m : Module) (e : Env) (n : Nat) : Module :=
  let m := m.needWq e n
  match m.wq n with
  | none => m
  | some c =>
    if !c.poll || c.state ≠ .active then m
    else
      let m := m.count pgQctl 5
      match m.readVirt e c.link { asid := c.asid, va := c.piShadow, acc := .shadowRead, user := c.user, allowSe := true,
                                  engine := 0, source := 0, object := n } 4 with
      | (.error _, m1) => m1.wqError e n ecFetchFault none
      | (.ok bs, m1) => m1.wqProduce e n (leNat bs)

/-- Meaning of SHADOW_POLL (R114, R115, R120): the producer shadow of a polled ACTIVE queue is read and offered. -/
def execShadowPoll (n : BitVec 16) (e : Env) (s : State) : Res := s.run fun m => (m.at e).shadowPoll e n.toNat

/-- The access of a WQE fetch (R120, R161, R170). -/
def fetchReq (n : Nat) (c : WqCtx) (idx : Nat) : XReq :=
  { asid := c.asid, va := (c.ringVa + 64 * (idx % 2 ^ c.size)) % 2 ^ 64, acc := .fetch, user := c.user, allowSe := true,
    engine := 0, source := 0, object := n }

/-- How many WQEs one read may take (R117–R119): up to 8, below pi_known, to the end of the ring, to the end of the page, within
the outstanding count and the holding pool, and not over a pushed slot. -/
def Module.fetchCount (m : Module) (n : Nat) (c : WqCtx) : Nat :=
  let avail := seqSub 32 c.piKnown c.ci
  let ring := 2 ^ c.size - c.ci % 2 ^ c.size
  let page := (4096 - (fetchReq n c c.ci).va % 4096) / 64
  let k := min (min (min 8 avail) (min ring page)) (min (256 - c.outstanding) (16384 - m.q.pool))
  let clear := (List.range k).takeWhile (fun i => (KMap.get (m.wqRt n).pushed ((c.ci + i) % 2 ^ 32)).isNone)
  clear.length

/-- Meaning of WQE_FETCH (R25, R117–R120, R122): a read of WQEs starts, or waits for the walk of its page. A page with side
effects is read one WQE at a time. -/
def execWqeFetch (n : BitVec 16) (e : Env) (s : State) : Res :=
  s.run fun m =>
    let m := ((m.at e).needWq e n.toNat).takePushed e n.toNat 256
    match m.wq n.toNat with
    | none => m
    | some c =>
      let rt := m.wqRt n.toNat
      let k := m.fetchCount n.toNat c
      if !m.mayFetch n.toNat || rt.fetch.isSome || k = 0 then m
      else
        let r := fetchReq n.toNat c c.ci
        match m.lookup r with
        | (.fail f, m1) => (m1.logFault r f).wqError e n.toNat ecFetchFault none
        | (.done pa se, m1) =>
          let k := if se then 1 else k
          (m1.setWqRt n.toNat { rt with fetch := some { idx := c.ci, n := k, addr := pa, walk := none, stale := false } }).poolTake k
        | (.read w, m1) =>
          (m1.setWqRt n.toNat { rt with fetch := some { idx := c.ci, n := k, addr := 0, walk := some w, stale := false } }).poolTake k

/-- Meaning of WALK_READ_RETURN (R163–R175, R182, R183, R192): the walk of a WQ's fetch gets the words it read, or a bus error. -/
def execWalkReadReturn (n : BitVec 16) (data : Option (List Word)) (e : Env) (s : State) : Res :=
  s.run fun m =>
    let m := m.at e
    let rt := m.wqRt n.toNat
    match rt.fetch with
    | none => m
    | some f =>
      match f.walk with
      | none => m
      | some w =>
        match m.walkReturn w data with
        | (.read w', m1) => m1.setWqRt n.toNat { m1.wqRt n.toNat with fetch := some { f with walk := some w' } }
        | (.fail x, m1) => (m1.logFault w.req x).wqError e n.toNat ecFetchFault none
        | (.done pa se, m1) =>
          let k := if se then 1 else f.n
          (m1.setWqRt n.toNat { m1.wqRt n.toNat with fetch := some { f with walk := none, addr := pa, n := k } }).poolFree (f.n - k)

/-- Meaning of WQE_FETCH_RETURN (R120, R121, R123, R124, R765): the WQEs come on chip, in order, or the queue enters ERROR. -/
def execWqeFetchReturn (n : BitVec 16) (data : Option (List Word)) (e : Env) (s : State) : Res :=
  s.run fun m =>
    let m := m.at e
    let rt := m.wqRt n.toNat
    match rt.fetch, m.wq n.toNat with
    | some f, some c =>
      if f.walk.isSome then m
      else
        let m := (m.count (pgHost c.link) 2)
        match data with
        | none => (m.logFault (fetchReq n.toNat c f.idx) ⟨ftDataAccess, 1⟩).wqError e n.toNat ecFetchFault none
        | some ws =>
          let m := m.countUp (pgHost c.link) 0 (64 * f.n)
          let m := m.setWqRt n.toNat { rt with fetch := none, ciSince := rt.ciSince + f.n }
          let m := m.setWq n.toNat { c with ci := (f.idx + f.n) % 2 ^ 32, outstanding := c.outstanding + f.n }
          let m := m.countUp pgQctl 0 f.n
          let m := (List.range f.n).foldl (fun m i => m.takeWqe n.toNat ((f.idx + i) % 2 ^ 32) ((ws.drop (8 * i)).take 8)) m
          m.ciDue e n.toNat 8
    | _, _ => m

/-- Meaning of CI_SHADOW_WRITE (R120, R121): ci goes to the consumer shadow, where WQEs were consumed since the last write. -/
def execCiShadowWrite (n : BitVec 16) (e : Env) (s : State) : Res :=
  s.run fun m =>
    ((m.at e).needWq e n.toNat).ciShadow e n.toNat

/-! ## Starting operations -/

/-- Opcodes of network operations that are assigned (chapters on remote memory, matching and collectives). -/
def netOpcodes : List Nat := [0x01, 0x02, 0x03, 0x04, 0x05, 0x06, 0x10, 0x12, 0x13, 0x14, 0x20, 0x21, 0x22]

/-- Opcodes of admin commands that are assigned (R143). -/
def adminOpcode (n : Nat) : Bool :=
  (decide (0x80 ≤ n) && decide (n ≤ 0x90)) || (decide (0xA0 ≤ n) && decide (n ≤ 0xA5)) || decide (n = 0xC0) || decide (n = 0xC1)

/-- Whether the header of a WQE is one R125 refuses. -/
def wqeInvalid (c : WqCtx) (n : Nat) (w : List Word) : Bool :=
  let o := wqeOpcode w
  !(netOpcodes.contains o || adminOpcode o) || (decide (0x80 ≤ o) && decide (n ≠ 0)) || !nbit c.tcMask (wqeTc w) ||
  decide (wqeBits w 0 15 11 ≠ 0) || decide (wqeBits w 8 63 21 ≠ 0)

/-- Whether an operation's header is one R125 refuses, or, fired from a triggered list, its opcode one R377 does not allow. -/
def opInvalid (c : WqCtx) (o : Op) : Bool :=
  wqeInvalid c o.wq o.wqe || (o.trig.isSome && (decide (wqeOpcode o.wqe = 0x22) || decide (0x80 ≤ wqeOpcode o.wqe)))

/-- Whether an operation may start: fetched, not started, its queue not in ERROR or CLOSING, and its fence satisfied
(R124). -/
def Module.mayStart (m : Module) (id : Nat) (o : Op) : Bool :=
  !o.started &&
  (o.trig.isSome ||
    ((match m.wq o.wq with
      | none => false
      | some c => c.state = .active || c.state = .stopped) &&
     (!wqeFence o.wqe || !(m.q.ops.any (fun p => decide (p.1 < id) && decide (p.2.wq = o.wq) && p.2.trig.isNone)))))

/-- An operation that may start, with the opcode it is to have and a header R125 allows. -/
def Module.startable (m : Module) (id opcode : Nat) : Option (Op × WqCtx) :=
  match m.op id with
  | none => none
  | some o =>
    match m.wq o.wq with
    | none => none
    | some c =>
      if m.mayStart id o && decide (wqeOpcode o.wqe = opcode) && !opInvalid c o then some (o, c) else none

/-- An operation starts (R729: stage 1). -/
def Module.opStart (m : Module) (id : Nat) (o : Op) : Module := (m.setOp id { o with started := true }).stage id 1

/-- The access of a WQE's local buffer (R161). -/
def localReq (o : Op) (c : WqCtx) (engine va : Nat) (acc : Acc) : XReq :=
  { asid := c.asid, va := va, acc := acc, user := c.user, allowSe := true, engine := engine, source := 2, object := o.wq }

/-- Meaning of UNASSIGNED_OPCODE (R125, R133): a WQE whose header is refused completes with INVALID_WQE. -/
def execUnassignedOpcode (id : Nat) (e : Env) (s : State) : Res :=
  s.run fun m =>
    let m := (m.at e).needOp e id
    match m.op id with
    | none => m
    | some o =>
      match m.wq o.wq with
      | none => m
      | some c =>
        if m.mayStart id o && opInvalid c o then
          let detail := if wqeBits o.wqe 8 63 21 ≠ 0 then 8 else 0
          m.opFail e id stInvalidWqe 0 0 0 detail
        else m

/-! ## Writing completions -/

/-- A completion of an operation names the ring and the ND of the operation's WQ, as its context now says (R126, R770); the context
is in the cache after this (R99). -/
def Module.resolve (m : Module) (e : Env) (c : Completion) : Completion × Module :=
  match c.owner with
  | .op id =>
    match m.op id with
    | none => (c, m)
    | some o =>
      let m := m.needWq e o.wq
      match m.wq o.wq with
      | none => (c, m)
      | some w => ({ c with cr := w.cr, nd := w.nd }, m)
  | _ => (c, m)

/-- Meaning of COMPLETION_WRITE (R128–R136, R140, R147, R729): the k-th of the finished operations' completions is written,
held or discarded; one without an entry only ends. -/
def execCompletionWrite (k : Nat) (e : Env) (s : State) : Res :=
  s.run fun m =>
    let m := m.at e
    match m.q.done[k]? with
    | none => m
    | some c =>
      let (c, m) := Module.resolve { m with q := { m.q with done := m.q.done.eraseIdx k } } e c
      let m := match c.owner with
        | .op id => m.trigEnd id c.status
        | _ => m
      if c.write then m.post e c
      else
        let id := match c.owner with
          | .op id => id
          | _ => m.q.nextOp
        (m.retire c.owner).sampleRecord e id c.status

/-- Meaning of CR_SHADOW_REREAD (R105, R138): a ring that holds completions reads its consumer shadow and writes what fits. -/
def execCrShadowReread (n : BitVec 16) (e : Env) (s : State) : Res :=
  s.run fun m =>
    let m := m.at e
    if (m.crRt n.toNat).held.isEmpty then m
    else ((m.needCr e n.toNat).crReadShadow e n.toNat).drainHeld e n.toNat 16385

/-- Meaning of CR_OVERFLOW_TIMEOUT (R139): every WQ bound to a ring that has held completions for CROVTO.timeout, in µs, enters ERROR,
unless the timeout is 0. -/
def execCrOverflowTimeout (n : BitVec 16) (e : Env) (s : State) : Res :=
  s.run fun m =>
    let m := m.at e
    let bound := m.get F.qctlCrovtoTimeout
    if (m.crRt n.toNat).held.isEmpty || bound = 0 || m.now < (m.crRt n.toNat).heldAt + bound * 1000 then m
    else m.eachWq e (fun w => w.cr = n.toNat) (fun m q => m.wqError e q ecCrOverflow none)

end Sys2Proof.Machine
end

