-- ==== Sys2Proof/Machine/Admin.lean ====
section
/-! DEFINITION. The admin queue (R141–R152, R187–R193, R773): how an admin command starts and ends, and the commands on queues,
rings, contexts and translations. -/

namespace Sys2Proof.Machine

/-! ## How an admin command runs -/

/-- The admin command that starts next, if it has an opcode: the oldest admin WQE of WQ 0, which starts once the completion of the
one before it has been written (R141). -/
def Module.adminNext (m : Module) (opcode : Nat) : Option (Nat × Op) :=
  match m.q.ops.find? (fun p => decide (p.2.wq = 0) && p.2.trig.isNone && decide (0x80 ≤ wqeOpcode p.2.wqe)) with
  | none => none
  | some (id, _) =>
    match m.startable id opcode with
    | none => none
    | some (o, _) => some (id, o)

/-- The command is shown in ADMIN.CUR and has started (R141). -/
def Module.adminBegin (m : Module) (id : Nat) (o : Op) : Module :=
  let m := m.setOp id { o with started := true }
  let m := { m with q := { m.q with admin := some { opcode := wqeOpcode o.wqe, op := id, wqe := o.wqe, count := 0 } } }
  ((m.put F.adminCurBusy 1).put F.adminCurOpcode (wqeOpcode o.wqe)).put F.adminCurIndex o.idx

/-- The command in progress completes (R141, R142): length 0, the result in info. -/
def Module.adminEnd (m : Module) (status info detail : Nat) : Module :=
  match m.q.admin with
  | none => m
  | some a =>
    let m := m.opDone a.op status 0 info 0 detail
    ({ m with q := { m.q with admin := none } }).put F.adminCurBusy 0

/-- The command in progress succeeds. -/
def Module.adminOk (m : Module) (info : Nat) : Module := m.adminEnd stSuccess info 0

/-- The first of some checks that fails: the status and the detail. -/
def firstFail : List (Bool × Nat × Nat) → Option (Nat × Nat)
  | [] => none
  | (true, _) :: l => firstFail l
  | (false, s) :: _ => some s

/-- The command in progress runs `ok` where every check passes, else it fails with the first that does not. -/
def Module.checked (m : Module) (checks : List (Bool × Nat × Nat)) (ok : Module → Module) : Module :=
  match firstFail checks with
  | some (st, d) => m.adminEnd st 0 d
  | none => ok m

/-- A meaning of an admin command: where its WQE is the next to run, it starts and does `f` with its body. -/
def State.admin (s : State) (opcode : Nat) (e : Env) (f : Module → List Word → Module) : Res :=
  s.run fun m =>
    let m := (m.at e).needWq e 0
    match m.adminNext opcode with
    | none => m
    | some (id, o) => f (m.adminBegin id o) o.wqe

/-- The command in progress, where it has an opcode. -/
def Module.adminIs (m : Module) (opcode : Nat) : Option AdminOp :=
  match m.q.admin with
  | none => none
  | some a => if a.opcode = opcode then some a else none

/-- A CR's binds goes up (R147). -/
def Module.bind (m : Module) (cr : Nat) : Module :=
  match m.cr cr with
  | none => m
  | some c => m.setCr cr { c with binds := c.binds + 1 }

/-- A CR's binds goes down (R147). -/
def Module.unbind (m : Module) (cr : Nat) : Module :=
  match m.cr cr with
  | none => m
  | some c => m.setCr cr { c with binds := c.binds - 1 }

/-- Whether a CR is cached and ACTIVE. -/
def Module.crActive (m : Module) (n : Nat) : Bool :=
  match m.cr n with
  | none => false
  | some c => decide (c.state = .active)

/-- Number of polled queues, those whose context has gone back to the table included (R116). -/
def Module.polled (m : Module) : Nat := (m.q.wqs.filter (fun p => p.2.poll)).length + m.q.awayPoll.length

/-- Whether a WQ is FREE: no context is cached or described by the table. -/
def Module.wqFree (m : Module) (n : Nat) : Bool :=
  match m.wq n with
  | none => true
  | some c => decide (c.state = .free)

/-- Whether a CR is FREE. -/
def Module.crFree (m : Module) (n : Nat) : Bool :=
  match m.cr n with
  | none => true
  | some c => decide (c.state = .free)

/-! ## CREATE_WQ and CREATE_CR -/

/-- The context a CREATE_WQ asks for (R143). -/
def createWqCtx (w : List Word) : WqCtx :=
  let flags := wqeField w 0x31 1
  { ringVa := wqeField w 0x18 8, size := wqeField w 0x30 1, link := flags / 4 % 4, user := flags % 2 = 1,
    poll := flags / 2 % 2 = 1, cr := wqeField w 0x12 2, asid := wqeField w 0x14 2, nd := wqeField w 0x16 2,
    tcMask := wqeField w 0x32 1, pollIvl := wqeField w 0x34 2, piShadow := wqeField w 0x20 8,
    ciShadow := wqeField w 0x28 8, ci := wqeField w 0x38 4, piKnown := wqeField w 0x38 4, state := .active,
    errCause := 0, errIdx := 0, outstanding := 0 }

/-- The checks of CREATE_WQ, in order (R144, R145). -/
def Module.createWqChecks (m : Module) (w : List Word) : List (Bool × Nat × Nat) :=
  let c := createWqCtx w
  let n := wqeField w 0x10 2
  let polls (b : Bool) := !c.poll || b
  [(m.wqInTable n, stAdminInvalid, 0x10),
   (m.wqFree n, stAdminState, 0x10),
   (m.crInTable c.cr && m.crActive c.cr, stAdminInvalid, 0x12),
   (decide (c.nd ≠ 0xFFFF) && !(c.user && decide (c.nd = 0)), stAdminInvalid, 0x16),
   (!sizeOk c.size || ringAligned c.ringVa c.size 64, stAdminInvalid, 0x18),
   (polls (decide (c.piShadow % 4 = 0)), stAdminInvalid, 0x20),
   (decide (c.ciShadow % 4 = 0), stAdminInvalid, 0x28),
   (sizeOk c.size, stAdminInvalid, 0x30),
   (decide (wqeField w 0x31 1 < 16), stAdminInvalid, 0x31),
   (polls (decide (m.polled < 1024)), stAdminNoResource, 0x31),
   (!(c.user && nbit c.tcMask 7), stAdminInvalid, 0x32),
   (decide (wqeField w 0x33 1 = 0), stAdminInvalid, 0x33),
   (polls (decide (1 ≤ c.pollIvl) && decide (c.pollIvl ≤ 4000)), stAdminInvalid, 0x34)]

/-- Meaning of CREATE_WQ (R44, R116, R143–R145, R147): the context is written to the table and loaded ACTIVE. A ring that holds
completions has no ACTIVE queue (R136). -/
def execCreateWq (e : Env) (s : State) : Res :=
  s.admin 0x80 e fun m w =>
    let n := wqeField w 0x10 2
    let c := createWqCtx w
    let m := (m.needWq e n).needCr e c.cr
    m.checked (m.createWqChecks w) fun m =>
      let m := m.busWrite (m.get F.qctlWqtabLink) (m.wqAddr n) (c.staticBytes true ++ c.dynBytes)
      let c := { c with state := if (m.crRt c.cr).held.isEmpty then .active else .stopped }
      (((m.cacheWq n c).setWqRt n WqRt.init).bind c.cr).adminOk 0

/-- The context a CREATE_CR asks for (R143). -/
def createCrCtx (w : List Word) : CrCtx :=
  { ringVa := wqeField w 0x18 8, size := wqeField w 0x17 1, link := wqeField w 0x16 1 % 4, asid := wqeField w 0x14 2,
    vector := wqeField w 0x12 2, piShadow := wqeField w 0x20 8, ciShadow := wqeField w 0x28 8, pi := wqeField w 0x30 4,
    ciKnown := wqeField w 0x30 4, binds := 0, state := .active, armed := false, ovf := false }

/-- The checks of CREATE_CR, in order (R144). -/
def Module.createCrChecks (m : Module) (w : List Word) : List (Bool × Nat × Nat) :=
  let c := createCrCtx w
  let n := wqeField w 0x10 2
  [(m.crInTable n, stAdminInvalid, 0x10),
   (m.crFree n, stAdminState, 0x10),
   (decide (c.vector ≤ 2047), stAdminInvalid, 0x12),
   (decide (wqeField w 0x16 1 < 4), stAdminInvalid, 0x16),
   (sizeOk c.size, stAdminInvalid, 0x17),
   (ringAligned c.ringVa c.size 32, stAdminInvalid, 0x18),
   (decide (c.piShadow % 4 = 0), stAdminInvalid, 0x20),
   (decide (c.ciShadow % 4 = 0), stAdminInvalid, 0x28)]

/-- Meaning of CREATE_CR (R143, R144, R147). -/
def execCreateCr (e : Env) (s : State) : Res :=
  s.admin 0x83 e fun m w =>
    let n := wqeField w 0x10 2
    let c := createCrCtx w
    let m := m.needCr e n
    m.checked (m.createCrChecks w) fun m =>
      let m := m.busWrite (m.get F.qctlWqtabLink) (m.crAddr n) (c.staticBytes true ++ c.dynBytes)
      ((m.cacheCr n c).setCrRt n CrRt.init).adminOk 0

/-! ## DESTROY_WQ, DESTROY_CR, MODIFY_WQ -/

/-- Whether a completion belongs to an operation of a WQ. -/
def Module.ofWq (m : Module) (n : Nat) (c : Completion) : Bool :=
  match c.owner with
  | .op id => match m.op id with
    | none => false
    | some o => decide (o.wq = n)
  | _ => false

/-- Meaning of DESTROY_WQ (R133, R143, R146, R148): the queue closes; WQEs not started are flushed; it refuses doorbells; neither
WQ_ERROR nor QCTL.ERRLOG is set (log 131). The command completes with WQ_CLOSE_DONE. -/
def execDestroyWq (e : Env) (s : State) : Res :=
  s.admin 0x81 e fun m w =>
    let n := wqeField w 0x10 2
    let m := m.needWq e n
    m.checked [(m.wqInTable n, stAdminInvalid, 0x10), (!m.wqFree n && decide (n ≠ 0), stAdminState, 0x10)] fun m =>
      match m.wq n with
      | none => m
      | some c =>
        let fl := m.unstarted n
        let m := (m.dropFetch n).setWq n { c with state := .closing }
        let m := m.setWqRt n { m.wqRt n with push := [], pushed := [], flushed := fl.length }
        let m := fl.foldl (fun m id => m.opDone id stFlushed 0 0 0 0) m
        let m := m.discardLists n
        let m := if c.errCause = ecLinkReset && c.state = .error then m else (m.writeCi e n c).2
        let m := m.needCr e c.cr
        if m.crActive c.cr then m else m.discardHeld c.cr (m.ofWq n)

/-- Meaning of WQ_CLOSE_DONE (R133, R143, R147): a closing queue with no WQE outstanding and no fired entry in progress is written back
invalid, its ring's binds goes down, and DESTROY_WQ completes with the number of WQEs flushed. -/
def execWqCloseDone (e : Env) (s : State) : Res :=
  s.run fun m =>
    let m := m.at e
    match m.adminIs 0x81 with
    | none => m
    | some a =>
      let n := wqeField a.wqe 0x10 2
      match m.wq n with
      | none => m
      | some c =>
        if c.state ≠ .closing || c.outstanding ≠ 0 || m.q.ops.any (fun p => p.2.wq = n) then m
        else
          let c1 : WqCtx := { c with state := .free }
          let m := m.busWrite (m.get F.qctlWqtabLink) (m.wqAddr n) (c1.staticBytes false ++ c1.dynBytes)
          let flushed := (m.wqRt n).flushed
          let m := { m with q := { m.q with wqs := KMap.erase m.q.wqs n, wqRt := KMap.erase m.q.wqRt n } }
          ((m.needCr e c.cr).unbind c.cr).adminOk flushed

/-- Meaning of DESTROY_CR (R146, R148): a ring in ERROR discards what it holds; a ring without binds is written back invalid. -/
def execDestroyCr (e : Env) (s : State) : Res :=
  s.admin 0x84 e fun m w =>
    let n := wqeField w 0x10 2
    let m := m.needCr e n
    let m := if m.crActive n then m else m.discardHeld n (fun _ => true)
    let binds := match m.cr n with
      | none => 0
      | some c => c.binds
    let held := m.crActive n && !(m.crRt n).held.isEmpty
    m.checked [(m.crInTable n, stAdminInvalid, 0x10),
        (!m.crFree n && decide (n ≠ 0) && decide (binds = 0) && !held, stAdminState, 0x10)] fun m =>
      match m.cr n with
      | none => m
      | some c =>
        let c1 : CrCtx := { c with state := .free }
        let m := m.busWrite (m.get F.qctlWqtabLink) (m.crAddr n) (c1.staticBytes false ++ c1.dynBytes)
        ({ m with q := { m.q with crs := KMap.erase m.q.crs n, crRt := KMap.erase m.q.crRt n } }).adminOk 0

/-- The checks of MODIFY_WQ, in order (R158, R773). -/
def Module.modifyChecks (m : Module) (w : List Word) : List (Bool × Nat × Nat) :=
  let n := wqeField w 0x10 2
  let which := wqeField w 0x12 2
  let c := (m.wq n).getD (WqCtx.parse []).1
  let crErr := match m.cr c.cr with
    | none => false
    | some k => decide (k.state = .error)
  let poll := wqeField w 0x21 1
  let ivl := wqeField w 0x22 2
  [(m.wqInTable n, stAdminInvalid, 0x10),
   (c.state ≠ .free && c.state ≠ .closing, stAdminState, 0x10),
   (!nbit which 0 || (c.state = .error && c.errCause ≠ ecLinkReset && c.outstanding = 0 && !crErr), stAdminState, 0x10),
   (which < 8, stAdminInvalid, 0x12),
   (!nbit which 1 || !(c.user && nbit (wqeField w 0x20 1) 7), stAdminInvalid, 0x20),
   (!nbit which 2 || poll ≤ 1, stAdminInvalid, 0x21),
   (!(nbit which 2 && poll = 1 && !c.poll) || m.polled < 1024, stAdminNoResource, 0x21),
   (!(nbit which 2 && poll = 1) || (1 ≤ ivl && ivl ≤ 4000), stAdminInvalid, 0x22)]

/-- Meaning of MODIFY_WQ (R133, R143, R155, R158, R773): a restart, a new tc_mask, or a new poll setting, as `which` selects; the static
part goes to the table. A queue whose context holds a bad size is in ERROR again before any access to its ring. -/
def execModifyWq (e : Env) (s : State) : Res :=
  s.admin 0x82 e fun m w =>
    let n := wqeField w 0x10 2
    let which := wqeField w 0x12 2
    let m := m.needWq e n
    let m := match m.wq n with
      | none => m
      | some c => m.needCr e c.cr
    m.checked (m.modifyChecks w) fun m =>
      match m.wq n with
      | none => m
      | some c =>
        let held := !(m.crRt c.cr).held.isEmpty
        let c := if nbit which 0 then { c with ci := wqeField w 0x18 4, piKnown := wqeField w 0x18 4,
                                               state := if held then .stopped else .active } else c
        let c := if nbit which 1 then { c with tcMask := wqeField w 0x20 1 } else c
        let c := if nbit which 2 then { c with poll := decide (wqeField w 0x21 1 = 1), pollIvl := wqeField w 0x22 2 } else c
        let m := (m.setWq n c).busWrite (m.get F.qctlWqtabLink) (m.wqAddr n) (c.staticBytes true)
        let m := if nbit which 0 && !sizeOk c.size then (m.wqError e n ecBadContext none).raise pgQctl Ev.tableErr else m
        m.adminOk 0

/-! ## INVALIDATE_CONTEXT, INVALIDATE_TLB, NOP -/

/-- A cached WQ context that is not FREE is written back and dropped. -/
def Module.dropWq (m : Module) (n : Nat) : Module :=
  match m.wq n with
  | none => m
  | some c => m.leaveWq n c

/-- A cached CR context that is not FREE is written back and dropped. -/
def Module.dropCr (m : Module) (n : Nat) : Module :=
  match m.cr n with
  | none => m
  | some c => (({ m with q := { m.q with crs := KMap.erase m.q.crs n, awayCr := addNum m.q.awayCr n } }).writebackCr n c)

/-- The WQs and CRs that an INVALIDATE_CONTEXT names and that are cached (R151). -/
def Module.named (m : Module) (kind n : Nat) : List Nat × List Nat :=
  let w := (m.q.wqs.filter (fun p => p.2.state ≠ .free && (kind = 2 || (kind = 0 && p.1 = n)))).map (·.1)
  let c := (m.q.crs.filter (fun p => p.2.state ≠ .free && (kind = 2 || (kind = 1 && p.1 = n)))).map (·.1)
  (w, c)

/-- Meaning of INVALIDATE_CONTEXT (R99, R151, R152): the named contexts that are cached are written back and dropped. It waits
while one of them has a fetch in flight. -/
def execInvalidateContext (e : Env) (s : State) : Res :=
  s.run fun m =>
    let m := (m.at e).needWq e 0
    match m.adminNext 0x85 with
    | none => m
    | some (id, o) =>
      let kind := wqeField o.wqe 0x10 1
      let n := wqeField o.wqe 0x12 2
      let (ws, cs) := m.named kind n
      if ws.any (fun q => (m.wqRt q).fetch.isSome) then m
      else
        (m.adminBegin id o).checked [(decide (kind ≤ 2), stAdminInvalid, 0x10),
            ((kind = 2 || (kind = 0 && m.wqInTable n) || (kind = 1 && m.crInTable n) : Bool), stAdminInvalid, 0x12)] fun m =>
          let m := ws.foldl (fun m q => m.dropWq q) m
          let m := cs.foldl (fun m q => m.dropCr q) m
          m.adminOk (ws.length + cs.length)

/-- What an INVALIDATE_TLB's fields select (R187). -/
def tlbSel (w : List Word) : TlbSel :=
  let flags := wqeField w 0x12 2
  if nbit flags 0 then .all
  else if nbit flags 1 then .asid (wqeField w 0x10 2)
  else .pages (wqeField w 0x10 2) (wqeField w 0x18 8 / 4096) (wqeField w 0x20 4)

/-- Meaning of INVALIDATE_TLB (R187–R190, R192, R193): the selected translations leave every cache; the command completes with
INVALIDATE_TLB_DONE, or at once where it selects nothing. -/
def execInvalidateTlb (e : Env) (s : State) : Res :=
  s.admin 0x86 e fun m w =>
    let flags := wqeField w 0x12 2
    m.checked [(nbit flags 0 || decide (wqeField w 0x10 2 < 2 ^ m.get F.dtuAstabSize), stAdminInvalid, 0x10),
        (decide (flags < 4), stAdminInvalid, 0x12),
        (nbit flags 0 || nbit flags 1 || decide (wqeField w 0x18 8 % 4096 = 0), stAdminInvalid, 0x18)] fun m =>
      if flags = 0 && wqeField w 0x20 4 = 0 then m.adminOk 0 else m.tlbDrop (tlbSel w)

/-- Meaning of INVALIDATE_TLB_DONE (R191): no fetch that uses a dropped translation is in flight any more. -/
def execInvalidateTlbDone (e : Env) (s : State) : Res :=
  s.run fun m =>
    let m := m.at e
    match m.adminIs 0x86 with
    | none => m
    | some _ =>
      if m.q.wqRt.any (fun p => match p.2.fetch with
        | none => false
        | some f => f.stale) then m
      else m.adminOk 0

/-- Meaning of NOP (R143). -/
def execNop (e : Env) (s : State) : Res := s.admin 0x90 e fun m _ => m.adminOk 0

end Sys2Proof.Machine
end

