-- ==== Sys2Proof/Machine/NetOps.lean ====
section
/-! DEFINITION. Ports, their lanes and their control flits: what the scheduling, routing, mesh and link chapters share. -/

namespace Sys2Proof.Machine

/-! ## Ports -/

/-- A port, by its duo; a quad's by its lead duo. -/
def Module.port (m : Module) (p : Nat) : Port := KMap.getD m.n.ports p Port.init

/-- The module with a port set. -/
def Module.setPort (m : Module) (p : Nat) (q : Port) : Module := { m with n := { m.n with ports := KMap.put m.n.ports p q } }

/-- The module with a port changed. -/
def Module.onPort (m : Module) (p : Nat) (f : Port → Port) : Module := m.setPort p (f (m.port p))

/-- The ports of the reference wiring (R28): duos D00–D29 and the lead duos of the quads. -/
def portList : List Nat := List.range 30 ++ (List.range 8).map (fun k => 30 + 2 * k)

/-- Whether a duo is that of a port, the lead one of a quad. -/
def isPort (p : Nat) : Bool := decide (p < 30) || (isQuadDuo p && p % 2 = 0)

/-- Kind of a port (R504): 0 X, 1 Y, 2 global. -/
def portKind (p : Nat) : Nat := if p < 15 then 0 else if p < 30 then 1 else 2

/-- Width code of a port's full width: 1 = x2 for a duo, 2 = x4 for a quad (R531). -/
def fullWidth (p : Nat) : Nat := if isQuadDuo p then 2 else 1

/-- Regular pool and replay buffer of a port, in flits (R506). -/
def regPool (p : Nat) : Nat := if isQuadDuo p then 4080 else 2032
def replayPool (p : Nat) : Nat := if isQuadDuo p then 4096 else 2048

/-- Stub slots a port advertises, and those it keeps for notices of its own (R507). -/
def stubShare : Nat := 8

/-- Link states (PORT.LSTS.state, R520). -/
def lsDown : Nat := 0
def lsExchange : Nat := 2
def lsUp : Nat := 3
def lsRetrain : Nat := 4
def lsBonded : Nat := 5
def lsStandin : Nat := 6
def lsDisabled : Nat := 7

/-- State of a port's link (R520). -/
def Module.lstate (m : Module) (p : Nat) : Nat := m.get (F.portLstsState p)

/-- Whether a port's link is UP. -/
def Module.isUp (m : Module) (p : Nat) : Bool := decide (m.lstate p = lsUp)

/-- Flits queued for a port, of packets that have not started, scaled for a narrowed port (R423). -/
def Module.occupancy (m : Module) (p : Nat) : Nat :=
  let n := ((m.port p).queue.map (fun q => q.pkt.flits)).sum
  if m.isUp p then n * 2 ^ (fullWidth p - m.get (F.portLstsWidth p)) else n

/-- Field of a duo's quarantine cause in ROUTE.QSTS. -/
def qstsFld (d : Nat) : Fld := ⟨(F.routeQstsCause (d / 16)).reg, 4 * (d % 16) + 3, 4 * (d % 16)⟩

/-- Cause of a port's quarantine, 0 for none (R466). -/
def Module.qcause (m : Module) (p : Nat) : Nat := m.get (qstsFld p)

/-- A port's quarantine is set or cleared, at both duos of a quad, and shown in LSTS.quar (R466). -/
def Module.setQcause (m : Module) (p c : Nat) : Module :=
  let m := (m.put (qstsFld p) c).putFlag (F.portLstsQuar p) (c ≠ 0)
  if isQuadDuo p then m.put (qstsFld (p + 1)) c else m

/-- Whether a port may be chosen for a class (R429): its link is up, and a quarantined link carries only TC7. -/
def Module.candidate (m : Module) (p tc : Nat) : Bool := m.isUp p && (m.qcause p = 0 || tc = 7)

/-- T_dwell, ns (R447). -/
def Module.tdwell (m : Module) : Nat := m.get F.routeDwellTdwell * 1000

/-- Rates in units of 1/8 Gb/s (R543). -/
def rateEighths : Nat → Nat
  | 0 => 1792 | 1 => 1700 | 2 => 850 | _ => 425

/-- Flit time at a width and rate, ps, rounded up (R415). -/
def flitPs (width rate : Nat) : Nat := ceilDiv (1024 * 544 * 8000) (514 * 2 ^ width * rateEighths rate)

/-- Current flit time of a port, ps. -/
def Module.tflit (m : Module) (p : Nat) : Nat := m.get (F.pschGstsTflit p)

/-! ## Lanes -/

/-- The spare duo of a quad's half (R35). -/
def spareOf (p : Nat) : Nat := if p < 38 then 46 else 47

/-- The lane that fills a physical position of a port, a spare that stands in counted (R36, R557). -/
def Module.laneAt (m : Module) (p pos : Nat) : Nat :=
  if isQuadDuo p then
    if m.flag (F.portLstsSpare p) && pos / 2 = m.get (F.portLstsSparePos p) then 2 * spareOf p + pos % 2
    else 60 + 2 * (p - 30) + pos
  else 2 * p + pos

/-- The lanes of a port by physical position. -/
def Module.lanesOf (m : Module) (p : Nat) : List Nat := (List.range (2 ^ fullWidth p)).map (m.laneAt p)

/-- Whether a port's receive lanes are reversed (R556). -/
def Module.reversed (m : Module) (p : Nat) : Bool := (m.lanesOf p).any (fun n => m.flag (F.laneRxstsRev n))

/-- The logical position that a physical receive position carries (R557). -/
def Module.logical (m : Module) (p pos : Nat) : Nat := if m.reversed p then 2 ^ fullWidth p - 1 - pos else pos

/-- The lane that carries a logical receive position. -/
def Module.laneOfLogical (m : Module) (p pos : Nat) : Nat := m.laneAt p (m.logical p pos)

/-- Bring-up stages (RXSTS.stage). -/
def lgOff : Nat := 0
def lgPower : Nat := 1
def lgSignal : Nat := 2
def lgAcquire : Nat := 3
def lgAdapt : Nat := 4
def lgIdent : Nat := 5
def lgReady : Nat := 6
def lgRun : Nat := 7

/-- The mask of a port's logical positions whose lanes pass a test. -/
def Module.laneMask (m : Module) (p : Nat) (f : Nat → Bool) : Nat :=
  ((List.range (2 ^ fullWidth p)).map (fun i => if f (m.laneAt p i) then 2 ^ m.logical p i else 0)).sum

/-- The usable mask a port reports (R558): the lanes in RUN. -/
def Module.usable (m : Module) (p : Nat) : Nat := m.laneMask p (fun n => m.get (F.laneRxstsStage n) = lgRun)

/-- The logical positions of a port whose lanes have not failed. -/
def Module.unfailed (m : Module) (p : Nat) : Nat := m.laneMask p (fun n => !m.flag (F.laneRxstsFailed n))

/-- The lanes of the positions of a mask. -/
def Module.lanesIn (m : Module) (p mask : Nat) : List Nat :=
  ((List.range (2 ^ fullWidth p)).filter (fun i => nbit mask i)).map (m.laneOfLogical p)

/-- The duo, and so the port, that a lane serves: that of the quad it stands in for where it is a spare's; none for the lane of
a spare at rest. -/
def Module.portOfLane (m : Module) (n : Nat) : Option Nat :=
  let d := n / 2
  if 46 ≤ d then
    ((List.range 4).map (fun k => (if d = 46 then 30 else 38) + 2 * k)).find? (fun p => m.flag (F.portLstsSpare p))
  else
    let p := leadDuo d
    if isQuadDuo p && m.flag (F.portLstsSpare p) && d % 2 = m.get (F.portLstsSparePos p) then none else some p

/-- Whether a port uses a lane now. -/
def Module.laneInUse (m : Module) (n : Nat) : Bool :=
  match m.portOfLane n with
  | none => false
  | some p => m.isUp p && (m.lanesIn p (m.get (F.portLstsLanes p))).contains n

/-! ## Control flits -/

/-- The marker of a control flit (R503). -/
def ctlMarker : List Byte := [0x1C, 0xE5, 0x0F, 0xA3, 0x9B, 0x70, 0x5A, 0x30, 0x0C, 0x3C, 0xA5, 0xC3]

/-- A control flit of a type with a body (R503). -/
def ctlFlit (type : Nat) (body : List Byte) : List Byte :=
  let head := (ctlMarker ++ [BitVec.ofNat 8 type, 0] ++ body ++ List.replicate 110 0).take 124
  head ++ beBytes 4 (crc32c head)

/-- The type of a received control flit whose marker and CRC are right and whose type is assigned (R503). -/
def ctlType (f : List Byte) : Option Nat :=
  if f.length = 128 && f.take 12 = ctlMarker && f.drop 124 = beBytes 4 (crc32c (f.take 124)) && (f.getD 12 0).toNat ≤ 6 then
    some (f.getD 12 0).toNat
  else none

/-- A field of a flit, most significant byte first (R504). -/
def flitBE (f : List Byte) (off n : Nat) : Nat := leNat ((f.drop off).take n).reverse

/-- The level of an occupancy in a hint (R439). -/
def Module.hintLevel (m : Module) (occ : Nat) : Nat := min 15 (occ / 2 ^ m.get F.routeAdaptHshift)

/-- The module's own dist and synced (R383). -/
def Module.dist (m : Module) : Nat := if m.flag F.timeCfgGm then 0 else m.get F.timeStsDist

/-- The time block of a port (R539). The model's clock counts whole ns, so the fractions of its own stamps are 0 (log 21). -/
def Module.timeBlock (m : Module) (p : Nat) : List Byte :=
  let (en, ef, rx) := match (m.port p).stamp with
    | none => (0, 0, 0)
    | some s => (s.ns, s.frac, s.rx)
  beBytes 8 m.fabricNow ++ beBytes 2 0 ++ beBytes 8 en ++ beBytes 2 ef ++ beBytes 8 rx ++ beBytes 2 0 ++
  [BitVec.ofNat 8 (m.dist % 32 + 128 * m.get F.timeStsSynced)]

/-- Sequence number last accepted on a port. -/
def Module.lastAcc (m : Module) (p : Nat) : Nat := (m.get (F.portLstsRxSeq p) + 4095) % 4096

/-- The TRAIN flit of a port (R504, R521, R524). -/
def Module.trainBody (m : Module) (p : Nat) : List Byte :=
  let q := m.port p
  let flags := b2n m.groupValid + 2 * b2n q.qmaster + 4 * b2n q.far.isSome + 8 * b2n q.stateValid
  let rate := m.get (F.laneModeRate (2 * p))
  beBytes 3 m.fa ++ [BitVec.ofNat 8 flags] ++ beBytes 2 (m.get F.routeEpochEpoch) ++
  [BitVec.ofNat 8 (p + 64 * portKind p), BitVec.ofNat 8 (m.get (F.portLwidReq p) + 4 * rate + 16 * m.usable p)] ++
  beBytes 2 (m.lastAcc p) ++ beBytes 2 (regPool p - q.rxReg) ++ beBytes 1 (stubShare - q.rxStub) ++ [0] ++
  beBytes 8 q.token ++ m.timeBlock p

/-- The LINK flit of a port (R439, R504, R511, R518). -/
def Module.linkBody (m : Module) (p : Nat) (qclr retrain down : Bool) : List Byte :=
  let q := m.port p
  let quad (k : Nat) : Byte :=
    BitVec.ofNat 8 (16 * b2n (m.isUp (30 + 2 * k)) + m.hintLevel (m.occupancy (30 + 2 * k)))
  let hintBits := ((List.range 8).map (fun k => (quad k).toNat * 2 ^ (5 * k))).sum
  let top (l : List Nat) : Nat := m.hintLevel ((l.map m.occupancy).foldl max 0)
  beBytes 2 (m.lastAcc p) ++ beBytes 2 q.freedReg ++ beBytes 1 q.freedStub ++
  [BitVec.ofNat 8 (b2n qclr + 2 * b2n retrain + 4 * b2n down)] ++ beBytes 2 q.rxReg ++ beBytes 5 hintBits ++
  [BitVec.ofNat 8 (16 * top (List.range 15) + top ((List.range 15).map (15 + ·)))]

/-- Type and body of a control flit a port owes (R503, R504). -/
def Module.ctlBody (m : Module) (p : Nat) : Ctl → Nat × List Byte
  | .link a b c => (1, m.linkBody p a b c)
  | .replay seq reason => (2, beBytes 2 seq ++ [BitVec.ofNat 8 reason])
  | .time => (3, m.timeBlock p)
  | .train => (4, m.trainBody p)
  | .width op w forced mask id =>
    (5, [BitVec.ofNat 8 op, BitVec.ofNat 8 (w + 128 * b2n forced), BitVec.ofNat 8 mask, BitVec.ofNat 8 id])
  | .spare op pos => (6, [BitVec.ofNat 8 op, BitVec.ofNat 8 pos])

/-- The place of a control flit in the order in which a port sends what it owes (R505). -/
def Ctl.rank : Ctl → Nat
  | .replay .. => 0 | .width .. => 1 | .spare .. => 2 | .link .. => 3 | .time => 4 | .train => 5

/-- A control flit leaves a port. A LINK flit reports the slots freed (R511); a TRAIN flit may carry this end's ack (R521). -/
def Module.sendFlit (m : Module) (p : Nat) (c : Ctl) : Module :=
  let (t, b) := m.ctlBody p c
  let m := (m.emit (.flit p (ctlFlit t b))).count (pgPort p) 0
  match c with
  | .link .. => m.onPort p fun q => { q with freedReg := 0, freedStub := 0, unreported := none, lastLink := m.now }
  | .replay .. => m.count (pgPort p) 5
  | .train => m.onPort p fun q => { q with sentAck := q.sentAck || q.far.isSome }
  | .time => m.onPort p fun q => { q with lastTime := m.now }
  | _ => m

/-- What a port owes, in the order of R505. -/
def sortOwed (l : List Ctl) : List Ctl := (List.range 6).flatMap (fun r => l.filter (fun c => c.rank = r))

/-- A port at a packet boundary sends what it owes; in a packet, it goes on owing it (R498, R505). A port whose link is neither
UP nor in EXCHANGE owes nothing. -/
def Module.flushCtl (m : Module) (p : Nat) : Module :=
  let q := m.port p
  if m.lstate p ≠ lsUp && m.lstate p ≠ lsExchange then m.setPort p { q with owes := [] }
  else if m.now * 1000 < q.busy then m
  else (sortOwed q.owes).foldl (fun m c => m.sendFlit p c) (m.setPort p { q with owes := [] })

/-- A port owes a control flit, and sends it where it stands at a packet boundary. -/
def Module.owe (m : Module) (p : Nat) (c : Ctl) : Module :=
  (m.onPort p fun q => { q with owes := q.owes ++ [c] }).flushCtl p

/-- A slot of a port's receive buffer is freed, or a packet was accepted: a LINK flit is due (R511). -/
def Module.linkDue (m : Module) (p : Nat) : Module :=
  m.onPort p fun q => { q with unreported := some (q.unreported.getD m.now) }

/-- Slots of a port's receive buffer are freed (R448, R484, R507, R511): a notice built here frees a slot the port kept, and no
credit returns for it. -/
def Module.freeSlots (m : Module) (p flits : Nat) (notice ownStub : Bool) : Module :=
  if ownStub then m.onPort p fun q => { q with rxOwn := q.rxOwn - 1 }
  else if notice then (m.onPort p fun q => { q with rxStub := q.rxStub - 1, freedStub := q.freedStub + 1 }).linkDue p
  else (m.onPort p fun q => { q with rxReg := q.rxReg - flits, freedReg := q.freedReg + flits }).linkDue p

/-! ## The mesh -/

/-- The tile of a port (R471). -/
def portTile (p : Nat) : Nat := tileOf 1 p

/-- The home port tile of a transport tile (R472). -/
def homeTile (t : Nat) : Nat := portTile (match t with
  | 0 => 11 | 1 => 12 | 2 => 23 | _ => 28)

/-- Offers that one tile has in flight to another. -/
def Module.offersOut (m : Module) (src dst : Nat) : Nat :=
  (m.n.xfers.filter (fun x => x.src = src && x.dst = dst && x.stage = .offered)).length

/-- A transfer begins: its offer goes out, or waits for one of the 64 offer credits (R479, R482). A transfer inside one tile
crosses no mesh. -/
def Module.openXfer (m : Module) (id src dst cells : Nat) (out : Option Nat) (group : Nat) : Module :=
  let x : Xfer := { id := id, src := src, dst := dst, cells := cells, out := out, group := group, grantedAt := m.now,
                    stage := if src = dst then .granted else if m.offersOut src dst < 64 then .offered else .unsent,
                    placed := if src = dst then List.range cells else [] }
  { m with n := { m.n with xfers := m.n.xfers ++ [x] } }

/-- The transfer of a number. -/
def Module.xfer (m : Module) (id : Nat) : Option Xfer := m.n.xfers.find? (fun x => x.id = id)

/-- The module with a transfer changed. -/
def Module.onXfer (m : Module) (id : Nat) (f : Xfer → Xfer) : Module :=
  { m with n := { m.n with xfers := m.n.xfers.map (fun x => if x.id = id then f x else x) } }

/-- Cells a port tile stages (chapter "The on-die tile mesh", "Forwarding a packet across the die"). -/
def stagingCells : Nat := 512

/-- Class of the packet a transfer carries to a port. -/
def Port.tcOf (q : Port) (id : Nat) : Nat := ((q.queue.find? (fun d => d.id = id)).map (fun d => d.pkt.tc)).getD 0

/-- Whether a destination has room for an offer (R480, R483): an output tile keeps enough staging for the head of every class
that has none yet (log 22); an engine tile always takes what is offered it. -/
def Module.roomFor (m : Module) (x : Xfer) : Bool :=
  match x.out with
  | none => true
  | some p =>
    let q := m.port p
    let given := m.n.xfers.filter (fun y => y.out = some p && (y.stage = .granting || y.stage = .granted))
    let used := (given.map (·.cells)).sum
    let bare := (List.range 8).filter (fun c =>
      c ≠ q.tcOf x.id && !(given.any (fun y => q.tcOf y.id = c)))
    decide (used + x.cells + 33 * bare.length ≤ stagingCells)

/-- A destination grants the offers it can serve, in the order of their arrival (R480). -/
def Module.grantOffers (m : Module) (dst : Nat) : Module :=
  (m.n.xfers.filter (fun x => x.dst = dst && x.stage = .queued)).foldl (fun m x =>
    if m.roomFor x then m.onXfer x.id (fun x => { x with stage := .granting, grantedAt := m.now }) else m) m

/-- Bit of a tile in the mask of a multicast: its column in a row, its row in a column (R473). -/
def maskBit (mdim : Bool) (t : Nat) : Nat := if mdim then t / 8 else t % 8

/-- A multicast cell serves a tile no more. -/
def Cell.without (c : Cell) (t : Nat) : Cell :=
  { c with mask := if nbit c.mask (maskBit c.mdim t) then c.mask - 2 ^ maskBit c.mdim t else c.mask }

/-- What is left of a cell that waits at its source or lies at its destination, when a transfer is over: nothing of a cell of that
transfer; a multicast serves its tile no more. Cells in flight arrive, and are discarded then (R485). -/
def Cell.closed (x : Xfer) (c : Cell) : Option Cell :=
  match c.place with
  | .link _ _ => some c
  | .sunk => if c.xfer = x.id && !c.table then none else some c
  | .waiting =>
    if c.table then some c
    else if c.kind ≠ 2 then (if c.xfer = x.id then none else some c)
    else if c.group ≠ x.group then some c
    else if (c.without x.dst).mask = 0 then none else some (c.without x.dst)

/-- A transfer is over, and its room is free for others. -/
def Module.closeXfer (m : Module) (id : Nat) : Module :=
  match m.xfer id with
  | none => m
  | some x =>
    let m := { m with n := { m.n with
      xfers := m.n.xfers.filter (fun y => y.id ≠ id)
      cells := m.n.cells.filterMap (Cell.closed x) } }
    m.grantOffers x.dst

/-- Whether every cell of a queued packet is staged (R484). -/
def Module.staged (m : Module) (id : Nat) : Bool :=
  match m.xfer id with
  | none => false
  | some x => decide (x.placed.length = x.cells)

/-- A class whose queue has become empty loses its deficits in both tiers (R399). -/
def Port.resetDeficits (q : Port) : Port :=
  let keep (l : List Nat) : List Nat :=
    (List.range 6).map (fun c => if q.queue.any (fun d => d.pkt.tc = c) then l.getD c 0 else 0)
  { q with defC := keep q.defC, defP := keep q.defP }

/-- A packet leaves a port's queue, and its transfer is over. -/
def Module.dequeue (m : Module) (p id : Nat) : Module :=
  (m.onPort p fun q => ({ q with queue := q.queue.filter (fun d => d.id ≠ id) }).resetDeficits).closeXfer id

/-- A packet is queued at an output port (R441, R446, R482): congestion marking, the dwell clock, and the offer. -/
def Module.enqueueOut (m : Module) (out : Nat) (p : Packet) (inTile : Nat) (inPort : Option Nat) (ownStub : Bool)
    (group : Nat) : Module :=
  let mark := m.get F.routeAdaptMark
  let p := if mark ≠ 0 && mark ≤ m.occupancy out then { p with cmark := true } else p
  let id := m.n.nextPkt
  let d : QPkt := { id := id, pkt := p, inTile := inTile, inPort := inPort, ownStub := ownStub, enq := m.now, dwell := m.tdwell,
                    heldGate := false, heldBucket := false }
  let m := { m with n := { m.n with nextPkt := id + 1 } }
  (m.onPort out fun q => { q with queue := q.queue ++ [d] }).openXfer id inTile (portTile out) p.flits (some out) group

end Sys2Proof.Machine
end

