-- ==== Sys2Proof/Machine/Routing.lean ====
section
/-! DEFINITION. The choice of the next hop (R25–R27, R422–R444, R767): groups, exits and their hash, minimal and Valiant routes,
start choices inside a group, and diversions at an exit module. -/

namespace Sys2Proof.Machine

/-- What a route computation answers. -/
inductive Hop where
  /-- the packet is for this module -/
  | deliver
  /-- next port, with the header as the computation leaves it -/
  | out (port : Nat) (p : Packet)
  /-- discarded without an event -/
  | drop
  /-- discarded at the hop limit (R424) -/
  | hopDrop
  /-- discarded for want of a port or an exit (R430, R435, R438) -/
  | noRoute
  deriving DecidableEq, Repr

/-- Parts of a fabric address (R17). -/
def faGroup (fa : Nat) : Nat := fa / 256
def faChassis (fa : Nat) : Nat := fa / 16 % 16
def faSlot (fa : Nat) : Nat := fa % 16

/-- The byte of ROUTE.PMAP for a duo. -/
def Module.pmap (m : Module) (d : Nat) : Nat := bits (m.word (F.routePmapMap (d / 8)).reg) (8 * (d % 8) + 7) (8 * (d % 8))

/-- Whether a byte of ROUTE.PMAP is valid and names a slot or chassis: bits 6:4 name nothing (R431). -/
def leadsTo (b k : Nat) : Bool := nbit b 7 && b % 16 = k

/-- The X port that leads to a slot (R431). -/
def Module.xPort (m : Module) (slot : Nat) : Option Nat := (List.range 15).find? (fun d => leadsTo (m.pmap d) slot)

/-- The Y port that leads to a chassis (R431). -/
def Module.yPort (m : Module) (chassis : Nat) : Option Nat :=
  ((List.range 15).map (15 + ·)).find? (fun d => leadsTo (m.pmap d) chassis)

/-- The group route table that a port tile uses now (R461): during a spread, the old one until it has the whole new one. -/
def Module.grtAt (m : Module) (tile : Nat) : List (Nat × Word) :=
  if !m.flag F.routeEpochSpread || m.n.grtNew.contains tile then m.n.grt else m.n.grtOld

/-- An exit of a GRT entry (R432). -/
structure Exit where
  chassis : Nat
  slot : Nat
  quad : Nat
  weight : Nat
  on : Bool
  deriving DecidableEq, Repr

/-- Exit e of an entry (R432). -/
def exitOf (w : Word) (e : Nat) : Exit :=
  let x := bits w (16 * e + 15) (16 * e)
  { chassis := x / 2 ^ 7 % 16, slot := x / 2 ^ 3 % 16, quad := x % 8, weight := x / 2 ^ 11 % 8, on := nbit x 15 && nbit x 14 }

/-- The lead duo of quad Gk. -/
def quadPort (k : Nat) : Nat := 30 + 2 * k

/-- A neighbour's fresh hint (R440), where an exit module is an X or Y neighbour. -/
def Module.hintOf (m : Module) (x : Exit) : Option Hint :=
  let port := if x.chassis = m.chassis && x.slot ≠ m.slot then m.xPort x.slot
    else if x.slot = m.slot && x.chassis ≠ m.chassis then m.yPort x.chassis else none
  match port with
  | none => none
  | some p => match (m.port p).hint with
    | none => none
    | some h => if m.isUp p && m.now ≤ h.time + 4000 then some h else none

/-- Whether an exit is usable for a class (R433). -/
def Module.exitUsable (m : Module) (x : Exit) (tc : Nat) : Bool :=
  x.on && decide (0 < x.weight) &&
  (if x.chassis = m.chassis && x.slot = m.slot then m.candidate (quadPort x.quad) tc
   else match m.hintOf x with
    | none => true
    | some h => (h.quads.getD x.quad (true, 0)).1)

/-- The bytes a route hash covers (R434). -/
def hashBytes (p : Packet) : List Byte :=
  if p.ordered then beBytes 3 p.dst ++ beBytes 3 p.src ++ beBytes 2 p.nd ++ beBytes 1 p.tc
  else beBytes 3 p.dst ++ beBytes 3 p.src ++ beBytes 3 p.psn ++ beBytes 1 p.attempt

/-- The exit at which the running sum of weights first exceeds r (R434). -/
def pickExit : List Exit → Nat → Option Exit
  | [], _ => none
  | x :: l, r => if r < x.weight then some x else pickExit l (r - x.weight)

/-- The exit chosen for a group (R434). -/
def Module.exitFor (m : Module) (tbl : List (Nat × Word)) (p : Packet) (group : Nat) : Option Exit :=
  let xs := ((List.range 4).map (exitOf (Sparse.read (fun _ => 0) tbl group))).filter (fun x => m.exitUsable x p.tc)
  let w := (xs.map (·.weight)).sum
  if w = 0 then none else pickExit xs (crc32c (hashBytes p) % w)

/-- The less occupied of two ports, the first on a tie. -/
def Module.lesser (m : Module) (a b : Option Nat) : Option Nat :=
  match a, b with
  | some x, some y => if m.occupancy y < m.occupancy x then some y else some x
  | some x, none => some x
  | none, y => y

/-- The cost of an exit (R435). -/
def Module.exitCost (m : Module) (x : Exit) : Nat :=
  let level := match m.hintOf x with
    | none => 0
    | some h => (h.quads.getD x.quad (true, 0)).2
  if x.chassis = m.chassis && x.slot = m.slot then m.occupancy (quadPort x.quad)
  else
    let port := if x.chassis = m.chassis then m.xPort x.slot else if x.slot = m.slot then m.yPort x.chassis
      else m.lesser (m.xPort x.slot) (m.yPort x.chassis)
    (port.map m.occupancy).getD 0 + level * 2 ^ m.get F.routeAdaptHshift

/-- A random Valiant group with its exit (R435): drawn up to four times. Answers the last group drawn that has an exit. -/
def Module.drawValiant (m : Module) (tbl : List (Nat × Word)) (p : Packet) (groups : List Nat) :
    Nat → Option (Nat × Exit) × Module
  | 0 => (none, m)
  | n + 1 =>
    let (d, m1) := m.draw
    match groups[d % groups.length]? with
    | none => (none, m)
    | some v =>
      match m1.exitFor tbl p v with
      | some x => (some (v, x), m1)
      | none => m1.drawValiant tbl p groups n

/-- The routing mode of a packet that the module originates for another group (R435, R442). -/
def Module.chooseMode (m : Module) (tbl : List (Nat × Word)) (p : Packet) : Option Packet × Module :=
  let own := faGroup m.fa
  let dst := faGroup p.dst
  let minimal := { p with rmode := 0, vgroup := 0 }
  let best := m.exitFor tbl p dst
  if p.ordered || m.get F.routeCfgGmode = 1 then (best.map (fun _ => minimal), m)
  else
    let n := m.get F.routeCfgNgroups
    let groups := if n ≤ 2 then [] else (List.range n).filter (fun g => g ≠ own && g ≠ dst)
    let (e, m) := if groups.isEmpty then (none, m) else m.drawValiant tbl p groups 4
    let valiant (v : Nat) : Packet := { p with rmode := 1, vgroup := v }
    match best, e with
    | none, none => (none, m)
    | none, some (v, _) => (some (valiant v), m)
    | some _, none => (some minimal, m)
    | some x, some (v, y) =>
      if m.get F.routeCfgGmode = 2 then (some (valiant v), m)
      else if m.exitCost x ≤ 2 * m.exitCost y + m.get F.routeAdaptVbias then (some minimal, m)
      else (some (valiant v), m)

/-- A detour port drawn among some ports other than the minimal one (R428). -/
def Module.drawDetour (m : Module) (ports : List Nat) (minimal : Option Nat) (tc : Nat) : Option Nat × Module :=
  match ports.filter (fun d => some d ≠ minimal && m.candidate d tc) with
  | [] => (none, m)
  | l =>
    let (d, m) := m.draw
    (l[d % l.length]?, m)

/-- A start choice (R428, R430, R442): among the minimal ports of the dimensions that count, and detours where they are allowed.
`bare` leaves the minimal ports out. -/
def Module.startChoice (m : Module) (p : Packet) (x y : Option Nat) (dx dy bare : Bool) : Option Nat × Module :=
  let can (q : Option Nat) : Option Nat := q.filter (fun d => m.candidate d p.tc)
  let cx := if dx && !bare then can x else none
  let cy := if dy && !bare then can y else none
  let none' := cx.isNone && cy.isNone
  if p.ordered && cx.isSome then (cx, m)
  else
    let detours := none' || (m.flag F.routeCfgImode && !p.ordered)
    let (ex, m) := if dx && detours then m.drawDetour (List.range 15) x p.tc else (none, m)
    let (ey, m) := if dy && detours then m.drawDetour ((List.range 15).map (15 + ·)) y p.tc else (none, m)
    let far (d : Nat) : Nat × Nat := (d, 2 * m.occupancy d + m.get F.routeAdaptIbias)
    let near (d : Nat) : Nat × Nat := (d, m.occupancy d)
    let l := (cx.map near).toList ++ (cy.map near).toList ++ (ex.map far).toList ++ (ey.map far).toList
    ((minBy (·.2) l).map (·.1), m)

/-- The quad to which an exit module diverts a packet from its exit quad, with the peer group there (R436). -/
def Module.divert (m : Module) (p : Packet) (q : Nat) : Option (Nat × Nat) :=
  if p.rmode ≠ 0 || p.ordered || m.get F.routeCfgGmode ≠ 0 || 4 < p.hops then none
  else
    let others := ((List.range 8).map quadPort).filter (fun d =>
      d ≠ q && m.candidate d p.tc && m.flag (F.portPeerValid d) &&
      faGroup (m.get (F.portPeerFa d)) ≠ faGroup m.fa && faGroup (m.get (F.portPeerFa d)) ≠ faGroup p.dst)
    match minBy m.occupancy others with
    | none => none
    | some d =>
      if 2 * m.occupancy d + m.get F.routeAdaptVbias < m.occupancy q then some (d, faGroup (m.get (F.portPeerFa d))) else none

/-- The next hop inside the group toward a module, and there the exit quad or the module itself (R426–R430, R436). -/
def Module.inGroup (m : Module) (p : Packet) (arr : Option Nat) (chassis slot : Nat) (quad : Option Nat) : Hop × Module :=
  let dx := decide (slot ≠ m.slot)
  let dy := decide (chassis ≠ m.chassis)
  let onX := match arr with
    | none => false
    | some a => portKind a = 0
  let onY := match arr with
    | none => false
    | some a => portKind a = 1
  if !dx && !dy then
    match quad with
    | none => (.deliver, m)
    | some k =>
      match m.divert p (quadPort k) with
      | some (d, g) => (.out d { p with rmode := 1, vgroup := g }, m.count pgRoute 6)
      | none => (.out (quadPort k) p, m)
  else
    let x := if dx then m.xPort slot else none
    let y := if dy then m.yPort chassis else none
    let answer (r : Option Nat × Module) : Hop × Module :=
      match r.1 with
      | some d => (.out d p, r.2)
      | none => (.noRoute, r.2)
    if onX && dx then
      match x.filter (fun d => m.candidate d p.tc) with
      | some d => (.out d p, m)
      | none => answer (m.startChoice p x none true false true)
    else if onY && dy then
      match y.filter (fun d => m.candidate d p.tc) with
      | some d => (.out d p, m)
      | none => answer (m.startChoice p none y false true true)
    else answer (m.startChoice p x y (dx && !onX) (dy && !onY) false)

/-- The port of a TC7 packet that a module without a group originates (R767). -/
def Module.tc7Port (m : Module) (dst : Nat) : Option Nat :=
  match KMap.get m.n.lastTc7 dst with
  | some d => some d
  | none => (List.range 30).find? (fun d => m.isUp d && m.flag (F.portPeerGvalid d))

/-- The next hop of a packet that arrived on a port, or that the module originates, computed at a tile (R25, R26, R338, R424–R438). -/
def Module.route (m : Module) (tile : Nat) (p : Packet) (arr : Option Nat) : Hop × Module :=
  let own := faGroup m.fa
  if !m.groupValid then
    match arr with
    | some a =>
      if p.tc = 7 && p.dst % 256 = m.fa % 256 && portKind a < 2 then (.deliver, m) else (.drop, m)
    | none =>
      if p.tc ≠ 7 then (.drop, m)
      else if p.dst = m.fa then (.deliver, m)
      else match m.tc7Port p.dst with
        | some d => (.out d p, m)
        | none => (.noRoute, m)
  else if p.dst = m.fa then (.deliver, m)
  else if p.mcast then (.drop, m)
  else if arr.isSome && p.hops = m.get F.routeCfgHopMax then (.hopDrop, m)
  else
    let tbl := m.grtAt tile
    let (chosen, m) := if arr.isNone && faGroup p.dst ≠ own then m.chooseMode tbl p
      else if arr.isNone then (some { p with rmode := 0, vgroup := 0 }, m) else (some p, m)
    match chosen with
    | none => (.noRoute, m)
    | some p =>
      let p := if p.rmode = 1 && own = p.vgroup then { p with rmode := 2 } else p
      let target := if own = faGroup p.dst then own else if p.rmode = 1 then p.vgroup else faGroup p.dst
      if target = own then m.inGroup p arr (faChassis p.dst) (faSlot p.dst) none
      else
        match m.exitFor tbl p target with
        | none => (.noRoute, m)
        | some x => m.inGroup p arr x.chassis x.slot (some x.quad)

/-- A packet that is discarded for want of a route is counted, with its cause (R424, R430, R435, R438). -/
def Module.hopEvent (m : Module) (h : Hop) : Module :=
  match h with
  | .hopDrop => (m.count pgRoute 3).raise pgRoute Ev.hopDrop
  | .noRoute => (m.count pgRoute 4).raise pgRoute Ev.noRoute
  | _ => m

/-- A packet is handed to the transport tile that serves it (R441, R455). -/
def Module.deliverHere (m : Module) (p : Packet) : Module :=
  let m := if p.cmark then m.count pgRoute 5 else m
  { m with x := { m.x with inbox := m.x.inbox ++ [p] } }

end Sys2Proof.Machine
end

