-- ==== Sys2Proof/Machine/Originate.lean ====
section
/-! DEFINITION. Packets that the module originates: the injection shaper (R402–R412), the first hop (R422, R472, R767), and the
copies of a multicast packet (R338, R444). -/

namespace Sys2Proof.Machine

/-! ## Token buckets -/

/-- Rates and burst sizes of a bucket register, for a class (R405, R407, R408): peak rate and size, committed rate and size. Rates
are in units of 10 Mb/s, sizes in bytes. -/
def bucketParams (w : Word) (tc : Nat) : (Nat × Nat) × (Nat × Nat) :=
  let pir := bits w 43 24
  let pbs := bits w 11 0
  let (pir, pbs) := if tc = 7 then (max pir 100, max pbs 3) else (pir, pbs)
  ((pir, (pbs + 1) * 2048), (bits w 63 44, (bits w 23 12 + 1) * 2048))

/-- The level of a bucket after a time (R402, R403, R406): `k` is 4 for the full rate and 1 for a quarter of it, the level is in
1/3200 byte. One unit of rate is 1/800 byte per ns. -/
def refillLevel (k rate size : Nat) (level : Int) (ns : Nat) : Int :=
  if rate = 0xFFFFF then 3200 * size else min (3200 * size) (level + (k * rate * ns : Nat))

/-- A bucket pair as its register was last written (R404). -/
def fullBucket (w : Word) (tc now : Nat) : Bucket :=
  let (p, c) := bucketParams w tc
  { peak := 3200 * p.2, comm := 3200 * c.2, time := now }

/-- A bucket pair at a later time. -/
def Bucket.at (b : Bucket) (k : Nat) (w : Word) (tc now : Nat) : Bucket :=
  let (p, c) := bucketParams w tc
  { peak := refillLevel k p.1 p.2 b.peak (now - b.time), comm := refillLevel k c.1 c.2 b.comm (now - b.time), time := now }

/-- A packet of f flits empties both buckets (R402). -/
def Bucket.take (b : Bucket) (flits : Nat) : Bucket :=
  { b with peak := b.peak - 3200 * 128 * flits, comm := b.comm - 3200 * 128 * flits }

/-- The profile of a key slot (R409). -/
def Module.profile (m : Module) (slot : Nat) : Nat := bits (m.word (pgXpt 0 * 0x1000 + 0xC0 + 8 * (slot / 16))) (4 * (slot % 16) + 3) (4 * (slot % 16))

/-- Offset of XPT[0].INJSHP[q][t]. -/
def injReg (q t : Nat) : Nat := pgXpt 0 * 0x1000 + 0x400 + 0x40 * q + 8 * t

/-- A tile's copy of a profile's bucket pair, now (R411). -/
def Module.injBucket (m : Module) (tile q tc : Nat) : Bucket :=
  let w := m.word (injReg q tc)
  (KMap.getD m.n.inj (128 * tile + 8 * q + tc) (fullBucket w tc m.now)).at 1 w tc m.now

/-- Whether the injection shaper lets a tile send for a key slot and class (R402, R407, R411). -/
def Module.shaperAdmits (m : Module) (tile slot tc : Nat) : Bool :=
  let b := m.injBucket tile (m.profile slot) tc
  decide (0 < b.peak) && (6 ≤ tc || decide (0 < b.comm))

/-- A packet passes the injection shaper (R402). -/
def Module.shaperTake (m : Module) (tile slot tc flits : Nat) : Module :=
  let q := m.profile slot
  { m with n := { m.n with inj := KMap.put m.n.inj (128 * tile + 8 * q + tc) ((m.injBucket tile q tc).take flits) } }

/-- The bucket pairs of a profile stand as newly written in every tile (R404, R412). -/
def Module.fillProfile (m : Module) (q : Nat) : Module :=
  { m with n := { m.n with inj := m.n.inj.filter (fun b => b.1 % 128 / 8 ≠ q) } }

/-! ## Originating -/

/-- A packet that a transport tile originates gets its first hop at the tile's home port tile (R422, R424, R472). -/
def Module.originate (m : Module) (tile : Nat) (p : Packet) : Module :=
  let home := homeTile tile
  match m.route home { p with hops := 0 } none with
  | (.deliver, m1) => m1.deliverHere { p with hops := 0 }
  | (.out d p1, m1) => m1.enqueueOut d p1 home none false 0
  | (h, m1) => m1.hopEvent h

/-- A multicast packet is replicated on the die (R338, R444, R488), while the module has its group number (R25): one copy to each member on the X or Y port that leads directly
to it; a copy whose port is no candidate is discarded and counted. Copies for ports of one row of tiles travel as one multicast. -/
def Module.originateMc (m : Module) (engine : Nat) (p : Packet) (members : List Nat) : Module :=
  let src := tileOf 5 (engine - 7)
  let g := m.n.nextGroup
  if !m.groupValid && p.tc ≠ 7 then m
  else members.foldl (fun m fa =>
    let port := if faGroup fa ≠ faGroup m.fa then none
      else if faChassis fa = m.chassis && faSlot fa ≠ m.slot then m.xPort (faSlot fa)
      else if faSlot fa = m.slot && faChassis fa ≠ m.chassis then m.yPort (faChassis fa) else none
    match port.filter (fun d => m.candidate d p.tc) with
    | none => m.count pgRoute 7
    | some d => m.enqueueOut d { p with dst := fa, rmode := 0, hops := 0 } src none false (g + portTile d / 8))
    { m with n := { m.n with nextGroup := g + 8 } }

end Sys2Proof.Machine
end

