-- ==== Sys2Proof/Machine/Aes.lean ====
section
/-! DEFINITION. The ciphers of a connection: HKDF with SHA-256 (RFC 5869) and AES-256 in Galois/Counter Mode, which R211, R213 and R215
name. -/

namespace Sys2Proof.Machine

/-! ## HKDF -/

/-- Bytes combined by exclusive or, up to the shorter of the two. -/
def xorBytes (a b : List Byte) : List Byte := List.zipWith (fun x y => x ^^^ y) a b

/-- HMAC-SHA-256 of a message under a key of at most 64 bytes. -/
def hmac256 (key msg : List Byte) : List Byte :=
  let k := key ++ List.replicate (64 - key.length) 0
  sha256 (xorBytes k (List.replicate 64 0x5C) ++ sha256 (xorBytes k (List.replicate 64 0x36) ++ msg))

/-- The first 32 bytes of HKDF-SHA-256: extract, then one block of expand. -/
def hkdf256 (ikm salt info : List Byte) : List Byte := hmac256 (hmac256 salt ikm) (info ++ [1])

/-! ## AES-256 -/

/-- The S-box. -/
def aesSbox : List Nat :=
  [0x63, 0x7c, 0x77, 0x7b, 0xf2, 0x6b, 0x6f, 0xc5, 0x30, 0x01, 0x67, 0x2b, 0xfe, 0xd7, 0xab, 0x76] ++
  [0xca, 0x82, 0xc9, 0x7d, 0xfa, 0x59, 0x47, 0xf0, 0xad, 0xd4, 0xa2, 0xaf, 0x9c, 0xa4, 0x72, 0xc0] ++
  [0xb7, 0xfd, 0x93, 0x26, 0x36, 0x3f, 0xf7, 0xcc, 0x34, 0xa5, 0xe5, 0xf1, 0x71, 0xd8, 0x31, 0x15] ++
  [0x04, 0xc7, 0x23, 0xc3, 0x18, 0x96, 0x05, 0x9a, 0x07, 0x12, 0x80, 0xe2, 0xeb, 0x27, 0xb2, 0x75] ++
  [0x09, 0x83, 0x2c, 0x1a, 0x1b, 0x6e, 0x5a, 0xa0, 0x52, 0x3b, 0xd6, 0xb3, 0x29, 0xe3, 0x2f, 0x84] ++
  [0x53, 0xd1, 0x00, 0xed, 0x20, 0xfc, 0xb1, 0x5b, 0x6a, 0xcb, 0xbe, 0x39, 0x4a, 0x4c, 0x58, 0xcf] ++
  [0xd0, 0xef, 0xaa, 0xfb, 0x43, 0x4d, 0x33, 0x85, 0x45, 0xf9, 0x02, 0x7f, 0x50, 0x3c, 0x9f, 0xa8] ++
  [0x51, 0xa3, 0x40, 0x8f, 0x92, 0x9d, 0x38, 0xf5, 0xbc, 0xb6, 0xda, 0x21, 0x10, 0xff, 0xf3, 0xd2] ++
  [0xcd, 0x0c, 0x13, 0xec, 0x5f, 0x97, 0x44, 0x17, 0xc4, 0xa7, 0x7e, 0x3d, 0x64, 0x5d, 0x19, 0x73] ++
  [0x60, 0x81, 0x4f, 0xdc, 0x22, 0x2a, 0x90, 0x88, 0x46, 0xee, 0xb8, 0x14, 0xde, 0x5e, 0x0b, 0xdb] ++
  [0xe0, 0x32, 0x3a, 0x0a, 0x49, 0x06, 0x24, 0x5c, 0xc2, 0xd3, 0xac, 0x62, 0x91, 0x95, 0xe4, 0x79] ++
  [0xe7, 0xc8, 0x37, 0x6d, 0x8d, 0xd5, 0x4e, 0xa9, 0x6c, 0x56, 0xf4, 0xea, 0x65, 0x7a, 0xae, 0x08] ++
  [0xba, 0x78, 0x25, 0x2e, 0x1c, 0xa6, 0xb4, 0xc6, 0xe8, 0xdd, 0x74, 0x1f, 0x4b, 0xbd, 0x8b, 0x8a] ++
  [0x70, 0x3e, 0xb5, 0x66, 0x48, 0x03, 0xf6, 0x0e, 0x61, 0x35, 0x57, 0xb9, 0x86, 0xc1, 0x1d, 0x9e] ++
  [0xe1, 0xf8, 0x98, 0x11, 0x69, 0xd9, 0x8e, 0x94, 0x9b, 0x1e, 0x87, 0xe9, 0xce, 0x55, 0x28, 0xdf] ++
  [0x8c, 0xa1, 0x89, 0x0d, 0xbf, 0xe6, 0x42, 0x68, 0x41, 0x99, 0x2d, 0x0f, 0xb0, 0x54, 0xbb, 0x16]

/-- The S-box of a byte. -/
def aesSub (b : Nat) : Nat := aesSbox.getD b 0

/-- A byte doubled in GF(2^8) modulo x^8 + x^4 + x^3 + x + 1. -/
def aesDouble (b : Nat) : Nat := if b < 128 then 2 * b else (2 * b) ^^^ 0x11B

/-- Numbers combined by exclusive or, up to the shorter list. -/
def xorNats (a b : List Nat) : List Nat := List.zipWith (fun x y => x ^^^ y) a b

/-- The words of the expanded key, newest first, after `n` more: each is of 4 bytes, `i` is the number of the next. -/
def aesExpand : Nat → Nat → Nat → List (List Nat) → List (List Nat)
  | 0, _, _, w => w
  | n + 1, i, rcon, w =>
    let last := w.headD []
    let t := if i % 8 = 0 then xorNats ((last.drop 1 ++ last.take 1).map aesSub) [rcon, 0, 0, 0]
      else if i % 8 = 4 then last.map aesSub else last
    aesExpand n (i + 1) (if i % 8 = 0 then aesDouble rcon else rcon) (xorNats (w.getD 7 []) t :: w)

/-- The 15 round keys of a 32-byte key, 16 bytes each. -/
def aesKeys (key : List Byte) : List (List Nat) :=
  let k := key.map BitVec.toNat
  let first := ((List.range 8).map (fun i => (k.drop (4 * i)).take 4)).reverse
  let all := (aesExpand 52 8 1 first).reverse.flatten
  (List.range 15).map (fun r => (all.drop (16 * r)).take 16)

/-- The rows of a state shifted: byte `r + 4c` comes from column `c + r`. -/
def aesShift (s : List Nat) : List Nat :=
  (List.range 16).map (fun i => s.getD (i % 4 + 4 * ((i / 4 + i % 4) % 4)) 0)

/-- One column mixed. -/
def aesMixColumn (s : List Nat) : List Nat :=
  match s with
  | [a, b, c, d] =>
    let t := a ^^^ b ^^^ c ^^^ d
    [a ^^^ t ^^^ aesDouble (a ^^^ b), b ^^^ t ^^^ aesDouble (b ^^^ c), c ^^^ t ^^^ aesDouble (c ^^^ d), d ^^^ t ^^^ aesDouble (d ^^^ a)]
  | l => l

/-- The columns of a state mixed. -/
def aesMix (s : List Nat) : List Nat := (List.range 4).flatMap (fun c => aesMixColumn ((s.drop (4 * c)).take 4))

/-- The rounds that are left, each with its key; the last one mixes no columns. -/
def aesRounds : List (List Nat) → List Nat → List Nat
  | [], s => s
  | [k], s => xorNats (aesShift (s.map aesSub)) k
  | k :: l, s => aesRounds l (xorNats (aesMix (aesShift (s.map aesSub))) k)

/-- AES-256 of one block under round keys. -/
def aesBlock (keys : List (List Nat)) (block : List Byte) : List Byte :=
  (aesRounds keys.tail (xorNats (block.map BitVec.toNat) (keys.headD []))).map (BitVec.ofNat 8)

/-! ## Key wrap -/

/-- The S-box backwards. -/
def aesUnsub (b : Nat) : Nat := aesSbox.findIdx (· = b)

/-- The rows of a state shifted back. -/
def aesUnshift (s : List Nat) : List Nat :=
  (List.range 16).map (fun i => s.getD (i % 4 + 4 * ((i / 4 + 4 - i % 4) % 4)) 0)

/-- The columns of a state unmixed: mixing four times gives a column back. -/
def aesUnmix (s : List Nat) : List Nat := aesMix (aesMix (aesMix s))

/-- The rounds that are left, backwards, each with its key; the first one has mixed no columns. -/
def aesUnrounds : List (List Nat) → List Nat → List Nat
  | [], s => s
  | k :: l, s => aesUnrounds l (aesUnmix (xorNats ((aesUnshift s).map aesUnsub) k))

/-- The block that AES-256 under round keys maps to a block. -/
def aesUnblock (keys : List (List Nat)) (block : List Byte) : List Byte :=
  match keys.reverse with
  | [] => block
  | k :: l =>
    let first := xorNats (block.map BitVec.toNat) k
    let rest := aesUnrounds l.dropLast first
    (xorNats ((aesUnshift rest).map aesUnsub) (l.getLastD [])).map (BitVec.ofNat 8)

/-- One step of AES key wrap (RFC 3394) on the check word and the words of the key, the first of which moves to the end. -/
def wrapStep (keys : List (List Nat)) (t : Nat) (s : List Byte × List (List Byte)) : List Byte × List (List Byte) :=
  let b := aesBlock keys (s.1 ++ s.2.headD [])
  (xorBytes (b.take 8) (beBytes 8 t), s.2.tail ++ [b.drop 8])

/-- A step of key wrap backwards. -/
def unwrapStep (keys : List (List Nat)) (t : Nat) (s : List Byte × List (List Byte)) : List Byte × List (List Byte) :=
  let b := aesUnblock keys (xorBytes s.1 (beBytes 8 t) ++ s.2.getLastD [])
  (b.take 8, b.drop 8 :: s.2.dropLast)

/-- A key of 32 bytes wrapped by AES-256 key wrap: 40 bytes. -/
def aesWrap (kek key : List Byte) : List Byte :=
  let words := (List.range 4).map (fun i => (key.drop (8 * i)).take 8)
  let (a, r) := (List.range 24).foldl (fun s t => wrapStep (aesKeys kek) (t + 1) s) (List.replicate 8 0xA6, words)
  a ++ r.flatten

/-- The key that 40 bytes wrap; none where they fail the check. -/
def aesUnwrap (kek wrapped : List Byte) : Option (List Byte) :=
  let words := (List.range 4).map (fun i => (wrapped.drop (8 * i + 8)).take 8)
  let (a, r) := (List.range 24).foldl (fun s t => unwrapStep (aesKeys kek) (24 - t) s) (wrapped.take 8, words)
  if a = List.replicate 8 0xA6 then some r.flatten else none

/-! ## Galois/Counter Mode -/

/-- The number whose most significant byte comes first. -/
def beNat (bs : List Byte) : Nat := leNat bs.reverse

/-- A product in GF(2^128), as GCM numbers its bits: `n` bits of `x` are left, `v` is the other factor as far as it has moved. -/
def ghashMul : Nat → Nat → Nat → Nat → Nat
  | 0, _, _, z => z
  | n + 1, x, v, z =>
    ghashMul n x (if v % 2 = 1 then (v / 2) ^^^ (0xE1 * 2 ^ 120) else v / 2) (if x.testBit n then z ^^^ v else z)

/-- The hash of some blocks of 16 bytes, the last filled with zeros. -/
def ghash (h : Nat) : Nat → Nat → List Byte → Nat
  | 0, y, _ => y
  | n + 1, y, bs => ghash h n (ghashMul 128 (y ^^^ beNat (bs.take 16 ++ List.replicate (16 - bs.length) 0)) h 0) (bs.drop 16)

/-- The key stream of GCM for `n` blocks, from a counter on. -/
def gcmStream (keys : List (List Nat)) (iv : List Byte) (ctr n : Nat) : List Byte :=
  (List.range n).flatMap (fun i => aesBlock keys (iv ++ beBytes 4 (ctr + i)))

/-- A text combined with its key stream: encryption, and decryption. -/
def gcmCrypt (keys : List (List Nat)) (iv text : List Byte) : List Byte :=
  xorBytes text (gcmStream keys iv 2 (ceilDiv text.length 16))

/-- The tag of a ciphertext and its additional authenticated data, 16 bytes. -/
def gcmTag (keys : List (List Nat)) (iv aad cipher : List Byte) : List Byte :=
  let h := beNat (aesBlock keys (List.replicate 16 0))
  let s := ghash h (ceilDiv aad.length 16) 0 aad
  let s := ghash h (ceilDiv cipher.length 16) s cipher
  let s := ghash h 1 s (beBytes 8 (8 * aad.length) ++ beBytes 8 (8 * cipher.length))
  xorBytes (beBytes 16 s) (gcmStream keys iv 1 1)

end Sys2Proof.Machine
end

