-- ==== Sys2Proof/Machine/Wire.lean ====
section
/-! DEFINITION. A packet on the wire (R194–R202, R211–R215, R339, R340): the clear header, keys and IV, and how the parts behind the
header are sealed and opened. -/

namespace Sys2Proof.Machine

/-! ## The header -/

/-- The 192 bits of the clear header (R197). -/
def packetHeader (p : Packet) : Nat :=
  p.dst % 2 ^ 18 * 2 ^ 174 + p.src % 2 ^ 18 * 2 ^ 156 + p.tc % 8 * 2 ^ 153 + p.rmode % 4 * 2 ^ 151 + p.vgroup % 2 ^ 10 * 2 ^ 141 +
  p.hops % 32 * 2 ^ 136 + b2n p.trimmed * 2 ^ 135 + b2n p.mcast * 2 ^ 134 + b2n p.ordered * 2 ^ 133 + b2n p.cmark * 2 ^ 132 +
  p.flits % 64 * 2 ^ 126 + p.msn % 2 ^ 10 * 2 ^ 116 + p.rsvd % 2 ^ 20 * 2 ^ 96 + p.nd % 2 ^ 16 * 2 ^ 80 + p.psn % 2 ^ 24 * 2 ^ 56 +
  p.attempt % 256 * 2 ^ 48 + p.opcode % 256 * 2 ^ 40 + p.epoch % 2 ^ 32 * 2 ^ 8 + p.rsvdLow % 256

/-- The bytes of a packet in the order they are sent (R10, R194, R197). -/
def packetBytes (p : Packet) : List Byte := beBytes 24 (packetHeader p) ++ p.body

/-- The header as additional authenticated data (R215): rmode, vgroup, hops, trimmed and cmark are 0, and of a multicast packet dst_fa
too (R340). -/
def authHeader (p : Packet) (mc : Bool) : List Byte :=
  beBytes 24 (packetHeader { p with dst := if mc then 0 else p.dst, rmode := 0, vgroup := 0, hops := 0, trimmed := false, cmark := false })

/-- The 96-bit IV (R213). -/
def packetIv (p : Packet) : List Byte :=
  beBytes 12 (p.epoch % 2 ^ 32 * 2 ^ 64 + p.src % 2 ^ 18 * 2 ^ 46 + p.psn % 2 ^ 24 * 2 ^ 8 + p.attempt % 256)

/-! ## Keys -/

/-- The key of the direction from a sender to a receiver (R211). The domain key's bytes stand in the order the driver gave them
(log 132). -/
def directionKey (domain nonce nd sender receiver epoch : Nat) : List Byte :=
  hkdf256 (leBytes 32 domain) (beBytes 8 nonce)
    ([0x49, 0x58, 0x4B, 0x31] ++ beBytes 2 nd ++ beBytes 3 sender ++ beBytes 3 receiver ++ beBytes 4 epoch)

/-- The key of a parent's multicast packets of a context (R339). -/
def multicastKey (domain nonce nd parent ctx inst : Nat) : List Byte :=
  hkdf256 (leBytes 32 domain) (beBytes 8 nonce)
    ([0x49, 0x58, 0x4D, 0x31] ++ beBytes 2 nd ++ beBytes 3 parent ++ beBytes 2 ctx ++ beBytes 4 inst)

/-! ## The parts behind the header -/

/-- Flits a packet occupies (R195). -/
def flitsOf (ext payload : Nat) : Nat := ceilDiv (48 + ext + payload) 128

/-- Bytes of the extension, by the opcode (R218, R224, R260, R293, R348, R588). -/
def extLen (opcode : Nat) : Nat :=
  if opcode ∈ [0x01, 0x11, 0x14] then 32
  else if opcode ∈ [0x12, 0x30, 0x31, 0x40, 0x41] then 24
  else if opcode ∈ [0x04, 0x10, 0x32, 0x42, 0x43, 0x44, 0x60, 0x61] then 16
  else if opcode = 0x34 then 8
  else 0

/-- Whether a wire opcode is that of a control packet (R200). -/
def isControl (n : Nat) : Bool := decide (1 ≤ n) && decide (n ≤ 4)

/-- The operation part, the extension, the payload and the padding (R194, R195). -/
def openedText (p : Opened) : List Byte :=
  let l := beBytes 8 p.opw.toNat ++ p.ext ++ p.payload
  l ++ List.replicate (128 * flitsOf p.ext.length p.payload.length - 40 - l.length) 0

/-- A packet with its parts, from the bytes between its header and its tag. An authentic packet whose plen goes past them has the bytes
there are (log 133). -/
def parseText (p : Packet) (text : List Byte) (auth : Bool) : Opened :=
  let n := extLen p.opcode
  let opw := BitVec.ofNat 64 (beNat (text.take 8))
  let plen := if isControl p.opcode then 0 else bits opw 63 51
  { toPacket := p, opw := opw, ext := (text.drop 8).take n, payload := (text.drop (8 + n)).take plen, auth := auth }

/-- The bytes between a packet's header and its tag, and the tag (R195). -/
def packetText (p : Packet) : List Byte := p.body.take (p.body.length - 16)
def packetTag (p : Packet) : List Byte := p.body.drop (p.body.length - 16)

/-- A packet sealed under a key (R213–R215, R340): its parts encrypted, then the tag. -/
def sealPacket (key : List Byte) (mc : Bool) (p : Opened) : Packet :=
  let keys := aesKeys key
  let iv := packetIv p.toPacket
  let cipher := gcmCrypt keys iv (openedText p)
  { p.toPacket with body := cipher ++ gcmTag keys iv (authHeader p.toPacket mc) cipher }

/-- A packet opened under a key: none where its tag fails. -/
def openPacket (key : List Byte) (mc : Bool) (p : Packet) : Option Opened :=
  let keys := aesKeys key
  let iv := packetIv p
  if 24 ≤ p.body.length && packetTag p = gcmTag keys iv (authHeader p mc) (packetText p) then
    some (parseText p (gcmCrypt keys iv (packetText p)) true)
  else none

/-- What a CHALLENGE's tag vouches for beside the header (R215): its operation part and extension, in the clear. -/
def challengeAuth (p : Packet) (text : List Byte) : List Byte := authHeader p false ++ text.take 24

/-- A CHALLENGE (R200, R215): its parts in the clear, and the tag over the header and them. -/
def sealChallenge (key : List Byte) (p : Opened) : Packet :=
  let text := openedText p
  { p.toPacket with body := text ++ gcmTag (aesKeys key) (packetIv p.toPacket) (challengeAuth p.toPacket text) [] }

/-- A CHALLENGE opened: none where its tag fails. -/
def openChallenge (key : List Byte) (p : Packet) : Option Opened :=
  if 24 ≤ p.body.length && packetTag p = gcmTag (aesKeys key) (packetIv p) (challengeAuth p (packetText p)) [] then
    some (parseText p (packetText p) true)
  else none

/-- An unauthenticated control packet (R217, R222): its parts in the clear, and a tag of zeros. -/
def barePacket (p : Opened) : Packet := { p.toPacket with body := openedText p ++ List.replicate 16 0 }

/-- Whether a packet's tag is all zero. -/
def untagged (p : Packet) : Bool := (packetTag p).all (fun b => b = 0)

/-- A packet read as it stands, with nothing opened. -/
def clearPacket (p : Packet) : Opened := parseText p (packetText p) false

/-- The trim notice of a packet (R202): the first 32 bytes, its operation part still ciphertext. -/
def noticeOf (p : Packet) : Packet := { p with trimmed := true, flits := 1, body := p.body.take 8 }

end Sys2Proof.Machine
end

