-- ==== Sys2Proof/Machine/Transport.lean ====
section
/-! DEFINITION. Connections, packets and selective repeat (R194–R247): headers and tags, contexts and keys, control packets,
segmentation and sending, and what every arriving data packet goes through before an engine takes it. -/

namespace Sys2Proof.Machine

/-! ## Packets -/

/-- Wire opcodes (R200). -/
def wAck : Nat := 0x01
def wNack : Nat := 0x02
def wProbe : Nat := 0x03
def wChallenge : Nat := 0x04
def wResult : Nat := 0x05
def wMgmtReq : Nat := 0x06
def wMgmtRsp : Nat := 0x07

/-- Whether a wire opcode is assigned (R200). -/
def wireAssigned (n : Nat) : Bool :=
  (decide (1 ≤ n) && decide (n ≤ 7)) || (decide (0x10 ≤ n) && decide (n ≤ 0x15)) || (decide (0x30 ≤ n) && decide (n ≤ 0x34)) ||
  (decide (0x40 ≤ n) && decide (n ≤ 0x44)) || (decide (0x60 ≤ n) && decide (n ≤ 0x62))

/-- The operation part of a data packet (R198). -/
def dataOpw (plen : Nat) (first last : Bool) (xdata off : Nat) : Word :=
  BitVec.ofNat 64 (plen % 2 ^ 13 * 2 ^ 51 + b2n first * 2 ^ 50 + b2n last * 2 ^ 49 + xdata % 2 ^ 17 * 2 ^ 32 + off % 2 ^ 32)

/-- Fields of the operation part of a data packet (R198). -/
def pPlen (p : Opened) : Nat := bits p.opw 63 51
def pFirst (p : Opened) : Bool := bit p.opw 50
def pLast (p : Opened) : Bool := bit p.opw 49
def pXdata (p : Opened) : Nat := bits p.opw 48 32
def pOff (p : Opened) : Nat := bits p.opw 31 0
/-- Bit 16 of xdata: abort (R260). -/
def pAbort (p : Opened) : Bool := bit p.opw 48

/-- Whether a packet is one R201 discards. -/
def malformed (p : Packet) : Bool :=
  !wireAssigned p.opcode || decide (p.rsvd ≠ 0) || decide (p.rsvdLow ≠ 0) || decide (p.nd = 0xFFFF) ||
  decide (p.flits ≠ ceilDiv (24 + p.body.length) 128)

/-- A field of an extension, most significant byte first (R260). -/
def extBE (p : Opened) (off n : Nat) : Nat := leNat ((p.ext.drop off).take n).reverse

/-! ## Contexts and keys -/

/-- The transport tile of a CID (R204). -/
def tileOfCid (cid : Nat) : Nat := cid % 4

/-- The slot that holds an ND's key, and the key. -/
def Module.keyOf (m : Module) (nd : Nat) : Option (Nat × Nat) :=
  match m.x.keys.find? (fun p => p.2.nd = nd) with
  | none => none
  | some (s, k) => some (s, k.key)

/-- Whether an ND has a key here (R41, R237). -/
def Module.hasKey (m : Module) (nd : Nat) : Bool := decide (nd ≠ 0xFFFF) && (m.keyOf nd).isSome

/-- A cached connection. -/
def Module.conn (m : Module) (cid : Nat) : Option Conn := KMap.get m.x.conns cid

/-- The module with a connection set. -/
def Module.setConn (m : Module) (cid : Nat) (c : Conn) : Module := { m with x := { m.x with conns := KMap.put m.x.conns cid c } }

/-- The module with a connection changed. -/
def Module.onConn (m : Module) (cid : Nat) (f : Conn → Conn) : Module :=
  match m.conn cid with
  | none => m
  | some c => m.setConn cid (f c)

/-- rto_init in ns (R228). -/
def Module.rtoInit (m : Module) : Nat := m.get F.xptRtoRtoInit * 1000
/-- rto_max in ns. -/
def Module.rtoMax (m : Module) : Nat := m.get F.xptRtoRtoMax * 1000
/-- rto_min in ns. -/
def Module.rtoMin (m : Module) : Nat := m.get F.xptRtoRtoMin * 1000

/-- A new context (R206): both directions at rest. -/
def Module.newConn (m : Module) (remote nd slot : Nat) : Conn :=
  { remote := remote, nd := nd, slot := slot, txState := .idle, rxState := .none, peerNonce := 0, txEpoch := 0, rxEpoch := 0,
    txNext := 0, txBase := 0, txMsn := 0, rxBase := 0, rxCsn := 0, rxMsn := 0, srtt := 0, rttvar := 0, sampled := false,
    rto := m.rtoInit, rsnSent := 0, rsnRcvd := 0, lastChal := 0, chalFree := 0, probes := 0, probeDue := 0, probeRnr := none,
    failOps := [], greeted := false, bitmap := [], msgs := [], tx := [], rnrDelay := 0, ndRun := none, ackPend := 0, ackTc := 0,
    ackDue := 0, ackQuiet := 0, rxMsgs := [], seen := [], anew := false, rsnAhead := [], trims := [] }

/-- Whether the connection table is usable (R774). -/
def Module.tableUsable (m : Module) : Bool :=
  m.flag (F.pgEnable (pgXpt 0)) && decide (10 ≤ m.get F.xptConntabSize) && decide (m.get F.xptConntabSize ≤ 20) && !m.x.tableLost

/-- Bytes of a connection context (R206). -/
def Conn.bytes (c : Conn) : List Byte :=
  let tx := match c.txState with
    | .idle => 0 | .probing => 1 | .open => 2 | .rolling => 3 | .failing => 4
  let rx := match c.rxState with
    | .none => 0 | .challenged => 1 | .open => 2
  let map := (List.range 1024).foldl (fun a i =>
    if c.bitmap.contains ((c.rxBase + i) % 2 ^ 24) then a + 2 ^ ((c.rxBase + i) % 1024) else a) 0
  leBytes 8 (1 + 2 * tx + 16 * rx + 64 * c.slot + 2 ^ 16 * c.remote + 2 ^ 48 * c.nd) ++ leBytes 8 c.peerNonce ++
  leBytes 8 (c.txEpoch + 2 ^ 32 * c.rxEpoch) ++ leBytes 8 (c.txNext + 2 ^ 24 * c.txBase + 2 ^ 48 * c.txMsn) ++
  leBytes 8 (c.rxBase + 2 ^ 24 * c.rxCsn + 2 ^ 48 * c.rxMsn) ++
  leBytes 8 (c.srtt % 2 ^ 20 + 2 ^ 20 * (c.rttvar % 2 ^ 20) + 2 ^ 40 * ceilDiv c.rto 4) ++
  leBytes 8 (c.rsnSent + 2 ^ 24 * c.rsnRcvd) ++ leBytes 8 (c.lastChal % 2 ^ 32 + 2 ^ 32 * c.probes) ++
  leBytes 64 0 ++ leBytes 128 map

/-- The CID of a connection, in the cache or, where the table is usable, out of it. -/
def Module.cidOf (m : Module) (remote nd : Nat) : Option Nat :=
  match m.x.conns.find? (fun p => decide (p.2.remote = remote) && decide (p.2.nd = nd)) with
  | some p => some p.1
  | none => (m.x.evicted.find? (fun p => decide (p.2.remote = remote) && decide (p.2.nd = nd))).map (·.1)

/-- Whether a context may leave the cache (R207, R309): no PROBE is under way on it, it has no message, no packet and no completion under way, no order-held message,
no seen MSN, no ACK that is due, and a CSN left that its field holds. -/
def Module.restful (m : Module) (cid : Nat) (c : Conn) : Bool :=
  c.txState ≠ .probing && c.tx.isEmpty && c.msgs.isEmpty && c.failOps.isEmpty && c.seen.isEmpty && decide (c.ackPend = 0) && decide (c.rxCsn ≤ 0xFFFFFF) &&
  !(m.mt.unexp.any (fun u => u.held && u.conn = some cid))

/-- A connection's context, in the cache or out of it. -/
def Module.connOf (m : Module) (remote nd : Nat) : Option Conn :=
  (m.cidOf remote nd).bind fun cid => (m.conn cid).or (KMap.get m.x.evicted cid)

/-- Room in the cache for one more context (R207, R774): a context that may leave is evicted where the table is usable; none where
nothing can be freed. -/
def Module.cacheRoom (m : Module) : Option Module :=
  if m.x.conns.length < 32768 then some m
  else if !m.tableUsable then none
  else
    match m.x.conns.find? (fun p => m.restful p.1 p.2) with
    | none => none
    | some p =>
      let m := m.busWrite (m.get F.xptConntabLink) (m.get F.xptConntabBase * 4096 + 256 * p.1) p.2.bytes
      some { m with x := { m.x with conns := KMap.erase m.x.conns p.1, evicted := KMap.put m.x.evicted p.1 p.2 } }

/-- The lowest number from `k` on that no context uses, among at most `n`. -/
def Module.freeCid (m : Module) : Nat → Nat → Option Nat
  | 0, _ => none
  | n + 1, k =>
    if (KMap.get m.x.conns k).isSome || (KMap.get m.x.evicted k).isSome then m.freeCid n (k + 1) else some k

/-- A connection's context is in the cache after this, made where there is none (R204, R774): its CID, or none where no context
can be had. -/
def Module.haveConn (m : Module) (remote nd slot : Nat) : Option Nat × Module :=
  match m.cidOf remote nd with
  | some cid =>
    if (m.conn cid).isSome then (some cid, m)
    else
      match m.cacheRoom, KMap.get m.x.evicted cid with
      | some m1, some c =>
        (some cid, { m1 with x := { m1.x with conns := KMap.put m1.x.conns cid c, evicted := KMap.erase m1.x.evicted cid } })
      | _, _ => (none, m)
  | none =>
    match m.cacheRoom with
    | none => (none, m)
    | some m1 =>
      let size := if m1.tableUsable then 2 ^ m1.get F.xptConntabSize else 32768
      let used := m1.x.conns.length + m1.x.evicted.length
      match m1.freeCid (min size (used + 1)) 0 with
      | none => (none, m)
      | some cid => (some cid, m1.setConn cid (m1.newConn remote nd slot))

/-- The module's boot nonce (R210). -/
def Module.nonce (m : Module) : Nat := m.get F.xptNonceNonce

/-- The domain key of a slot; a connection whose slot holds none is torn down with it (R149), and has no key. -/
def Module.slotKey (m : Module) (slot : Nat) : Option Nat := (KMap.get m.x.keys slot).map (·.key)

/-- The key of a connection's send direction under an epoch and a receiver nonce (R211, R220). -/
def Module.sendKey (m : Module) (c : Conn) (nonce epoch : Nat) : Option (List Byte) :=
  (m.slotKey c.slot).map (fun k => directionKey k nonce c.nd m.fa c.remote epoch)

/-- The key of a connection's receive direction under an epoch (R211). -/
def Module.recvKey (m : Module) (nd remote epoch : Nat) : Option (List Byte) :=
  (m.keyOf nd).map (fun k => directionKey k.2 m.nonce nd remote m.fa epoch)

/-- An arriving data packet, opened under the key of its own epoch (R211, R214, R240); one whose tag fails is not authentic. -/
def Module.view (m : Module) (p : Packet) : Opened :=
  ((m.recvKey p.nd p.src p.epoch).bind (fun k => openPacket k false p)).getD (clearPacket p)

/-- An ACK or NACK about a connection's send direction, opened (R214): encrypted as a data packet is (log 134). -/
def Module.openControl (m : Module) (c : Conn) (p : Packet) : Option Opened :=
  (m.sendKey c c.peerNonce p.epoch).bind (fun k => openPacket k false p)

/-- A CHALLENGE of a connection's send direction, opened under the nonce it brings (R214, R215, R220). -/
def Module.openChallenged (m : Module) (c : Conn) (p : Packet) : Option Opened :=
  (m.sendKey c (beNat ((clearPacket p).ext.take 8)) p.epoch).bind (fun k => openChallenge k p)

/-! ## Control packets -/

/-- A one-flit control packet to a remote FA, in the clear. -/
def Module.control (m : Module) (dst nd tc opcode epoch psn : Nat) (opw : Word) (ext : List Byte) : Opened :=
  { dst := dst, src := m.fa, tc := tc, rmode := 0, vgroup := 0, hops := 0, trimmed := false, mcast := false, ordered := false,
    cmark := false, flits := 1, msn := 0, rsvd := 0, nd := nd, psn := psn, attempt := 0xFF, opcode := opcode, epoch := epoch,
    rsvdLow := 0, body := [], opw := opw, ext := ext, payload := [], auth := true }

/-- The pending control packets of a transport tile, with their ports: those whose transfer from its home port tile has no grant yet (R456;
log 146). -/
def Module.ctlPending (m : Module) (tile : Nat) : List (Nat × QPkt) :=
  m.n.ports.flatMap fun (p, q) => (q.queue.filter (fun d =>
    d.inPort = none && d.inTile = homeTile tile && isControl d.pkt.opcode && !d.pkt.mcast &&
    ((m.xfer d.id).map (fun x => decide (x.stage ≠ .granted))).getD false)).map (fun d => (p, d))

/-- Whether that queue is full: an empty one is not. -/
def Module.ctlFull (m : Module) (tile : Nat) : Bool :=
  let n := (m.ctlPending tile).length
  decide (n ≠ 0) && decide (Config.ctlRoom ≤ n)

/-- An unauthenticated NACK in answer to a packet that has no connection here (R209, R222, R226); where the queue is full it is dropped and
counted (R456). -/
def Module.nackBare (m : Module) (tile : Nat) (p : Packet) (cause : Nat) : Module :=
  let opw := BitVec.ofNat 64 (p.psn * 2 ^ 40 + p.attempt * 2 ^ 32 + cause * 2 ^ 24)
  if m.ctlFull tile then m.count (pgXpt tile) 12
  else (m.originate tile (barePacket (m.control p.src p.nd p.tc wNack p.epoch 0 opw []))).count (pgXpt tile) 10

/-- A CHALLENGE of a connection's receive direction, in answer to a PSN and attempt, at most one per chal_gap (R218, R219). -/
def Module.challenge (m : Module) (cid tc psn attempt : Nat) : Module :=
  match m.conn cid with
  | none => m
  | some c =>
    if m.now < c.chalFree || 0xFFFFFF < c.rxCsn then m
    else
      let ext := beBytes 8 m.nonce ++ beBytes 3 psn ++ beBytes 1 attempt ++ beBytes 4 0
      let p := m.control c.remote c.nd tc wChallenge c.rxEpoch c.rxCsn (BitVec.ofNat 64 (c.rxEpoch * 2 ^ 32)) ext
      match m.recvKey c.nd c.remote c.rxEpoch with
      | none => m
      | some key =>
        let m := m.setConn cid { c with rxCsn := c.rxCsn + 1, lastChal := m.fabricNow % 2 ^ 32,
                                        chalFree := m.now + m.get F.xptCfgChalGap * 1000 }
        (m.originate (tileOfCid cid) (sealChallenge key p)).count (pgXpt (tileOfCid cid)) 13

/-- The receive direction starts over under an epoch (R216, R219, R236). -/
def Conn.rxRestart (c : Conn) (epoch : Nat) (st : RxState) : Conn :=
  { c with rxEpoch := epoch % 2 ^ 32, rxState := st, rxBase := 0, rxCsn := 0, bitmap := [], trims := [], ackPend := 0,
           anew := c.anew || (c.rxState = .open && st = .challenged) }

/-- An authenticated control packet about the receive direction, with the next CSN. Where no CSN is left, R216 applies in its
place. -/
def Module.sendCtl (m : Module) (cid tc opcode : Nat) (opw : Word) (ext : List Byte) : Module :=
  match m.conn cid with
  | none => m
  | some c =>
    if 0xFFFFFF < c.rxCsn then
      let m := m.setConn cid (c.rxRestart (c.rxEpoch + 1) .challenged)
      m.challenge cid tc 0 0xFF
    else
      let p := m.control c.remote c.nd tc opcode c.rxEpoch c.rxCsn opw ext
      match m.recvKey c.nd c.remote c.rxEpoch with
      | none => m
      | some key => (m.setConn cid { c with rxCsn := c.rxCsn + 1 }).originate (tileOfCid cid) (sealPacket key false p)

/-- A NACK of a connection for a PSN and attempt (R226); where the tile's queue is full it is dropped and counted (R456). -/
def Module.nack (m : Module) (cid tc psn attempt cause : Nat) : Module :=
  if m.ctlFull (tileOfCid cid) then m.count (pgXpt (tileOfCid cid)) 12
  else (m.sendCtl cid tc wNack (BitVec.ofNat 64 (psn * 2 ^ 40 + attempt * 2 ^ 32 + cause * 2 ^ 24)) []).count
    (pgXpt (tileOfCid cid)) 10

/-- The 32 SACK bytes of an ACK (R224). -/
def Conn.sack (c : Conn) : List Byte :=
  (List.range 32).map fun j => BitVec.ofNat 8 ((List.range 8).foldl (fun a i =>
    if c.bitmap.contains ((c.rxBase + 1 + 8 * j + i) % 2 ^ 24) then a + 2 ^ i else a) 0)

/-- ack_delay in ns (R225). -/
def Module.ackDelay (m : Module) : Nat := m.get F.xptCfgAckDelay * 250

/-- A full queue of a tile keeps no older ACK of a connection beside a new one (R456). -/
def Module.dropOldAcks (m : Module) (tile : Nat) (c : Conn) : Module :=
  if !m.ctlFull tile then m
  else (m.ctlPending tile).foldl (fun m (p, d) =>
    if d.pkt.opcode = wAck && d.pkt.dst = c.remote && d.pkt.nd = c.nd then m.dequeue p d.id else m) m

/-- An ACK in a traffic class (R43, R224, R225). -/
def Module.sendAck (m : Module) (cid tc : Nat) : Module :=
  match m.conn cid with
  | none => m
  | some c =>
    let cls := if c.ackPend = 0 then tc else max tc c.ackTc
    let opw := BitVec.ofNat 64 (c.rxBase * 2 ^ 40 + c.rsnSent * 2 ^ 16)
    let m := m.setConn cid { c with ackPend := 0, ackTc := 0, ackQuiet := m.now + m.ackDelay }
    (m.dropOldAcks (tileOfCid cid) c).sendCtl cid cls wAck opw c.sack

/-- The PROBE of a send direction (R217), whose timer starts (R243). -/
def Module.sendProbe (m : Module) (cid tc : Nat) : Module :=
  match m.conn cid with
  | none => m
  | some c =>
    let epoch := if c.greeted then (c.txEpoch + 1) % 2 ^ 32 else 0
    (m.setConn cid { c with probeDue := m.now + c.rto, probeRnr := none }).originate (tileOfCid cid) (barePacket (m.control c.remote c.nd tc wProbe epoch 0 (BitVec.ofNat 64 (epoch * 2 ^ 32)) []))

/-- A send direction in IDLE starts to open (R243). -/
def Module.openTx (m : Module) (cid tc : Nat) : Module :=
  match m.conn cid with
  | none => m
  | some c =>
    if c.txState = .idle then
      (m.setConn cid { c with txState := .probing, rto := if c.sampled then c.rto else m.rtoInit, probes := c.probes + 1 }).sendProbe cid tc
    else m

/-- The commands whose messages wait on a send direction in OPEN have reached stage 3 of a sample (R729). -/
def Module.stageOpen (m : Module) (cid : Nat) : Module :=
  match m.conn cid with
  | none => m
  | some c => if c.txState = .open then c.msgs.foldl (fun m g => m.stageOf g.op 3) m else m

/-- The messages that waited for a connection's context join it, in their order, and its send direction opens (R204, R292). -/
def Module.takeUp (m : Module) (cid remote nd : Nat) : Module :=
  let mine (w : Nat × Nat × Msg) : Bool := w.1 = remote && w.2.1 = nd
  match m.x.waiting.filter mine with
  | [] => m
  | w :: l =>
    let m := { m with x := { m.x with waiting := m.x.waiting.filter (fun v => !mine v) } }
    ((m.onConn cid fun c => { c with msgs := c.msgs ++ (w :: l).map (·.2.2) }).openTx cid w.2.2.tc).stageOpen cid

/-- A connection's context is in the cache after this, with what waited for it (R204, R774): its CID, or none where no context can
be had. -/
def Module.needConn (m : Module) (remote nd slot : Nat) : Option Nat × Module :=
  match m.haveConn remote nd slot with
  | (some cid, m1) => (some cid, if (m.conn cid).isSome then m1 else m1.takeUp cid remote nd)
  | (none, m1) => (none, m1)

/-! ## Messages -/

/-- A message with nothing sent yet. -/
def Msg.new (kind : MsgKind) (opcode tc len : Nat) (src : Src) : Msg :=
  { id := 0, kind := kind, op := none, ref := 0, ref2 := 0, msn := none, opcode := opcode, tc := tc, ordered := false, xdata := 0,
    ext := [], src := src, len := len, sent := 0, mtu := 0, segmented := false, aborted := none, respFail := none,
    ackedBytes := 0, lastPsn := none, needRsn := none, result := none, got := 0, landing := Landing.none, old := none }

/-- A message joins a connection's send direction, which opens if it is at rest; where it is open, the message's command has reached
stage 3 of a sample (R729). -/
def Module.enqueue (m : Module) (cid : Nat) (g : Msg) : Module :=
  let m := (m.onConn cid fun c => { c with msgs := c.msgs ++ [g] }).openTx cid g.tc
  if (m.conn cid).map (·.txState) = some .open then m.stageOf g.op 3 else m

/-- A message gets its number in the module, and the next number moves on. -/
def Module.numbered (m : Module) (g : Msg) : Msg × Module :=
  ({ g with id := m.x.nextMsg }, { m with x := { m.x with nextMsg := m.x.nextMsg + 1 } })

/-- A new message joins a connection's send direction. -/
def Module.queueMsg (m : Module) (cid : Nat) (g : Msg) : Module :=
  let (g, m) := m.numbered g
  m.enqueue cid g

/-- A numbered message goes to a remote FA in an ND whose key slot is known: its connection's context is made where there is
none, else the message waits, with CONN_EXHAUSTED (R204). -/
def Module.dispatchMsg (m : Module) (remote nd slot : Nat) (g : Msg) : Module :=
  match m.needConn remote nd slot with
  | (some cid, m1) => m1.enqueue cid g
  | (none, m1) =>
    ({ m1 with x := { m1.x with waiting := m1.x.waiting ++ [(remote, nd, g)] } }).raise (pgXpt 0) Ev.connExhausted

/-- A send direction opens, or is to once a context can be had, with CONN_EXHAUSTED (R204, R334). -/
def Module.openToward (m : Module) (remote nd slot tc : Nat) : Module :=
  match m.needConn remote nd slot with
  | (some cid, m1) => m1.openTx cid tc
  | (none, m1) =>
    ({ m1 with x := { m1.x with opening := m1.x.opening ++ [(remote, nd, tc)] } }).raise (pgXpt 0) Ev.connExhausted

/-- A message to a remote FA in an ND (R204, R237): false where the ND has no key here. -/
def Module.postMsg (m : Module) (remote nd : Nat) (g : Msg) : Bool × Module :=
  match m.keyOf nd with
  | none => (false, m)
  | some (slot, _) =>
    let (g, m) := m.numbered g
    (true, m.dispatchMsg remote nd slot g)

/-- Whether every PSN of a message is covered by an ACK (R233). -/
def Conn.covered (c : Conn) (g : Msg) : Bool := g.segmented && g.msn.isSome && !c.tx.any (fun d => d.msg = g.id && !d.acked)

/-- Messages of a send direction that are outstanding: sent in part at least, and not acknowledged (R223). -/
def Conn.outstanding (c : Conn) : Nat := (c.msgs.filter (fun g => g.msn.isSome && !c.covered g)).length

/-- Whether the opposite direction can take an answering message (R776). -/
def Conn.canAnswer (c : Conn) : Bool := (c.txState = .open || c.txState = .rolling) && decide (c.outstanding < 512)

/-- A RESULT about a message of the receive direction (R232). -/
def Module.postResult (m : Module) (cid tc status detail msn info : Nat) : Module :=
  match m.conn cid with
  | none => m
  | some c =>
    let payload := leBytes 3 c.rsnSent ++ leBytes 1 status ++ leBytes 2 detail ++ leBytes 2 msn ++ leBytes 8 info
    let m := m.setConn cid { c with rsnSent := (c.rsnSent + 1) % 2 ^ 24 }
    m.queueMsg cid (Msg.new .result wResult tc 16 (.inline payload))

/-! ## Sending -/

/-- Bytes of the MTU setting (R196). -/
def Module.mtuBytes (m : Module) : Nat := 256 * 2 ^ m.get F.xptCfgMtu

/-- Descriptors a transport tile holds (R208). -/
def Module.descriptors (m : Module) (tile : Nat) : Nat :=
  ((m.x.conns.filter (fun p => tileOfCid p.1 = tile)).map (fun p => p.2.tx.length)).sum

/-- Why a source could not be read: a translation or access fault, or the region is REVOKING. -/
inductive SrcFail where
  | fault (f : XFault) (off : Nat)
  | revoked
  deriving DecidableEq, Repr

/-- Whether the page a read has just touched has side effects. -/
def Module.pageSe (m : Module) (r : XReq) : Bool :=
  match m.tlbHit r with
  | none => false
  | some s => nbit s.rights 5

/-- Whether one of the pages of at most 4,096 bytes just read has side effects (R173). -/
def Module.pagesSe (m : Module) (r : XReq) (n : Nat) : Bool :=
  decide (0 < n) && (m.pageSe r || m.pageSe { r with va := (r.va + n - 1) % 2 ^ 64 })

/-- `n` payload bytes at an offset of a message, and whether they are to be read again for every transmission (R173, R265). -/
def Module.readSrc (m : Module) (e : Env) (tile : Nat) (s : Src) (off n : Nat) : Except SrcFail (List Byte × Bool) × Module :=
  match s with
  | .inline bs => (.ok ((bs.drop off).take n, false), m)
  | .buffer link asid va user source object =>
    let r : XReq := { asid := asid, va := (va + off) % 2 ^ 64, acc := .localRead, user := user, allowSe := true, engine := 1 + tile,
                      source := source, object := object }
    match m.readVirt e link r n with
    | (.error (f, o), m1) => (.error (.fault f o), m1)
    | (.ok bs, m1) => (.ok (bs, m1.pagesSe r n), m1)
  | .revoked => (.error .revoked, m)
  | .region slot index link asid va allowSe =>
    let revoking := match KMap.get m.x.regions (slot * 2 ^ 24 + index) with
      | none => false
      | some g => g.revoking
    if revoking then (.error .revoked, m)
    else
      let r : XReq := { asid := asid, va := (va + off) % 2 ^ 64, acc := .remoteRead, user := false, allowSe := allowSe,
                        engine := 1 + tile, source := 3, object := index % 2 ^ 16 }
      match m.readVirt e link r n with
      | (.error (f, o), m1) => (.error (.fault f o), m1)
      | (.ok bs, m1) => (.ok (bs, !allowSe), m1)

/-- A data packet of a message of a connection, in the clear (R194–R198). -/
def Module.dataPacket (m : Module) (c : Conn) (g : Msg) (msn off : Nat) (payload : List Byte) (last abort : Bool) : Opened :=
  { dst := c.remote, src := m.fa, tc := g.tc, rmode := 0, vgroup := 0, hops := 0, trimmed := false, mcast := false,
    ordered := g.ordered, cmark := false, flits := flitsOf g.ext.length payload.length, msn := msn, rsvd := 0, nd := c.nd,
    psn := c.txNext, attempt := 0, opcode := g.opcode, epoch := c.txEpoch, rsvdLow := 0, body := [],
    opw := dataOpw payload.length (off = 0) last (g.xdata + if abort then 2 ^ 16 else 0) off,
    ext := g.ext, payload := payload, auth := true }

/-- A data packet leaves a transport tile, sealed under its connection's send direction (R213–R215). -/
def Module.sendSealed (m : Module) (tile : Nat) (c : Conn) (p : Opened) : Module :=
  match m.sendKey c c.peerNonce p.epoch with
  | none => m
  | some key => m.originate tile (sealPacket key false p)

/-- A connection's message changed. -/
def Conn.setMsg (c : Conn) (g : Msg) : Conn := { c with msgs := c.msgs.map (fun h => if h.id = g.id then g else h) }

/-- One packet of a message goes out (R223, R235): its PSN, its descriptor, and the message's progress. -/
def Module.sendData (m : Module) (cid : Nat) (c : Conn) (g : Msg) (payload : List Byte) (last abort reread : Bool) : Module :=
  let msn := g.msn.getD c.txMsn
  let off := g.sent
  let p := m.dataPacket c g msn off payload last abort
  let d : TxPkt := { psn := c.txNext, epoch := c.txEpoch, msg := g.id, off := off, pkt := p, sentAt := m.now, acked := false,
                     reread := reread, rnr := none, held := false }
  let g := { g with msn := some msn, sent := off + payload.length, segmented := last }
  let c1 : Conn := { c with txNext := (c.txNext + 1) % 2 ^ 24, tx := c.tx ++ [d],
                            txMsn := if off = 0 && g.msn ≠ none && (c.msgs.any (fun h => h.id = g.id && h.msn.isNone))
                              then (c.txMsn + 1) % 1024 else c.txMsn,
                            txState := if c.txNext = 0xFFFFFF then .rolling else c.txState }
  let tile := tileOfCid cid
  let m := m.setConn cid (c1.setMsg g)
  let m := match g.op with
    | none => m
    | some id => ((m.unstage id).stage id 4).stage id 5
  ((m.shaperTake tile c.slot g.tc p.flits).sendSealed tile c p).count (pgXpt tile) 0

/-- The message's source has failed: an abort packet of a put or of an RDV_DATA (R262, R322, R771). An EAGER message, whose packets
carry no abort (R293), sends nothing more (log 37). -/
def Module.sendAbort (m : Module) (cid : Nat) (c : Conn) (g : Msg) (detail : Nat) : Module :=
  let g := { g with aborted := some (g.sent, detail) }
  if g.kind ≠ .eager then m.sendData cid (c.setMsg g) g [] true true false
  else if g.msn.isSome then m.setConn cid (c.setMsg { g with segmented := true })
  else m.setConn cid { c with msgs := c.msgs.filter (fun h => h.id ≠ g.id) }

/-- A response that cannot be read sends no further packet (R777); where none is under way its RESULT goes at once. -/
def Module.respFail (m : Module) (cid : Nat) (c : Conn) (g : Msg) (status detail : Nat) : Module :=
  if g.msn.isNone then
    (m.setConn cid { c with msgs := c.msgs.filter (fun h => h.id ≠ g.id) }).postResult cid g.tc status detail g.ref 0
  else m.setConn cid (c.setMsg { g with respFail := some (status, detail), segmented := true })

/-- Whether a message whose payload its operation's WQ supplies reads no further source (R156, R157, R771): the WQ lost its link, or the
operation went with the queue block. -/
def Module.opDead (m : Module) (g : Msg) : Bool :=
  match g.src, g.op with
  | .buffer .., some id => match m.op id with
    | none => true
    | some o => o.dead
  | _, _ => false

/-- The next packet of a connection goes out, if the window, the descriptors and the injection shaper allow (R208, R223, R411). -/
def Module.sendNext (m : Module) (e : Env) (cid : Nat) : Module :=
  match m.conn cid with
  | none => m
  | some c =>
    match c.msgs.find? (fun g => !g.segmented) with
    | none => m
    | some g =>
      let tile := tileOfCid cid
      if c.txState ≠ .open || 1024 ≤ seqSub 24 c.txNext c.txBase || (g.msn.isNone && 512 ≤ c.outstanding) then m
      else if 32768 ≤ m.descriptors tile then m.raise (pgXpt tile) Ev.descExhausted
      else if !m.shaperAdmits tile c.slot g.tc then m
      else
        let g := if g.msn.isNone then { g with mtu := m.mtuBytes } else g
        let n := min g.mtu (g.len - g.sent)
        let m := m.stageOf g.op 3
        if m.opDead g then
          let m1 := m.sendAbort cid (c.setMsg g) g 0
          match g.kind, g.op with
          | .eager, some id => m1.opFail e id stLocalFault g.sent 0 c.remote 0
          | _, _ => m1
        else
          match m.readSrc e tile g.src g.sent n with
          | (.ok (bs, reread), m1) =>
            let paged := decide (0 < n) && match g.src with
              | .buffer .. => true
              | _ => false
            let m1 := if paged then m1.stageOf g.op 2 else m1
            m1.sendData cid (c.setMsg g) g bs (decide (g.len ≤ g.sent + n)) false reread
          | (.error (.fault f o), m1) =>
            match g.src with
            | .region .. => m1.respFail cid (c.setMsg g) g stRemoteAccess f.detail
            | _ =>
              let m2 := m1.sendAbort cid (c.setMsg g) g f.detail
              match g.op with
              | none => m2
              | some id => m2.opFail e id stLocalFault (g.sent + o) 0 c.remote f.detail
          | (.error .revoked, m1) => m1.respFail cid (c.setMsg g) g stRevoked 0

/-- Messages that wait for a context get one where it can now be made (R204). -/
def Module.retryWaiting (m : Module) : Module :=
  let l := m.x.waiting
  let m := l.foldl (fun m w => match m.keyOf w.2.1 with
    | none => m
    | some (slot, _) => m.dispatchMsg w.1 w.2.1 slot w.2.2) { m with x := { m.x with waiting := [] } }
  let l := m.x.opening
  l.foldl (fun m w => match m.keyOf w.2.1 with
    | none => m
    | some (slot, _) => m.openToward w.1 w.2.1 slot w.2.2) { m with x := { m.x with opening := [] } }

/-- A send direction in IDLE that messages wait on starts to open (R230, R243). -/
def Module.wake (m : Module) (cid : Nat) : Module :=
  match m.conn cid with
  | none => m
  | some c => match c.msgs with
    | [] => m
    | g :: _ => m.openTx cid g.tc

/-- A retransmission of a packet with the next attempt (R229, R230): none where it would need attempt 255. The injection shaper may
hold it (R409). The payload is read
again where it has to be (R173, R265); a source that cannot be read makes an abort copy (R775) or an empty response (R777). -/
def Module.resend (m : Module) (e : Env) (cid : Nat) (d : TxPkt) : Option Module :=
  match m.conn cid with
  | none => some m
  | some c =>
    if 254 ≤ d.pkt.attempt then none
    else
      let tile := tileOfCid cid
      let attempt := d.pkt.attempt + 1
      let g := c.msgs.find? (fun h => h.id = d.msg)
      let put (m : Module) (c : Conn) (p : Opened) : Module :=
        let p := { p with attempt := attempt, flits := flitsOf p.ext.length p.payload.length }
        let c := { c with tx := c.tx.map (fun q => if q.psn = d.psn && q.epoch = d.epoch
          then { q with pkt := p, sentAt := m.now, rnr := none, held := false } else q) }
        (((m.setConn cid c).shaperTake tile c.slot p.tc p.flits).sendSealed tile c p).count (pgXpt tile) 1
      if !m.shaperAdmits tile c.slot d.pkt.tc then
        some (m.setConn cid { c with tx := c.tx.map (fun q => if q.psn = d.psn && q.epoch = d.epoch
          then { q with rnr := none, held := true } else q) })
      else match g with
      | none => some (put m c d.pkt)
      | some g =>
        let m := match g.op with
          | none => m
          | some id => m.onTagged id fun t => { t with retx := true }
        if !d.reread || pAbort d.pkt then some (put m c d.pkt)
        else if m.opDead g then
          let c := c.setMsg { g with aborted := some (g.aborted.getD (d.off, 0)), segmented := true }
          some (put m c { d.pkt with payload := [], opw := dataOpw 0 (pFirst d.pkt) true (pXdata d.pkt % 2 ^ 16 + 2 ^ 16) d.off })
        else
          match m.readSrc e tile g.src d.off (pPlen d.pkt) with
          | (.ok (bs, _), m1) => some (put m1 c { d.pkt with payload := bs })
          | (.error f, m1) =>
            let empty (st dt : Nat) : Module :=
              let c := c.setMsg { g with respFail := some (g.respFail.getD (st, dt)), segmented := true }
              put m1 c { d.pkt with payload := [], opw := dataOpw 0 (pFirst d.pkt) (pLast d.pkt) (pXdata d.pkt) d.off }
            match f, g.src with
            | .revoked, _ => some (empty stRevoked 0)
            | .fault x _, .region .. => some (empty stRemoteAccess x.detail)
            | .fault x _, _ =>
              let c := c.setMsg { g with aborted := some (g.aborted.getD (d.off, x.detail)), segmented := true }
              some (put m1 c
                { d.pkt with payload := [], opw := dataOpw 0 (pFirst d.pkt) true (pXdata d.pkt % 2 ^ 16 + 2 ^ 16) d.off })

/-! ## Receiving -/

/-- What an engine says of a data packet (R239, R240): it takes it, refuses it with a NACK cause (R226), or leaves it waiting at its tile
until earlier bytes of its message have landed (R172, log 136). -/
inductive Verdict where
  | accept
  | refuse (cause : Nat)
  | wait
  deriving DecidableEq, Repr

/-- NACK causes (R226). -/
def nkRnrCr : Nat := 0x01
def nkRnrRecv : Nat := 0x02
def nkRnrContext : Nat := 0x03
def nkRnrConn : Nat := 0x04
def nkTrimmed : Nat := 0x05
def nkNoDomain : Nat := 0x06

/-- rx_base advances over accepted PSNs (R240). -/
def Conn.advance (c : Conn) : Nat → Conn
  | 0 => c
  | n + 1 =>
    if c.bitmap.contains c.rxBase then
      ({ c with bitmap := c.bitmap.filter (· ≠ c.rxBase), rxBase := (c.rxBase + 1) % 2 ^ 24 }).advance n
    else c

/-- A packet is accepted: its bit is set, the base advances, an ACK is scheduled, and sent where ack_count is reached (R225, R240). -/
def Module.rxAccept (m : Module) (cid psn tc : Nat) : Module :=
  match m.conn cid with
  | none => m
  | some c =>
    let c := ({ c with bitmap := addNum c.bitmap psn }).advance 1024
    let c := { c with ackPend := c.ackPend + 1, ackDue := if c.ackPend = 0 then m.now + m.ackDelay else c.ackDue, ackTc := if c.ackPend = 0 then tc else max c.ackTc tc,
                      trims := c.trims.filter (fun t => t.1 ≠ psn) }
    let m := (m.setConn cid c).count (pgXpt (tileOfCid cid)) 3
    if m.get F.xptCfgAckCount ≤ c.ackPend then m.sendAck cid tc else m

/-- A duplicate or a packet below the window is answered with an ACK, unless one went out within ack_delay (R225). -/
def Module.dupAck (m : Module) (cid tc : Nat) : Module :=
  match m.conn cid with
  | none => m
  | some c =>
    if m.now < c.ackQuiet then m else m.sendAck cid tc

/-- The receive direction of a connection that is not there yet answers a data packet (R209, R219, R244). -/
def Module.rxNone (m : Module) (p : Packet) (epoch : Nat) : Module :=
  match m.keyOf p.nd with
  | none => m.nackBare 0 p nkNoDomain
  | some (slot, _) =>
    match m.needConn p.src p.nd slot with
    | (none, m1) => m1.nackBare 0 p nkRnrConn
    | (some cid, m1) =>
      (m1.onConn cid (fun c => c.rxRestart epoch .challenged)).challenge cid p.tc p.psn p.attempt

/-- The engine's answer at a connection (R234, R239, R776): a packet whose acceptance would create an answering message that the
opposite direction cannot take is refused with RNR_CONN, and none of its effects happens; a direction at rest starts to open. -/
def Module.engineAnswer (m : Module) (p : Opened) (cid : Nat) (r : Verdict × Module) : Verdict × Module :=
  match r.1, m.conn cid, r.2.conn cid with
  | .accept, some c, some c1 =>
    if decide (c.msgs.length < c1.msgs.length) && !c.canAnswer then (.refuse nkRnrConn, m.openTx cid p.tc) else r
  | _, _, _ => r

/-- What every arriving data packet goes through (R219, R236, R240, R241, R244); `engine` takes it at its connection. A packet left
waiting is in the inbox again, behind the others. -/
def Module.rxData (m : Module) (p : Opened) (engine : Module → Nat → Verdict × Module) : Module :=
  match m.keyOf p.nd with
  | none => m.nackBare 0 p.toPacket nkNoDomain
  | some (slot, _) =>
    match m.needConn p.src p.nd slot with
    | (none, m1) => m1.nackBare 0 p.toPacket nkRnrConn
    | (some cid, m) =>
      match m.conn cid with
      | none => m
      | some c =>
        let pg := pgXpt (tileOfCid cid)
        let answer (m : Module) : Module := if c.rxState = .challenged then m.challenge cid p.tc p.psn p.attempt else m
        if c.rxState = .none then m.rxNone p.toPacket ((p.epoch + 1) % 2 ^ 32)
        else if p.epoch < c.rxEpoch || c.rxEpoch + 1 < p.epoch then answer (m.count pg 7)
        else if !p.auth then answer ((m.count pg 8).raise pg Ev.authFail)
        else if p.epoch = c.rxEpoch + 1 && c.rxState ≠ .open then answer (m.count pg 7)
        else
          let c := if p.epoch = c.rxEpoch + 1 then c.rxRestart p.epoch .open else { c with rxState := .open }
          let m := m.setConn cid c
          let d := seqSub 24 p.psn c.rxBase
          if 2 ^ 23 ≤ d then (m.count pg 5).dupAck cid p.tc
          else if 1024 ≤ d then m.count pg 6
          else if c.bitmap.contains p.psn then (m.count pg 4).dupAck cid p.tc
          else
            match m.engineAnswer p cid (engine m cid) with
            | (.refuse cause, m1) => m1.nack cid p.tc p.psn p.attempt cause
            | (.wait, _) => { m with x := { m.x with inbox := m.x.inbox ++ [p.toPacket] } }
            | (.accept, m1) => m1.rxAccept cid p.psn p.tc

/-- A packet of the inbox with an opcode, by its place, and the module without it. -/
def Module.takeInbox (m : Module) (k : Nat) (want : Packet → Bool) : Option (Packet × Module) :=
  match m.x.inbox[k]? with
  | none => none
  | some p =>
    if want p then some (p, { m with x := { m.x with inbox := m.x.inbox.eraseIdx k } }) else none

/-- Wire opcode of a DOWN (R348), the one packet that may be multicast (R342). -/
def wDown : Nat := 0x41

/-- A multicast packet is discarded (R342). -/
def Module.mcDiscard (m : Module) (x : Nat) : Module := (m.count (pgColl (x % 2)) 2).raise (pgColl (x % 2)) Ev.mcDiscard

/-- The k-th packet of the inbox, where it is well formed and has the opcode (R201), and what it does: a multicast packet that is no
DOWN is discarded (R342). -/
def State.arrivingRaw (s : State) (k opcode : Nat) (e : Env) (f : Module → Packet → Module) : Res :=
  s.run fun m =>
    let m := m.at e
    match m.takeInbox k (fun p => p.opcode = opcode && !malformed p && !p.trimmed) with
    | none => m
    | some (p, m1) => if p.mcast && p.opcode ≠ wDown then m1.mcDiscard p.msn else f m1 p

/-- A meaning about an arriving data packet, opened. -/
def State.arriving (s : State) (k opcode : Nat) (e : Env) (f : Module → Opened → Module) : Res :=
  s.arrivingRaw k opcode e fun m p => f m (m.view p)

/-- The tile that receives a packet: that of its connection (R204), or tile 0 where there is none (log 135). -/
def Module.tileFor (m : Module) (p : Packet) : Nat := ((m.cidOf p.src p.nd).map tileOfCid).getD 0

/-- Meaning of MALFORMED_PACKET (R39, R201): the k-th packet of the inbox is discarded and counted where R201 says so. -/
def execMalformedPacket (k : Nat) (e : Env) (s : State) : Res :=
  s.run fun m =>
    let m := m.at e
    match m.takeInbox k malformed with
    | none => m
    | some (p, m1) => m1.count (pgXpt (m1.tileFor p)) 9

end Sys2Proof.Machine
end

