-- ==== Sys2Proof/Machine/MatchEngine.lean ====
section
/-! DEFINITION. The matching tiles at work (R302–R328): the lists and their spill pools, match steps, delivery, bounce buffers,
and what an arriving EAGER, RTS or RDV_DATA packet does. -/

namespace Sys2Proof.Machine

/-- Matching statuses (R326). -/
def stMatchNoSpace : Nat := 0x20
def stMatchContext : Nat := 0x21
def stMatchOversize : Nat := 0x22
def stNoMatch : Nat := 0x23
def stRdvHandle : Nat := 0x24

/-- Wire opcodes of matching (R293). -/
def wEager : Nat := 0x30
def wRts : Nat := 0x31
def wRdvGet : Nat := 0x32
def wRdvData : Nat := 0x33
def wRdvCancel : Nat := 0x34

/-! ## Messages of a receive direction -/

/-- Parts that lie directly behind what has landed without a gap join it. -/
def Landing.absorb (l : Landing) : Nat → Landing
  | 0 => l
  | k + 1 =>
    match l.ahead.find? (fun q => q.1 = l.low) with
    | .none => l
    | some q => ({ low := l.low + q.2, ahead := l.ahead.filter (fun r => r ≠ q) } : Landing).absorb k

/-- `n` bytes have landed at an offset. -/
def Landing.take (l : Landing) (off n : Nat) : Landing :=
  if n = 0 then l else ({ l with ahead := l.ahead ++ [(off, n)] } : Landing).absorb (l.ahead.length + 1)

/-- What some parts make together. -/
def Landing.of (parts : List (Nat × Nat)) : Landing := parts.foldl (fun l q => l.take q.1 q.2) Landing.none

/-- Whether bytes at an offset would reach a page with side effects ahead of earlier bytes of their message (R172, log 136). -/
def Module.tooEarly (m : Module) (e : Env) (l : Landing) (off : Nat) (r : XReq) (n : Nat) : Bool :=
  decide (l.low < off) && m.seAhead e r n

/-- What a receive direction keeps of a message, or a fresh record. -/
def Conn.rxMsg (c : Conn) (msn : Nat) : RxMsg :=
  match c.rxMsgs.find? (fun r => r.msn = msn) with
  | some r => r
  | none => { msn := msn, bytes := 0, landing := Landing.none, written := 0, total := none, failed := none, aborted := none, closed := false }

/-- The record of a message set. -/
def Conn.setRxMsg (c : Conn) (r : RxMsg) : Conn :=
  { c with rxMsgs := c.rxMsgs.filter (fun q => q.msn ≠ r.msn) ++ [r] }

/-- A message of which every packet has been accepted is over: where it failed, its RESULT goes out (R232, R258). -/
def Module.rxEnd (m : Module) (cid tc msn : Nat) : Module :=
  match m.conn cid with
  | none => m
  | some c =>
    let r := c.rxMsg msn
    match r.total with
    | none => m
    | some n =>
      if r.closed || r.bytes < n then m
      else if r.aborted.isSome then m.setConn cid (c.setRxMsg { r with closed := true })
      else
        let m := m.setConn cid { c with rxMsgs := c.rxMsgs.filter (fun q => q.msn ≠ msn) }
        match r.failed with
        | none => m
        | some (st, dt) => m.postResult cid tc st dt msn r.written

/-- A packet of a message is accepted: its bytes count, the bytes it wrote count, its last packet gives the length. -/
def Module.rxCount (m : Module) (cid : Nat) (p : Opened) (total : Option Nat) (written : Nat) (failed : Option (Nat × Nat)) :
    Module :=
  match m.conn cid with
  | none => m
  | some c =>
    let r := c.rxMsg p.msn
    let r := { r with bytes := r.bytes + pPlen p, landing := r.landing.take (pOff p) (pPlen p), written := r.written + written,
                      total := (r.total.or total).or (if pLast p then some (pOff p + pPlen p) else none),
                      failed := r.failed.or failed }
    (m.setConn cid (c.setRxMsg r)).rxEnd cid p.tc p.msn

/-! ## Contexts and their lists -/

/-- The tile of a matching context (R284). -/
def mtTile (x : Nat) : Nat := x % 2

/-- A matching context. -/
def Module.mctx (m : Module) (x : Nat) : Option Mctx := KMap.get m.mt.ctxs x

/-- The module with a matching context set. -/
def Module.setMctx (m : Module) (x : Nat) (c : Mctx) : Module := { m with mt := { m.mt with ctxs := KMap.put m.mt.ctxs x c } }

/-- The module with another list of unexpected entries. -/
def Module.setUnexp (m : Module) (l : List Unexp) : Module := { m with mt := { m.mt with unexp := l } }

/-- The contexts of a tile. -/
def Module.mtCtxs (m : Module) (t : Nat) : List (Nat × Mctx) := m.mt.ctxs.filter (fun p => mtTile p.1 = t)

/-- Posted entries a tile holds on chip. -/
def Module.postedOnChip (m : Module) (t : Nat) : Nat :=
  ((m.mtCtxs t).map (fun p => (p.2.posted.filter (fun e => e.spill.isNone)).length)).sum

/-- Unexpected entries a tile holds on chip. -/
def Module.unexpOnChip (m : Module) (t : Nat) : Nat :=
  (m.mt.unexp.filter (fun u => mtTile u.mctx = t && u.spill.isNone)).length

/-- Places of a tile's spill pool in use. -/
def Module.spillUsed (m : Module) (t : Nat) : List Nat :=
  (m.mtCtxs t).flatMap (fun p => p.2.posted.filterMap (·.spill)) ++
  (m.mt.unexp.filter (fun u => mtTile u.mctx = t)).filterMap (·.spill)

/-- Number of entries of a tile's spill pool; 0 = no pool (R306). -/
def Module.spillSize (m : Module) (t : Nat) : Nat :=
  let n := m.get (F.matchSpillSize t)
  if m.flag (F.pgEnable (pgMatch t)) && decide (10 ≤ n) && decide (n ≤ 24) then 2 ^ n else 0

/-- The lowest number from `k` on that a list does not hold, among at most `n`. -/
def freeIndex (used : List Nat) : Nat → Nat → Option Nat
  | 0, _ => none
  | n + 1, k => if used.contains k then freeIndex used n (k + 1) else some k

/-- A free place of a tile's spill pool; none where it is full or absent. -/
def Module.spillFree (m : Module) (t : Nat) : Option Nat :=
  let used := m.spillUsed t
  freeIndex used (min (m.spillSize t) (used.length + 1)) 0

/-- The bus address of a place of a tile's spill pool. -/
def Module.spillAddr (m : Module) (t i : Nat) : Nat := m.get (F.matchSpillBase t) * 4096 + 64 * i

/-- MATCH[t].USE shows what the tile holds (R286, R304). -/
def Module.mtUse (m : Module) (t : Nat) : Module :=
  let taken := ((m.mtCtxs t).map (fun p => p.2.bounceCount)).sum
  ((m.put (F.matchUseBounceFree t) (65536 - taken)).put (F.matchUseUnexp t) (m.unexpOnChip t)).put (F.matchUsePosted t)
    (m.postedOnChip t)

/-- The bytes of a posted entry (R307). -/
def Posted.bytes (e : Posted) : List Byte :=
  leBytes 8 e.tag ++ leBytes 8 e.ignore ++ leBytes 4 e.rank ++ leBytes 2 e.wq ++ leBytes 2 (b2n e.user) ++ leBytes 8 e.bufVa ++
  leBytes 4 e.length ++ leBytes 4 e.wqeTag ++ leBytes 8 e.statusVa ++ leBytes 4 e.postSeq ++ leBytes 2 e.asid ++
  leBytes 2 e.link ++ leBytes 4 0xFFFFFFFF ++ leBytes 4 0

/-- The bytes of an unexpected entry (R307). -/
def Unexp.bytes (u : Unexp) : List Byte :=
  leBytes 8 u.tag ++ leBytes 8 (u.rank + 2 ^ 32 * u.srcFa) ++
  leBytes 8 (u.msgLen + 2 ^ 32 * (u.bounce.getD 0xFFFF % 2 ^ 16) + 2 ^ 48 * b2n u.rts + 2 ^ 49 * b2n u.held) ++
  leBytes 4 u.handle ++ leBytes 4 u.landed ++ leBytes 8 u.arrSeq ++ leBytes 16 0 ++ leBytes 4 0xFFFFFFFF ++ leBytes 4 0

/-- The key of a place of a tile's spill pool in `Matching.pool`. -/
def spillKey (t i : Nat) : Nat := t * 2 ^ 32 + i

/-- An entry goes to a place of the spill pool, at the tail of its list (R304, R307). -/
def Module.spillAppend (m : Module) (t i landed : Nat) (bs : List Byte) : Module :=
  let m := { m with mt := { m.mt with pool := KMap.put m.mt.pool (spillKey t i) (0xFFFFFFFF, landed) } }
  ((m.busWrite (m.get (F.matchSpillLink t)) (m.spillAddr t i) bs).count (pgMatch t) 4).raise (pgMatch t) Ev.spillInUse

/-- The spilled parts of a tile's lists, in order: the place of each entry, and the bytes landed of its message. -/
def Module.spillLists (m : Module) (t : Nat) : List (List (Nat × Nat)) :=
  (m.mtCtxs t).flatMap fun p =>
    [p.2.posted.filterMap (fun q => q.spill.map (fun i => (i, 0))),
     (m.mt.unexp.filter (fun u => u.mctx = p.1)).filterMap (fun u => u.spill.map (fun i => (i, u.landed)))]

/-- Each entry of a spilled part with the place of the next (R307). -/
def spillLinks : List (Nat × Nat) → List (Nat × Nat × Nat)
  | [] => []
  | [a] => [(a.1, 0xFFFFFFFF, a.2)]
  | a :: b :: l => (a.1, b.1, a.2) :: spillLinks (b :: l)

/-- The spill pool of a tile shows the links and the landed bytes of the entries that lie there (R307). -/
def Module.spillSync (m : Module) (t : Nat) : Module :=
  let want := (m.spillLists t).flatMap spillLinks
  let write (m : Module) (w : Nat × Nat × Nat) : Module :=
    let word (m : Module) (off v : Nat) : Module :=
      m.busWrite (m.get (F.matchSpillLink t)) (m.spillAddr t w.1 + off) (leBytes 4 v)
    match KMap.get m.mt.pool (spillKey t w.1) with
    | none => m
    | some (next, landed) =>
      let m := if next = w.2.1 then m else word m 0x38 w.2.1
      if landed = w.2.2 then m else word m 0x1C w.2.2
  let m := want.foldl write m
  let rest := m.mt.pool.filter (fun p => p.1 / 2 ^ 32 ≠ t)
  { m with mt := { m.mt with pool := want.foldl (fun k w => KMap.put k (spillKey t w.1) w.2) rest } }

/-- A record in MATCH[t].ERRLOG, with the CONTEXT_ERROR cause (R288). -/
def Module.logMatch (m : Module) (x cause fault : Nat) : Module :=
  let t := mtTile x
  let m1 :=
    if m.flag (F.matchErrlogValid t) then m.put (F.matchErrlogOverrun t) 1
    else
      let m := m.put (F.matchErrlogValid t) 1
      let m := m.put (F.matchErrlogCause t) cause
      let m := m.put (F.matchErrlogFault t) fault
      m.put (F.matchErrlogMctx t) x
  m1.raise (pgMatch t) Ev.mContextError

/-- A context enters ERROR (R288). -/
def Module.mctxError (m : Module) (x cause fault : Nat) : Module :=
  match m.mctx x with
  | none => m
  | some c => if c.state = .active then (m.setMctx x { c with state := .error }).logMatch x cause fault else m

/-- Whether a context has spilled entries. -/
def Module.hasSpilled (m : Module) (x : Nat) : Bool :=
  (match m.mctx x with
    | none => false
    | some c => c.posted.any (fun e => e.spill.isSome)) ||
  m.mt.unexp.any (fun u => u.mctx = x && u.spill.isSome)

/-- A bus error at a tile's spill pool (R327): every ACTIVE context with spilled entries enters ERROR. -/
def Module.spillError (m : Module) (t : Nat) : Module :=
  let l := ((m.mtCtxs t).filter (fun p => m.hasSpilled p.1)).map (·.1)
  (l.foldl (fun m x => m.mctxError x 2 0) m).raise (pgMatch t) Ev.spillError

/-- Whether the reads of some places of a spill pool all end well. -/
def Module.spillReads (m : Module) (e : Env) (t : Nat) (l : List Nat) : Bool :=
  l.all (fun i => (m.readWords e (m.get (F.matchSpillLink t)) 8 (m.spillAddr t i)).isSome)

/-- A search of a list whose on-chip part comes first (R303–R305): the place of the earliest entry that passes, none, or a bus
error (`none` outside). The spilled part is read 8 entries at a time until one passes. -/
def Module.listSearch {α : Type} (m : Module) (e : Env) (t : Nat) (spill : α → Option Nat) (hit : α → Bool) (l : List α) :
    Option (Option α) × Module :=
  let chip := l.filter (fun a => (spill a).isNone)
  let pool := l.filter (fun a => (spill a).isSome)
  match chip.find? hit with
  | some a => (some (some a), m)
  | none =>
    if pool.isEmpty then (some none, m)
    else
      let k := pool.findIdx hit
      let n := if k < pool.length then k / 8 + 1 else ceilDiv pool.length 8
      let read := pool.take (8 * n)
      let m1 := m.countUp (pgMatch t) 3 n
      if m.spillReads e t (read.filterMap spill) then (some (pool.find? hit), m1.readDone)
      else (none, m1.spillError t)

/-- Whether a message matches an entry (R296). -/
def tagHit (tag rank eTag eIgnore eRank : Nat) : Bool :=
  decide ((tag ^^^ eTag) &&& (2 ^ 64 - 1 - eIgnore) = 0) && (decide (eRank = 0xFFFFFFFF) || decide (eRank = rank))

/-- The first spilled posted entry of a context of a tile comes back on chip, while there is room (R304). -/
def Module.refillPosted (m : Module) (e : Env) (t : Nat) : Nat → Module
  | 0 => m
  | fuel + 1 =>
    if 32768 ≤ m.postedOnChip t then m
    else
      match (m.mtCtxs t).find? (fun p => p.2.posted.any (fun q => q.spill.isSome)) with
      | none => m
      | some (x, c) =>
        match c.posted.find? (fun q => q.spill.isSome) with
        | none => m
        | some q =>
          if m.spillReads e t q.spill.toList then
            (m.setMctx x { c with posted := c.posted.map (fun r => if r.postSeq = q.postSeq then { r with spill := none } else r) }
              ).readDone.refillPosted e t fuel
          else m.spillError t

/-- The same for unexpected entries. -/
def Module.refillUnexp (m : Module) (e : Env) (t : Nat) : Nat → Module
  | 0 => m
  | fuel + 1 =>
    if 16384 ≤ m.unexpOnChip t then m
    else
      match m.mt.unexp.find? (fun u => mtTile u.mctx = t && u.spill.isSome) with
      | none => m
      | some q =>
        if m.spillReads e t q.spill.toList then
          (m.setUnexp (m.mt.unexp.map (fun r => if r.mctx = q.mctx && r.arrSeq = q.arrSeq && !r.held then { r with spill := none }
            else r))).readDone.refillUnexp e t fuel
        else m.spillError t

/-- A posted entry is appended (R299, R303, R304): false where neither the tile nor the pool has room. -/
def Module.postAppend (m : Module) (x : Nat) (c : Mctx) (q : Posted) : Bool × Module :=
  let t := mtTile x
  let q := { q with postSeq := c.postSeq }
  let add (m : Module) (q : Posted) : Module :=
    m.setMctx x { c with posted := c.posted ++ [q], postSeq := (c.postSeq + 1) % 2 ^ 32 }
  if !(c.posted.any (fun r => r.spill.isSome)) && m.postedOnChip t < 32768 then (true, add m q)
  else
    match m.spillFree t with
    | some i => (true, (add m { q with spill := some i }).spillAppend t i 0 q.bytes)
    | none => (false, if m.spillSize t = 0 then m else m.raise (pgMatch t) Ev.spillFull)

/-- An entry is appended to the unexpected list of its context (R303, R304): false where there is no room. An entry that was
order-held is on chip already. -/
def Module.unexpAppend (m : Module) (c : Mctx) (u : Unexp) : Bool × Module :=
  let t := mtTile u.mctx
  let rest := m.mt.unexp.filter (fun r => !(r.held && r.conn = u.conn && r.msn = u.msn))
  let wasHeld := rest.length < m.mt.unexp.length
  let u := { u with held := false, arrSeq := c.arrSeq }
  let bump (m : Module) : Module := m.setMctx u.mctx { c with arrSeq := (c.arrSeq + 1) % 2 ^ 32 }
  let spilled := m.mt.unexp.any (fun r => r.mctx = u.mctx && r.spill.isSome)
  if !spilled && (wasHeld || m.unexpOnChip t < 16384) then (true, bump (m.setUnexp (rest ++ [u])))
  else
    match m.spillFree t with
    | some i => (true, (bump (m.setUnexp (rest ++ [{ u with spill := some i }]))).spillAppend t i u.landed u.bytes)
    | none => (false, if m.spillSize t = 0 then m else m.raise (pgMatch t) Ev.spillFull)

/-! ## Bounce buffers -/

/-- The first free bounce buffer at or after the cursor, among `n` places in ring order (R315). -/
def Mctx.findBounce (c : Mctx) : Nat → Nat → Option Nat
  | 0, _ => none
  | n + 1, k =>
    let i := k % c.bounceCount
    if c.bounces.contains i then c.findBounce n (k + 1) else some i

/-- A context takes a bounce buffer (R315). -/
def Module.takeBounce (m : Module) (x : Nat) : Option (Nat × Module) :=
  match m.mctx x with
  | none => none
  | some c =>
    if c.bounceCount = 0 then none
    else match c.findBounce c.bounceCount c.cursor with
      | none => none
      | some i => some (i, m.setMctx x { c with bounces := addNum c.bounces i, cursor := (i + 1) % c.bounceCount })

/-- A bounce buffer is freed. -/
def Module.freeBounce (m : Module) (x : Nat) (b : Option Nat) : Module :=
  match b, m.mctx x with
  | some i, some c => m.setMctx x { c with bounces := c.bounces.filter (· ≠ i) }
  | _, _ => m

/-- The access of a context's bounce ring, under the asid and link of its CR (R287), with the link: none where the CR's context is
not to be had (log 137). -/
def Module.bounceReq (m : Module) (x : Nat) (c : Mctx) (i off : Nat) : Option (Nat × XReq) :=
  (m.cr c.cr).map fun k =>
    (k.link, { asid := k.asid, va := (c.bounceVa + i * c.bounceSize + off) % 2 ^ 64, acc := .localWrite, user := false,
               allowSe := true, engine := 5 + mtTile x, source := 4, object := x })

/-- The fault of a bounce ring whose CR is not to be had (log 137). -/
def noRing : XFault := ⟨ftAsid, 0⟩

/-! ## Delivery -/

/-- A write of a delivery, under the asid and user bit of the receive's WQ (R313, R324). -/
def Delivery.req (d : Delivery) (va : Nat) : XReq :=
  { asid := d.recv.asid, va := va % 2 ^ 64, acc := .localWrite, user := d.recv.user, allowSe := true,
    engine := 5 + mtTile d.mctx, source := 4, object := d.mctx }

/-- Payload bytes of a matched message are written to its receive buffer, none at or beyond its length (R313): the bytes written,
and the fault that stopped them. -/
def Module.deliverBytes (m : Module) (e : Env) (d : Delivery) (off : Nat) (bs : List Byte) : Nat × Option XFault × Module :=
  let part := bs.take (d.recv.length - off)
  match m.writeVirt e d.recv.link (d.req (d.recv.bufVa + off)) part with
  | (none, m1) => (part.length, none, m1)
  | (some (f, o), m1) => (o, some f, m1)

/-- The completion of a receive joins the finished ones (R323); the delivery is over and its bounce buffer free. -/
def Module.recvClose (m : Module) (d : Delivery) (status length detail : Nat) : Module :=
  let m := { m with mt := { m.mt with deliveries := m.mt.deliveries.filter (fun k => k ≠ d) } }
  let m := m.freeBounce d.mctx d.bounce
  match m.mctx d.mctx with
  | none => m
  | some c =>
    m.finish { owner := .mctx d.mctx, cr := c.cr, tag := d.recv.wqeTag, wq := 0xFFFF, opcode := 0x12, status := status,
               length := length, info := d.tag, peerFa := d.srcFa, nd := c.nd, detail := detail, write := true }

/-- The status record of a receive or a probe (R324). -/
def statusRecord (rank msgLen : Nat) (rts truncated : Bool) : List Byte :=
  leBytes 4 rank ++ leBytes 4 (b2n rts + 2 * b2n truncated) ++ leBytes 8 msgLen

/-- The status record of a receive is written, where it asks for one (R324): the fault that stopped it. -/
def Module.recvRecord (m : Module) (e : Env) (d : Delivery) : Option XFault × Module :=
  if d.recv.statusVa = 0 then (none, m)
  else
    match m.writeVirt e d.recv.link (d.req d.recv.statusVa) (statusRecord d.rank d.msgLen d.rts (d.recv.length < d.msgLen)) with
    | (none, m1) => (none, m1)
    | (some (f, _), m1) => (some f, m1)

/-- A receive ends with a status: its status record, then its completion (R323–R325). A fault of the record makes it LOCAL_FAULT;
one that ends in LOCAL_FAULT anyway keeps its own fault. -/
def Module.recvEnd (m : Module) (e : Env) (d : Delivery) (status length detail : Nat) : Module :=
  match m.recvRecord e d with
  | (some f, m1) =>
    if status = stLocalFault then m1.recvClose d status length detail else m1.recvClose d stLocalFault d.written f.detail
  | (none, m1) => m1.recvClose d status length detail

/-- A receive whose payload is all there: its status record, then its completion (R314, R324, R325), and the fault of the record. -/
def Module.recvDone (m : Module) (e : Env) (d : Delivery) : Option XFault × Module :=
  match m.recvRecord e d with
  | (some f, m1) => (some f, m1.recvClose d stLocalFault d.written f.detail)
  | (none, m1) =>
    (none, if d.recv.length < d.msgLen then m1.recvClose d stTruncated d.recv.length 0 else m1.recvClose d stSuccess d.msgLen 0)

/-- A delivery takes payload bytes at an offset: it goes on, completes, or ends in a fault (R313, R314, R325). -/
def Module.deliver1 (m : Module) (e : Env) (d : Delivery) (off : Nat) (bs : List Byte) : Option XFault × Module :=
  match m.deliverBytes e d off bs with
  | (n, some f, m1) => (some f, m1.recvEnd e d stLocalFault (d.written + n) f.detail)
  | (n, none, m1) =>
    let d1 := { d with landed := d.landed + bs.length, landing := d.landing.take off bs.length, written := d.written + n }
    let m1 := { m1 with mt := { m1.mt with deliveries := m1.mt.deliveries.map (fun k => if k = d then d1 else k) } }
    if d1.expect ≤ d1.landed then m1.recvDone e d1 else (none, m1)

/-- A delivery of an EAGER message that ends before all of it is accepted leaves a failed message (R257, R316, R325). -/
def Module.eagerFault (m : Module) (cid msn tc landed written total : Nat) (f : Nat × Nat) : Module :=
  match m.conn cid with
  | none => m
  | some c =>
    if total ≤ landed then m
    else
      let r : RxMsg := { msn := msn, bytes := landed, landing := Landing.none, written := written, total := some total,
                         failed := some f, aborted := none, closed := false }
      (m.setConn cid (c.setRxMsg r)).rxEnd cid tc msn

/-- The parts of a message that landed in its bounce buffer are copied to the receive buffer (R311, R316). -/
def Module.copyParts (m : Module) (e : Env) (d : Delivery) (c : Mctx) (i : Nat) : List (Nat × Nat) → Nat →
    Except (XFault × Bool × Nat) Nat × Module
  | [], w => (.ok w, m)
  | (off, n) :: l, w =>
    let k := min n (d.recv.length - off)
    let m := m.needCr e c.cr
    match m.bounceReq d.mctx c i off with
    | none => (.error (noRing, true, w), m)
    | some (link, r) =>
      match m.readVirt e link r k with
      | (.error (f, _), m1) => (.error (f, true, w), m1)
      | (.ok bs, m1) =>
        match m1.deliverBytes e d off bs with
        | (n, some f, m2) => (.error (f, false, w + n), m2)
        | (n, none, m2) => m2.copyParts e d c i l (w + n)

/-- An RDV_GET for a matched RTS (R319). -/
def Module.sendRdvGet (m : Module) (e : Env) (d : Delivery) (handle nd tc : Nat) : Module :=
  let id := m.x.nextMsg
  let g := { Msg.new .rdvGet wRdvGet tc 0 (.inline []) with
    ext := beBytes 4 handle ++ beBytes 4 d.expect ++ beBytes 8 0, ref := d.mctx }
  let m := { m with mt := { m.mt with deliveries := m.mt.deliveries ++ [{ d with getMsg := id }] } }
  match m.postMsg d.srcFa nd g with
  | (true, m1) => m1
  | (false, m1) => m1.recvEnd e { d with getMsg := id } stConnFailed 0 0

/-- A message that a receive has taken (R311, R316, R319): what landed in its bounce buffer is copied, after which the buffer of an
order-held message is free, or its RDV_GET goes out;
a message already complete completes the receive. A fault ends the delivery. A message whose connection started over before all of
it landed cannot complete (log 12). -/
def Module.startDelivery (m : Module) (e : Env) (u : Unexp) (q : Posted) (nd : Nat) : Module :=
  let d : Delivery :=
    { mctx := u.mctx, recv := q, tag := u.tag, rank := u.rank, srcFa := u.srcFa, msgLen := u.msgLen,
      expect := if u.rts then min u.msgLen q.length else u.msgLen, rts := u.rts, conn := u.conn, msn := u.msn, getMsg := 0,
      getMsn := none, bounce := u.bounce, landed := u.landed, landing := Landing.of u.parts, written := 0 }
  if u.rts then m.sendRdvGet e d u.handle nd u.tc
  else
    let m := { m with mt := { m.mt with deliveries := m.mt.deliveries ++ [d] } }
    match m.mctx u.mctx, u.bounce with
    | some c, some i =>
      match m.copyParts e d c i u.parts 0 with
      | (.error (f, ring, w), m1) =>
        let m1 := if ring then (m1.mctxError u.mctx 1 f.type).recvEnd e d stMatchContext w 0
          else m1.recvEnd e d stLocalFault w f.detail
        match u.conn with
        | none => m1
        | some cid =>
          m1.eagerFault cid u.msn u.tc u.landed w u.msgLen (if ring then (stMatchContext, 0) else (stRemoteAccess, f.detail))
      | (.ok w, m1) =>
        let d1 := { d with written := w, bounce := if u.held then none else d.bounce }
        let m1 := if u.held then m1.freeBounce u.mctx d.bounce else m1
        let m1 := { m1 with mt := { m1.mt with deliveries := m1.mt.deliveries.map (fun k => if k = d then d1 else k) } }
        if d1.expect ≤ d1.landed then (m1.recvDone e d1).2
        else if u.conn.isNone then m1.recvEnd e d1 stConnFailed w 0
        else m1
    | _, _ =>
      if u.msgLen = 0 then (m.recvDone e d).2
      else if u.conn.isNone then m.recvEnd e d stConnFailed 0 0
      else m

/-! ## The match step -/

/-- Whether a posted entry is fully specified (R305). -/
def Posted.exact (q : Posted) : Bool := decide (q.ignore = 0) && decide (q.rank ≠ 0xFFFFFFFF)

/-- What a message's search counts on chip (R305, R726): a hit in the hash, and the wildcard entries it compares, up to the first match
or to the first one posted after the hit. -/
def Module.searchCounts (m : Module) (t : Nat) (hit : Posted → Bool) (l : List Posted) : Module :=
  let chip := l.filter (fun q => q.spill.isNone)
  let h := chip.find? (fun q => q.exact && hit q)
  let wild : List Posted := (match h with
    | none => chip
    | some h => chip.takeWhile (fun q => q.postSeq ≠ h.postSeq)).filter (fun (q : Posted) => !q.exact)
  let m := if h.isSome then m.count (pgMatch t) 1 else m
  if wild.isEmpty then m else m.countUp (pgMatch t) 2 (min wild.length (wild.findIdx hit + 1))

/-- The message whose step is performed, and whether its first packet is still being handled (R310, R311): none where the step ends,
the NACK cause where it is refused. A matched zero-length message completes when its packet is accepted. An order-held message whose
bounce buffer a DESTROY_MATCH took fails (log 123). -/
def Module.matchStep (m : Module) (e : Env) (cid nd : Nat) (u : Unexp) (fresh : Bool) : Option Nat × Module :=
  let x := u.mctx
  let t := mtTile x
  let m := m.count (pgMatch t) 0
  let drop (m : Module) : Module := m.setUnexp (m.mt.unexp.filter (fun r => !(r.held && r.conn = u.conn && r.msn = u.msn)))
  let fail (m : Module) (st : Nat) : Module :=
    let m := (drop m).freeBounce x u.bounce
    match m.conn cid with
    | none => m
    | some c =>
      let r : RxMsg := { msn := u.msn, bytes := u.landed, landing := Landing.none, written := 0, total := some (if u.rts then 0 else u.msgLen),
                         failed := some (st, 0), aborted := none, closed := false }
      let m := m.setConn cid (c.setRxMsg r)
      if fresh then m else m.rxEnd cid u.tc u.msn
  match m.mctx x with
  | none => (some nkRnrContext, m)
  | some c =>
    if c.state = .closing || c.nd ≠ nd then (some nkRnrContext, m)
    else if c.state = .error || (u.held && !u.rts && decide (0 < u.landed) && u.bounce.isNone) then (none, fail m stMatchContext)
    else
      let m := m.needCr e c.cr
      if m.crRefuses c.cr then (some nkRnrCr, m)
      else
        let hit (q : Posted) : Bool := tagHit u.tag u.rank q.tag q.ignore q.rank
        match (m.searchCounts t hit c.posted).listSearch e t Posted.spill hit c.posted with
        | (none, m1) => (none, fail m1 stMatchContext)
        | (some (some q), m1) =>
          let m1 := (drop m1).poolTake 1
          let m1 := m1.setMctx x { c with posted := c.posted.filter (fun r => r.postSeq ≠ q.postSeq) }
          if fresh && !u.rts then
            let d : Delivery :=
              { mctx := x, recv := q, tag := u.tag, rank := u.rank, srcFa := u.srcFa, msgLen := u.msgLen, expect := u.msgLen,
                rts := false, conn := u.conn, msn := u.msn, getMsg := 0, getMsn := none, bounce := none, landed := 0,
                landing := Landing.none, written := 0 }
            (none, { m1 with mt := { m1.mt with deliveries := m1.mt.deliveries ++ [d] } })
          else (none, m1.startDelivery e u q nd)
        | (some none, m1) =>
          if !u.rts && c.eagerLimit < u.msgLen then (none, (fail m1 stMatchOversize).raise (pgMatch t) Ev.oversize)
          else if !u.rts && 0 < u.msgLen && u.bounce.isNone then
            match m1.takeBounce x with
            | none => (some nkRnrRecv, m1)
            | some (i, m2) =>
              match m2.mctx x with
              | none => (some nkRnrContext, m2)
              | some c2 =>
                match m2.unexpAppend c2 { u with bounce := some i } with
                | (true, m3) => (none, m3)
                | (false, m3) => (some nkRnrRecv, m3.freeBounce x (some i))
          else
            match m1.unexpAppend c u with
            | (true, m2) => (none, m2)
            | (false, m2) => (some nkRnrRecv, m2)

/-! ## Sequence of messages -/

/-- An MSN of a receive direction is seen (R308): rx_msn passes those that are; a record of 513 messages before is gone. -/
def Conn.pass (c : Conn) : Nat → Conn
  | 0 => c
  | n + 1 =>
    if c.seen.contains c.rxMsn then
      let v := (c.rxMsn + 1) % 1024
      ({ c with seen := c.seen.filter (· ≠ c.rxMsn), rxMsn := v,
                rxMsgs := c.rxMsgs.filter (fun r => r.msn ≠ (v + 511) % 1024) }).pass n
    else c

/-- The order-held message of a receive direction with an MSN. -/
def Module.heldMsg (m : Module) (cid msn : Nat) : Option Unexp :=
  m.mt.unexp.find? (fun u => u.held && u.conn = some cid && u.msn = msn)

/-- The match steps of order-held messages that rx_msn has reached (R310). -/
def Module.heldSteps (m : Module) (e : Env) (cid : Nat) : Nat → Module
  | 0 => m
  | n + 1 =>
    match m.conn cid with
    | none => m
    | some c =>
      match m.heldMsg cid c.rxMsn with
      | none => m
      | some u =>
        match m.matchStep e cid c.nd u false with
        | (some _, m1) => m1
        | (none, m1) => (m1.onConn cid fun c => ({ c with seen := addNum c.seen u.msn }).pass 1024).heldSteps e cid n

/-- An MSN of a receive direction is seen (R308, R310). -/
def Module.markSeen (m : Module) (e : Env) (cid msn : Nat) : Module :=
  match m.conn cid with
  | none => m
  | some c =>
    if 512 ≤ seqSub 10 msn c.rxMsn then m
    else (m.setConn cid (({ c with seen := addNum c.seen msn }).pass 1024)).heldSteps e cid 512

/-- Receive directions that entered CHALLENGED from OPEN (R312): the match steps of their order-held messages are performed in
order of MSN, rx_msn returns to 0 and the map is cleared. Deliveries and unexpected messages of which not all has landed cannot
complete any more (log 12). -/
def Module.startOver (m : Module) (e : Env) (cid : Nat) : Module :=
  match m.conn cid with
  | none => m
  | some c =>
    let held := (rangeFrom 0 1024).filterMap (fun i => m.heldMsg cid ((c.rxMsn + i) % 1024))
    let m := held.foldl (fun m u => (m.matchStep e cid c.nd u false).2) m
    let cut := m.mt.deliveries.filter (fun d => !d.rts && d.conn = some cid)
    let m := cut.foldl (fun m d => m.recvEnd e d stConnFailed d.written 0) m
    let stuck := m.mt.unexp.filter (fun u => u.held && u.conn = some cid)
    let m := stuck.foldl (fun m u => m.freeBounce u.mctx u.bounce) m
    let m := m.setUnexp ((m.mt.unexp.filter (fun u => !(u.held && u.conn = some cid))).map
      (fun u => if u.conn = some cid then { u with conn := none } else u))
    m.onConn cid fun c => { c with anew := false, rxMsn := 0, seen := [], rxMsgs := [] }

/-- A tile's lists in order: spilled entries come back on chip where there is room, the spill pool shows the links of the others
(R304, R307), and MATCH[t].USE follows. -/
def Module.mtSettle (m : Module) (e : Env) (t : Nat) : Module :=
  (((m.refillPosted e t 32768).refillUnexp e t 16384).spillSync t).mtUse t

/-- Every receive direction that entered CHALLENGED from OPEN is dealt with (R312), and the tiles' lists are put in order. -/
def Module.settle (m : Module) (e : Env) : Module :=
  let m := ((m.x.conns.filter (fun p => p.2.anew)).map (·.1)).foldl (fun m cid => m.startOver e cid) m
  (m.mtSettle e 0).mtSettle e 1

/-- An arriving data packet of a connection goes to an engine; an accepted one that is not EAGER or RTS is seen (R308), and what
follows from that belongs to its acceptance (R234, R776). -/
def Module.rxPacket (m : Module) (e : Env) (p : Opened) (engine : Module → Nat → Verdict × Module) : Module :=
  (m.rxData p fun m cid =>
    match engine m cid with
    | (.accept, m1) => (.accept, if p.opcode = wEager || p.opcode = wRts then m1 else m1.markSeen e cid p.msn)
    | r => r).settle e

/-! ## EAGER and RTS -/

/-- The message an EAGER or RTS packet belongs to, as it stands when nothing of it has been kept (R293). -/
def freshMsg (p : Opened) (cid : Nat) : Unexp :=
  { mctx := extBE p 12 2, tag := extBE p 0 8, rank := extBE p 8 4, srcFa := p.src, msgLen := extBE p 16 4, bounce := none,
    rts := decide (p.opcode = wRts), held := false, handle := extBE p 20 4, landed := 0, parts := [], arrSeq := 0,
    conn := some cid, msn := p.msn, tc := p.tc, spill := none }

/-- Parts that have landed, by offset. -/
def addPart (q : Nat × Nat) : List (Nat × Nat) → List (Nat × Nat)
  | [] => [q]
  | r :: l => if q.1 ≤ r.1 then q :: r :: l else r :: addPart q l

/-- Whether packets of an EAGER message that is unexpected or order-held are still to come. A message that has landed whole keeps its
entry until it is claimed; its MSN may come again meanwhile. -/
def Unexp.takes (u : Unexp) (cid msn : Nat) : Bool :=
  decide (u.conn = some cid) && decide (u.msn = msn) && !u.rts && decide (u.landed < u.msgLen)

/-- The payload of a packet goes to the bounce buffer of a message that is unexpected or order-held (R310, R315). A fault puts the
context into ERROR and fails the message (R316). -/
def Module.bounceWrite (m : Module) (e : Env) (cid : Nat) (u : Unexp) (p : Opened) : Verdict × Module :=
  let upd (m : Module) : Module :=
    m.setUnexp (m.mt.unexp.map (fun r => if r.takes cid u.msn then
      { r with landed := r.landed + pPlen p, parts := if pPlen p = 0 then r.parts else addPart (pOff p, pPlen p) r.parts } else r))
  let fail (m : Module) (i : Nat) (f : XFault) : Module :=
    let m := m.mctxError u.mctx 1 f.type
    let m := m.setUnexp (m.mt.unexp.filter (fun r => !r.takes cid u.msn))
    let m := m.freeBounce u.mctx (some i)
    let m := m.onConn cid fun c =>
      let r := c.rxMsg u.msn
      c.setRxMsg { r with bytes := u.landed, total := some u.msgLen, failed := some (stMatchContext, 0) }
    (m.rxCount cid p none 0 none).markSeen e cid u.msn
  match m.mctx u.mctx, u.bounce with
  | some c, some i =>
    let m := m.needCr e c.cr
    match m.bounceReq u.mctx c i (pOff p) with
    | none => (.accept, fail m i noRing)
    | some (link, r) =>
      if m.tooEarly e (Landing.of u.parts) (pOff p) r (pPlen p) then (.wait, m)
      else
        match m.writeVirt e link r p.payload with
        | (none, m1) => (.accept, upd m1)
        | (some (f, _), m1) => (.accept, fail m1 i f)
  | _, _ => (.accept, upd m)

/-- Whether a packet's bytes would reach a receive buffer with side effects ahead of earlier ones (R172, log 136). -/
def Module.deliverEarly (m : Module) (e : Env) (d : Delivery) (p : Opened) : Bool :=
  m.tooEarly e d.landing (pOff p) (d.req (d.recv.bufVa + pOff p)) (min (pPlen p) (d.recv.length - pOff p))

/-- What a packet does once its message has been matched, has failed, or is unexpected (R310, R313). -/
def Module.eagerLand (m : Module) (e : Env) (cid : Nat) (p : Opened) : Verdict × Module :=
  match m.conn cid with
  | none => (.accept, m)
  | some c =>
    if c.rxMsgs.any (fun r => r.msn = p.msn) then (.accept, m.rxCount cid p none 0 none)
    else
      match m.mt.deliveries.find? (fun d => !d.rts && d.conn = some cid && d.msn = p.msn) with
      | some d =>
        if m.deliverEarly e d p then (.wait, m)
        else
          match m.deliver1 e d (pOff p) p.payload with
          | (none, m1) => (.accept, m1)
          | (some f, m1) =>
            let landed := d.landed + pPlen p
            let m1 := m1.onConn cid fun c => c.setRxMsg { (c.rxMsg p.msn) with
              bytes := landed, written := d.written, total := some d.msgLen, failed := some (stRemoteAccess, f.detail) }
            (.accept, m1.rxEnd cid p.tc p.msn)
      | none =>
        match m.mt.unexp.find? (fun u => u.takes cid p.msn) with
        | some u => m.bounceWrite e cid u p
        | none => (.accept, m)

/-- A packet whose message is not yet known starts its match step, or is held for the order of messages (R310, R311). -/
def Module.eagerFirst (m : Module) (e : Env) (cid : Nat) (p : Opened) (c : Conn) : Verdict × Module :=
  let u := freshMsg p cid
  let t := mtTile u.mctx
  let rnrRecv (m : Module) : Verdict × Module := (.refuse nkRnrRecv, m.count (pgMatch t) 6)
  if c.rxMsn = p.msn then
    match m.matchStep e cid p.nd u true with
    | (some k, m1) => if k = nkRnrRecv then rnrRecv m1 else (.refuse k, m1)
    | (none, m1) =>
      match m1.eagerLand e cid p with
      | (.accept, m2) => (.accept, m2.markSeen e cid p.msn)
      | r => r
  else if 16384 ≤ m.unexpOnChip t then rnrRecv m
  else
    let hold (m : Module) (b : Option Nat) : Verdict × Module :=
      ((m.setUnexp (m.mt.unexp ++ [{ u with held := true, bounce := b }])).count (pgMatch t) 5).eagerLand e cid p
    if pPlen p = 0 then hold m none
    else match m.mctx u.mctx with
      | none => rnrRecv m
      | some x =>
        if x.state = .closing || x.nd ≠ p.nd || x.bounceSize < u.msgLen then rnrRecv m
        else match m.takeBounce u.mctx with
          | none => rnrRecv m
          | some (b, m1) => hold m1 (some b)

/-- What an arriving EAGER or RTS packet does (R310, R311). A packet of a message that is seen and of which nothing is kept any more
(R328) is accepted without effect. -/
def Module.eagerEngine (m : Module) (e : Env) (p : Opened) (cid : Nat) : Verdict × Module :=
  match m.conn cid with
  | none => (.accept, m)
  | some c =>
    match m.heldMsg cid p.msn with
    | some u =>
      if c.rxMsn = p.msn then
        match m.matchStep e cid p.nd u false with
        | (some k, m1) => (.refuse k, m1)
        | (none, m1) =>
          let (v, m2) := m1.eagerLand e cid p
          (v, m2.markSeen e cid p.msn)
      else m.eagerLand e cid p
    | none =>
      let known := c.rxMsgs.any (fun r => r.msn = p.msn) ||
        m.mt.deliveries.any (fun d => !d.rts && d.conn = some cid && d.msn = p.msn) ||
        m.mt.unexp.any (fun u => u.takes cid p.msn)
      if known then m.eagerLand e cid p
      else if 512 ≤ seqSub 10 p.msn c.rxMsn || c.seen.contains p.msn then (.accept, m)
      else m.eagerFirst e cid p c

/-! ## RDV_DATA -/

/-- The delivery an RDV_DATA or a RESULT about an RDV_GET names, by the MSN of the RDV_GET (R293, R320). -/
def Module.rdvDelivery (m : Module) (cid msn : Nat) : Option Delivery :=
  match m.conn cid with
  | none => none
  | some c =>
    m.mt.deliveries.find? (fun d => d.rts && d.conn = some cid &&
      (d.getMsn = some msn || c.msgs.any (fun g => g.id = d.getMsg && g.msn = some msn)))

/-- The fault types of R181, and the level each has under R182: none where it is that of the entry at fault. -/
def faultTypes : List (Nat × Option Nat) :=
  [(ftInvalid, none), (ftFormat, none), (ftRange, some 0), (ftAsid, some 0), (ftRead, some 1), (ftWrite, some 1), (ftExec, some 1),
   (ftUser, some 1), (ftSe, some 1), (ftWalkAccess, none), (ftWalkTarget, none), (ftDataAccess, some 1)]

/-- A fault that the wire does not name: a free one among those of R181 and R182 (log 40). -/
def Module.someFault (m : Module) : XFault × Module :=
  let (v, m) := m.draw
  let (type, level) := (faultTypes[v % 12]?).getD (ftInvalid, none)
  (⟨type, level.getD (v / 12 % 6)⟩, m)

/-- What an arriving RDV_DATA packet does (R172, R319, R322, R325). -/
def Module.rdvDataEngine (m : Module) (e : Env) (p : Opened) (cid : Nat) : Verdict × Module :=
  match m.conn cid with
  | none => (.accept, m)
  | some c =>
    let r := c.rxMsg p.msn
    match m.rdvDelivery cid (pXdata p % 1024) with
    | none => (.accept, m.rxCount cid p none 0 none)
    | some d =>
      if r.failed.isSome then (.accept, m.rxCount cid p none 0 none)
      else if pAbort p then
        let (f, m) := m.someFault
        (.accept, (m.recvEnd e d stRemoteAccess d.written f.detail).rxCount cid p none 0 none)
      else if m.deliverEarly e d p then (.wait, m)
      else
        match m.deliver1 e d (pOff p) p.payload with
        | (none, m1) => (.accept, m1.rxCount cid p none 0 none)
        | (some f, m1) => (.accept, m1.rxCount cid p none 0 (some (stRemoteAccess, f.detail)))

end Sys2Proof.Machine
end

