-- ==== Sys2Proof/Machine/Matching.lean ====
section
/-! DEFINITION. Tag matching, eager delivery and rendezvous: the commands (R284–R328). -/

namespace Sys2Proof.Machine

/-! ## Contexts -/

/-- The checks of CREATE_MATCH, in order (R285). -/
def Module.createMatchChecks (m : Module) (w : List Word) : List (Bool × Nat × Nat) :=
  let x := wqeField w 0x10 2
  let nd := wqeField w 0x12 2
  let cr := wqeField w 0x14 2
  let lim := wqeField w 0x18 4
  let size := wqeField w 0x1C 4
  let va := wqeField w 0x20 8
  let n := wqeField w 0x28 4
  let taken := ((m.mtCtxs (mtTile x)).map (fun p => p.2.bounceCount)).sum
  [(decide (x < 4096), stAdminInvalid, 0x10),
   ((m.mctx x).isNone, stAdminState, 0x10),
   (nd ≠ 0 && nd ≠ 0xFFFF, stAdminInvalid, 0x12),
   (m.crInTable cr && m.crActive cr, stAdminInvalid, 0x14),
   (decide (lim ≤ 65536), stAdminInvalid, 0x18),
   (decide (lim ≤ size) && decide (size ≤ 65536) && decide (size % 64 = 0), stAdminInvalid, 0x1C),
   (decide (n = 0) || decide (va % 64 = 0), stAdminInvalid, 0x20),
   (decide (n ≤ 16384) && (decide (n ≠ 0) || decide (lim = 0)), stAdminInvalid, 0x28),
   (decide (taken + n ≤ 65536), stAdminNoResource, 0x28)]

/-- Meaning of CREATE_MATCH (R284–R286, R288, R147). -/
def execCreateMatch (e : Env) (s : State) : Res :=
  s.admin 0x8E e fun m w =>
    let x := wqeField w 0x10 2
    let cr := wqeField w 0x14 2
    let m := m.needCr e cr
    m.checked (m.createMatchChecks w) fun m =>
      let c : Mctx :=
        { nd := wqeField w 0x12 2, cr := cr, eagerLimit := wqeField w 0x18 4, bounceSize := wqeField w 0x1C 4,
          bounceVa := wqeField w 0x20 8, bounceCount := wqeField w 0x28 4, state := .active, posted := [], postSeq := 0,
          arrSeq := 0, cursor := 0, bounces := [], released := 0 }
      (((m.setMctx x c).mtUse (mtTile x)).bind cr).adminOk 0

/-- An RDV_CANCEL to the sender of an unexpected RTS (R293, R328). -/
def Module.sendRdvCancel (m : Module) (u : Unexp) (nd status : Nat) : Module :=
  let g := { Msg.new .rdvCancel wRdvCancel u.tc 0 (.inline []) with
    ext := beBytes 4 u.handle ++ beBytes 1 status ++ beBytes 3 0 }
  (m.postMsg u.srcFa nd g).2

/-- Meaning of DESTROY_MATCH (R148, R288, R328): the context closes; its lists and bounce buffers are released, the senders of
unexpected RTSs are told. What order-held messages had in bounce buffers is lost (log 123). The command completes with
MATCH_CONTEXT_FREE. -/
def execDestroyMatch (e : Env) (s : State) : Res :=
  s.admin 0x8F e fun m w =>
    let x := wqeField w 0x10 2
    m.checked [(decide (x < 4096), stAdminInvalid, 0x10),
        ((match m.mctx x with
          | none => false
          | some c => c.state ≠ .closing : Bool), stAdminState, 0x10)] fun m =>
      match m.mctx x with
      | none => m
      | some c =>
        let mine (u : Unexp) : Bool := u.mctx = x && !u.held
        let rts := m.mt.unexp.filter (fun u => mine u && u.rts)
        let m := rts.foldl (fun m u => m.sendRdvCancel u c.nd stMatchContext) m
        let m := m.setUnexp ((m.mt.unexp.filter (fun u => !mine u)).map
          (fun u => if u.mctx = x then { u with bounce := none, parts := [] } else u))
        let m := m.setMctx x { c with state := .closing, posted := [], bounces := [], released := c.posted.length }
        let m := (m.needCr e c.cr).settle e
        if m.crActive c.cr then m else m.discardHeld c.cr (fun k => k.owner = .mctx x)

/-- Whether some completion of an object is still finished but not written, or held. -/
def Module.owes (m : Module) (o : Owner) : Bool :=
  m.q.done.any (fun c => c.owner = o) || m.q.crRt.any (fun p => p.2.held.any (fun c => c.owner = o))

/-- Meaning of MATCH_CONTEXT_FREE (R147, R286, R288, R328): a closing context whose deliveries have all written their completion
is freed. -/
def execMatchContextFree (e : Env) (s : State) : Res :=
  s.run fun m =>
    let m := m.at e
    match m.adminIs 0x8F with
    | none => m
    | some a =>
      let x := wqeField a.wqe 0x10 2
      match m.mctx x with
      | none => m
      | some c =>
        if c.state ≠ .closing || m.mt.deliveries.any (fun d => d.mctx = x) || m.owes (.mctx x) then m
        else
          let m := { m with mt := { m.mt with ctxs := KMap.erase m.mt.ctxs x } }
          (((m.needCr e c.cr).unbind c.cr).mtUse (mtTile x)).adminOk c.released

/-! ## Sending -/

/-- An operation's message goes to its destination; without a key for the queue's ND the operation completes with NO_DOMAIN
(R237). -/
def Module.opMsg (m : Module) (id : Nat) (o : Op) (c : WqCtx) (g : Msg) : Module :=
  match m.postMsg (wqeDest o.wqe) c.nd { g with op := some id, ordered := wqeOrdered o.wqe } with
  | (true, m1) => m1
  | (false, m1) => m1.opDone id stNoDomain 0 0 (wqeDest o.wqe) 0

/-- Whether an earlier operation of the same WQ that a test selects has not started (R292, R301). -/
def Module.behind (m : Module) (id : Nat) (o : Op) (p : List Word → Bool) : Bool :=
  o.trig.isNone && m.q.ops.any (fun k => decide (k.1 < id) && decide (k.2.wq = o.wq) && !k.2.started && k.2.trig.isNone && p k.2.wqe)

/-- Extension of an EAGER or RTS packet (R293). -/
def tsendExt (w : List Word) (handle : Nat) : List Byte :=
  beBytes 8 (wqeField w 0x20 8) ++ beBytes 4 (wqeField w 0x28 4) ++ beBytes 2 (wqeField w 0x1C 2) ++ beBytes 2 0 ++
  beBytes 4 (wqeField w 0x18 4) ++ beBytes 4 handle

/-- The local buffer of a WQE as the source of a message. -/
def bufferSrc (o : Op) (c : WqCtx) (va : Nat) : Src := .buffer c.link c.asid va c.user 2 o.wq

/-- The lowest rendezvous entry that is free (R318). -/
def Module.rdvFree (m : Module) : Option Nat :=
  freeIndex (m.mt.rdvs.map (·.1)) (min 8192 (m.mt.rdvs.length + 1)) 0

/-- The live rendezvous entry of an index and generation (R318). -/
def Module.rdvAt (m : Module) (i gen : Nat) : Option Rdv := (KMap.get m.mt.rdvs i).filter (fun r => r.gen = gen)

/-- A rendezvous entry is freed and its generation goes up (R321). -/
def Module.rdvErase (m : Module) (i gen : Nat) : Module :=
  match m.rdvAt i gen with
  | none => m
  | some r => { m with mt := { m.mt with rdvs := KMap.erase m.mt.rdvs i, gens := KMap.put m.mt.gens i ((r.gen + 1) % 2 ^ 19) } }

/-- A rendezvous TSEND ends with a status (R321). -/
def Module.rdvEnd (m : Module) (i gen status length detail : Nat) : Module :=
  match m.rdvAt i gen with
  | none => m
  | some r => (m.opDone r.op status length 0 r.fa detail).rdvErase i gen

/-- Meaning of TSEND (R289–R294, R318, R237): eager up to send_limit, else by rendezvous. A TSEND waits behind earlier ones of its
queue to the same module (R292), and while the rendezvous table is full. -/
def execTsend (id : Nat) (e : Env) (s : State) : Res :=
  s.run fun m =>
    let m := (m.at e).needOp e id
    match m.startable id 0x10 with
    | none => m
    | some (o, c) =>
      let w := o.wqe
      let len := wqeField w 0x18 4
      if m.behind id o (fun v => wqeOpcode v = 0x10 && wqeDest v = wqeDest w) then m
      else if 4096 ≤ wqeField w 0x1C 2 || wqeField w 0x28 4 = 0xFFFFFFFF then
        (m.opStart id o).opFail e id stInvalidWqe 0 0 0 0
      else if !m.hasKey c.nd then (m.opStart id o).opDone id stNoDomain 0 0 (wqeDest w) 0
      else if len ≤ m.get F.matchSndcfgSendLimit then
        let src := if len = 0 then .inline [] else bufferSrc o c (wqeField w 0x10 8)
        (m.opStart id o).opMsg id o c { Msg.new .eager wEager (wqeTc w) len src with ext := tsendExt w 0 }
      else
        match m.rdvFree with
        | none => m.raise (pgMatch 0) Ev.rdvExhausted
        | some i =>
          let gen := KMap.getD m.mt.gens i 0
          let r : Rdv := { gen := gen, op := id, va := wqeField w 0x10 8, length := len, asid := c.asid, link := c.link,
                           user := c.user, fa := wqeDest w, nd := c.nd, rtsDone := false, asked := none, dataDone := false }
          let m := (m.opStart id o)
          let m := { m with mt := { m.mt with rdvs := KMap.put m.mt.rdvs i r } }
          m.opMsg id o c { Msg.new .rts wRts (wqeTc w) 0 (.inline []) with ext := tsendExt w (gen * 8192 + i), ref := i, ref2 := gen }

/-! ## Posting receives -/

/-- Whether a posting's context is one its WQ may use (R297). -/
def Module.postable (m : Module) (c : WqCtx) (x : Nat) : Option Mctx :=
  match m.mctx x with
  | none => none
  | some k =>
    let asid := match m.cr k.cr with
      | none => 0x10000
      | some r => r.asid
    if k.state = .active && k.nd = c.nd && asid = c.asid then some k else none

/-- Whether earlier postings of the same WQ that name the same context have not started (R301). -/
def Module.postingBehind (m : Module) (id : Nat) (o : Op) : Bool :=
  m.behind id o (fun v => (wqeOpcode v = 0x12 || wqeOpcode v = 0x13 || wqeOpcode v = 0x14) &&
    wqeField v 0x1C 2 = wqeField o.wqe 0x1C 2)

/-- The CR of a posting's context is loaded, so that its asid is known. -/
def Module.loadMctxCr (m : Module) (e : Env) (x : Nat) : Module :=
  match m.mctx x with
  | none => m
  | some k => m.needCr e k.cr

/-- The earliest visible unexpected message that a posting accepts (R296, R303–R305). A fully specified posting that finds one on chip
hits the hash. -/
def Module.unexpSearch (m : Module) (e : Env) (x : Nat) (w : List Word) : Option (Option Unexp) × Module :=
  let hit (u : Unexp) : Bool := tagHit u.tag u.rank (wqeField w 0x20 8) (wqeField w 0x28 8) (wqeField w 0x30 4)
  let l := m.mt.unexp.filter (fun u => u.mctx = x && !u.held)
  let exact := wqeField w 0x28 8 = 0 && wqeField w 0x30 4 ≠ 0xFFFFFFFF
  let found := exact && l.any (fun u => u.spill.isNone && hit u)
  (if found then m.count (pgMatch (mtTile x)) 1 else m).listSearch e (mtTile x) Unexp.spill hit l

/-- Meaning of TRECV (R295–R299, R301–R305, R316, R319): it claims the earliest unexpected message it accepts, or is posted. It
waits while the holding pool has no entry for the completion of a claimed message. -/
def execTrecv (id : Nat) (e : Env) (s : State) : Res :=
  s.run fun m =>
    let m := (m.at e).needOp e id
    match m.startable id 0x12 with
    | none => m
    | some (o, c) =>
      let w := o.wqe
      let x := wqeField w 0x1C 2
      if m.postingBehind id o || 16384 ≤ m.q.pool then m
      else
        let m := (m.opStart id o).loadMctxCr e x
        match m.postable c x with
        | none => m.opDone id stMatchContext 0 0 0 0
        | some k =>
          let q : Posted :=
            { tag := wqeField w 0x20 8, ignore := wqeField w 0x28 8, rank := wqeField w 0x30 4, wq := o.wq, user := c.user,
              bufVa := wqeField w 0x10 8, length := wqeField w 0x18 4, wqeTag := wqeTag w, statusVa := wqeField w 0x38 8,
              postSeq := 0, asid := c.asid, link := c.link, spill := none }
          match m.unexpSearch e x w with
          | (none, m1) => (m1.opDone id stMatchContext 0 0 0 0).settle e
          | (some (some u), m1) =>
            let m1 := m1.setUnexp (m1.mt.unexp.filter (fun r => !(r.mctx = x && !r.held && r.arrSeq = u.arrSeq)))
            (((m1.poolTake 1).startDelivery e u q k.nd).opDone id stSuccess 0 1 0 0).settle e
          | (some none, m1) =>
            match m1.postAppend x k q with
            | (true, m2) => (m2.opDone id stSuccess 0 0 0 0).settle e
            | (false, m2) => (m2.opDone id stMatchNoSpace 0 0 0 0).settle e

/-- Meaning of TPROBE (R295–R297, R300–R303, R324): the status record of the earliest unexpected message it accepts, which stays. -/
def execTprobe (id : Nat) (e : Env) (s : State) : Res :=
  s.run fun m =>
    let m := (m.at e).needOp e id
    match m.startable id 0x13 with
    | none => m
    | some (o, c) =>
      let w := o.wqe
      let x := wqeField w 0x1C 2
      if m.postingBehind id o then m
      else
        let m := (m.opStart id o).loadMctxCr e x
        match m.postable c x with
        | none => m.opDone id stMatchContext 0 0 0 0
        | some _ =>
          match m.unexpSearch e x w with
          | (none, m1) => (m1.opDone id stMatchContext 0 0 0 0).settle e
          | (some none, m1) => m1.opDone id stNoMatch 0 0 0 0
          | (some (some u), m1) =>
            let va := wqeField w 0x38 8
            if va = 0 then m1.opDone id stSuccess u.msgLen u.tag u.srcFa 0
            else
              match m1.writeVirt e c.link (localReq o c (5 + mtTile x) va .localWrite)
                  (statusRecord u.rank u.msgLen u.rts false) with
              | (none, m2) => (m2.stage id 2).opDone id stSuccess u.msgLen u.tag u.srcFa 0
              | (some (f, off), m2) => m2.opFail e id stLocalFault off 0 0 f.detail

/-- Meaning of TCANCEL (R295, R297, R300–R302): the earliest-posted entry of the WQ with the tag is removed. -/
def execTcancel (id : Nat) (e : Env) (s : State) : Res :=
  s.run fun m =>
    let m := (m.at e).needOp e id
    match m.startable id 0x14 with
    | none => m
    | some (o, c) =>
      let w := o.wqe
      let x := wqeField w 0x1C 2
      if m.postingBehind id o then m
      else
        let m := (m.opStart id o).loadMctxCr e x
        match m.postable c x with
        | none => m.opDone id stMatchContext 0 0 0 0
        | some k =>
          match m.listSearch e (mtTile x) Posted.spill (fun q => q.wqeTag = wqeField w 0x18 4 && q.wq = o.wq) k.posted with
          | (none, m1) => (m1.opDone id stMatchContext 0 0 0 0).settle e
          | (some none, m1) => m1.opDone id stNoMatch 0 0 0 0
          | (some (some q), m1) =>
            let m1 := m1.setMctx x { k with posted := k.posted.filter (fun r => r.postSeq ≠ q.postSeq) }
            (m1.opDone id stSuccess 0 0 0 0).settle e

/-! ## Packets -/

/-- Meaning of EAGER (R240, R308–R316, R323–R327). -/
def execEager (k : Nat) (e : Env) (s : State) : Res :=
  s.arriving k wEager e fun m p => m.rxPacket e p (fun m cid => m.eagerEngine e p cid)

/-- Meaning of RTS (R308–R311, R319, R776). -/
def execRts (k : Nat) (e : Env) (s : State) : Res :=
  s.arriving k wRts e fun m p => m.rxPacket e p (fun m cid => m.eagerEngine e p cid)

/-- What an arriving RDV_GET does at the sender (R319–R321): RDV_DATA, or a RESULT where its handle names no live entry. -/
def Module.rdvGetEngine (m : Module) (p : Opened) (cid : Nat) : Verdict × Module :=
  let h := extBE p 0 4
  let i := h % 8192
  let refuse (m : Module) : Verdict × Module := (.accept, m.rxCount cid p (some 0) 0 (some (stRdvHandle, 0)))
  match m.rdvAt i (h / 8192) with
  | none => refuse m
  | some r =>
    if r.fa ≠ p.src || r.nd ≠ p.nd || r.asked.isSome then refuse m
    else
      let n := min (extBE p 4 4) r.length
      let m := { m with mt := { m.mt with rdvs := KMap.put m.mt.rdvs i { r with asked := some n } } }
      let (tc, ord, wq) := match m.op r.op with
        | none => (p.tc, false, 0)
        | some o => (wqeTc o.wqe, wqeOrdered o.wqe, o.wq)
      let src := if n = 0 then .inline [] else .buffer r.link r.asid r.va r.user 2 wq
      let g := { Msg.new .rdvData wRdvData tc n src with op := some r.op, ordered := ord, xdata := p.msn, ref := i, ref2 := r.gen }
      (.accept, m.queueMsg cid g)

/-- Meaning of RDV_GET (R263, R319, R320, R776). -/
def execRdvGet (k : Nat) (e : Env) (s : State) : Res :=
  s.arriving k wRdvGet e fun m p => m.rxPacket e p (fun m cid => m.rdvGetEngine p cid)

/-- Meaning of RDV_DATA (R313, R314, R319, R322, R323, R325). -/
def execRdvData (k : Nat) (e : Env) (s : State) : Res :=
  s.arriving k wRdvData e fun m p => m.rxPacket e p (fun m cid => m.rdvDataEngine e p cid)

/-- Meaning of RDV_CANCEL (R293, R321, R328): the TSEND that the handle names completes with the status carried. -/
def execRdvCancel (k : Nat) (e : Env) (s : State) : Res :=
  s.arriving k wRdvCancel e fun m p => m.rxPacket e p (fun m _ =>
    let h := extBE p 0 4
    match m.rdvAt (h % 8192) (h / 8192) with
    | none => (.accept, m)
    | some r =>
      if r.fa = p.src && r.nd = p.nd then (.accept, m.rdvEnd (h % 8192) r.gen (extBE p 4 1) 0 0) else (.accept, m))

end Sys2Proof.Machine
end

