-- ==== Sys2Proof/Machine/Num.lean ====
section
/-! DEFINITION. Number formats of atomics and collectives (R266, R267, R359–R369): integers of 8 to 64 bits, the IEEE 754
formats, arithmetic in GF(2^8), and the exact partials of EXACT_SUM. A finite floating-point value is held exactly, as an integer
in units of 2^-1120. -/

namespace Sys2Proof.Machine

/-- A floating-point format: bits of the exponent field and of the fraction field. -/
structure FpFmt where
  ebits : Nat
  fbits : Nat
  deriving DecidableEq, Repr

/-- fp16, bf16, fp32 and fp64. -/
def fp16 : FpFmt := ⟨5, 10⟩
def bf16 : FpFmt := ⟨8, 7⟩
def fp32 : FpFmt := ⟨8, 23⟩
def fp64 : FpFmt := ⟨11, 52⟩

/-- The largest exponent of the format. -/
def FpFmt.emax (f : FpFmt) : Nat := 2 ^ (f.ebits - 1) - 1

/-- The canonical NaN of the format (R360). -/
def FpFmt.nan (f : FpFmt) : Nat := (2 ^ f.ebits - 1) * 2 ^ f.fbits + 2 ^ (f.fbits - 1)

/-- Infinity with a sign. -/
def FpFmt.inf (f : FpFmt) (neg : Bool) : Nat := b2n neg * 2 ^ (f.ebits + f.fbits) + (2 ^ f.ebits - 1) * 2 ^ f.fbits

/-- Zero with a sign. -/
def FpFmt.zero (f : FpFmt) (neg : Bool) : Nat := b2n neg * 2 ^ (f.ebits + f.fbits)

/-- The units of the least subnormal of the format, as a power of two above 2^-1120. -/
def FpFmt.ulp0 (f : FpFmt) : Nat := 1121 - f.emax - f.fbits

/-- What bits of a format mean. -/
inductive FpVal where
  | nan
  | inf (neg : Bool)
  | zero (neg : Bool)
  /-- the exact value in units of 2^-1120, not zero -/
  | fin (v : Int)
  deriving DecidableEq, Repr

/-- The value of some bits. -/
def FpFmt.decode (f : FpFmt) (b : Nat) : FpVal :=
  let frac := b % 2 ^ f.fbits
  let ex := b / 2 ^ f.fbits % 2 ^ f.ebits
  let neg := b / 2 ^ (f.ebits + f.fbits) % 2 = 1
  if ex = 2 ^ f.ebits - 1 then (if frac = 0 then .inf neg else .nan)
  else if ex = 0 && frac = 0 then .zero neg
  else
    let mag := (if ex = 0 then frac else (frac + 2 ^ f.fbits) * 2 ^ (ex - 1)) * 2 ^ f.ulp0
    .fin (if neg then -(mag : Int) else mag)

/-- A magnitude that is not zero, rounded to the nearest value of the format, ties to even (R369). -/
def FpFmt.roundMag (f : FpFmt) (neg : Bool) (mag : Nat) : Nat :=
  let len := mag.log2 + 1
  -- the weight of the last kept bit, in units of 2^-1120
  let sh := max f.ulp0 (len - (f.fbits + 1))
  let q := mag / 2 ^ sh
  let r := mag % 2 ^ sh
  let half := 2 ^ sh / 2
  let q := if half < r || (r = half && q % 2 = 1) then q + 1 else q
  -- q may have grown to the next power of two: the fields carry by themselves
  let bits := if q < 2 ^ f.fbits then q else (sh - f.ulp0) * 2 ^ f.fbits + q
  if (2 ^ f.ebits - 1) * 2 ^ f.fbits ≤ bits then f.inf neg else b2n neg * 2 ^ (f.ebits + f.fbits) + bits

/-- An exact value rounded to the format; an exact zero gets the sign given. -/
def FpFmt.round (f : FpFmt) (v : Int) (negZero : Bool) : Nat :=
  if v = 0 then f.zero negZero else f.roundMag (v < 0) v.natAbs

/-- IEEE 754 addition in the format, round to nearest even, with the canonical NaN (R266, R267, R359, R360). -/
def FpFmt.add (f : FpFmt) (a b : Nat) : Nat :=
  match f.decode a, f.decode b with
  | .nan, _ => f.nan
  | _, .nan => f.nan
  | .inf s, .inf t => if s = t then f.inf s else f.nan
  | .inf s, _ => f.inf s
  | _, .inf t => f.inf t
  | .zero s, .zero t => f.zero (s && t)
  | .zero _, .fin v => f.round v false
  | .fin v, .zero _ => f.round v false
  | .fin v, .fin w => f.round (v + w) false

/-- A key that orders values that are not NaN: −0 below +0 (R267). -/
def FpVal.key : FpVal → Int
  | .nan => 0
  | .inf neg => if neg then -(2 ^ 2300 : Nat) else (2 ^ 2300 : Nat)
  | .zero neg => if neg then -1 else 0
  | .fin v => if v < 0 then v - 1 else v

/-- MIN or MAX in the format (R267). -/
def FpFmt.minMax (f : FpFmt) (isMax : Bool) (a b : Nat) : Nat :=
  match f.decode a, f.decode b with
  | .nan, .nan => f.nan
  | .nan, _ => b
  | _, .nan => a
  | x, y => if isMax then (if x.key < y.key then b else a) else (if y.key < x.key then b else a)

/-- A product in GF(2^8) reduced by 0x11D (R362). -/
def gfMul (a b : Nat) : Nat :=
  ((List.range 8).foldl (fun (s : Nat × Nat) i =>
    (if nbit b i then s.1 ^^^ s.2 else s.1, if 128 ≤ s.2 then (s.2 * 2 % 256) ^^^ 0x1D else s.2 * 2)) (0, a)).1

/-! ## Element types of collectives -/

/-- Bytes of an element type (R344). -/
def typeBytes (t : Nat) : Nat :=
  match t with
  | 0 => 1 | 1 => 2 | 2 => 4 | 3 => 8 | 4 => 1 | 5 => 2 | 6 => 4 | 7 => 8 | 8 => 2 | 9 => 2 | 10 => 4 | _ => 8

/-- The floating-point format of an element type, if it is one. -/
def typeFmt (t : Nat) : Option FpFmt :=
  match t with
  | 8 => some fp16 | 9 => some bf16 | 10 => some fp32 | 11 => some fp64 | _ => none

/-- MIN or MAX of two values of a type (R359). -/
def typeMinMax (t : Nat) (isMax : Bool) (a b : Nat) : Nat :=
  match typeFmt t with
  | some f => f.minMax isMax a b
  | none =>
    let key (v : Nat) : Int := if t < 4 then signed (8 * typeBytes t) v else v
    if isMax then (if key a < key b then b else a) else (if key b < key a then b else a)

/-- Whether two values of a type are equal, for MINLOC and MAXLOC: bits for integers, value for the rest, with −0 below +0. -/
def typeEq (t : Nat) (a b : Nat) : Bool :=
  match typeFmt t with
  | none => a = b
  | some f => match f.decode a, f.decode b with
    | .nan, .nan => true
    | .nan, _ => false
    | _, .nan => false
    | x, y => x.key = y.key

/-- Two elements combined under SUM, MIN, MAX, BAND, BOR, BXOR or GF256MAC (R359). -/
def combineElem (op t a b : Nat) : Nat :=
  let w := 2 ^ (8 * typeBytes t)
  match op with
  | 0 => match typeFmt t with
    | some f => f.add a b
    | none => (a + b) % w
  | 1 => typeMinMax t false a b
  | 2 => typeMinMax t true a b
  | 5 => a &&& b
  | 6 => a ||| b
  | _ => a ^^^ b

/-- Two elements of MINLOC or MAXLOC, as value and index (R359, R361). -/
def combineLoc (isMax : Bool) (t : Nat) (a b : Nat × Nat) : Nat × Nat :=
  if typeEq t a.1 b.1 then (typeMinMax t isMax a.1 b.1, min a.2 b.2)
  else if typeMinMax t isMax a.1 b.1 = a.1 then a else b

/-! ## Exact partials -/

/-- An exact partial (R363, R364): its value in units of 2^-1120, and what its contributions were. -/
structure Exact where
  v : Int
  /-- it stands in limbs (n > 0 in its header), be they all zero -/
  limbs : Bool
  nan : Bool
  pinf : Bool
  ninf : Bool
  nz : Bool
  deriving DecidableEq, Repr

/-- The partial of one element of a type (R367). -/
def Exact.of (f : FpFmt) (b : Nat) : Exact :=
  match f.decode b with
  | .nan => ⟨0, false, true, false, false, false⟩
  | .inf neg => ⟨0, false, false, !neg, neg, false⟩
  | .zero neg => ⟨0, false, false, false, false, neg⟩
  | .fin v => ⟨v, true, false, false, false, false⟩

/-- Exact addition (R368): a partial with limbs counts as nz = 0. -/
def Exact.add (a b : Exact) : Exact :=
  ⟨a.v + b.v, a.limbs || b.limbs, a.nan || b.nan, a.pinf || b.pinf, a.ninf || b.ninf, (a.nz && !a.limbs) && (b.nz && !b.limbs)⟩

/-- A partial on its own, as a sum of one: a value in limbs is not −0. -/
def Exact.only (a : Exact) : Exact := { a with nz := a.nz && !a.limbs }

/-- Rounding at the root (R369). -/
def Exact.round (f : FpFmt) (a : Exact) : Nat :=
  if a.nan || (a.pinf && a.ninf) then f.nan
  else if a.pinf then f.inf false
  else if a.ninf then f.inf true
  else f.round a.v a.nz

/-- The lowest limb of a value that is not zero, among 34 (R368). -/
def lowLimb (v : Int) : Nat → Nat → Nat
  | 0, b => b
  | n + 1, b => if v % (2 ^ (64 * (b + 1)) : Nat) = 0 then lowLimb v n (b + 1) else b

/-- The fewest limbs that hold an integer as a two's complement number. -/
def limbCount (v : Int) : Nat → Nat → Nat
  | 0, n => n
  | k + 1, n => if -(2 ^ (64 * n - 1) : Nat) ≤ v ∧ v < (2 ^ (64 * n - 1) : Nat) then n else limbCount v k (n + 1)

/-- The smallest encoding of a partial (R364, R368): its header and its limbs' bytes. -/
def Exact.encode (a : Exact) : Nat × List Byte :=
  let flags := 2 ^ 12 * b2n a.nan + 2 ^ 13 * b2n a.pinf + 2 ^ 14 * b2n a.ninf + 2 ^ 15 * b2n a.nz
  if a.v = 0 then (flags, [])
  else
    let b := lowLimb a.v 34 0
    let u := a.v / (2 ^ (64 * b) : Nat)
    let n := limbCount u 34 1
    (b + 64 * n + flags, leBytes (8 * n) (unsigned (64 * n) u))

/-- A partial from its header and the bytes that follow, with the bytes left (R363). -/
def Exact.decode (h : Nat) (bs : List Byte) : Exact × List Byte :=
  let b := h % 64
  let n := h / 64 % 64
  (⟨signed (64 * n) (leNat (bs.take (8 * n))) * (2 ^ (64 * b) : Nat), 0 < n, nbit h 12, nbit h 13, nbit h 14, nbit h 15⟩,
   bs.drop (8 * n))

/-- The bytes of an upward EXACT_SUM segment (R365). -/
def exactBytes (l : List Exact) : List Byte :=
  let es := l.map Exact.encode
  let hs := es.flatMap (fun p => leBytes 2 p.1)
  hs ++ List.replicate (roundUp hs.length 8 - hs.length) 0 ++ es.flatMap (·.2)

/-- The partials of some headers, from the bytes of their limbs. -/
def exactParse : List Nat → List Byte → List Exact
  | [], _ => []
  | h :: l, bs =>
    let (a, rest) := Exact.decode h bs
    a :: exactParse l rest

/-- Elements of some bytes each, as numbers. -/
def elems (w n : Nat) (bs : List Byte) : List Nat := (List.range n).map (fun i => leNat ((bs.drop (w * i)).take w))

/-- Whether some bytes are an upward EXACT_SUM segment of n elements (R363, R365). -/
def exactSound (n : Nat) (bs : List Byte) : Bool :=
  let hs := elems 2 n bs
  hs.all (fun h => decide (h % 64 + h / 64 % 64 ≤ 34)) &&
  decide (bs.length = roundUp (2 * n) 8 + (hs.map (fun h => 8 * (h / 64 % 64))).sum)

/-- The partials of an upward EXACT_SUM segment of n elements (R365). -/
def exactElems (n : Nat) (bs : List Byte) : List Exact := exactParse (elems 2 n bs) (bs.drop (roundUp (2 * n) 8))

end Sys2Proof.Machine
end

