-- ==== Sys2Proof/Machine/RemoteMem.lean ====
section
/-! DEFINITION. Registered regions and remote memory operations (R248–R283): the region tables and the access check, what the
operations send, what arriving packets do, and revocation. -/

namespace Sys2Proof.Machine

/-- Wire opcodes of remote memory and the store (R260, R588). -/
def wPut : Nat := 0x10
def wPutSignal : Nat := 0x11
def wGetReq : Nat := 0x12
def wGetRsp : Nat := 0x13
def wAtomicReq : Nat := 0x14
def wAtomicRsp : Nat := 0x15
def wStorePut : Nat := 0x60
def wSyncReq : Nat := 0x61
def wSyncRsp : Nat := 0x62

/-! ## Region tables -/

/-- The usable directory entry of a slot (R249, R250), from the cache or read now. -/
def Module.needDir (m : Module) (e : Env) (slot nd : Nat) : Option RgnDir × Module :=
  match KMap.get m.x.dirs slot with
  | some d => (some d, m)
  | none =>
    let m1 := m.readDone
    match m.readWords e (m.get F.xptRgndirLink) 2 (m.get F.xptRgndirBase * 4096 + 16 * slot) with
    | some [w0, w1] =>
      if bit w0 0 && decide (4 ≤ bits w0 5 1) && decide (bits w0 5 1 ≤ 24) && decide (bits w0 31 16 = nd) then
        let d : RgnDir := { size := bits w0 5 1, link := bits w1 1 0, base := bits w1 63 12 }
        (some d, { m1 with x := { m1.x with dirs := KMap.put m1.x.dirs slot d } })
      else (none, m1)
    | _ => (none, m1)

/-- Bus address of a Region Table entry (R251). -/
def RgnDir.entry (d : RgnDir) (index : Nat) : Nat := d.base * 4096 + 64 * index

/-- A Region Table entry from its words, and its valid bit (R251). -/
def Region.parse (w : List Word) : Region × Bool :=
  let g (i hi lo : Nat) := bits ((w[i]?).getD 0) hi lo
  ({ storeTarget := g 0 1 1 = 1, generation := g 0 15 8, tag := g 0 63 32, baseVa := g 1 63 0, length := g 2 63 0,
     asid := g 3 15 0, link := g 3 17 16, rd := g 3 24 24 = 1, wr := g 3 25 25 = 1, atomic := g 3 26 26 = 1,
     allowSe := g 3 27 27 = 1, pcieAtomic := g 3 28 28 = 1, objectId := g 4 63 0, revoking := false }, g 0 0 0 = 1)

/-- The key of a cached Region Table entry. -/
def regionKey (slot index : Nat) : Nat := slot * 2 ^ 24 + index

/-- The module with a Region Table entry cached; beyond 8,192 one that is not REVOKING leaves (R254, log 8). -/
def Module.cacheRegion (m : Module) (slot index : Nat) (g : Region) : Module :=
  let l := if m.x.regions.length < 8192 then m.x.regions
    else match m.x.regions.find? (fun p => !p.2.revoking) with
      | none => m.x.regions
      | some p => KMap.erase m.x.regions p.1
  { m with x := { m.x with regions := KMap.put l (regionKey slot index) g } }

/-- What a read of a Region Table entry gives: a bus error, an invalid entry, or the entry. -/
inductive RegionRead where
  | bus | invalid
  | entry (g : Region)
  deriving DecidableEq, Repr

/-- A Region Table entry, from the cache or read now; only valid ones are cached (R254). -/
def Module.needRegion (m : Module) (e : Env) (d : RgnDir) (slot index : Nat) : RegionRead × Module :=
  match KMap.get m.x.regions (regionKey slot index) with
  | some g => (.entry g, m)
  | none =>
    let m1 := m.readDone
    match m.readWords e d.link 8 (d.entry index) with
    | none => (.bus, m1)
    | some ws =>
      let (g, valid) := Region.parse ws
      if valid then (.entry g, m1.cacheRegion slot index g) else (.invalid, m1)

/-! ## The access check -/

/-- What a packet asks of a region (R255). -/
inductive Want where
  | put | get | atomic | storePut | sync
  deriving DecidableEq, Repr

/-- The inputs of the access check of R255: the key, the region offset, the bytes from it (`e` of step 9), the signal's offset, and
an atomic's operation and type. -/
structure Ask where
  want : Want
  rkey : Nat
  roffset : Nat
  extent : Nat
  sig : Option Nat
  aop : Nat
  type : Nat
  deriving DecidableEq, Repr

/-- Index, generation and tag of a remote key (R252). -/
def keyIndex (k : Nat) : Nat := k / 2 ^ 40 % 2 ^ 24
def keyGen (k : Nat) : Nat := k / 2 ^ 32 % 256
def keyTag (k : Nat) : Nat := k % 2 ^ 32

/-- Whether a link can complete 64-bit AtomicOps (R255, R746). -/
def Module.linkAtomics (m : Module) (i : Nat) : Bool := m.flag (F.hostLstsAtomic i)

/-- Steps 4 to 11 of R255 on an entry: the first that fails. -/
def Module.entryChecks (m : Module) (a : Ask) (g : Region) : List (Bool × Nat × Nat) :=
  let isAtomic := decide (a.want = .atomic)
  let isStore := decide (a.want = .storePut) || decide (a.want = .sync)
  [(decide (g.generation = keyGen a.rkey), stRemoteKey, 0x0004),
   (decide (g.tag = keyTag a.rkey), stRemoteKey, 0x0005),
   (!g.revoking, stRevoked, 0x0000),
   (decide (g.storeTarget = isStore), stRemoteAccess, 0x8007),
   (!decide (a.want = .get) || g.rd, stRemoteAccess, 0x8001),
   (!(decide (a.want = .put) || isStore) || g.wr, stRemoteAccess, 0x8002),
   (!isAtomic || g.atomic, stRemoteAccess, 0x8003),
   (decide (a.roffset + a.extent ≤ g.length) && (match a.sig with
      | none => true
      | some o => decide (o + 8 ≤ g.length)), stRemoteAccess, 0x8004),
   ((!isAtomic || decide ((g.baseVa + a.roffset) % 8 = 0)) && (match a.sig with
      | none => true
      | some o => decide ((g.baseVa + o) % 8 = 0)), stRemoteAccess, 0x8005),
   (!isAtomic || (decide (a.aop ≤ 4) && decide (a.type ≤ 2)), stRemoteAccess, 0x8008),
   (!isAtomic || !g.pcieAtomic ||
     (((a.aop = 0 && a.type ≤ 1) || a.aop = 1 || a.aop = 2 : Bool) && m.linkAtomics g.link), stRemoteAccess, 0x8006)]

/-- Steps 1 to 11 of R255: the slot and the entry, or the status and detail of the first check that fails. -/
def Module.accessCheck (m : Module) (e : Env) (nd : Nat) (a : Ask) : Except (Nat × Nat) (Nat × Region) × Module :=
  match m.keyOf nd with
  | none => (.error (stRemoteKey, 0x0001), m)
  | some (slot, _) =>
    match m.needDir e slot nd with
    | (none, m1) => (.error (stRemoteKey, 0x0001), m1)
    | (some d, m1) =>
      if 2 ^ d.size ≤ keyIndex a.rkey then (.error (stRemoteKey, 0x0002), m1)
      else
        match m1.needRegion e d slot (keyIndex a.rkey) with
        | (.bus, m2) => (.error (stRemoteKey, 0x0006), m2)
        | (.invalid, m2) => (.error (stRemoteKey, 0x0003), m2)
        | (.entry g, m2) =>
          match firstFail (m2.entryChecks a g) with
          | some f => (.error f, m2)
          | none => (.ok (slot, g), m2)

/-- The access of a region at an offset of it (R161, R255 step 12). -/
def regionReq (g : Region) (tile index off : Nat) (acc : Acc) : XReq :=
  { asid := g.asid, va := (g.baseVa + off) % 2 ^ 64, acc := acc, user := false, allowSe := g.allowSe, engine := 1 + tile,
    source := 3, object := index % 2 ^ 16 }

/-! ## Atomics -/

/-- The new value of an atomic (R266, R267). -/
def atomicNew (aop type old operand compare : Nat) : Nat :=
  match aop with
  | 0 => if type = 2 then fp64.add old operand else (old + operand) % 2 ^ 64
  | 1 => operand
  | 2 => if old = compare then operand else old
  | k =>
    let isMax := decide (k = 4)
    match type with
    | 0 => typeMinMax 7 isMax old operand
    | 1 => typeMinMax 3 isMax old operand
    | _ => fp64.minMax isMax old operand

/-- An atomic on one word (R268, R269): a read and a write, or a PCI Express AtomicOp. Answers the old value, or the fault. -/
def Module.atomicWord (m : Module) (e : Env) (g : Region) (r : XReq) (aop type operand compare : Nat) :
    Except XFault Nat × Module :=
  match m.translate e r with
  | (.fault f, m1) => (.error f, m1)
  | (.ok pa _, m1) =>
    let m2 := (m1.count (pgHost g.link) 2).readDone
    match m1.readBytes e g.link pa 8 with
    | none => (.error ⟨ftDataAccess, 1⟩, m2.logFault r ⟨ftDataAccess, 1⟩)
    | some bs =>
      let old := leNat bs
      if g.pcieAtomic then
        (.ok old, m2.emit (.hostAtomic g.link pa aop (BitVec.ofNat 64 operand) (BitVec.ofNat 64 compare)))
      else
        let m3 := (m2.countUp (pgHost g.link) 0 8).emit (.hostWrite g.link pa (leBytes 8 (atomicNew aop type old operand compare)))
        (.ok old, (m3.countUp (pgHost g.link) 1 8).count (pgHost g.link) 3)

/-! ## What the operations send -/

/-- Fields of a remote memory WQE (R259). -/
def wLocal (w : List Word) : Nat := wqeField w 0x10 8
def wLength (w : List Word) : Nat := wqeField w 0x18 4
def wRkey (w : List Word) : Nat := wqeField w 0x20 8
def wRoffset (w : List Word) : Nat := wqeField w 0x28 8

/-- Extension of a put (R260). -/
def putExt (w : List Word) : List Byte := beBytes 8 (wRkey w) ++ beBytes 8 (wRoffset w)

/-- The source of a put: no bytes where its length is 0 (R274). -/
def putSrc (o : Op) (c : WqCtx) : Src := if wLength o.wqe = 0 then .inline [] else bufferSrc o c (wLocal o.wqe)

/-- An operation starts and its message goes out. -/
def Module.startMsg (m : Module) (id : Nat) (o : Op) (c : WqCtx) (g : Msg) : Module := (m.opStart id o).opMsg id o c g

/-- Meaning of PUT (R161–R177, R204, R237, R243, R259–R262): the put starts; its packets go out with PACKET_SEND. -/
def execPut (id : Nat) (e : Env) (s : State) : Res :=
  s.run fun m =>
    let m := (m.at e).needOp e id
    match m.startable id 0x01 with
    | none => m
    | some (o, c) =>
      m.startMsg id o c { Msg.new .put wPut (wqeTc o.wqe) (wLength o.wqe) (putSrc o c) with ext := putExt o.wqe }

/-- Meaning of GET (R259, R260, R264). -/
def execGet (id : Nat) (e : Env) (s : State) : Res :=
  s.run fun m =>
    let m := (m.at e).needOp e id
    match m.startable id 0x02 with
    | none => m
    | some (o, c) =>
      m.startMsg id o c { Msg.new .get wGetReq (wqeTc o.wqe) 0 (.inline []) with
        ext := putExt o.wqe ++ beBytes 4 (wLength o.wqe) ++ beBytes 4 0 }

/-- Meaning of ATOMIC (R259, R260, R266). -/
def execAtomic (id : Nat) (e : Env) (s : State) : Res :=
  s.run fun m =>
    let m := (m.at e).needOp e id
    match m.startable id 0x03 with
    | none => m
    | some (o, c) =>
      let aop := wqeField o.wqe 0x18 1
      let type := wqeField o.wqe 0x19 1
      if 4 < aop || 2 < type then (m.opStart id o).opFail e id stInvalidWqe 0 0 0 0
      else
        m.startMsg id o c { Msg.new .atomic wAtomicReq (wqeTc o.wqe) 0 (.inline []) with
          ext := putExt o.wqe ++ beBytes 8 (wqeField o.wqe 0x30 8) ++ beBytes 8 (wqeField o.wqe 0x38 8),
          xdata := aop + 16 * type }

/-- Meaning of PUT_SIGNAL (R259, R260, R271). -/
def execPutSignal (id : Nat) (e : Env) (s : State) : Res :=
  s.run fun m =>
    let m := (m.at e).needOp e id
    match m.startable id 0x04 with
    | none => m
    | some (o, c) =>
      let sigOp := wqeField o.wqe 0x1C 1
      if 1 < sigOp then (m.opStart id o).opFail e id stInvalidWqe 0 0 0 0
      else
        m.startMsg id o c { Msg.new .put wPutSignal (wqeTc o.wqe) (wLength o.wqe) (putSrc o c) with
          ext := putExt o.wqe ++ beBytes 8 (wqeField o.wqe 0x30 8) ++ beBytes 8 (wqeField o.wqe 0x38 8), xdata := sigOp }

/-! ## What arriving packets do -/

/-- Key and region offset of a remote memory packet (R260). -/
def pRkey (p : Opened) : Nat := extBE p 0 8
def pRoffset (p : Opened) : Nat := extBE p 8 8

/-- The check a put-like packet meets (R255 step 9). -/
def putAsk (p : Opened) (want : Want) : Ask :=
  { want := want, rkey := pRkey p, roffset := pRoffset p, extent := pOff p + pPlen p,
    sig := if p.opcode = wPutSignal then some (extBE p 16 8) else none, aop := 0, type := 0 }

/-- An aborted message (R262, R775): a failed check with no RESULT. -/
def Module.rxAbort (m : Module) (cid : Nat) (p : Opened) : Module :=
  (m.onConn cid fun c => c.setRxMsg { (c.rxMsg p.msn) with aborted := some (pOff p) }).rxCount cid p none 0 none

/-- The signal of a put-with-signal whose last bytes have just been written (R271): the fault that keeps it from being applied. -/
def Module.applySignal (m : Module) (e : Env) (tile : Nat) (g : Region) (p : Opened) : Option XFault × Module :=
  let add := bit p.opw 32
  let r := regionReq g tile (keyIndex (pRkey p)) (extBE p 16 8) (if add then .remoteAtomic else .remoteWrite)
  let v := extBE p 24 8
  if add then
    match m.atomicWord e g r 0 0 v 0 with
    | (.error f, m1) => (some f, m1)
    | (.ok _, m1) => (none, m1)
  else
    match m.writeVirt e g.link r (leBytes 8 v) with
    | (some (f, _), m1) => (some f, m1)
    | (none, m1) => (none, m1)

/-- What an arriving PUT or PUT_SIGNAL packet does (R172, R255–R258, R261, R271, R274, R280, R775). -/
def Module.putEngine (m : Module) (e : Env) (p : Opened) (cid : Nat) : Verdict × Module :=
  match m.conn cid with
  | none => (.accept, m)
  | some c =>
    let r := c.rxMsg p.msn
    let tile := tileOfCid cid
    if r.failed.isSome || r.aborted.isSome then (.accept, m.rxCount cid p none 0 none)
    else if pAbort p then (.accept, m.rxAbort cid p)
    else
      match m.accessCheck e p.nd (putAsk p .put) with
      | (.error f, m1) => (.accept, m1.rxCount cid p none 0 (some f))
      | (.ok (_, g), m1) =>
        let q := regionReq g tile (keyIndex (pRkey p)) (pRoffset p + pOff p) .remoteWrite
        if m1.tooEarly e r.landing (pOff p) q (pPlen p) then (.wait, m1)
        else
          match m1.writeVirt e g.link q p.payload with
          | (some (f, o), m2) => (.accept, m2.rxCount cid p none o (some (stRemoteAccess, f.detail)))
          | (none, m2) =>
            let total := r.total.or (if pLast p then some (pOff p + pPlen p) else none)
            if p.opcode = wPutSignal && total = some (r.bytes + pPlen p) then
              match m2.applySignal e tile g p with
              | (some f, m3) => (.accept, m3.rxCount cid p none (pPlen p) (some (stRemoteAccess, f.detail)))
              | (none, m3) => (.accept, m3.rxCount cid p none (pPlen p) none)
            else (.accept, m2.rxCount cid p none (pPlen p) none)

/-- Meaning of PUT_PACKET (R240, R255–R262, R274, R275, R280, R775). -/
def execPutPacket (k : Nat) (e : Env) (s : State) : Res :=
  s.arriving k wPut e fun m p => m.rxPacket e p (fun m cid => m.putEngine e p cid)

/-- Meaning of PUT_SIGNAL_PACKET (R255, R268, R271, R274). -/
def execPutSignalPacket (k : Nat) (e : Env) (s : State) : Res :=
  s.arriving k wPutSignal e fun m p => m.rxPacket e p (fun m cid => m.putEngine e p cid)

/-- What an arriving GET_REQ does (R255, R263, R265): its response is queued, or its check has failed. A get of length 0 needs no
response (R264). -/
def Module.getEngine (m : Module) (e : Env) (p : Opened) (cid : Nat) : Verdict × Module :=
  let len := extBE p 16 4
  let a : Ask := { want := .get, rkey := pRkey p, roffset := pRoffset p, extent := len, sig := none, aop := 0, type := 0 }
  match m.accessCheck e p.nd a with
  | (.error f, m1) => (.accept, m1.rxCount cid p none 0 (some f))
  | (.ok (slot, g), m1) =>
    if len = 0 then (.accept, m1)
    else
      let src : Src := .region slot (keyIndex a.rkey) g.link g.asid ((g.baseVa + a.roffset) % 2 ^ 64) g.allowSe
      (.accept, m1.queueMsg cid { Msg.new .getRsp wGetRsp p.tc len src with xdata := p.msn, ref := p.msn })

/-- Meaning of GET_REQ (R234, R240, R255, R263, R265, R279, R776, R777). -/
def execGetReq (k : Nat) (e : Env) (s : State) : Res :=
  s.arriving k wGetReq e fun m p => m.rxPacket e p (fun m cid => m.getEngine e p cid)

/-- What an arriving ATOMIC_REQ does (R255, R266–R270): the atomic is performed and its old value goes back. -/
def Module.atomicEngine (m : Module) (e : Env) (p : Opened) (cid : Nat) : Verdict × Module :=
  let aop := pXdata p % 16
  let type := pXdata p / 16 % 4
  let a : Ask := { want := .atomic, rkey := pRkey p, roffset := pRoffset p, extent := 8, sig := none, aop := aop, type := type }
  match m.accessCheck e p.nd a with
  | (.error f, m1) => (.accept, m1.rxCount cid p none 0 (some f))
  | (.ok (_, g), m1) =>
    match m1.atomicWord e g (regionReq g (tileOfCid cid) (keyIndex a.rkey) a.roffset .remoteAtomic) aop type (extBE p 16 8)
        (extBE p 24 8) with
    | (.error f, m2) => (.accept, m2.rxCount cid p none 0 (some (stRemoteAccess, f.detail)))
    | (.ok old, m2) =>
      (.accept, m2.queueMsg cid { Msg.new .atomicRsp wAtomicRsp p.tc 8 (.inline (leBytes 8 old)) with xdata := p.msn, ref := p.msn })

/-- Meaning of ATOMIC_REQ (R255, R263, R266–R270, R746, R776). -/
def execAtomicReq (k : Nat) (e : Env) (s : State) : Res :=
  s.arriving k wAtomicReq e fun m p => m.rxPacket e p (fun m cid => m.atomicEngine e p cid)

/-! ## Responses at the initiator -/

/-- The message of a connection's send direction that a response names by its MSN. -/
def Conn.named (c : Conn) (kind : MsgKind) (msn : Nat) : Option Msg :=
  c.msgs.find? (fun g => g.kind = kind && g.msn = some msn)

/-- Whether an operation still takes response bytes: it has not finished, and its link was not reset (R156). -/
def Module.opTakes (m : Module) (id : Option Nat) : Option (Nat × Op × WqCtx) :=
  match id with
  | none => none
  | some id =>
    match m.op id with
    | none => none
    | some o =>
      match m.wq o.wq with
      | none => none
      | some c => if o.finished || o.dead then none else some (id, o, c)

/-- The WQ context of a message's operation, if it has one, is in the cache after this (R99). -/
def Module.needOpt (m : Module) (e : Env) (id : Option Nat) : Module :=
  match id with
  | none => m
  | some id => m.needOp e id

/-- What an arriving GET_RSP packet does (R172, R264, R279, R777): its payload lands in the local buffer. -/
def Module.getRspEngine (m : Module) (e : Env) (p : Opened) (cid : Nat) : Verdict × Module :=
  match m.conn cid with
  | none => (.accept, m)
  | some c =>
    match c.named .get (pXdata p % 1024) with
    | none => (.accept, m)
    | some g =>
      let m := (m.setConn cid (c.setMsg { g with got := g.got + pPlen p, landing := g.landing.take (pOff p) (pPlen p) })).needOpt
        e g.op
      match m.opTakes g.op with
      | none => (.accept, m)
      | some (id, o, q) =>
        let r := localReq o q (1 + tileOfCid cid) ((wLocal o.wqe + pOff p) % 2 ^ 64) .localWrite
        if m.tooEarly e g.landing (pOff p) r (pPlen p) then (.wait, m)
        else
          match m.writeVirt e q.link r p.payload with
          | (none, m1) => (.accept, if p.payload.isEmpty then m1 else m1.stage id 2)
          | (some (f, off), m1) => (.accept, m1.opFail e id stLocalFault (pOff p + off) 0 c.remote f.detail)

/-- What an arriving ATOMIC_RSP does (R270): the old value is kept, and written to result_va. -/
def Module.atomicRspEngine (m : Module) (e : Env) (p : Opened) (cid : Nat) : Verdict × Module :=
  match m.conn cid with
  | none => (.accept, m)
  | some c =>
    match c.named .atomic (pXdata p % 1024) with
    | none => (.accept, m)
    | some g =>
      let m := (m.setConn cid (c.setMsg { g with old := some (leNat p.payload) })).needOpt e g.op
      match m.opTakes g.op with
      | none => (.accept, m)
      | some (id, o, q) =>
        let va := wqeField o.wqe 0x10 8
        if va = 0 then (.accept, m)
        else
          match m.writeVirt e q.link (localReq o q (1 + tileOfCid cid) va .localWrite) (p.payload.take 8) with
          | (none, m1) => (.accept, m1.stage id 2)
          | (some (f, off), m1) => (.accept, m1.opFail e id stLocalFault off 0 c.remote f.detail)

/-! ## Revocation -/

/-- The nd, index and generation of a REVOKE_REGION (R143). -/
def revokeFields (w : List Word) : Nat × Nat × Nat := (wqeField w 0x10 2, wqeField w 0x14 3, wqeField w 0x17 1)

/-- Meaning of REVOKE_REGION (R276, R277 steps 1 and 2): the entry is read from the table, checked and marked REVOKING. The command
completes with REVOKE_DONE. -/
def execRevokeRegion (e : Env) (s : State) : Res :=
  s.admin 0x87 e fun m w =>
    let (nd, index, gen) := revokeFields w
    match m.keyOf nd with
    | none => m.adminEnd stAdminInvalid 0 0x10
    | some (slot, _) =>
      match m.needDir e slot nd with
      | (none, m1) => m1.adminEnd stAdminInvalid 0 0x10
      | (some d, m1) =>
        if 2 ^ d.size ≤ index then m1.adminEnd stAdminInvalid 0 0x14
        else
          match m1.readWords e d.link 8 (d.entry index) with
          | none => m1.readDone.adminEnd stAdminState 0 0x14
          | some ws =>
            let m2 := m1.readDone
            let (g, valid) := Region.parse ws
            if !valid then m2.adminEnd stAdminState 0 0x14
            else if g.generation ≠ gen then m2.adminEnd stAdminState 0 0x17
            else
              let g := (KMap.get m2.x.regions (regionKey slot index)).getD g
              m2.cacheRegion slot index { g with revoking := true }

/-- The gets under an entry that are still being answered read no more of its pages (R278): their next response is REVOKED. -/
def Module.endReads (m : Module) (slot index : Nat) : Module :=
  let gone (g : Msg) : Msg := match g.src with
    | .region s i _ _ _ _ => if s = slot && i = index then { g with src := .revoked } else g
    | _ => g
  { m with x := { m.x with conns := m.x.conns.map (fun (p : Nat × Conn) => (p.1, { p.2 with msgs := p.2.msgs.map gone })) } }

/-- Meaning of REVOKE_DONE (R277 steps 3 to 6, R278): every access that passed before the mark has been issued; valid = 0 is
written to the entry's first word, the entry leaves the cache, and REVOKE_REGION completes. The tiles keep the entry while it is
marked; where the transport block has been emptied meanwhile, it is read again. -/
def execRevokeDone (e : Env) (s : State) : Res :=
  s.run fun m =>
    let m := m.at e
    match m.adminIs 0x87 with
    | none => m
    | some a =>
      let (nd, index, _) := revokeFields a.wqe
      match m.keyOf nd with
      | none => m.adminOk 0
      | some (slot, _) =>
        match m.needDir e slot nd with
        | (none, m1) => m1.adminOk 0
        | (some d, m1) =>
          match m1.needRegion e d slot index with
          | (.entry g, m2) =>
            let first := 2 * b2n g.storeTarget + 256 * g.generation + 2 ^ 32 * g.tag
            let m := (m2.busWrite d.link (d.entry index) (leBytes 8 first)).endReads slot index
            ({ m with x := { m.x with regions := KMap.erase m.x.regions (regionKey slot index) } }).adminOk 0
          | (_, m2) => m2.adminOk 0

end Sys2Proof.Machine
end

