-- ==== Sys2Proof/Machine/CollEngine.lean ====
section
/-! DEFINITION. Collectives at work (R330–R372, R389–R393): segments and their combination, what goes up and comes down a tree,
multicast, repair, and aborts. -/

namespace Sys2Proof.Machine

/-- Collective statuses (R394). -/
def stCollContext : Nat := 0x30
def stCollSequence : Nat := 0x31
def stCollMismatch : Nat := 0x32
def stCollMemberLost : Nat := 0x33
def stCollAborted : Nat := 0x34
def stCollInvalid : Nat := 0x35
def stCollNoSpace : Nat := 0x36

/-- Wire opcodes of collectives (R348). -/
def wUp : Nat := 0x40
def wDownAck : Nat := 0x42
def wRepair : Nat := 0x43
def wAbort : Nat := 0x44

/-- The tile of a collective context (R330). -/
def collTile (x : Nat) : Nat := x % 2

/-- A collective context. -/
def Module.coll (m : Module) (x : Nat) : Option Coll := KMap.get m.cl.ctxs x

/-- The module with a collective context set. -/
def Module.setColl (m : Module) (x : Nat) (c : Coll) : Module := { m with cl := { m.cl with ctxs := KMap.put m.cl.ctxs x c } }

/-- The module with a collective context changed. -/
def Module.onColl (m : Module) (x : Nat) (f : Coll → Coll) : Module :=
  match m.coll x with
  | none => m
  | some c => m.setColl x (f c)

/-! ## Segments -/

/-- Whether a collective combines by its op: ALLREDUCE and REDUCE (R345). -/
def CollHdr.reduces (h : CollHdr) : Bool := decide (h.kind < 2)

/-- Whether it is an EXACT_SUM. -/
def CollHdr.exact (h : CollHdr) : Bool := h.reduces && decide (h.op = 9)

/-- Whether it is a MINLOC or MAXLOC. -/
def CollHdr.loc (h : CollHdr) : Bool := h.reduces && (decide (h.op = 3) || decide (h.op = 4))

/-- Bytes of an element in src_va and dst_va (R347, R361). -/
def CollHdr.elemBytes (h : CollHdr) : Nat :=
  if h.loc then (if typeBytes h.type = 8 then 16 else 8) else typeBytes h.type

/-- Elements per segment (R347). -/
def CollHdr.perSeg (h : CollHdr) : Nat := if h.exact then 64 else 4096 / h.elemBytes

/-- Number of segments (R347). -/
def CollHdr.segs (h : CollHdr) : Nat := max 1 (ceilDiv h.count h.perSeg)

/-- Elements of segment k. -/
def CollHdr.elemsOf (h : CollHdr) (k : Nat) : Nat := min h.perSeg (h.count - k * h.perSeg)

/-- Whether partial results climb the tree: reductions, barriers and every collective of count 0 (R371). -/
def CollHdr.climbs (h : CollHdr) : Bool := decide (h.kind ≠ 2) || decide (h.count = 0)

/-- Whether a result comes down the tree: every kind but a REDUCE with elements. -/
def CollHdr.descends (h : CollHdr) : Bool := decide (h.kind ≠ 1) || decide (h.count = 0)

/-- Value and index of a MINLOC or MAXLOC element (R361). -/
def locParse (t : Nat) (bs : List Byte) : Nat × Nat :=
  if typeBytes t = 8 then (leNat (bs.take 8), leNat ((bs.drop 8).take 4))
  else (leNat (bs.take (typeBytes t)), leNat ((bs.drop 4).take 4))

/-- The bytes of a MINLOC or MAXLOC element (R361). -/
def locBytes (t : Nat) (v : Nat × Nat) : List Byte :=
  if typeBytes t = 8 then leBytes 8 v.1 ++ leBytes 4 v.2 ++ leBytes 4 0 else leBytes 4 v.1 ++ leBytes 4 v.2

/-- Chunks of some bytes each. -/
def chunks (w n : Nat) (bs : List Byte) : List (List Byte) := (List.range n).map (fun i => (bs.drop (w * i)).take w)

/-- Two encoded segments of n elements combined, the first operand first (R352, R359, R368). -/
def CollHdr.combine (h : CollHdr) (n : Nat) (a b : List Byte) : List Byte :=
  if h.exact then exactBytes (List.zipWith Exact.add (exactElems n a) (exactElems n b))
  else if h.loc then
    (List.zipWith (fun x y => locBytes h.type (combineLoc (h.op = 4) h.type (locParse h.type x) (locParse h.type y)))
      (chunks h.elemBytes n a) (chunks h.elemBytes n b)).flatten
  else
    (List.zipWith (fun x y => leBytes (typeBytes h.type) (combineElem h.op h.type x y)) (elems (typeBytes h.type) n a)
      (elems (typeBytes h.type) n b)).flatten

/-- A member's own data as a segment (R360, R362, R367). -/
def CollHdr.contribute (h : CollHdr) (coef n : Nat) (bs : List Byte) : List Byte :=
  if !h.reduces then bs
  else match h.op, typeFmt h.type with
    | 9, some f => exactBytes ((elems (typeBytes h.type) n bs).map (Exact.of f))
    | 8, _ => bs.map (fun b => BitVec.ofNat 8 (gfMul coef b.toNat))
    | 0, some f => (elems (typeBytes h.type) n bs).flatMap (fun v => leBytes (typeBytes h.type) (if f.decode v = .nan then f.nan else v))
    | _, _ => bs

/-- What a node makes of its inputs of a segment, in order (R352): also a single one is sent in its smallest encoding (R368), and a
NaN that passes through a SUM is canonical (R360). -/
def CollHdr.combined (h : CollHdr) (n : Nat) (ins : List (List Byte)) : List Byte :=
  match ins with
  | [] => []
  | a :: l =>
    let out := l.foldl (fun a b => h.combine n a b) a
    if h.exact then exactBytes ((exactElems n out).map Exact.only)
    else if h.reduces && h.op = 0 then h.contribute 0 n out
    else out

/-- Whether some bytes are a segment of n elements, on the way up or down (R347, R365, R370). -/
def CollHdr.sound (h : CollHdr) (up : Bool) (n : Nat) (bs : List Byte) : Bool :=
  if h.count = 0 then bs.isEmpty
  else if up && h.exact then exactSound n bs
  else decide (bs.length = n * h.elemBytes)

/-- The result of a segment at the root (R352, R369, R370). -/
def CollHdr.result (h : CollHdr) (n : Nat) (bs : List Byte) : List Byte :=
  match h.exact, typeFmt h.type with
  | true, some f => (exactElems n bs).flatMap (fun a => leBytes (typeBytes h.type) (a.round f))
  | _, _ => bs

/-- Bytes assembled by offset. -/
def assemble (parts : List (Nat × List Byte)) : List Byte := parts.flatMap (·.2)

/-- Bytes that have landed. -/
def landed (parts : List (Nat × List Byte)) : Nat := (parts.map (fun p => p.2.length)).sum

/-- The extension of an UP or DOWN packet (R348). -/
def collExt (x : Nat) (h : CollHdr) (seq seg size : Nat) : List Byte :=
  beBytes 2 x ++ beBytes 1 (h.kind * 16 + h.op % 16) ++ beBytes 1 h.type ++ beBytes 4 seq ++ beBytes 4 seg ++ beBytes 4 h.count ++
  beBytes 4 size ++ beBytes 4 0

/-- The header of an UP or DOWN packet, its op_seq, segment and segment length (R348). -/
def pColl (p : Opened) : CollHdr × Nat × Nat × Nat :=
  ({ kind := extBE p 2 1 / 16, op := extBE p 2 1 % 16, type := extBE p 3 1, count := extBE p 12 4 }, extBE p 4 4, extBE p 8 4,
   extBE p 16 4)

/-- The operation in progress at a node: its oldest COLL WQE, or the next to come (R351). -/
def Coll.cur (c : Coll) : Nat :=
  match c.ops with
  | [] => c.nextSeq
  | o :: _ => o.seq

/-- The place of a child by its FA. -/
def Coll.childOf (c : Coll) (fa : Nat) : Option Nat :=
  let i := c.children.findIdx (fun k => decide (k.1 = fa))
  if i < c.children.length then some i else none

/-- The lowest segment of an operation not yet received, from segment k on, among at most n. -/
def Coll.missing (c : Coll) (seq : Nat) : Nat → Nat → Nat
  | 0, k => k
  | n + 1, k => if c.got.contains (seq, k) then c.missing seq n (k + 1) else k

/-! ## Failure -/

/-- A record in COLL[t].ERRLOG (R333, R335). -/
def Module.logColl (m : Module) (x status descOff origin : Nat) : Module :=
  let t := collTile x
  if m.flag (F.collErrlogValid t) then m.put (F.collErrlogOverrun t) 1
  else
    let m := m.put (F.collErrlogValid t) 1
    let m := m.put (F.collErrlogStatus t) status
    let m := m.put (F.collErrlogDescOff t) descOff
    let m := m.put (F.collErrlogOriginFa t) origin
    m.put (F.collErrlogColl t) x

/-- An ABORT to a member (R348, R390). -/
def Module.sendAbortTo (m : Module) (x : Nat) (c : Coll) (fa status seq : Nat) : Module :=
  let g := { Msg.new .abort wAbort c.tc 0 (.inline []) with
    ext := beBytes 2 x ++ beBytes 1 status ++ beBytes 1 0 ++ beBytes 4 seq ++ beBytes 4 m.fa ++ beBytes 4 0, ref := x }
  (m.postMsg fa c.nd g).2

/-- The parent and the children of a member. -/
def Coll.neighbours (c : Coll) : List Nat := (if c.root then [] else [c.parent]) ++ c.children.map (·.1)

/-- A context is aborted (R335, R336, R389, R390): ABORTs go out, except to the member the failure was learned from; its WQEs
complete, the current one with the status; the context's own completion joins the finished ones (log 138); it enters ERROR. `length` is
that of a LOCAL_FAULT. -/
def Module.collAbort (m : Module) (e : Env) (x status length detail origin : Nat) (except_ : Option Nat) : Module :=
  match m.coll x with
  | none => m
  | some c =>
    if c.state ≠ .active then m
    else
      let seq := c.cur
      let m := (c.neighbours.filter (fun fa => some fa ≠ except_)).foldl (fun m fa => m.sendAbortTo x c fa status seq) m
      let m := m.setColl x { c with state := .error, ops := [], slots := [], kept := [], downs := [], got := [], answered := [] }
      let m := c.ops.foldl (fun m o =>
        if o.fault.isSome then m
        else if o.seq ≠ seq then m.opDone o.id stCollAborted 0 o.seq 0 0
        else if status = stLocalFault then m.opFail e o.id status length o.seq 0 detail
        else m.opDone o.id status 0 o.seq 0 detail) m
      let m := m.poolTake 1
      let m := m.finish { owner := .coll x, cr := c.cr, tag := c.inst, wq := 0xFFFF, opcode := 0x20, status := status, length := 0,
                          info := seq, peerFa := origin, nd := c.nd, detail := detail, write := true }
      (m.logColl x status 0 origin).raise (pgColl (collTile x)) Ev.cContextError

/-! ## Downward -/

/-- One multicast DOWN to the members of a group (R338, R340, R341). Answers the dseq it took. -/
def Module.sendMc (m : Module) (x group : Nat) (h : CollHdr) (seq seg : Nat) (bs : List Byte) : Nat × Module :=
  match m.coll x, KMap.get m.cl.groups group with
  | some c, some g =>
    let (round, d) := if 0xFFFFFF < c.dseq then ((c.round + 1) % 2 ^ 32, 0) else (c.round, c.dseq)
    let ext := collExt x h seq seg bs.length
    let p : Opened :=
      { dst := 0, src := m.fa, tc := c.tc, rmode := 0, vgroup := 0, hops := 0, trimmed := false, mcast := true, ordered := false,
        cmark := false, flits := flitsOf ext.length bs.length, msn := x, rsvd := 0, nd := c.nd, psn := d, attempt := 0,
        opcode := wDown, epoch := round, rsvdLow := 0, body := [], opw := dataOpw bs.length true true 0 0, ext := ext, payload := bs,
        auth := true }
    let m := m.setColl x { c with round := round, dseq := d + 1 }
    match m.keyOf c.nd with
    | none => (d, m)
    | some (_, key) =>
      (d, m.originateMc (7 + collTile x) (sealPacket (multicastKey key m.nonce c.nd m.fa x c.inst) true p) g.members)
  | _, _ => (0, m)

/-- A unicast DOWN to a child (R348, R349, R353). -/
def Module.sendDown (m : Module) (x : Nat) (c : Coll) (fa : Nat) (h : CollHdr) (seq seg : Nat) (bs : List Byte) : Module :=
  let g := { Msg.new .down wDown c.tc bs.length (.inline bs) with
    ext := collExt x h seq seg bs.length, ref := x, ref2 := seq * 2 ^ 32 + seg }
  (m.postMsg fa c.nd g).2

/-- A result segment goes to the children and is kept until each has it, and until it is delivered here (R353). -/
def Module.sendResult (m : Module) (x : Nat) (h : CollHdr) (seq seg : Nat) (bs : List Byte) (here : Bool) : Module :=
  match m.coll x with
  | none => m
  | some c =>
    let via (v : Nat) : Bool := c.children.any (fun k => k.2 = v)
    let (d1, m) := if via 1 then (fun r => ([r.1], r.2)) (m.sendMc x c.mcRow h seq seg bs) else ([], m)
    let (d2, m) := if via 2 then (fun r => ([r.1], r.2)) (m.sendMc x c.mcCol h seq seg bs) else ([], m)
    let m := (c.children.filter (fun k => k.2 = 0)).foldl (fun m k => m.sendDown x c k.1 h seq seg bs) m
    if c.children.isEmpty && !here then m
    else m.onColl x fun c => { c with kept := c.kept ++
      [{ seq := seq, seg := seg, hdr := h, bytes := bs, waiting := (List.range c.children.length).map (fun i => (i, m.now)), here := here,
         dseqs := d1 ++ d2 }] }

/-- Segments that no child and no delivery needs any more leave their slots. -/
def Coll.prune (c : Coll) : Coll := { c with kept := c.kept.filter (fun r => !r.waiting.isEmpty || r.here) }

/-- A child has a segment (R353). -/
def Coll.release (c : Coll) (child : Nat) (p : Retained → Bool) : Coll :=
  { c with kept := c.kept.map (fun r => if p r then { r with waiting := r.waiting.filter (fun w => w.1 ≠ child) } else r) }.prune

/-- The access of a COLL WQE's buffer (R344, R161). -/
def collReq (x : Nat) (q : WqCtx) (va : Nat) (acc : Acc) : XReq :=
  { asid := q.asid, va := va % 2 ^ 64, acc := acc, user := q.user, allowSe := true, engine := 7 + collTile x, source := 5,
    object := x }

/-- The WQE of an operation, and its queue. -/
def Module.opQueue (m : Module) (id : Nat) : Option (Op × WqCtx) :=
  match m.op id with
  | none => none
  | some o => (m.wq o.wq).map (fun q => (o, q))

/-- The offset of a segment in src_va and dst_va. -/
def CollHdr.segOff (h : CollHdr) (seg : Nat) : Nat := seg * h.perSeg * h.elemBytes

/-- A result segment is written to dst_va (R357, R358), or counts as received where there is none. A WQE whose link was reset makes
no access (R156). -/
def Module.collWrite (m : Module) (e : Env) (x : Nat) (k : CollOp) (seg : Nat) (bs : List Byte) : Module :=
  let set (m : Module) (f : CollOp → CollOp) : Module :=
    m.onColl x fun c => { c with ops := c.ops.map (fun o => if o.seq = k.seq then f o else o) }
  let m := set m (fun o => { o with wrote := addNum o.wrote seg })
  if k.dstVa = 0 || k.fault.isSome || bs.isEmpty then m
  else
    let m := m.needOp e k.id
    match m.opQueue k.id with
    | none => m
    | some (o, q) =>
      let off := k.hdr.segOff seg
      if o.dead then m
      else match m.writeVirt e q.link (collReq x q (k.dstVa + off) .localWrite) bs with
      | (none, m1) => (set m1 (fun o => { o with bytes := o.bytes + bs.length })).stage k.id 2
      | (some (f, n), m1) =>
        (set m1 (fun o => { o with fault := some f.detail })).opFail e k.id stLocalFault (off + n) k.seq 0 f.detail

/-! ## Progress -/

/-- The bytes of a member's local contribution of a segment, if it has one; or the offset in src_va and the detail of the fault that
stopped the read (R182, R389). A WQE whose link was reset, or that is gone, reads nothing: detail 0 (R156, log 139). -/
def Module.collRead (m : Module) (e : Env) (x : Nat) (k : CollOp) (seg : Nat) : Except (Nat × Nat) (Option (List Byte)) × Module :=
  if k.hdr.count = 0 then (.ok (some []), m)
  else if k.srcVa = 0 then (.ok none, m)
  else
    let m := m.needOp e k.id
    let off := k.hdr.segOff seg
    match m.opQueue k.id with
    | none => (.error (off, 0), m)
    | some (o, q) =>
      let n := k.hdr.elemsOf seg
      if o.dead then (.error (off, 0), m)
      else match m.readVirt e q.link (collReq x q (k.srcVa + off) .localRead) (n * k.hdr.elemBytes) with
      | (.ok bs, m1) => (.ok (some (k.hdr.contribute k.coef n bs)), m1.stage k.id 2)
      | (.error (f, i), m1) => (.error (off + i, f.detail), m1)

/-- UP messages of a context that are not complete: each keeps its result slot (R352). -/
def Module.upsHeld (m : Module) (x : Nat) : Nat :=
  let mine (g : Msg) : Bool := decide (g.kind = .up) && decide (g.ref = x)
  ((m.x.conns.map (fun p => (p.2.msgs.filter mine).length)).sum) + (m.x.waiting.filter (fun w => mine w.2.2)).length

/-- Whether every result slot of a context is taken (R350, R352, R353). -/
def Module.slotsFull (m : Module) (x : Nat) (c : Coll) : Bool := decide (c.depth ≤ c.kept.length + m.upsHeld x)

/-- Whether a DOWN segment finds no result slot. A member without children that can deliver it at once needs none. -/
def Module.downFull (m : Module) (x : Nat) (c : Coll) (seq : Nat) : Bool :=
  m.slotsFull x c && !(c.children.isEmpty && (c.ops.head?.map (·.seq)) = some seq)

/-- The children's segments of an operation, in descriptor order, where all have arrived whole (R352). -/
def Coll.inputs (c : Coll) (seq seg : Nat) : Option (List (List Byte)) :=
  let l := (List.range c.children.length).map (fun i =>
    c.slots.find? (fun s => s.child = i && s.seq = seq && s.seg = seg && decide (s.size ≤ landed s.parts)))
  if l.all Option.isSome then some (l.filterMap (fun s => s.map (fun s => assemble s.parts))) else none

/-- The next segment of the current operation climbs, where its inputs are there and a slot is free (R351, R352, R371). A child's segment
that is none of its size aborts the context (R389, log 140). -/
def Module.collUp (m : Module) (e : Env) (x : Nat) (c : Coll) (k : CollOp) : Option Module :=
  let s := k.next
  if k.hdr.segs ≤ s || !k.hdr.climbs then none
  else if !c.root && !(s < c.depth || k.upDone.contains (s - c.depth)) then none
  else if (!c.root || k.hdr.descends) && m.slotsFull x c then none
  else
    match c.inputs k.seq s with
    | none => none
    | some kids =>
      let n := k.hdr.elemsOf s
      if !kids.all (k.hdr.sound true n) then some (m.collAbort e x stCollMismatch 0 0 m.fa none)
      else match m.collRead e x k s with
      | (.error (off, d), m1) => some (m1.collAbort e x stLocalFault off d m1.fa none)
      | (.ok mine, m1) =>
        let ins := mine.toList ++ kids
        let out := k.hdr.combined n ins
        let t := collTile x
        let m1 := (m1.count (pgColl t) 0).countUp (pgColl t) 1 ((ins.map List.length).sum)
        let m1 := m1.onColl x fun c => { c with
          slots := c.slots.filter (fun q => !(q.seq = k.seq && q.seg = s)),
          ops := c.ops.map (fun o => if o.seq = k.seq then { o with next := s + 1 } else o) }
        if c.root then
          let out := if k.hdr.count = 0 then [] else k.hdr.result n out
          let m1 := m1.collWrite e x k s out
          some (if k.hdr.descends then m1.sendResult x k.hdr k.seq s out false else m1)
        else
          let out := if k.hdr.count = 0 then [] else out
          let g := { Msg.new .up wUp c.tc out.length (.inline out) with
            ext := collExt x k.hdr k.seq s out.length, ref := x, ref2 := k.seq * 2 ^ 32 + s, op := some k.id }
          some (m1.postMsg c.parent c.nd g).2

/-- The root of a BCAST sends its next segment (R353). -/
def Module.collBcast (m : Module) (e : Env) (x : Nat) (c : Coll) (k : CollOp) : Option Module :=
  let s := k.next
  if !c.root || k.hdr.climbs || k.hdr.segs ≤ s || m.slotsFull x c then none
  else
    match m.collRead e x k s with
    | (.error (off, d), m1) => some (m1.collAbort e x stLocalFault off d m1.fa none)
    | (.ok bs, m1) =>
      let m1 := m1.onColl x fun c => { c with ops := c.ops.map (fun o => if o.seq = k.seq then { o with next := s + 1 } else o) }
      some (m1.sendResult x k.hdr k.seq s (bs.getD []) false)

/-- Whether a result segment would reach a page with side effects ahead of earlier ones of the operation (R172). -/
def Module.hereEarly (m : Module) (e : Env) (x : Nat) (k : CollOp) (r : Retained) : Bool :=
  decide (k.dstVa ≠ 0) && k.fault.isNone && decide (k.wrote.length < r.seg) && (match m.opQueue k.id with
    | none => false
    | some (_, q) => m.seAhead e (collReq x q (k.dstVa + k.hdr.segOff r.seg) .localWrite) r.bytes.length)

/-- A received result segment is delivered to the WQE it belongs to. -/
def Module.collHere (m : Module) (e : Env) (x : Nat) (c : Coll) (k : CollOp) : Option Module :=
  match c.kept.find? (fun r => r.here && decide (r.seq = k.seq) && !m.hereEarly e x k r) with
  | none => none
  | some r =>
    let m := m.onColl x fun (c : Coll) =>
      let keep := c.kept.map (fun (q : Retained) => if q.seq = r.seq && q.seg = r.seg then { q with here := false } else q)
      Coll.prune { c with kept := keep }
    some (m.collWrite e x k r.seg r.bytes)

/-- Whether a COLL WQE has completed (R357). -/
def CollOp.done (k : CollOp) (c : Coll) : Bool :=
  let n := k.hdr.segs
  match k.hdr.kind, c.root with
  | 1, false => decide (n ≤ k.upDone.length)
  | 2, true => decide (n ≤ k.next) && !(c.kept.any (fun r => r.seq = k.seq))
  | _, _ => decide (n ≤ k.wrote.length)

/-- The current operation completes (R357): its done counter goes up, its completion joins the finished ones. -/
def Module.collEnd (m : Module) (x : Nat) (c : Coll) (k : CollOp) : Module :=
  let m := m.setColl x { c with ops := c.ops.filter (fun o => o.seq ≠ k.seq), got := c.got.filter (fun g => k.seq < g.1),
                                downs := c.downs.filter (fun g => k.seq < g.seq) }
  match m.op k.id with
  | none => m
  | some o =>
    if k.fault.isSome then m
    else if o.silent then m.opDone k.id stSuccess k.bytes k.seq 0 0
    else (m.bumpCtr x k.doneCtr 1).opDone k.id stSuccess k.bytes k.seq 0 0

/-- Whether what a context holds of an operation disagrees with its own WQE (R389): in kind, op, type or count, or in the size of a
result segment (log 140). -/
def Coll.disagrees (c : Coll) (k : CollOp) : Bool :=
  c.slots.any (fun s => decide (s.seq = k.seq) && decide (s.hdr ≠ k.hdr)) ||
  c.kept.any (fun r => r.here && decide (r.seq = k.seq) &&
    (decide (r.hdr ≠ k.hdr) || !k.hdr.sound false (k.hdr.elemsOf r.seg) r.bytes))

/-- One thing that a context can do now. -/
def Module.collStep (m : Module) (e : Env) (x : Nat) : Option Module :=
  match m.coll x with
  | none => none
  | some c =>
    match c.state, c.ops with
    | .active, k :: _ =>
      if c.ops.any c.disagrees then some (m.collAbort e x stCollMismatch 0 0 m.fa none)
      else
        match m.collHere e x c k with
        | some m1 => some m1
        | none =>
          match m.collUp e x c k with
          | some m1 => some m1
          | none =>
            match m.collBcast e x c k with
            | some m1 => some m1
            | none => if k.done c then some (m.collEnd x c k) else none
    | _, _ => none

/-- A context does all it can do now. -/
def Module.collRun (m : Module) (e : Env) (x : Nat) : Nat → Module
  | 0 => m
  | n + 1 =>
    match m.collStep e x with
    | none => m
    | some m1 => m1.collRun e x n

/-- The bound on what one command can set off in a context. -/
def collFuel : Nat := 4294967296 * 4

/-! ## Arriving packets -/

/-- A packet for a context in ERROR has no effect; the first of each sender is answered with an ABORT (R391). -/
def Module.collDead (m : Module) (x : Nat) (c : Coll) (p : Opened) : Module :=
  if c.answered.contains p.src then m
  else (m.setColl x { c with answered := c.answered ++ [p.src] }).sendAbortTo x c p.src stCollAborted c.cur

/-- What an arriving UP does (R351, R352, R392). -/
def Module.upEngine (m : Module) (p : Opened) : Verdict × Module :=
  let x := extBE p 0 2
  let (h, seq, seg, size) := pColl p
  match m.coll x with
  | none => (.refuse nkRnrContext, m)
  | some c =>
    if c.state = .closing || c.nd ≠ p.nd then (.refuse nkRnrContext, m)
    else if c.state = .error then (.accept, m.collDead x c p)
    else
      match c.childOf p.src with
      | none => (.accept, m)
      | some i =>
        if seq ≠ c.cur && seq ≠ (c.cur + 1) % 2 ^ 32 then (.refuse nkRnrContext, m)
        else
          match c.slots.find? (fun s => s.child = i && s.seq = seq && s.seg = seg) with
          | some s =>
            let s1 := { s with parts := KMap.put s.parts (pOff p) p.payload }
            (.accept, m.setColl x { c with slots := c.slots.map (fun q => if q = s then s1 else q) })
          | none =>
            if c.depth ≤ (c.slots.filter (fun s => s.child = i)).length then (.refuse nkRnrContext, m)
            else
              (.accept, m.setColl x { c with slots := c.slots ++
                [{ child := i, seq := seq, seg := seg, hdr := h, size := size, parts := [(pOff p, p.payload)] }] })

/-- A small packet to the parent: DOWN_ACK or REPAIR (R348, R354). -/
def Module.toParent (m : Module) (c : Coll) (kind : MsgKind) (opcode : Nat) (ext : List Byte) : Module :=
  (m.postMsg c.parent c.nd { Msg.new kind opcode c.tc 0 (.inline []) with ext := ext }).2

/-- A REPAIR (R348, R354). -/
def Module.sendRepair (m : Module) (x : Nat) (c : Coll) (byDseq : Bool) (seq seg dseq : Nat) : Module :=
  (m.toParent c .repair wRepair (beBytes 2 x ++ beBytes 1 (b2n byDseq) ++ beBytes 1 0 ++ beBytes 4 seq ++ beBytes 4 seg ++
    beBytes 4 dseq)).count (pgColl (collTile x)) 3

/-- A whole DOWN segment that is new has arrived (R353, R354): a gap asks for repair, every fourth segment in order and the last are
acknowledged, and the segment goes on to the children. -/
def Module.downArrive (m : Module) (x : Nat) (c : Coll) (h : CollHdr) (seq seg : Nat) (bs : List Byte) : Module :=
  let low := c.missing seq h.segs 0
  let c1 := { c with got := c.got ++ [(seq, seg)], downs := c.downs.filter (fun d => !(d.seq = seq && d.seg = seg)) }
  let next := c1.missing seq h.segs 0
  let m := m.setColl x c1
  let m := if low < seg then m.sendRepair x c1 false seq low 0 else m
  let m := if low < next && (low / 4 < next / 4 || next = h.segs) then
      m.toParent c1 .downAck wDownAck (beBytes 2 x ++ beBytes 2 0 ++ beBytes 4 seq ++ beBytes 4 next ++ beBytes 4 0) else m
  m.sendResult x h seq seg bs true

/-- Whether a DOWN segment is one a child discards (R356). -/
def Coll.stale (c : Coll) (seq seg : Nat) : Bool := decide (seq < c.cur) || c.got.contains (seq, seg)

/-- A dseq is no longer missing (R354). -/
def Coll.unmiss (c : Coll) (d : Nat) : Coll :=
  { c with rxMissed := c.rxMissed.flatMap fun r =>
      if r.1 ≤ d && d < r.2 then (if r.1 < d then [(r.1, d)] else []) ++ (if d + 1 < r.2 then [(d + 1, r.2)] else []) else [r] }

/-- The lowest dseq still missing. -/
def Coll.lowMissed (c : Coll) : Option Nat := c.rxMissed.head?.map (·.1)

/-- A segment comes from the parent by unicast: it stands in the place of the lowest missing dseq (log 141). -/
def Coll.repaired (c : Coll) (fa : Nat) : Coll :=
  match c.lowMissed with
  | none => c
  | some d => if c.parent = fa then c.unmiss d else c

/-- What an arriving unicast DOWN does (R354, R356, R392). -/
def Module.downEngine (m : Module) (p : Opened) : Verdict × Module :=
  let x := extBE p 0 2
  let (h, seq, seg, size) := pColl p
  match m.coll x with
  | none => (.refuse nkRnrContext, m)
  | some c =>
    if c.state = .closing || c.nd ≠ p.nd then (.refuse nkRnrContext, m)
    else if c.state = .error then (.accept, m.collDead x c p)
    else if c.root || c.parent ≠ p.src || c.stale seq seg then (.accept, m)
    else
      let d : DownPart := (c.downs.find? (fun d => d.seq = seq && d.seg = seg)).getD { seq := seq, seg := seg, parts := [] }
      let d := { d with parts := KMap.put d.parts (pOff p) p.payload }
      if landed d.parts < size then
        (.accept, m.setColl x { c with downs := c.downs.filter (fun q => !(q.seq = seq && q.seg = seg)) ++ [d] })
      else if m.downFull x c seq then (.refuse nkRnrContext, m)
      else (.accept, m.downArrive x (c.repaired p.src) h seq seg (assemble d.parts))

/-- What an arriving multicast DOWN does (R340–R342, R354, R356). One that finds no result slot is discarded too (log 142). -/
def Module.mcEngine (m : Module) (q : Packet) : Module :=
  let x := q.msn
  match m.coll x, m.connOf q.src q.nd, m.keyOf q.nd with
  | some c, some k, some (_, key) =>
    let fits := c.state = .active && c.nd = q.nd && !c.root && c.parent = q.src && (k.txState = .open : Bool) &&
      (q.epoch = c.rxRound || q.epoch = (c.rxRound + 1) % 2 ^ 32)
    if !fits then m.mcDiscard x
    else
      match openPacket (multicastKey key k.peerNonce q.nd q.src x c.inst) true q with
      | none => m.mcDiscard x
      | some p =>
        let (h, seq, seg, _) := pColl p
        if !c.stale seq seg && m.downFull x c seq then m.mcDiscard x
        else
          let c := if p.epoch = c.rxRound then c else { c with rxRound := p.epoch, rxDseq := 0, rxMissed := [] }
          let gap := c.rxDseq < p.psn
          let c := (if gap then { c with rxMissed := c.rxMissed ++ [(c.rxDseq, p.psn)] } else c).unmiss p.psn
          let c := { c with rxDseq := max c.rxDseq (p.psn + 1) }
          let m := m.setColl x c
          let m := match c.lowMissed with
            | some low => if gap then m.sendRepair x c true seq 0 low else m
            | none => m
          if c.stale seq seg then m else m.downArrive x c h seq seg p.payload
  | _, _, _ => m.mcDiscard x

/-- A child of an ACTIVE context that sent a packet about a retained segment; what to do with a context in ERROR (R391) or in CLOSING
(R335). -/
def Module.fromChild (m : Module) (p : Opened) (f : Coll → Nat → Module) : Verdict × Module :=
  let x := extBE p 0 2
  match m.coll x with
  | none => (.accept, m)
  | some c =>
    if c.nd ≠ p.nd then (.accept, m)
    else match c.state, c.childOf p.src with
      | .error, _ => (.accept, m.collDead x c p)
      | .closing, _ => (.refuse nkRnrContext, m)
      | .active, some i => (.accept, f c i)
      | _, _ => (.accept, m)

/-- What an arriving DOWN_ACK does (R353). -/
def Module.downAckEngine (m : Module) (p : Opened) : Verdict × Module :=
  m.fromChild p fun c i => m.setColl (extBE p 0 2) (c.release i (fun r => r.seq = extBE p 4 4 && decide (r.seg < extBE p 8 4)))

/-- A retained segment goes to a child again, as a unicast message, and its time starts anew (R355). -/
def Module.sendAgain (m : Module) (x : Nat) (i : Nat) (r : Retained) : Module :=
  match m.coll x with
  | none => m
  | some c =>
    match c.children[i]? with
    | none => m
    | some (fa, _) =>
      let mark (q : Retained) : Retained := if q.seq = r.seq && q.seg = r.seg
        then { q with waiting := q.waiting.map (fun (w : Nat × Nat) => if w.1 = i then (i, m.now) else w) } else q
      ((m.setColl x { c with kept := c.kept.map mark }).sendDown x c fa r.hdr r.seq r.seg r.bytes).count (pgColl (collTile x)) 4

/-- What an arriving REPAIR does (R355). -/
def Module.repairEngine (m : Module) (p : Opened) : Verdict × Module :=
  m.fromChild p fun c i =>
    let hit (r : Retained) : Bool :=
      if extBE p 2 1 % 2 = 1 then r.dseqs.contains (extBE p 12 4) else r.seq = extBE p 4 4 && r.seg = extBE p 8 4
    match c.kept.find? hit with
    | none => m
    | some r => m.sendAgain (extBE p 0 2) i r

/-- What an arriving ABORT does (R335, R390); where the context's CR takes no completion it is refused (R137). -/
def Module.abortEngine (m : Module) (e : Env) (p : Opened) : Verdict × Module :=
  let x := extBE p 0 2
  match m.coll x with
  | none => (.accept, m)
  | some c =>
    if c.nd ≠ p.nd || !c.neighbours.contains p.src then (.accept, m)
    else match c.state with
      | .closing => (.refuse nkRnrContext, m)
      | .error => (.accept, m)
      | .active =>
        let m := m.needCr e c.cr
        if m.crRefuses c.cr then (.refuse nkRnrCr, m)
        else (.accept, m.collAbort e x stCollAborted 0 (extBE p 2 1) (extBE p 8 4 % 2 ^ 18) (some p.src))

/-- A connection of an ACTIVE context's tree has failed, or its far end has a new nonce (R389). -/
def Module.memberLost (m : Module) (e : Env) (remote nd : Nat) : Module :=
  ((m.cl.ctxs.filter (fun p => p.2.nd = nd && p.2.neighbours.contains remote)).map (·.1)).foldl
    (fun m x => m.collAbort e x stCollMemberLost 0 0 m.fa (some remote)) m

end Sys2Proof.Machine
end

