-- ==== Sys2Proof/Machine/Collectives.lean ====
section
/-! DEFINITION. Collectives, exact reductions and triggered operations: the commands (R330–R382, R389–R393). -/

namespace Sys2Proof.Machine

/-! ## Multicast groups -/

/-- An address of an admin command body (R161, R183). -/
def adminReq (asid va : Nat) (acc : Acc) (object : Nat) : XReq :=
  { asid := asid, va := va, acc := acc, user := false, allowSe := true, engine := 0, source := 7, object := object }

/-- A read of an address of an admin command body that WQ 0 translates (R161): none for a fault. -/
def Module.adminRead (m : Module) (e : Env) (va n : Nat) : Option (List Byte) × Module :=
  match m.wq 0 with
  | none => (none, m)
  | some c =>
    match m.readVirt e c.link (adminReq c.asid va .localRead 0) n with
    | (.error _, m1) => (none, m1)
    | (.ok bs, m1) => (some bs, m1)


/-- Whether two FAs share their group and chassis (a row), or their group and slot (a column). -/
def sameRow (a b : Nat) : Bool := decide (a / 16 = b / 16)
def sameColumn (a b : Nat) : Bool := decide (faGroup a = faGroup b) && decide (faSlot a = faSlot b)

/-- Meaning of CREATE_MC (R39, R337, R143). -/
def execCreateMc (e : Env) (s : State) : Res :=
  s.admin 0x8A e fun m w =>
    let x := wqeField w 0x10 2
    let n := wqeField w 0x14 2
    m.checked [(decide (x < 1024), stAdminInvalid, 0x10), ((KMap.get m.cl.groups x).isNone, stAdminState, 0x10),
        (decide (wqeField w 0x12 2 ≠ 0xFFFF), stAdminInvalid, 0x12), (decide (1 ≤ n) && decide (n ≤ 15), stAdminInvalid, 0x14)] fun m =>
      match m.adminRead e (wqeField w 0x18 8) (4 * n) with
      | (none, m1) => m1.adminEnd stAdminInvalid 0 0x18
      | (some bs, m1) =>
        let l := elems 4 n bs
        let ok := l.all (fun a => decide (a < 2 ^ 18) && decide (a ≠ m1.fa)) && decide l.Nodup &&
          (l.all (sameRow m1.fa) || l.all (sameColumn m1.fa))
        if ok then
          let g : McGroup := { nd := wqeField w 0x12 2, members := l }
          ({ m1 with cl := { m1.cl with groups := KMap.put m1.cl.groups x g } }).adminOk 0
        else m1.adminEnd stAdminInvalid 0 0x18

/-- Meaning of DESTROY_MC (R343): no packet of a group is ever left in replication, so the command completes at once. -/
def execDestroyMc (e : Env) (s : State) : Res :=
  s.admin 0x8B e fun m w =>
    let x := wqeField w 0x10 2
    m.checked [(decide (x < 1024), stAdminInvalid, 0x10), ((KMap.get m.cl.groups x).isSome, stAdminState, 0x10),
        (!m.cl.ctxs.any (fun p => decide (p.2.mcRow = x) || decide (p.2.mcCol = x)), stAdminState, 0x10)] fun m =>
      ({ m with cl := { m.cl with groups := KMap.erase m.cl.groups x } }).adminOk 0

/-! ## Contexts -/

/-- A tree descriptor (R332), its children's words as they stand. -/
structure Tree where
  inst : Nat
  word4 : Nat
  parent : Nat
  mcRow : Nat
  mcCol : Nat
  ctrBase : Nat
  ctrCount : Nat
  word14 : Nat
  kids : List Nat
  deriving DecidableEq, Repr

/-- Number of children, depth, and the rest of the descriptor's second word (R332). -/
def Tree.nchild (t : Tree) : Nat := t.word4 % 256
def Tree.depth (t : Tree) : Nat := t.word4 / 2 ^ 8 % 256
def Tree.tc (t : Tree) : Nat := t.word4 / 2 ^ 16 % 8
def Tree.root (t : Tree) : Bool := nbit t.word4 19
def Tree.exact (t : Tree) : Bool := nbit t.word4 20

/-- FA and via of a child's word. -/
def kidFa (k : Nat) : Nat := k % 2 ^ 18
def kidVia (k : Nat) : Nat := k / 2 ^ 18 % 4

/-- The FAs of the children of a via value. -/
def Tree.viaSet (t : Tree) (v : Nat) : List Nat := (t.kids.filter (fun k => kidVia k = v)).map kidFa

/-- A descriptor from its bytes. -/
def Tree.parse (head kids : List Byte) : Tree :=
  { inst := fieldLE head 0 4, word4 := fieldLE head 4 4, parent := fieldLE head 8 4, mcRow := fieldLE head 0xC 2,
    mcCol := fieldLE head 0xE 2, ctrBase := fieldLE head 0x10 2, ctrCount := fieldLE head 0x12 2, word14 := fieldLE head 0x14 4,
    kids := elems 4 (kids.length / 4) kids }

/-- Offsets of the children whose word fails a test. -/
def Tree.badKids (t : Tree) (p : Nat → Bool) : List Nat :=
  ((List.range t.kids.length).filter (fun i => !p (t.kids.getD i 0))).map (fun i => 0x18 + 4 * i)

/-- Whether a via value's children and the group named agree. -/
def Module.groupAgrees (m : Module) (t : Tree) (v group : Nat) : Bool :=
  if group = 0xFFFF then (t.viaSet v).isEmpty
  else match KMap.get m.cl.groups group with
    | none => true
    | some g => g.members.all (fun a => (t.viaSet v).contains a) && (t.viaSet v).all (fun a => g.members.contains a)

/-- Whether a group that a descriptor names exists in the ND. -/
def Module.groupThere (m : Module) (nd group : Nat) : Bool :=
  group = 0xFFFF || (match KMap.get m.cl.groups group with
    | none => false
    | some g => decide (g.nd = nd))

/-- The checks on a descriptor, in order (R333): what holds, the status of a failure, and the descriptor offset. -/
def Module.treeChecks (m : Module) (nd tile : Nat) (t : Tree) : List (Bool × Nat × Nat) :=
  let overlaps (c : Coll) : Bool := decide (c.ctrBase < t.ctrBase + t.ctrCount) && decide (t.ctrBase < c.ctrBase + c.ctrCount) &&
    decide (0 < t.ctrCount) && decide (0 < c.ctrCount)
  let pool := t.depth * (t.nchild + 2) * (if t.exact then 18 else 4)
  [(decide (t.inst ≠ 0), stAdminInvalid, 0),
   (decide (t.nchild ≤ 32) && decide (1 ≤ t.depth) && decide (t.depth ≤ 16) && decide (t.tc ≤ 6), stAdminInvalid, 4),
   (decide (t.word4 / 2 ^ 21 = 0) && (!t.root || decide (0 < t.nchild)), stAdminInvalid, 4),
   (decide (t.parent < 2 ^ 18), stAdminInvalid, 8),
   (decide (t.word14 = 0), stAdminInvalid, 0x14)] ++
  (t.badKids (fun k => decide (k < 2 ^ 20) && decide (kidVia k ≠ 3))).map (fun o => (false, stAdminInvalid, o)) ++
  (t.badKids (fun k => (kidVia k ≠ 1 || sameRow (kidFa k) m.fa) && (kidVia k ≠ 2 || sameColumn (kidFa k) m.fa))).map
    (fun o => (false, stAdminInvalid, o)) ++
  [(m.groupAgrees t 1 t.mcRow, stAdminInvalid, 0xC), (m.groupAgrees t 2 t.mcCol, stAdminInvalid, 0xC),
   (m.groupThere nd t.mcRow && m.groupThere nd t.mcCol, stAdminInvalid, 0xC),
   (decide (t.ctrBase + t.ctrCount ≤ 65536) && !m.cl.ctxs.any (fun p => overlaps p.2), stAdminNoResource, 0x10),
   (decide (pool ≤ m.get (F.collUseBufFree tile)), stAdminNoResource, 4)]

/-- The descriptor of a CREATE_COLL, read once under the CR's asid and link (R161, R332): none for a fault. -/
def Module.readTree (m : Module) (e : Env) (x va : Nat) (c : CrCtx) : Option Tree × Module :=
  match m.readVirt e c.link (adminReq c.asid va .localRead x) 0x18 with
  | (.error _, m1) => (none, m1)
  | (.ok head, m1) =>
    let n := min 32 (fieldLE head 4 1)
    match m1.readVirt e c.link (adminReq c.asid ((va + 0x18) % 2 ^ 64) .localRead x) (4 * n) with
    | (.error _, m2) => (none, m2)
    | (.ok kids, m2) => (some (Tree.parse head kids), m2)

/-- The context that a descriptor describes (R334). -/
def Tree.ctx (t : Tree) (nd cr : Nat) : Coll :=
  { nd := nd, cr := cr, inst := t.inst, depth := t.depth, tc := t.tc, root := t.root, exact := t.exact, parent := t.parent,
    mcRow := t.mcRow, mcCol := t.mcCol, ctrBase := t.ctrBase, ctrCount := t.ctrCount,
    children := t.kids.map (fun k => (kidFa k, kidVia k)), state := .active, nextSeq := 0, ops := [], slots := [], kept := [],
    downs := [], got := [], round := 0, dseq := 0, rxRound := 0, rxDseq := 0, rxMissed := [], answered := [] }

/-- A context is loaded (R334): its counters are 0, its slots reserved, and the connection to its parent opens. -/
def Module.loadColl (m : Module) (x : Nat) (c : Coll) : Module :=
  let keep (p : Nat × Nat) : Bool := !(decide (c.ctrBase ≤ p.1) && decide (p.1 < c.ctrBase + c.ctrCount))
  let cl : Colls := { m.cl with ctxs := KMap.put m.cl.ctxs x c, ctrs := m.cl.ctrs.filter keep }
  let m := ({ m with cl := cl }).collUse (collTile x)
  let m := m.bind c.cr
  if c.root then m
  else match m.keyOf c.nd with
    | none => m
    | some (slot, _) => m.openToward c.parent c.nd slot c.tc

/-- Meaning of CREATE_COLL (R161, R330–R335, R147, R350, R373). -/
def execCreateColl (e : Env) (s : State) : Res :=
  s.admin 0x8C e fun m w =>
    let x := wqeField w 0x10 2
    let nd := wqeField w 0x12 2
    let cr := wqeField w 0x14 2
    let va := wqeField w 0x18 8
    let m := m.needCr e cr
    m.checked [(decide (x < 1024), stAdminInvalid, 0x10), ((m.coll x).isNone, stAdminState, 0x10),
        (decide (nd ≠ 0) && m.hasKey nd, stAdminInvalid, 0x12), (m.crInTable cr && m.crActive cr, stAdminInvalid, 0x14),
        (decide (va % 8 = 0), stAdminInvalid, 0x18)] fun m =>
      match m.cr cr with
      | none => m
      | some c =>
        match m.readTree e x va c with
        | (none, m1) => m1.adminEnd stAdminInvalid 0 0x18
        | (some t, m1) =>
          match firstFail (m1.treeChecks nd (collTile x) t) with
          | some (st, off) => (m1.logColl x 0x10 off 0).adminEnd st 0 0x18
          | none => (m1.loadColl x (t.ctx nd cr)).adminOk 0

/-- Meaning of DESTROY_COLL (R148, R335, R393): the context closes, its WQEs complete with COLL_CONTEXT, its lists are discarded. The
command completes with COLL_CONTEXT_FREE. -/
def execDestroyColl (e : Env) (s : State) : Res :=
  s.admin 0x8D e fun m w =>
    let x := wqeField w 0x10 2
    m.checked [(decide (x < 1024), stAdminInvalid, 0x10),
        ((match m.coll x with
          | none => false
          | some c => c.state ≠ .closing : Bool), stAdminState, 0x10)] fun m =>
      match m.coll x with
      | none => m
      | some c =>
        let m := m.setColl x { c with state := .closing, ops := [], slots := [], kept := [], downs := [], got := [] }
        let m := c.ops.foldl (fun m o => if o.fault.isSome then m else m.opDone o.id stCollContext 0 o.seq 0 0) m
        let m := m.dropLists (fun _ l => l.coll = x)
        let m := m.needCr e c.cr
        if m.crActive c.cr then m else m.discardHeld c.cr (fun k => k.owner = .coll x)

/-- Whether a COLL WQE of a context is still to write its completion. One whose completion a CR in ERROR holds waits for that CR's end
and keeps the context no longer (R148). -/
def Module.collOwes (m : Module) (x : Nat) : Bool :=
  m.q.ops.any (fun p => p.2.started && decide (wqeOpcode p.2.wqe = 0x20) && decide (wqeBits p.2.wqe 0x20 47 32 = x) &&
    !m.q.crRt.any (fun r => r.2.held.any (fun c => c.owner = .op p.1) && !m.crActive r.1))

/-- Meaning of COLL_CONTEXT_FREE (R147, R335, R393): a closing context whose completions are all written is freed. -/
def execCollContextFree (e : Env) (s : State) : Res :=
  s.run fun m =>
    let m := m.at e
    match m.adminIs 0x8D with
    | none => m
    | some a =>
      let x := wqeField a.wqe 0x10 2
      match m.coll x with
      | none => m
      | some c =>
        if c.state ≠ .closing || m.owes (.coll x) || m.collOwes x then m
        else
          let m := { m with cl := { m.cl with ctxs := KMap.erase m.cl.ctxs x } }
          (((m.needCr e c.cr).unbind c.cr).collUse (collTile x)).adminOk 0

/-! ## COLL -/

/-- A COLL WQE's context, header and the rest (R344). -/
def collOpOf (id : Nat) (w : List Word) : CollOp :=
  { id := id, seq := wqeField w 0x28 4,
    hdr := { kind := wqeBits w 0x20 51 48, op := wqeBits w 0x20 55 52, type := wqeBits w 0x20 59 56, count := wqeField w 0x20 4 },
    srcVa := wqeField w 0x10 8, dstVa := wqeField w 0x18 8, coef := wqeField w 0x2C 1, doneCtr := wqeField w 0x2E 2, next := 0,
    upDone := [], wrote := [], bytes := 0, fault := none }

/-- Whether an op takes a type (R345). -/
def pairAllowed (op type : Nat) : Bool :=
  if op ≤ 4 then decide (type ≤ 11)
  else if op ≤ 7 then decide (type ≤ 7)
  else if op = 8 then decide (type = 4)
  else if op = 9 then decide (8 ≤ type) && decide (type ≤ 11)
  else false

/-- The context of a WQE where the queue may use it (R346): ACTIVE, of the queue's ND, and its CR of the queue's asid. -/
def Module.collFor (m : Module) (x : Nat) (q : WqCtx) : Option Coll :=
  match m.coll x with
  | none => none
  | some c =>
    let asid := (m.cr c.cr).map (·.asid)
    if c.state = .active && c.nd = q.nd && asid = some q.asid then some c else none

/-- Whether a COLL WQE is one R345 refuses. -/
def collInvalid (c : Coll) (k : CollOp) : Bool :=
  let h := k.hdr
  decide (3 < h.kind) || decide (11 < h.type) || (h.reduces && !pairAllowed h.op h.type) || (h.kind = 3 && h.count ≠ 0) ||
  (h.reduces && k.srcVa = 0 && c.children.isEmpty && h.count ≠ 0) || (h.kind = 2 && c.root && k.srcVa = 0) ||
  (k.doneCtr ≠ 0xFFFF && decide (c.ctrCount ≤ k.doneCtr))

/-- A context's CR is cached, as far as it can be, before it is asked for its asid. -/
def Module.collCr (m : Module) (e : Env) (x : Nat) : Module :=
  match m.coll x with
  | none => m
  | some c => m.needCr e c.cr

/-- Meaning of COLL (R344–R349, R351–R353, R357, R358, R362, R367, R371, R389). -/
def execColl (id : Nat) (e : Env) (s : State) : Res :=
  s.run fun m =>
    let m := (m.at e).needOp e id
    match m.startable id 0x20 with
    | none => m
    | some (o, q) =>
      let x := wqeBits o.wqe 0x20 47 32
      let k := collOpOf id o.wqe
      let m := (m.opStart id o).collCr e x
      match m.collFor x q with
      | none => m.opDone id stCollContext 0 k.seq 0 0
      | some c =>
        if collInvalid c k then m.opDone id stCollInvalid 0 k.seq 0 0
        else if k.seq ≠ c.nextSeq then m.opDone id stCollSequence 0 k.seq 0 0
        else (m.setColl x { c with nextSeq := (c.nextSeq + 1) % 2 ^ 32, ops := c.ops ++ [k] }).collRun e x collFuel

/-! ## Counters and triggered lists -/

/-- Meaning of CTR_ADD (R373–R375, R346). -/
def execCtrAdd (id : Nat) (e : Env) (s : State) : Res :=
  s.run fun m =>
    let m := (m.at e).needOp e id
    match m.startable id 0x21 with
    | none => m
    | some (o, q) =>
      let x := wqeField o.wqe 0x10 2
      let off := wqeField o.wqe 0x12 2
      let m := (m.opStart id o).collCr e x
      match m.collFor x q with
      | none => m.opDone id stCollContext 0 0 0 0
      | some c =>
        if c.ctrCount ≤ off then m.opDone id stCollInvalid 0 0 0 0
        else
          let v := (m.ctr (c.ctrBase + off) + wqeField o.wqe 0x18 8) % 2 ^ 64
          (m.setCtr (c.ctrBase + off) v).opDone id stSuccess v 0 0 0

/-- The read of a list's entry (R378). -/
def TrigList.req (l : TrigList) (q : WqCtx) (k : Nat) : XReq :=
  { asid := q.asid, va := (l.va + 128 * k) % 2 ^ 64, acc := .fetch, user := q.user, allowSe := true,
    engine := 7 + collTile l.coll, source := 5, object := l.coll }

/-- Entries a tile holds on chip (R379). -/
def Module.trigOnChip (m : Module) (t : Nat) : Nat :=
  ((m.cl.lists.filter (fun p => collTile p.2.coll = t)).map (fun p => p.2.loaded.length)).sum

/-- Room for a head: where the tile is full, a list gives up its last read-ahead entry (R379). -/
def Module.trigRoom (m : Module) (t : Nat) : Module :=
  if m.trigOnChip t < 8192 then m
  else match m.cl.lists.find? (fun p => decide (collTile p.2.coll = t) && p.2.loaded.any (fun a => a.1 ≠ p.2.head)) with
    | none => m
    | some (n, l) => { m with cl := { m.cl with lists := KMap.put m.cl.lists n { l with loaded := l.loaded.dropLast } } }

/-- A list's entry is read (R378): the module with it loaded, or the fault. -/
def Module.loadEntry (m : Module) (e : Env) (n k : Nat) : Option XFault × Module :=
  match KMap.get m.cl.lists n with
  | none => (none, m)
  | some l =>
    let m := m.needWq e l.wq
    match m.wq l.wq with
    | none => (none, m)
    | some q =>
      match m.readVirt e q.link (l.req q k) 128 with
      | (.error (f, _), m1) => (some f, m1)
      | (.ok bs, m1) =>
        let ws := (elems 8 16 bs).map (BitVec.ofNat 64)
        let l1 : TrigList := { l with loaded := KMap.put l.loaded k ws }
        (none, { m1 with cl := { m1.cl with lists := KMap.put m1.cl.lists n l1 } })

/-- Entries behind the head are read ahead, up to four and where the tile has room for them; none from a page with side effects, and
none whose read would fault (R378, R379, log 46). -/
def Module.readAhead (m : Module) (e : Env) (n : Nat) : Nat → Nat → Module
  | 0, _ => m
  | fuel + 1, k =>
    match KMap.get m.cl.lists n with
    | none => m
    | some l =>
      if l.count ≤ k || l.head + 4 < k || 8192 ≤ m.trigOnChip (collTile l.coll) then m
      else if (KMap.get l.loaded k).isSome then m.readAhead e n fuel (k + 1)
      else match m.wq l.wq with
        | none => m
        | some q =>
          if m.seAhead e (l.req q k) 128 then m
          else match m.loadEntry e n k with
            | (some _, _) => m
            | (none, m1) => m1.readAhead e n fuel (k + 1)

/-- A list's head is loaded, if it is not there yet, with what can be read ahead: the fault that keeps it away. -/
def Module.loadHead (m : Module) (e : Env) (n : Nat) : Option XFault × Module :=
  match KMap.get m.cl.lists n with
  | none => (none, m)
  | some l =>
    if (KMap.get l.loaded l.head).isSome then (none, m.readAhead e n 4 (l.head + 1))
    else match (m.trigRoom (collTile l.coll)).loadEntry e n l.head with
      | (some f, m1) => (some f, m1)
      | (none, m1) => (none, m1.readAhead e n 4 (l.head + 1))

/-- Meaning of TRIG_LIST (R376, R378, R379, R346). -/
def execTrigList (id : Nat) (e : Env) (s : State) : Res :=
  s.run fun m =>
    let m := (m.at e).needOp e id
    match m.startable id 0x22 with
    | none => m
    | some (o, q) =>
      let va := wqeField o.wqe 0x10 8
      let count := wqeField o.wqe 0x18 4
      let x := wqeField o.wqe 0x1C 2
      let t := collTile x
      let m := (m.opStart id o).collCr e x
      match m.collFor x q with
      | none => m.opDone id stCollContext 0 0 0 0
      | some _ =>
        if va % 128 ≠ 0 then m.opDone id stCollInvalid 0 0 0 0
        else if count = 0 then m.opDone id stSuccess 0 0 0 0
        else if 8192 ≤ m.get (F.collUseLists t) || 131072 < m.get (F.collUseEntries t) + count then
          m.opDone id stCollNoSpace 0 0 0 0
        else
          let n := m.cl.nextList
          let l : TrigList := { wq := o.wq, coll := x, va := va, count := count, head := 0, loaded := [], live := [] }
          let m1 := ({ m with cl := { m.cl with lists := KMap.put m.cl.lists n l, nextList := n + 1 } }).collUse t
          match m1.loadHead e n with
          | (some f, m2) =>
            (({ m2 with cl := { m2.cl with lists := KMap.erase m2.cl.lists n } }).collUse t).opFail e id stLocalFault 0 0 0 f.detail
          | (none, m2) => m2.opDone id stSuccess 0 0 0 0

/-- Whether a list's head entry fires (R380, R381): its counter or fabric time has come, its fence is satisfied, and a
holding-pool entry is free. -/
def Module.fires (m : Module) (l : TrigList) (ent : List Word) : Bool :=
  let g (i hi lo : Nat) := bits ((ent[i]?).getD 0) hi lo
  let met :=
    if g 8 16 16 = 1 then decide (g 9 63 0 ≤ m.fabricNow)
    else match m.coll l.coll with
      | none => false
      | some c => decide (g 8 15 0 < c.ctrCount) && decide (g 9 63 0 ≤ m.ctr (c.ctrBase + g 8 15 0))
  met && (!wqeFence ent || l.live.isEmpty) && decide (m.q.pool < 16384)

/-- A list's head entry fires (R380, R381): it becomes an operation of the list's WQ, and the next entry is loaded. -/
def Module.fire (m : Module) (e : Env) (n : Nat) (l : TrigList) (ent : List Word) : Module :=
  let id := m.q.nextOp
  let o : Op := { wq := l.wq, idx := 0, wqe := ent.take 8, started := false, 
                  trig := some { list := n, coll := l.coll, inst := ((m.coll l.coll).map (·.inst)).getD 0,
                                 done := bits ((ent[10]?).getD 0) 15 0 },
                  silent := false, finished := false, dead := false }
  let m := ({ m with q := { m.q with ops := KMap.put m.q.ops id o, nextOp := id + 1 } }).poolTake 1
  let l1 : TrigList := { l with head := l.head + 1, loaded := KMap.erase l.loaded l.head, live := l.live ++ [id] }
  let m := { m with cl := { m.cl with lists := KMap.put m.cl.lists n l1 } }
  let m := (m.collUse (collTile l.coll)).count (pgColl (collTile l.coll)) 5
  let m := m.sampleDraw id o (wqeOpcode o.wqe) (wqeTag o.wqe)
  if l1.head < l.count then
    match m.loadHead e n with
    | (some _, m1) => m1.dropLists (fun k _ => k = n)
    | (none, m1) => m1
  else m

/-- Meaning of TRIGGER_FIRE (R378, R380–R382, R387, R388, R727). -/
def execTriggerFire (n : Nat) (e : Env) (s : State) : Res :=
  s.run fun m =>
    let m := m.at e
    match KMap.get m.cl.lists n with
    | none => m
    | some l =>
      match KMap.get l.loaded l.head with
      | none => m
      | some ent => if m.fires l ent then m.fire e n l ent else m

/-! ## Arriving packets -/

/-- The context that a collective packet names does all it can. -/
def Module.collAfter (m : Module) (e : Env) (p : Opened) : Module := m.collRun e (extBE p 0 2) collFuel

/-- Meaning of UP (R335, R348, R351, R352, R357, R359–R370, R389–R392). -/
def execUp (k : Nat) (e : Env) (s : State) : Res :=
  s.arriving k wUp e fun m p => (m.rxPacket e p (fun m _ => m.upEngine p)).collAfter e p

/-- Meaning of DOWN (R338–R342, R353, R354, R356–R358, R391, R392). -/
def execDown (k : Nat) (e : Env) (s : State) : Res :=
  s.arrivingRaw k wDown e fun m q =>
    if q.mcast then (m.mcEngine q).collRun e q.msn collFuel
    else
      let p := m.view q
      (m.rxPacket e p (fun m _ => m.downEngine p)).collAfter e p

/-- Meaning of DOWN_ACK (R353, R391). -/
def execDownAck (k : Nat) (e : Env) (s : State) : Res :=
  s.arriving k wDownAck e fun m p => (m.rxPacket e p (fun m _ => m.downAckEngine p)).collAfter e p

/-- Meaning of REPAIR (R355, R391). -/
def execRepair (k : Nat) (e : Env) (s : State) : Res :=
  s.arriving k wRepair e fun m p => (m.rxPacket e p (fun m _ => m.repairEngine p)).collAfter e p

/-- Meaning of ABORT (R335, R336, R390). -/
def execAbort (k : Nat) (e : Env) (s : State) : Res :=
  s.arriving k wAbort e fun m p => m.rxPacket e p (fun m _ => m.abortEngine e p)

/-- Meaning of DOWN_RETAIN_TIMEOUT (R355): the segments that a child has not acknowledged for the rto of the connection go to it
again. -/
def execDownRetainTimeout (x child : Nat) (e : Env) (s : State) : Res :=
  s.run fun m =>
    let m := m.at e
    match m.coll x with
    | none => m
    | some c =>
      match c.children[child]? with
      | none => m
      | some (fa, _) =>
        let rto := match m.connOf fa c.nd with
          | none => m.rtoInit
          | some k => k.rto
        let late (r : Retained) : Bool := r.waiting.any (fun w => decide (w.1 = child) && decide (w.2 + rto ≤ m.now))
        if c.state ≠ .active then m
        else (c.kept.filter late).foldl (fun m r => m.sendAgain x child r) m

end Sys2Proof.Machine
end

