-- ==== Sys2Proof/Machine/StoreEngine.lean ====
section
/-! DEFINITION. The checkpoint store at work (R570–R615): staging, placement, programs, the journal, commits, blocks and dies. -/

namespace Sys2Proof.Machine

/-- Store statuses (R577). -/
def stStoreNoObject : Nat := 0x40
def stStoreState : Nat := 0x41
def stStoreBounds : Nat := 0x42
def stStoreNoSpace : Nat := 0x43
def stStoreMedia : Nat := 0x44
def stStoreStopped : Nat := 0x45

/-- Bytes of a stripe unit. -/
def unitBytes : Nat := 65536

/-- Stripe units that staging holds. -/
def stagingUnits : Nat := 512

/-- Dies of the module (R570). -/
def Module.dies (m : Module) : Nat :=
  match m.fuses.variant with
  | 0 => 0
  | 1 => 64
  | _ => 128

/-- Whether the module has no store (R3). -/
def Module.noStore (m : Module) : Bool := decide (m.dies = 0)

/-- Whether the store is in RUN (R613). -/
def Module.storeRuns (m : Module) : Bool := decide (m.st.state = .run)

/-- The module with its store changed. -/
def Module.onStore (m : Module) (f : Store → Store) : Module := { m with st := f m.st }

/-- A live object. -/
def Module.obj (m : Module) (id : Nat) : Option Obj := KMap.get m.st.objs id

/-- The object that an ID named when its number was `inc`, live or with its deletion not yet journaled. -/
def Module.objOf (m : Module) (id inc : Nat) : Option Obj :=
  match m.obj id with
  | none => none
  | some o => if o.inc = inc then some o else none

/-- The module with an object set. -/
def Module.setObj (m : Module) (id : Nat) (o : Obj) : Module :=
  m.onStore fun s => { s with objs := KMap.put s.objs id o }

/-- The module with an object changed, where it is still the one meant. -/
def Module.onObj (m : Module) (id inc : Nat) (f : Obj → Obj) : Module :=
  match m.objOf id inc with
  | none => m
  | some o => m.setObj id (f o)

/-! ## Registers -/

/-- Space in TLC units: reserved and not used, and what is neither reserved nor used (R593). -/
def Module.storeReserved (m : Module) : Nat := (m.st.objs.map (fun p => p.2.reserved)).sum
def Module.storeFree (m : Module) : Nat :=
  Config.storeUnits m.fuses.variant - m.storeReserved - (m.st.blocks.map (fun p => p.2.cost)).sum

/-- The status registers of the store show its state. -/
def Module.storeShow (m : Module) : Module :=
  let bad := m.st.absent.map (·.1)
  let m := m.put F.storeStsState m.st.state.code
  let m := m.putFlag F.storeStsRebuilding (!m.st.rebuilding.isEmpty)
  let m := m.putFlag F.storeStsDegraded (!bad.isEmpty)
  let m := m.put F.storeStsDies (m.dies - bad.length)
  let m := m.put F.storeStsObjects m.st.objs.length
  let m := m.put F.storeSpaceReserved (m.storeReserved / 16384)
  let m := m.put F.storeSpaceFree (m.storeFree / 16384)
  (List.range 2).foldl (fun m k =>
    m.put (F.storeAbsentDie k) ((bad.filter (fun d => d / 64 = k)).foldl (fun a d => a + 2 ^ (d % 64)) 0)) m

/-- The targets of every channel that answer (STCH.BUS.present). -/
def Module.storeTargets (m : Module) : Module :=
  (List.range 16).foldl (fun m c =>
    m.put (F.stchBusPresent c) (((List.range (m.dies / 16)).filter (fun t =>
      !m.st.absent.any (fun p => p.1 = 16 * t + c))).foldl (fun a t => a + 2 ^ t) 0)) m

/-- STORE.WEAR shows the wear of the good blocks (R598, R599); blocks not listed have none. -/
def Module.storeWear (m : Module) : Module :=
  let good := (m.st.blocks.filter (fun p => !p.2.bad)).map (fun p => p.2.wear)
  let all := m.dies * Config.dieBlocks - (m.st.blocks.filter (fun p => p.2.bad)).length
  let m := m.put F.storeWearMax (good.foldl max 0)
  let m := m.put F.storeWearMin (if good.length < all then 0 else good.foldl min (good.foldl max 0))
  m.put F.storeWearLife (good.sum * 1000 / (all * 30000))

/-! ## Placement -/

/-- The start channel of an object: the XOR of the sixteen digits of its ID (R590). -/
def startChannel (id : Nat) : Nat := (List.range 16).foldl (fun a i => a ^^^ (id / 16 ^ i % 16)) 0

/-- The channel of a data unit, and of the parity unit of a group (R590). -/
def unitChannel (id u : Nat) : Nat := (startChannel id + u / 15 + 1 + u % 15) % 16
def parityChannel (id g : Nat) : Nat := (startChannel id + g) % 16

/-- The die and the channel of a block. -/
def blkDie (blk : Nat) : Nat := blk / 2 ^ 24
def blkChannel (blk : Nat) : Nat := blkDie blk % 16

/-- What the store knows of a block. -/
def Module.block (m : Module) (blk : Nat) : Block := KMap.getD m.st.blocks blk Block.fresh

/-- The module with a block set. -/
def Module.setBlock (m : Module) (blk : Nat) (b : Block) : Module :=
  m.onStore fun s => { s with blocks := KMap.put s.blocks blk b }

/-- Whether a die is fitted and not absent. -/
def Module.dieUp (m : Module) (d : Nat) : Bool := decide (d < m.dies) && !m.st.absent.any (fun p => p.1 = d)

/-- Whether some channel has no usable die (R606). -/
def Module.channelDead (m : Module) : Bool :=
  (List.range 16).any (fun c => !(List.range (m.dies / 16)).any (fun t => m.dieUp (16 * t + c)))

/-- Whether every block of a die is listed: none of it is fresh. -/
def Module.dieListed (m : Module) (d : Nat) : Bool :=
  decide (Config.dieBlocks ≤ (m.st.blocks.filter (fun p => blkDie p.1 = d)).length)

/-- Whether a block may be allocated on a channel (R598): good, free, on a usable die of it, and none there is free with less
wear, listed or fresh. -/
def Module.mayAllocate (m : Module) (ch blk : Nat) : Bool :=
  let fits (k : Nat) (b : Block) : Bool := blkChannel k = ch && m.dieUp (blkDie k) && !b.used && !b.bad
  fits blk (m.block blk) && !m.st.blocks.any (fun p => fits p.1 p.2 && decide (p.2.wear < (m.block blk).wear)) &&
  (decide ((m.block blk).wear = 0) ||
    (List.range (m.dies / 16)).all (fun t => !m.dieUp (16 * t + ch) || m.dieListed (16 * t + ch)))

/-- Whether a program of a channel and mode may go to a block: the one it programs, or one it may allocate. -/
def Module.mayProgram (m : Module) (ch : Nat) (tlc : Bool) (blk : Nat) : Bool :=
  (decide (KMap.get m.st.current (2 * ch + b2n tlc) = some blk) && m.dieUp (blkDie blk) && !(m.block blk).bad) ||
  m.mayAllocate ch blk

/-- A block takes data: it is the one that its channel programs in the mode. -/
def Module.blockTakes (m : Module) (blk : Nat) (tlc : Bool) (cost : Nat) : Module :=
  let b := m.block blk
  let b1 : Block := if b.used then { b with cost := b.cost + cost }
    else { b with used := true, tlc := tlc, cost := cost, reads := 0, offset := 0, refresh := false, late := false }
  (m.setBlock blk b1).onStore fun s => { s with current := KMap.put s.current (2 * blkChannel blk + b2n tlc) blk }

/-- The TLC units that a data unit of an object takes (R593). -/
def Obj.cost (o : Obj) : Nat := if o.tlc then 1 else 3

/-- Data units and parity units of an object on blocks that a test selects, data unit u as 2u, the parity of group g as
2g + 1. -/
def Obj.slotsOn (o : Obj) (p : Nat → Bool) : List Nat :=
  ((o.placed.filter (fun k => p k.2)).map (fun k => 2 * k.1)) ++ ((o.parity.filter (fun k => p k.2)).map (fun k => 2 * k.1 + 1))

/-- Whether a unit of an object, programmed or as of its last commit, lies on a block that a test selects. -/
def Obj.anyOn (o : Obj) (p : Nat → Bool) : Bool :=
  [o.placed, o.parity, o.comPlaced, o.comParity].any (fun l => l.any (fun k => p k.2))

/-- Every unit that a test on its slot and block selects lies on another block: data unit u as 2u, the parity of group g as
2g + 1. -/
def Obj.relay (o : Obj) (p : Nat → Nat → Bool) (dst : Nat) : Obj :=
  let data (l : List (Nat × Nat)) := l.map (fun k => if p (2 * k.1) k.2 then (k.1, dst) else k)
  let par (l : List (Nat × Nat)) := l.map (fun k => if p (2 * k.1 + 1) k.2 then (k.1, dst) else k)
  { o with placed := data o.placed, parity := par o.parity, comPlaced := data o.comPlaced, comParity := par o.comParity }

/-- An object's units on blocks that a test selects lie on another block. -/
def Obj.move (o : Obj) (p : Nat → Bool) (dst : Nat) : Obj := o.relay (fun _ b => p b) dst

/-- Whether a block holds a live unit, or a program for it is under way. -/
def Module.blockLive (m : Module) (blk : Nat) : Bool :=
  m.st.objs.any (fun p => p.2.anyOn (· = blk)) ||
  m.st.progs.any (fun g => match g with
    | .data _ _ b _ => b = blk
    | .parity _ _ b _ => b = blk
    | .record _ => false)

/-- Live data of the blocks that a test selects moves to another block of its channel (R595, R599, R601, R604). -/
def Module.moveLive (m : Module) (p : Nat → Bool) (tlc : Bool) (dst : Nat) : Module :=
  let moved := m.st.objs.map (fun k => (k.2.placed.filter (fun q => p q.2)).length * k.2.cost)
  let m1 := m.onStore fun s => { s with objs := s.objs.map (fun k => (k.1, k.2.move p dst)) }
  if m.st.objs.any (fun k => k.2.anyOn p) then m1.blockTakes dst tlc moved.sum else m1

/-! ## The journal -/

/-- A journal record's program starts (R608). -/
def Module.record (m : Module) (r : JRec) : Module := m.onStore fun s => { s with progs := s.progs ++ [.record r] }

/-- A block is retired (R601): it is a grown defect, recorded and journaled; its live data has been moved. -/
def Module.retireBlock (m : Module) (blk cause dst : Nat) : Module :=
  let m := m.moveLive (· = blk) (m.block blk).tlc dst
  let m := m.setBlock blk { m.block blk with bad := true, used := false, refresh := false }
  let m := m.onStore fun s => { s with current := s.current.filter (fun k => k.2 ≠ blk) }
  let m :=
    if m.flag F.storeGdlogValid then m.put F.storeGdlogOverrun 1
    else
      let m := m.put F.storeGdlogValid 1
      let m := m.put F.storeGdlogCause cause
      let m := m.put F.storeGdlogDie (blkDie blk)
      m.put F.storeGdlogBlock (blk % 2 ^ 24)
  let m := (m.record (.retired blk)).raise pgStore Ev.grownDefect
  let defects := (m.st.blocks.filter (fun p => p.2.bad && blkDie p.1 = blkDie blk)).length
  if (Config.dieSpares - defects) * 50 < Config.dieBlocks then m.raise pgStore Ev.spareLow else m

/-! ## Staging -/

/-- A range joins a list of disjoint ranges in rising order; ranges that touch become one. -/
def addRange : List (Nat × Nat) → Nat → Nat → List (Nat × Nat)
  | [], lo, hi => [(lo, hi)]
  | (a, b) :: l, lo, hi =>
    if hi < a then (lo, hi) :: (a, b) :: l
    else if b < lo then (a, b) :: addRange l lo hi
    else addRange l (min a lo) (max b hi)

/-- Whether every byte of a staged unit is there (R591). -/
def Staged.whole (u : Staged) : Bool := u.ranges = [(0, unitBytes)]

/-- Units in staging, those being programmed among them. -/
def Module.stagedUnits (m : Module) : Nat :=
  m.st.staged.length + (m.st.progs.map (fun g => match g with
    | .data _ _ _ us => us.length
    | _ => 0)).sum

/-- Whether an object's unit is programmed, or its program is under way. -/
def Module.unitDone (m : Module) (id inc u : Nat) (o : Obj) : Bool :=
  (KMap.get o.placed u).isSome || m.st.progs.any (fun g => match g with
    | .data i n _ us => i = id && n = inc && us.any (fun s => s.u = u)
    | _ => false)

/-- The units that bytes at an offset touch. -/
def unitsOf (off n : Nat) : List Nat :=
  if n = 0 then [] else rangeFrom (off / unitBytes) ((off + n - 1) / unitBytes + 1 - off / unitBytes)

/-- Whether staging has room for bytes of an object. -/
def Module.stageRoom (m : Module) (id inc off n : Nat) : Bool :=
  decide (m.stagedUnits + ((unitsOf off n).filter (fun u =>
    !m.st.staged.any (fun s => s.id = id && s.inc = inc && s.u = u))).length ≤ stagingUnits)

/-- Why a write to an object's bytes must fail for want of space: no usable die on a channel (R606), or a merge without free
space (R593). -/
def Module.stageSpace (m : Module) (id off n : Nat) (o : Obj) : Bool :=
  let merges := (unitsOf off n).filter (fun u => m.unitDone id o.inc u o && !m.st.staged.any (fun s =>
    s.id = id && s.inc = o.inc && s.u = u))
  !m.channelDead && (merges.isEmpty || decide (merges.length * o.cost ≤ m.storeFree))

/-- Whether a data unit lies within an object's capacity. -/
def Obj.hasUnit (o : Obj) (u : Nat) : Bool := decide (u * unitBytes < o.capacity)

/-- One unit takes the part of some bytes that lies in it (R592): a unit already programmed is read back and merged. Bytes beyond the
capacity need not come (log 153). -/
def Module.stageUnit (m : Module) (id off n : Nat) (o : Obj) (u : Nat) : Module :=
  let lo := max off (u * unitBytes) - u * unitBytes
  let hi := if o.capacity ≤ off + n then unitBytes else min (off + n) ((u + 1) * unitBytes) - u * unitBytes
  match m.st.staged.find? (fun s => s.id = id && s.inc = o.inc && s.u = u) with
  | some s =>
    let s1 := { s with ranges := addRange s.ranges lo hi, lastWrite := m.now }
    m.onStore fun t => { t with staged := t.staged.map (fun q => if q = s then s1 else q) }
  | none =>
    let merge := m.unitDone id o.inc u o
    let s : Staged := { id := id, inc := o.inc, u := u, ranges := if merge then [(0, unitBytes)] else [(lo, hi)],
                        lastWrite := m.now, due := false }
    let m := m.onStore fun t => { t with staged := t.staged ++ [s] }
    if merge then m.count pgStore 3 else m

/-- Partial units become due, the ones written longest ago first, while staging is past its watermark (R592). -/
def Module.stageDrain (m : Module) : Nat → Module
  | 0 => m
  | fuel + 1 =>
    let waiting := m.st.staged.filter (fun s => !s.due && !s.whole)
    if (m.stagedUnits - (m.st.staged.length - waiting.length)) * 100 ≤ stagingUnits * m.get F.storeCfgStageHi then m
    else match minBy (fun s => s.lastWrite) waiting with
      | none => m
      | some s =>
        (m.onStore fun t => { t with staged := t.staged.map (fun q => if q = s then { q with due := true } else q) }).stageDrain fuel

/-- Bytes of an object are staged (R574, R575). -/
def Module.stageBytes (m : Module) (id off : Nat) (bs : List Byte) : Module :=
  match m.obj id with
  | none => m
  | some o =>
    if bs.isEmpty then m
    else
      let data := (List.range bs.length).foldl (fun d i => Sparse.write (fun _ => 0) d (off + i) (bs.getD i 0)) o.data
      let m := m.onStore fun t => { t with clean := false }
      let m := m.setObj id { o with data := data, length := max o.length (off + bs.length) }
      let m := (unitsOf off bs.length).foldl (fun m u => m.stageUnit id off bs.length o u) m
      (m.countUp pgStore 0 bs.length).stageDrain stagingUnits

/-- `n` bytes of an object (R574). -/
def Obj.bytes (o : Obj) (off n : Nat) : List Byte := (List.range n).map (fun i => Sparse.read (fun _ => 0) o.data (off + i))

/-- The checks that a write of an object meets (R586): object, state, range, store. -/
def Module.putChecks (m : Module) (id off n : Nat) : Option (Nat × Nat) :=
  if m.noStore then some (stStoreAbsent, 0)
  else match m.obj id with
    | none => some (stStoreNoObject, 0)
    | some o =>
      if o.state ≠ .opened || o.sealing then some (stStoreState, 0)
      else if o.capacity < off + n then some (stStoreBounds, 0)
      else if !m.storeRuns then some (stStoreStopped, 0)
      else none

/-- Whether a write that passed its checks fails for want of space; a failure for want of a usable die is counted (R606). -/
def Module.spaceFails (m : Module) (id off n : Nat) : Bool × Module :=
  match m.obj id with
  | none => (false, m)
  | some o =>
    if n = 0 || m.stageSpace id off n o then (false, m)
    else (true, if m.channelDead then m.onStore (fun s => { s with noDie := s.noDie + 1 }) else m)

/-! ## Commits -/

/-- The groups of some units. -/
def groupsOf (us : List Nat) : List Nat := (us.map (· / 15)).eraseDups

/-- A commit starts (R580): its units become due, with the parity of their groups. -/
def Module.commitStart (m : Module) (id : Nat) (o : Obj) (who : Committer) (seals : Bool) : Module :=
  let mine (s : Staged) : Bool := s.id = id && s.inc = o.inc
  let flying := m.st.progs.flatMap (fun g => match g with
    | .data i n _ us => if i = id && n = o.inc then us.map (·.u) else []
    | _ => [])
  let units := ((m.st.staged.filter mine).map (·.u) ++ flying).eraseDups
  let groups := (groupsOf units ++ o.stale).eraseDups
  let c : Commit := { n := m.st.nextCommit, id := id, inc := o.inc, who := who, seals := seals, length := o.length, data := o.data,
                      units := units, groups := groups, issued := false, durable := false }
  let m := m.setObj id { o with sealing := o.sealing || seals, parDue := (o.parDue ++ groups).eraseDups }
  m.onStore fun s => { s with commits := s.commits ++ [c], nextCommit := s.nextCommit + 1,
                              staged := s.staged.map (fun q => if mine q then { q with due := true } else q) }

/-- Commits whose data and parity are programmed have their record programmed (R580, R608). -/
def Module.commitIssue (m : Module) : Module :=
  let ready := m.st.commits.filter (fun c => !c.issued && c.units.isEmpty && c.groups.isEmpty)
  ready.foldl (fun m c =>
    (m.onStore fun s => { s with commits := s.commits.map (fun q => if q.n = c.n then { q with issued := true } else q) }).record
      (.committed c.n)) m

/-- A commit's answer goes out: an admin completion, a STORE_SYNC's completion, or a response (R580, R588, R589). -/
def Module.commitAnswer (m : Module) (who : Committer) (length : Nat) : Module :=
  match who with
  | .admin => m.adminOk length
  | .op id => m.opDone id stSuccess length 0 m.fa 0
  | .remote cid msn tc =>
    m.queueMsg cid { Msg.new .syncRsp wSyncRsp tc 8 (.inline (leBytes 8 length)) with xdata := msn, ref := msn }
  | .stop => m

/-- A store that is to stop (R610): once nothing is staged or under way, every OPEN object whose contents no commit covers is
committed again; where there is none the clean-stop record is programmed. -/
def Module.stopIssue (m : Module) : Module :=
  if m.st.stopping && m.st.state = .run && m.st.staged.isEmpty && m.st.progs.isEmpty && m.st.commits.isEmpty && !m.st.clean then
    let dirty := m.st.objs.filter (fun p => p.2.state = .opened && p.2.committed ≠ some (p.2.length, p.2.data))
    if dirty.isEmpty then m.record .cleanStop
    else (dirty.foldl (fun m p => m.commitStart p.1 p.2 .stop false) m).commitIssue
  else m

/-! ## Feeds -/

/-- Bytes to read next for a feed: up to the end of a page of the source and of a unit of the object. -/
def Feed.piece (f : Feed) : Nat :=
  min (f.len - f.done) (min (4096 - (f.va + f.done) % 4096) (unitBytes - (f.off + f.done) % unitBytes))

/-- A feed ends (R579, R587). -/
def Module.feedEnd (m : Module) (e : Env) (f : Feed) (fault : Option XFault) (status : Nat) : Module :=
  let m := m.onStore fun s => { s with feeds := s.feeds.filter (fun g => g.op ≠ f.op) }
  match f.op, fault with
  | none, some _ => m.adminEnd stAdminInvalid f.done 0x18
  | none, none => if status = 0 then m.adminOk f.off else m.adminEnd status f.done 0
  | some id, some x => m.opFail e id stLocalFault f.done 0 m.fa x.detail
  | some id, none => m.opDone id status f.done 0 m.fa 0

/-- One step of a feed: its next piece is read and staged, or it ends; none where staging has no room. -/
def Module.feedStep (m : Module) (e : Env) (f : Feed) : Option Module :=
  if f.len ≤ f.done then some (m.feedEnd e f none 0)
  else
    let n := f.piece
    let live := (m.objOf f.id f.inc).isSome
    if live && !m.stageRoom f.id f.inc (f.off + f.done) n then none
    else
      let (bad, m1) := if live then m.spaceFails f.id (f.off + f.done) n else (false, m)
      if bad then some (m1.feedEnd e f none stStoreNoSpace)
      else
        let r : XReq := { asid := f.asid, va := (f.va + f.done) % 2 ^ 64, acc := .localRead, user := f.user, allowSe := true,
                          engine := 9, source := 6, object := 0 }
        match m1.readVirt e f.link r n with
        | (.error (x, _), m2) => some (m2.feedEnd e f (some x) 0)
        | (.ok bs, m2) =>
          let m2 := m2.stageOf f.op 2
          let m3 := if live then m2.stageBytes f.id (f.off + f.done) bs else m2
          some (m3.onStore fun s => { s with feeds := s.feeds.map (fun g => if g.op = f.op then { g with done := g.done + n } else g) })

/-- The feeds go on as far as staging has room. -/
def Module.feedRun (m : Module) (e : Env) : Nat → Module
  | 0 => m
  | fuel + 1 =>
    match m.st.feeds with
    | [] => m
    | f :: _ =>
      match m.feedStep e f with
      | none => m
      | some m1 => m1.feedRun e fuel

/-- The bound on the pieces that feeds stage in one command. -/
def feedFuel : Nat := 2 ^ 40

/-! ## Programs -/

/-- The data unit of a group that lies on a channel, if it is not the group's parity that lies there (R590). -/
def channelUnit (id ch g : Nat) : Option Nat :=
  let k := (ch + 32 - startChannel id - g % 16) % 16
  if k = 0 then none else some (15 * g + k - 1)

/-- The data units of the program unit that a unit belongs to (R591): itself in pSLC mode, those of three groups on one channel
in TLC mode. -/
def programUnit (id u : Nat) (tlc : Bool) : List Nat :=
  if tlc then
    let j := u / 15 / 3
    [3 * j, 3 * j + 1, 3 * j + 2].filterMap (channelUnit id (unitChannel id u))
  else [u]

/-- Whether a data unit may be programmed now (R591, R592): staged, and due, or whole in a program unit that is complete. -/
def Module.unitReady (m : Module) (id : Nat) (o : Obj) (u : Nat) : Bool :=
  let find (v : Nat) := m.st.staged.find? (fun s => s.id = id && s.inc = o.inc && s.u = v)
  match find u with
  | none => false
  | some s => s.due || m.st.stopping || (s.whole && (programUnit id u o.tlc).all (fun v => match find v with
      | some t => t.whole || t.due
      | none => m.unitDone id o.inc v o || !o.hasUnit v))

/-- Whether a group's parity unit may be programmed now (R591, R592): it does not cover what is programmed, no unit of the group is
under way, and the group is whole or its parity is due. -/
def Module.parityReady (m : Module) (id : Nat) (o : Obj) (g : Nat) : Bool :=
  o.stale.contains g &&
  !m.st.progs.any (fun p => match p with
    | .data i n _ us => i = id && n = o.inc && us.any (fun s => s.u / 15 = g)
    | .parity i n _ h => i = id && n = o.inc && h = g
    | .record _ => false) &&
  !m.st.staged.any (fun s => s.id = id && s.inc = o.inc && s.u / 15 = g && s.due) &&
  (o.parDue.contains g || (List.range 15).all (fun k => (KMap.get o.placed (15 * g + k)).isSome || !o.hasUnit (15 * g + k)))

/-- A data unit's program starts, with the units it shares its program with. -/
def Module.programData (m : Module) (id : Nat) (o : Obj) (u blk : Nat) : Module :=
  let us := programUnit id u o.tlc
  let mine (s : Staged) : Bool := s.id = id && s.inc = o.inc && us.contains s.u && (s.whole || s.due || m.st.stopping)
  let batch := m.st.staged.filter mine
  let m := m.onStore fun s => { s with staged := s.staged.filter (fun q => !mine q), progs := s.progs ++ [.data id o.inc blk batch] }
  (m.blockTakes blk o.tlc 0).count (pgStch (blkChannel blk)) 0

/-- A parity unit's program starts. -/
def Module.programParity (m : Module) (id : Nat) (o : Obj) (g blk : Nat) : Module :=
  let m := m.onStore fun s => { s with progs := s.progs ++ [.parity id o.inc blk g] }
  (m.blockTakes blk o.tlc 0).count (pgStch (blkChannel blk)) 0

/-- A data unit's program has succeeded (R592, R593, R608): the unit lies on its block, an older copy is superseded, and its
reservation is drawn on. -/
def Module.unitPlaced (m : Module) (id inc blk : Nat) (s : Staged) : Module :=
  match m.objOf id inc with
  | none => m
  | some o =>
    let g := s.u / 15
    let old := KMap.get o.placed s.u
    let o1 := { o with placed := KMap.put o.placed s.u blk, reserved := if old.isNone then o.reserved - o.cost else o.reserved,
                       stale := addNum o.stale g, parDue := if s.whole && old.isNone then o.parDue else addNum o.parDue g,
                       lost := o.lost.filter (· ≠ 2 * s.u) }
    let m := (m.setObj id o1).blockTakes blk o.tlc o.cost
    let m := (m.record (.unit id inc (2 * s.u) blk)).countUp pgStore 1 unitBytes
    let m := match old with
      | none => m
      | some b => m.record (.superseded id inc (2 * s.u) b)
    m.onStore fun t => { t with commits := t.commits.map (fun c =>
      if c.id = id && c.inc = inc then { c with units := c.units.filter (· ≠ s.u) } else c) }

/-- A parity unit's program has succeeded. -/
def Module.parityPlaced (m : Module) (id inc blk g : Nat) : Module :=
  match m.objOf id inc with
  | none => m
  | some o =>
    let old := KMap.get o.parity g
    let m := m.setObj id { o with parity := KMap.put o.parity g blk, stale := o.stale.filter (· ≠ g),
                                  parDue := o.parDue.filter (· ≠ g), lost := o.lost.filter (· ≠ 2 * g + 1) }
    let m := (m.record (.unit id inc (2 * g + 1) blk)).countUp pgStore 1 unitBytes
    let m := match old with
      | none => m
      | some b => m.record (.superseded id inc (2 * g + 1) b)
    m.onStore fun t => { t with commits := t.commits.map (fun c =>
      if c.id = id && c.inc = inc && !c.units.any (fun u => u / 15 = g) then { c with groups := c.groups.filter (· ≠ g) } else c) }

/-- A commit is journaled: the object's contents as it covers them, and where they lie. -/
def Obj.commit (o : Obj) (c : Commit) : Obj :=
  { o with committed := some (c.length, c.data), comPlaced := o.placed, comParity := o.parity, sealRec := o.sealRec || c.seals }

/-- A journal record is programmed in both copies (R608): what it records stands, and what waited for it goes on. -/
def Module.recorded (m : Module) (r : JRec) : Module :=
  match r with
  | .created id inc =>
    let m := m.onObj id inc fun o => { o with journaled := true }
    match m.adminIs 0xA0 with
    | none => m
    | some a => if wqeField a.wqe 0x10 8 = id then m.adminOk 0 else m
  | .committed n =>
    match m.st.commits.find? (fun c => c.n = n) with
    | none => m
    | some c =>
      let m := m.onObj c.id c.inc fun o => o.commit c
      m.onStore fun s => { s with commits := s.commits.map (fun q => if q.n = n then { q with durable := true } else q) }
  | .deleted id inc =>
    let len := ((m.st.leaving.find? (fun p => p.1 = id && p.2.inc = inc)).map (fun p => p.2.length)).getD 0
    let m := m.onStore fun s => { s with leaving := s.leaving.filter (fun p => !(p.1 = id && p.2.inc = inc)) }
    match m.adminIs 0xA4 with
    | none => m
    | some a => if wqeField a.wqe 0x10 8 = id then m.adminOk len else m
  | .cleanStop => m.onStore fun s => { s with clean := true, state := .stopped, stopping := false }
  | _ => m

/-! ## Stopping -/

/-- The store is to stop as at Dusk (R610): every staged unit and every OPEN object is committed. -/
def Module.storeDrain (m : Module) : Module :=
  if m.st.state ≠ .run then m
  else
    let m := m.onStore fun s => { s with stopping := true }
    let m := (m.st.objs.filter (fun p => p.2.state = .opened)).foldl (fun m p => m.commitStart p.1 p.2 .stop false) m
    m.commitIssue.stopIssue

/-- What the store still owes is given up (R609): staging, commits, feeds and the read in progress. -/
def Module.storeDiscard (m : Module) : Module :=
  m.onStore fun s => { s with staged := [], progs := [], commits := [], feeds := [], reading := none, stopping := false }

/-- The store finishes on hold-up energy (R609): programs already issued end, pending records are programmed, the rest is
discarded. -/
def Module.storeFinish (m : Module) (journal : Bool) : Module :=
  let progs := m.st.progs
  let m := m.onStore fun s => { s with progs := [] }
  let m := progs.foldl (fun m g => match g with
    | .data id inc blk us => us.foldl (fun m s => m.unitPlaced id inc blk s) m
    | .parity id inc blk h => m.parityPlaced id inc blk h
    | .record _ => m) m
  let recs := m.st.progs ++ progs
  let m := m.onStore fun s => { s with state := .off, commits := s.commits }
  let m := if journal then recs.foldl (fun m g => match g with
    | .record (.created id inc) => m.onObj id inc fun o => { o with journaled := true }
    | .record (.deleted id inc) => m.onStore fun s => { s with leaving := s.leaving.filter (fun p => !(p.1 = id && p.2.inc = inc)) }
    | .record (.committed n) => match m.st.commits.find? (fun c => c.n = n) with
      | none => m
      | some c => m.onObj c.id c.inc fun o => o.commit c
    | _ => m) m else m
  m.storeDiscard

end Sys2Proof.Machine
end

