-- ==== Sys2Proof/Machine/Storage.lean ====
section
/-! DEFINITION. The checkpoint store: the commands (R570–R615). -/

namespace Sys2Proof.Machine

/-! ## Admin commands -/

/-- A store admin command runs `ok` where the module has a store and the store is in RUN (R3, R613). -/
def Module.storeGate (m : Module) (ok : Module → Module) : Module :=
  if m.noStore then m.adminEnd stStoreAbsent 0 0
  else if !m.storeRuns then m.adminEnd stStoreStopped 0 0
  else ok m

/-- A store admin command on a live object. -/
def Module.storeOn (m : Module) (id : Nat) (ok : Module → Obj → Module) : Module :=
  match m.obj id with
  | none => m.adminEnd stStoreNoObject 0 0
  | some o => ok m o

/-- The access of a local address of a store command (R161, R183). -/
def storeReq (asid va : Nat) (acc : Acc) : XReq :=
  { asid := asid, va := va % 2 ^ 64, acc := acc, user := false, allowSe := true, engine := 9, source := 6, object := 0 }

/-- Bytes go to a local address of a store admin command, which WQ 0 translates: none, or the offset of a fault. -/
def Module.storeWrite (m : Module) (e : Env) (va : Nat) (bs : List Byte) : Option Nat × Module :=
  match m.wq 0 with
  | none => (some 0, m)
  | some c =>
    match m.writeVirt e c.link (storeReq c.asid va .localWrite) bs with
    | (none, m1) => (none, m1)
    | (some (_, o), m1) => (some o, m1)

/-- Meaning of STORE_CREATE (R3, R572, R573, R576, R578, R584, R593, R613): the command completes when the creation is journaled. -/
def execStoreCreate (e : Env) (s : State) : Res :=
  s.admin 0xA0 e fun m w =>
    m.storeGate fun m =>
      let id := wqeField w 0x10 8
      let cap := wqeField w 0x18 8
      let mode := wqeField w 0x20 1
      let need := ceilDiv (cap * (if mode = 1 then 1 else 3)) unitBytes
      let opened := (m.st.objs.filter (fun p => p.2.state = .opened)).length
      m.checked [(id ≠ 0 && id ≠ 0xFFFFFFFFFFFFFFFF, stAdminInvalid, 0x10), (decide (cap ≤ 2 ^ 44), stAdminInvalid, 0x18),
          (decide (mode ≤ 1), stAdminInvalid, 0x20), ((m.obj id).isNone, stAdminState, 0x10),
          (decide (m.st.objs.length < 1048576) && decide (opened < 16384), stAdminNoResource, 0x10),
          (need = 0 || decide (need ≤ m.storeFree), stStoreNoSpace, 0)] fun m =>
        let o : Obj :=
          { inc := m.st.nextInc, state := .opened, capacity := cap, tlc := mode = 1, damaged := false, length := 0, data := [],
            sealing := false, committed := none, comPlaced := [], comParity := [], sealRec := false, reserved := need, placed := [], parity := [], stale := [], parDue := [], lost := [],
            journaled := false }
        let m := (m.setObj id o).onStore fun s => { s with nextInc := s.nextInc + 1, clean := false }
        (m.record (.created id o.inc)).storeShow

/-- Meaning of STORE_APPEND (R574, R575, R576, R579, R584, R593, R606): the source is staged as far as staging has room, the rest
as programs free it. -/
def execStoreAppend (e : Env) (s : State) : Res :=
  s.admin 0xA1 e fun m w =>
    m.storeGate fun m =>
      m.storeOn (wqeField w 0x10 8) fun m o =>
        let len := wqeField w 0x20 4
        if o.state ≠ .opened || o.sealing then m.adminEnd stStoreState 0 0
        else if o.capacity < o.length + len then m.adminEnd stStoreBounds 0 0
        else
          match m.wq 0 with
          | none => m
          | some c =>
            let f : Feed := { op := none, id := wqeField w 0x10 8, inc := o.inc, off := o.length, done := 0, len := len,
                              va := wqeField w 0x18 8, asid := c.asid, link := c.link, user := false }
            (m.onStore fun s => { s with feeds := s.feeds ++ [f] }).feedRun e feedFuel

/-- Meaning of STORE_COMMIT (R573, R576, R580, R584, R592): what it covers becomes due; the command completes with
STORE_COMMIT_DONE, and at once for an object that is not OPEN. -/
def execStoreCommit (e : Env) (s : State) : Res :=
  s.admin 0xA2 e fun m w =>
    m.storeGate fun m =>
      let id := wqeField w 0x10 8
      let seals := decide (wqeBits w 0x18 0 0 = 1)
      m.storeOn id fun m o =>
        match o.state with
        | .opened => (m.commitStart id o .admin seals).commitIssue
        | .sealed => m.adminOk o.length
        | .torn => (if seals then m.setObj id { o with state := .sealed } else m).adminOk o.length

/-- Meaning of STORE_COMMIT_DONE (R573, R580, R589, R593): the k-th commit, durable with its record, completes. -/
def execStoreCommitDone (k : Nat) (e : Env) (s : State) : Res :=
  s.run fun m =>
    let m := m.at e
    match m.st.commits[k]? with
    | none => m
    | some c =>
      if !c.durable then m
      else
        let m := m.onStore fun s => { s with commits := s.commits.eraseIdx k }
        let m := if c.seals then m.onObj c.id c.inc fun o => { o with state := .sealed, sealing := false, reserved := 0 } else m
        (m.commitAnswer c.who c.length).stopIssue.storeShow

/-- Whether the bytes of a unit are read from NAND: it is programmed, and no newer copy is in staging. -/
def Module.onNand (m : Module) (id : Nat) (o : Obj) (u : Nat) : Bool :=
  (KMap.get o.placed u).isSome && !m.st.staged.any (fun s => s.id = id && s.inc = o.inc && s.u = u) &&
  !m.st.progs.any (fun g => match g with
    | .data i n _ us => i = id && n = o.inc && us.any (fun s => s.u = u)
    | _ => false)

/-- Bytes that the read in progress takes from one codeword. -/
def Reading.piece (r : Reading) : Nat := min (r.len - r.done) (4096 - (r.off + r.done) % 4096)

/-- The read in progress delivers its next piece (R581): the module, and whether the read goes on. -/
def Module.readDeliver (m : Module) (e : Env) (r : Reading) (o : Obj) : Bool × Module :=
  match m.storeWrite e (r.dst + r.done) (o.bytes (r.off + r.done) r.piece) with
  | (some f, m1) => (false, (m1.onStore fun s => { s with reading := none }).adminEnd stAdminInvalid (r.done + f) 0x20)
  | (none, m1) =>
    (true, (m1.onStore fun s => { s with reading := some { r with done := r.done + r.piece } }).countUp pgStore 2 r.piece)

/-- The read in progress goes on until it needs a codeword, and ends where it has everything (R581). -/
def Module.readRun (m : Module) (e : Env) : Nat → Module
  | 0 => m
  | fuel + 1 =>
    match m.st.reading with
    | none => m
    | some r =>
      match m.objOf r.id r.inc with
      | none => m
      | some o =>
        if r.len ≤ r.done then (m.onStore fun s => { s with reading := none }).adminOk r.len
        else if m.onNand r.id o ((r.off + r.done) / unitBytes) then m
        else match m.readDeliver e r o with
          | (true, m1) => m1.readRun e fuel
          | (false, m1) => m1

/-- The bound on the pieces of a read. -/
def readFuel : Nat := 2 ^ 20 + 4

/-- Meaning of STORE_READ (R576, R581, R584, R129): bytes that need no codeword are copied; each codeword comes with
CODEWORD_READ. -/
def execStoreRead (e : Env) (s : State) : Res :=
  s.admin 0xA3 e fun m w =>
    m.storeGate fun m =>
      let id := wqeField w 0x10 8
      m.storeOn id fun m o =>
        let off := wqeField w 0x18 8
        let len := wqeField w 0x28 4
        if o.length < off + len then m.adminEnd stStoreBounds 0 0
        else
          let r : Reading := { id := id, inc := o.inc, off := off, done := 0, len := len, dst := wqeField w 0x20 8 }
          (m.onStore fun s => { s with reading := some r }).readRun e readFuel

/-- A commit that is given up because its object is deleted is answered with STORE_NO_OBJECT (R582). -/
def Module.commitLost (m : Module) (who : Committer) : Module :=
  match who with
  | .op id => m.opDone id stStoreNoObject 0 0 m.fa 0
  | .remote cid msn tc => m.postResult cid tc stStoreNoObject 0 msn 0
  | _ => m

/-- Meaning of STORE_DELETE (R573, R576, R582, R593): the command completes when the deletion is journaled. -/
def execStoreDelete (e : Env) (s : State) : Res :=
  s.admin 0xA4 e fun m w =>
    m.storeGate fun m =>
      let id := wqeField w 0x10 8
      m.storeOn id fun m o =>
        let mine (c : Commit) : Bool := c.id = id && c.inc = o.inc
        let lost := m.st.commits.filter mine
        let m := m.onStore fun s => { s with
          objs := KMap.erase s.objs id, leaving := s.leaving ++ [(id, o)], clean := false,
          staged := s.staged.filter (fun u => !(u.id = id && u.inc = o.inc)), commits := s.commits.filter (fun c => !mine c) }
        let m := lost.foldl (fun m c => m.commitLost c.who) m
        (m.record (.deleted id o.inc)).storeShow

/-- An object record (R583). -/
def Obj.recordBytes (id : Nat) (o : Obj) : List Byte :=
  let st := match o.state with
    | .opened => 1 | .sealed => 2 | .torn => 3
  let c := ((o.committed.map (·.1)).getD 0) / 4096
  leBytes 8 id ++ leBytes 8 o.length ++ leBytes 8 o.capacity ++ leBytes 4 (st + 4 * b2n o.tlc + 8 * b2n o.damaged) ++ leBytes 4 c

/-- Meaning of STORE_LIST (R576, R583, R584). -/
def execStoreList (e : Env) (s : State) : Res :=
  s.admin 0xA5 e fun m w =>
    m.storeGate fun m =>
      let l := (m.st.objs.filter (fun p => decide (wqeField w 0x10 8 ≤ p.1))).take (wqeField w 0x20 4)
      if l.isEmpty then m.adminOk 0
      else match m.storeWrite e (wqeField w 0x18 8) (l.flatMap (fun p => p.2.recordBytes p.1)) with
        | (some _, m1) => m1.adminEnd stAdminInvalid 0 0x18
        | (none, m1) => m1.adminOk l.length

/-! ## Store-put and STORE_SYNC -/

/-- What the own module checks of a STORE_PUT or STORE_SYNC to its own FA (R587). -/
def Module.ownCheck (m : Module) (e : Env) (nd : Nat) (w : List Word) (want : Want) (extent : Nat) :
    Except (Nat × Nat) Nat × Module :=
  if m.noStore then (.error (stStoreAbsent, 0), m)
  else
    let roff := if want = .sync then 0 else wRoffset w
    match m.accessCheck e nd { want := want, rkey := wRkey w, roffset := roff, extent := extent, sig := none, aop := 0, type := 0 } with
    | (.error f, m1) => (.error f, m1)
    | (.ok (_, g), m1) => (.ok g.objectId, m1)

/-- Meaning of STORE_PUT (R3, R255, R259–R262, R272, R574, R586, R587, R606). -/
def execStorePut (id : Nat) (e : Env) (s : State) : Res :=
  s.run fun m =>
    let m := (m.at e).needOp e id
    match m.startable id 0x05 with
    | none => m
    | some (o, c) =>
      if wqeDest o.wqe ≠ m.fa then
        m.startMsg id o c { Msg.new .storePut wStorePut (wqeTc o.wqe) (wLength o.wqe) (putSrc o c) with ext := putExt o.wqe }
      else
        match (m.opStart id o).ownCheck e c.nd o.wqe .storePut (wLength o.wqe) with
        | (.error (st, d), m1) => m1.opDone id st 0 0 m.fa d
        | (.ok obj, m1) =>
          match m1.putChecks obj (wRoffset o.wqe) (wLength o.wqe), m1.obj obj with
          | some (st, d), _ => m1.opDone id st 0 0 m.fa d
          | none, some t =>
            let f : Feed := { op := some id, id := obj, inc := t.inc, off := wRoffset o.wqe, done := 0, len := wLength o.wqe,
                              va := wLocal o.wqe, asid := c.asid, link := c.link, user := c.user }
            (m1.onStore fun s => { s with feeds := s.feeds ++ [f] }).feedRun e feedFuel
          | none, none => m1

/-- A commit without seal for a STORE_SYNC (R589): started, or the status and detail that end it, or the length at once for an object
that is not OPEN. -/
def Module.syncStart (m : Module) (obj : Nat) (who : Committer) : Except (Nat × Nat) Nat ⊕ Module :=
  match m.obj obj with
  | none => .inl (.error (stStoreNoObject, 0))
  | some t =>
    if !m.storeRuns then .inl (.error (stStoreStopped, 0))
    else if t.state = .opened then .inr (m.commitStart obj t who false).commitIssue
    else .inl (.ok t.length)

/-- Meaning of STORE_SYNC (R3, R587–R589). -/
def execStoreSync (id : Nat) (e : Env) (s : State) : Res :=
  s.run fun m =>
    let m := (m.at e).needOp e id
    match m.startable id 0x06 with
    | none => m
    | some (o, c) =>
      if wqeDest o.wqe ≠ m.fa then
        m.startMsg id o c { Msg.new .syncReq wSyncReq (wqeTc o.wqe) 0 (.inline []) with ext := beBytes 8 (wRkey o.wqe) ++ beBytes 8 0 }
      else
        match (m.opStart id o).ownCheck e c.nd o.wqe .sync 0 with
        | (.error (st, d), m1) => m1.opDone id st 0 0 m.fa d
        | (.ok obj, m1) =>
          match m1.syncStart obj (.op id) with
          | .inl (.error (st, d)) => m1.opDone id st 0 0 m.fa d
          | .inl (.ok n) => m1.opDone id stSuccess n 0 m.fa 0
          | .inr m2 => m2

/-- What an arriving STORE_PUT packet does (R3, R255–R258, R261, R272, R585, R586, R606, R613, R775). -/
def Module.storePutEngine (m : Module) (e : Env) (p : Opened) (cid : Nat) : Verdict × Module :=
  match m.conn cid with
  | none => (.accept, m)
  | some c =>
    let r := c.rxMsg p.msn
    let fail (m : Module) (f : Nat × Nat) : Verdict × Module := (.accept, m.rxCount cid p none 0 (some f))
    if r.failed.isSome || r.aborted.isSome then (.accept, m.rxCount cid p none 0 none)
    else if pAbort p then (.accept, m.rxAbort cid p)
    else if m.noStore then fail m (stStoreAbsent, 0)
    else
      match m.accessCheck e p.nd (putAsk p .storePut) with
      | (.error f, m1) => fail m1 f
      | (.ok (_, g), m1) =>
        let off := pRoffset p + pOff p
        match m1.putChecks g.objectId off (pPlen p) with
        | some f => fail m1 f
        | none =>
          match m1.spaceFails g.objectId off (pPlen p) with
          | (true, m2) => fail m2 (stStoreNoSpace, 0)
          | (false, m2) =>
            let inc := ((m2.obj g.objectId).map (·.inc)).getD 0
            if !m2.stageRoom g.objectId inc off (pPlen p) then (.refuse nkRnrContext, m2.count pgStore 11)
            else (.accept, (m2.stageBytes g.objectId off p.payload).rxCount cid p none (pPlen p) none)

/-- Meaning of STORE_PUT_PACKET (R3, R137, R240, R255, R261, R272, R574, R575, R584–R586, R592, R606, R613, R625). -/
def execStorePutPacket (k : Nat) (e : Env) (s : State) : Res :=
  s.arriving k wStorePut e fun m p => m.rxPacket e p (fun m cid => m.storePutEngine e p cid)

/-- What an arriving STORE_SYNC_REQ does (R3, R263, R588, R589, R613). -/
def Module.syncEngine (m : Module) (e : Env) (p : Opened) (cid : Nat) : Verdict × Module :=
  match m.conn cid with
  | none => (.accept, m)
  | some c =>
    let fail (m : Module) (f : Nat × Nat) : Verdict × Module := (.accept, m.rxCount cid p none 0 (some f))
    if m.noStore then fail m (stStoreAbsent, 0)
    else
      match m.accessCheck e p.nd
          { want := .sync, rkey := pRkey p, roffset := 0, extent := 0, sig := none, aop := 0, type := 0 } with
      | (.error f, m1) => fail m1 f
      | (.ok (_, g), m1) =>
        if !c.canAnswer then (.refuse nkRnrConn, m.openTx cid p.tc)
        else match m1.syncStart g.objectId (.remote cid p.msn p.tc) with
          | .inl (.error f) => fail m1 f
          | .inl (.ok n) => (.accept, m1.commitAnswer (.remote cid p.msn p.tc) n)
          | .inr m2 => (.accept, m2)

/-- Meaning of STORE_SYNC_REQ (R255, R588, R589, R613). -/
def execStoreSyncReq (k : Nat) (e : Env) (s : State) : Res :=
  s.arriving k wSyncReq e fun m p => m.rxPacket e p (fun m cid => m.syncEngine e p cid)

/-! ## Programs, erases and reads -/

/-- What may go on once a program has ended: commits, the stop, feeds, the read in progress. -/
def Module.storeGoOn (m : Module) (e : Env) : Module :=
  (((m.commitIssue.feedRun e feedFuel).readRun e readFuel).stopIssue).storeShow

/-- Meaning of UNIT_PROGRAM (R590–R592, R598): the program of a data unit, or of a group's parity unit, starts on a block. -/
def execUnitProgram (id u : Nat) (parity : Bool) (blk : Nat) (e : Env) (s : State) : Res :=
  s.run fun m =>
    let m := m.at e
    match m.obj id with
    | none => m
    | some o =>
      if !m.storeRuns then m
      else if parity then
        if m.parityReady id o u && m.mayProgram (parityChannel id u) o.tlc blk then m.programParity id o u blk else m
      else if m.unitReady id o u && m.mayProgram (unitChannel id u) o.tlc blk then m.programData id o u blk
      else m

/-- Meaning of UNIT_IDLE (R592): a unit without a write for unit_idle is to be programmed, padded with zeros. -/
def execUnitIdle (id u : Nat) (e : Env) (s : State) : Res :=
  s.run fun m =>
    let m := m.at e
    let late (t : Staged) : Bool := t.id = id && t.u = u && decide (t.lastWrite + m.get F.storeCfgUnitIdle * 1000000 ≤ m.now)
    m.onStore fun s => { s with staged := s.staged.map (fun q => if late q then { q with due := true } else q) }

/-- Whether a block may take what is live on another. -/
def Module.mayMove (m : Module) (blk dst : Nat) : Bool :=
  !m.st.objs.any (fun p => p.2.anyOn (· = blk)) || (dst ≠ blk && m.mayAllocate (blkChannel blk) dst)

/-- Meaning of NAND_PROGRAM_DONE (R591–R593, R601, R602, R608): the k-th program under way ends; a failure retires its block, whose
live data goes to `dst`, and the program is repeated. -/
def execNandProgramDone (k : Nat) (ok : Bool) (dst : Nat) (e : Env) (s : State) : Res :=
  s.run fun m =>
    let m := m.at e
    match m.st.progs[k]? with
    | none => m
    | some g =>
      let out := m.onStore fun s => { s with progs := s.progs.eraseIdx k }
      match g, ok with
      | .record r, true => (out.recorded r).storeGoOn e
      | .record _, false => m
      | .data id inc blk us, true => (us.foldl (fun m u => m.unitPlaced id inc blk u) out).storeGoOn e
      | .parity id inc blk h, true => (out.parityPlaced id inc blk h).storeGoOn e
      | .data id inc blk us, false =>
        if !out.mayMove blk dst then m
        else
          let back := (us.filter (fun u => (out.objOf id inc).isSome && !out.st.staged.any (fun q =>
            q.id = id && q.inc = inc && q.u = u.u))).map (fun u => { u with due := true })
          let m := out.onStore fun s => { s with staged := s.staged ++ back }
          ((m.count (pgStch (blkChannel blk)) 1).retireBlock blk 0 dst).storeShow
      | .parity id inc blk h, false =>
        if !out.mayMove blk dst then m
        else
          let m := out.onObj id inc fun o => { o with stale := addNum o.stale h, parDue := addNum o.parDue h }
          ((m.count (pgStch (blkChannel blk)) 1).retireBlock blk 0 dst).storeShow

/-- The spread of wear over a die's good blocks (R599); blocks not listed have none. -/
def Module.wearSpread (m : Module) (die : Nat) : Nat :=
  let l := (m.st.blocks.filter (fun p => blkDie p.1 = die && !p.2.bad)).map (fun p => p.2.wear)
  let top := l.foldl max 0
  top - (if l.length < Config.dieBlocks then 0 else l.foldl min top)

/-- Levelling (R599): where the spread of wear is over its limit, the live data of the die's least worn programmed block moves. -/
def Module.level (m : Module) (die dst : Nat) : Module :=
  if m.wearSpread die ≤ m.get F.storeWearDelta then m
  else match minBy (fun p => p.2.wear) (m.st.blocks.filter (fun p => blkDie p.1 = die && p.2.used && !p.2.bad)) with
    | none => m
    | some (b, k) => if m.mayMove b dst then (m.moveLive (· = b) k.tlc dst).count pgStore 10 else m

/-- Meaning of NAND_ERASE_DONE (R573, R582, R599, R601, R602): a block without live data has been erased and is worn and free; or the
erase fails and the block is retired. -/
def execNandEraseDone (blk : Nat) (ok : Bool) (dst : Nat) (e : Env) (s : State) : Res :=
  s.run fun m =>
    let m := m.at e
    let b := m.block blk
    if !b.used || b.bad || m.blockLive blk || m.st.current.any (fun p => p.2 = blk) || !m.dieUp (blkDie blk) then m
    else if ok then
      let b1 : Block := { b with used := false, wear := b.wear + (if b.tlc then 10 else 1), cost := 0, reads := 0, refresh := false,
                                 late := false }
      ((m.setBlock blk b1).level (blkDie blk) dst).storeWear.storeShow
    else ((m.count (pgStch (blkChannel blk)) 2).retireBlock blk 1 dst).storeWear.storeShow

/-- The block of a unit of an object: data unit u as 2u, the parity of group g as 2g + 1. -/
def Obj.blockOf (o : Obj) (slot : Nat) : Option Nat :=
  if slot % 2 = 0 then KMap.get o.placed (slot / 2) else KMap.get o.parity (slot / 2)

/-- The step of the ladder that a codeword's read ends at (R594, R603, R605): a unit of an absent die is rebuilt, a lost one is not
recoverable. -/
def Module.ladder (m : Module) (o : Obj) (slot blk step : Nat) : Nat :=
  if o.lost.contains slot then 5
  else if !m.dieUp (blkDie blk) then (if step ≤ 4 then 4 else 5)
  else step

/-- A block is read (R597): its reads count, and the transfer on its channel does. -/
def Module.blockRead (m : Module) (blk : Nat) : Module :=
  let b := m.block blk
  let b1 : Block := { b with reads := b.reads + 1, late := b.late || decide (m.get F.storeScrubRdLimit ≤ b.reads + 1) }
  (m.setBlock blk b1).count (pgStch (blkChannel blk)) 0

/-- The group of a unit: data unit u as 2u, the parity of group g as 2g + 1. -/
def slotGroup (slot : Nat) : Nat := if slot % 2 = 0 then slot / 2 / 15 else slot / 2

/-- The blocks of the other units of a unit's group (R590). -/
def Obj.groupBlocks (o : Obj) (slot : Nat) : List Nat :=
  let g := slotGroup slot
  (((List.range 15).map (fun k => 2 * (15 * g + k)) ++ [2 * g + 1]).filter (· ≠ slot)).filterMap o.blockOf

/-- What a codeword's read leaves behind (R594, R595, R597, R601): a rebuild reads the same codeword of the group's other units. -/
def Module.codeword (m : Module) (id slot : Nat) (o : Obj) (blk step corrected : Nat) (offset : Int) (dst : Nat) : Module :=
  let m := if 4 ≤ step then ((o.groupBlocks slot).filter (fun k => m.dieUp (blkDie k))).foldl Module.blockRead m else m
  let m := m.blockRead blk
  let b := m.block blk
  let b1 : Block := { b with
    offset := if step = 2 || step = 3 then offset else b.offset,
    refresh := b.refresh || (step = 1 && decide (m.get F.storeScrubThresh < corrected)) || step = 3 || step = 4 }
  let m := m.setBlock blk b1
  let m := m.count pgStore (3 + step)
  let m := if 2 ≤ step then m.count (pgStch (blkChannel blk)) 3 else m
  if step = 4 then (if m.dieUp (blkDie blk) && !b.bad && m.mayMove blk dst then m.retireBlock blk 2 dst else m)
  else if 5 ≤ step then (m.setObj id { o with damaged := true }).raise pgStore Ev.mediaError
  else m

/-- Meaning of CODEWORD_READ (R581, R594, R595, R597, R601, R603, R605): codeword `cw` of a unit is read and recovered at a step of the
ladder, or not at all; a STORE_READ that waits for it goes on or ends. -/
def execCodewordRead (id slot cw step corrected : Nat) (offset : Int) (dst : Nat) (e : Env) (s : State) : Res :=
  s.run fun m =>
    let m := m.at e
    match m.obj id with
    | none => m
    | some o =>
      match o.blockOf slot with
      | none => m
      | some blk =>
        if step = 0 || 16 ≤ cw then m
        else
          let step := min 5 (m.ladder o slot blk step)
          let m := m.codeword id slot o blk step corrected offset dst
          match m.st.reading, m.obj id with
          | some r, some o =>
            let pos := r.off + r.done
            if r.id = id && 2 * (pos / unitBytes) = slot && pos % unitBytes / 4096 = cw && m.onNand id o (pos / unitBytes) then
              if step = 5 then (m.onStore fun s => { s with reading := none }).adminEnd stStoreMedia r.done 0
              else match m.readDeliver e r o with
                | (true, m1) => m1.readRun e readFuel
                | (false, m1) => m1
            else m
          | _, _ => m

/-- Whether the store's background work is suspended because the NAND sensor is at its throttle limit (R646). -/
def Module.backgroundHeld (m : Module) : Bool := decide (2 ≤ m.get F.thermStsLevel / 4 % 4)

/-- Meaning of SCRUB_PASS (R595–R597, R607, R612): a programmed block has been read whole, late ones first; a block queued for refresh
moves to `dst`. -/
def execScrubPass (blk dst : Nat) (e : Env) (s : State) : Res :=
  s.run fun m =>
    let m := m.at e
    let b := m.block blk
    if !m.storeRuns || !b.used || b.bad || !m.dieUp (blkDie blk) || m.backgroundHeld ||
        (!b.late && !b.refresh && m.st.blocks.any (fun p => p.2.late && p.2.used && m.dieUp (blkDie p.1))) then m
    else
      let m := m.setBlock blk { b with scrubbed := m.fabricNow, late := false, refresh := b.refresh && !m.mayMove blk dst }
      if b.refresh && m.mayMove blk dst then (m.moveLive (· = blk) b.tlc dst).count pgStore 9 else m

/-! ## Absent dies -/

/-- The units that a further absent die loses (R605): those of groups that have units on it and on another absent die. -/
def Obj.loses (o : Obj) (die : Nat) (others : List Nat) : Obj :=
  let mine := o.slotsOn (fun b => blkDie b = die)
  let rest := o.slotsOn (fun b => others.contains (blkDie b))
  let groups := (mine.map slotGroup).filter (fun g => (rest.map slotGroup).contains g)
  { o with lost := (o.lost ++ (mine ++ rest).filter (fun s => groups.contains (slotGroup s))).eraseDups }

/-- A die is absent (R603–R605). -/
def Module.dieGone (m : Module) (die : Nat) : Module :=
  if !m.dieUp die then m
  else
    let others := m.st.absent.map (·.1)
    let since := if m.st.timed then some m.fabricNow else none
    let m := m.onStore fun s => { s with
      objs := s.objs.map (fun p => (p.1, p.2.loses die others)), absent := s.absent ++ [(die, since)],
      rebuilding := if m.flag F.storeCfgRebuild then addNum s.rebuilding die else s.rebuilding,
      current := s.current.filter (fun k => blkDie k.2 ≠ die) }
    (m.raise pgStore Ev.dieAbsent).storeTargets.storeShow

/-- Meaning of DIE_ABSENT (R603–R605). -/
def execDieAbsent (die : Nat) (e : Env) (s : State) : Res := s.run fun m => (m.at e).dieGone die

/-- A die's units, but those lost, lie on another block of its channel. -/
def Module.rebuild (m : Module) (die dst : Nat) : Module :=
  m.onStore fun s => { s with objs := s.objs.map (fun p =>
    (p.1, p.2.relay (fun slot b => blkDie b = die && !p.2.lost.contains slot) dst)) }

/-- Whether a block may take the units of an absent die. -/
def Module.mayRebuild (m : Module) (die dst : Nat) : Bool :=
  !m.st.objs.any (fun p => p.2.anyOn (fun b => blkDie b = die)) || m.mayAllocate (die % 16) dst

/-- Meaning of REBUILD_DONE (R604): every unit of an absent die that could be rebuilt lies on the other dies of its channel. -/
def execRebuildDone (die dst : Nat) (e : Env) (s : State) : Res :=
  s.run fun m =>
    let m := m.at e
    if !m.st.rebuilding.contains die || !m.mayRebuild die dst || m.backgroundHeld then m
    else
      let m := (m.blockTakes dst false 0).rebuild die dst
      ((m.onStore fun s => { s with rebuilding := s.rebuilding.filter (· ≠ die) }).raise pgStore Ev.rebuildDone).storeShow

/-- Meaning of DIE_RETURN (R607): an absent die answers again; after a long or unknown absence it comes back erased, else with the units
it still holds, to be scrubbed first. -/
def execDieReturn (die dst : Nat) (e : Env) (s : State) : Res :=
  s.run fun m =>
    let m := m.at e
    match m.st.absent.find? (fun p => p.1 = die) with
    | none => m
    | some (_, since) =>
      let long := match since with
        | none => true
        | some t => !m.st.timed || decide (m.get F.storeScrubInterval * 3600000000000 < m.fabricNow - t)
      if long && !m.mayRebuild die dst then m
      else
        let m := if long then (m.blockTakes dst false 0).rebuild die dst else m
        let fix (p : Nat × Block) : Nat × Block :=
          if blkDie p.1 ≠ die then p
          else if p.2.bad || !p.2.used then p
          else if long then (p.1, { p.2 with used := false, wear := p.2.wear + (if p.2.tlc then 10 else 1), cost := 0 })
          else (p.1, { p.2 with late := true })
        let m := m.onStore fun s => { s with blocks := s.blocks.map fix, absent := s.absent.filter (fun p => p.1 ≠ die),
                                             rebuilding := s.rebuilding.filter (· ≠ die) }
        (m.raise pgStore Ev.dieReturn).storeWear.storeTargets.storeShow

/-! ## Replay and format -/

/-- An object as replay restores it (R611): none where it is deleted. What was programmed after its last commit is discarded; one whose
commit with seal is journaled is SEALED. -/
def Obj.restore (o : Obj) (clean : Bool) : Option Obj :=
  let cut (o : Obj) (n : Nat) (d : List (Nat × Byte)) : Obj :=
    { o with length := n, data := d, sealing := false, stale := [], parDue := [],
             placed := o.comPlaced.filter (fun k => decide (k.1 * unitBytes < n)),
             parity := o.comParity.filter (fun k => decide (15 * k.1 * unitBytes < n)) }
  match o.state, o.committed with
  | .sealed, _ => some o
  | .torn, _ => some o
  | .opened, some (n, d) =>
    let c := cut o n d
    some (if o.sealRec then { c with state := .sealed, reserved := 0 }
      else if clean then c else { c with state := .torn, reserved := 0 })
  | .opened, none => if clean && o.journaled then some (cut o 0 []) else none

/-- Blocks whose last scrub lies too far back are to be scrubbed first (R612); all of them where time is not known. -/
def Module.judgeLate (m : Module) (all : Bool) : Module :=
  if m.st.judge.isNone then m
  else
    let old (b : Block) : Bool := b.used && !b.bad &&
      (all || decide (m.get F.storeScrubInterval * 3600000000000 < m.fabricNow - b.scrubbed))
    let found := m.st.blocks.any (fun p => old p.2)
    let m := m.onStore fun s => { s with judge := none,
                                         blocks := s.blocks.map (fun p => if old p.2 then (p.1, { p.2 with late := true }) else p) }
    if found then m.raise pgStore Ev.scrubLate else m

/-- Every object is gone and every good block erased (R600, R615). -/
def Module.formatStore (m : Module) : Module :=
  let wipe (p : Nat × Block) : Nat × Block :=
    if p.2.used && !p.2.bad then
      (p.1, { Block.fresh with wear := p.2.wear + (if p.2.tlc then 10 else 1), tlc := p.2.tlc, scrubbed := p.2.scrubbed })
    else p
  let blocks := m.st.blocks.map wipe
  let t : Store := { m.st with objs := [], leaving := [], current := [], formatted := true, formatPend := false, blocks := blocks }
  { m with st := { t with clean := false } }

/-- The store replays its journal (R600, R611): dies that fail identification are absent, marked blocks of an unformatted store are
bad, each object is restored. -/
def Module.replayStore (m : Module) (failedDies markers : List Nat) : Module :=
  let m := failedDies.foldl (fun m d => m.dieGone d) m
  let m := if m.st.formatted then m
    else (markers.foldl (fun m b => m.setBlock b { m.block b with bad := true }) m).formatStore
  let clean := m.st.clean
  let objs := m.st.leaving.foldl (fun l p => if (KMap.get l p.1).isSome then l else KMap.put l p.1 p.2) m.st.objs
  let back := objs.filterMap (fun p => (p.2.restore clean).map (fun o => (p.1, o)))
  let torn := (back.filter (fun p => p.2.state = .torn)).length
  let m := m.storeDiscard.onStore fun s => { s with objs := back, leaving := [], clean := false, judge := some m.now, state := .run }
  let m := ((m.putFlag F.storeRecovClean clean).put F.storeRecovTorn torn).put F.storeRecovDropped (objs.length - back.length)
  let m := (m.raise pgStore Ev.storeReady).storeTargets.storeWear.storeShow
  let m := if torn = 0 then m else m.raise pgStore Ev.torn
  if m.flag F.timeStsSynced then m.judgeLate false else m

/-- Meaning of STORE_REPLAY (R573, R600, R603, R611, R612): the store that scans after Dawn replays its journal and reaches RUN; one whose
format was interrupted stays UNFORMATTED (R615). -/
def execStoreReplay (failedDies markers : List Nat) (e : Env) (s : State) : Res :=
  s.run fun m =>
    let m := m.at e
    if m.noStore || (m.st.state ≠ .scanning && m.st.state ≠ .replay) then m
    else if m.st.formatPend then (m.onStore fun s => { s with state := .unformatted }).storeShow
    else m.replayStore failedDies markers

/-- Meaning of REPLAY_SYNC_TIMEOUT (R612): time has not been synced within 1 s of the end of replay. -/
def execReplaySyncTimeout (e : Env) (s : State) : Res :=
  s.run fun m =>
    let m := m.at e
    match m.st.judge with
    | none => m
    | some t => if m.storeRuns && !m.flag F.timeStsSynced && decide (t + 1000000000 ≤ m.now) then m.judgeLate true else m

/-- A write of STORE.CFG (R604): where rebuild becomes 1, the rebuild of every absent die starts that still holds units which are
not lost; where it becomes 0, rebuilds stop. -/
def Module.storeCfgWrite (m : Module) (addr : Nat) (w : Wr) : Module :=
  let was := m.flag F.storeCfgRebuild
  let m := m.regWrite addr w
  let now := m.flag F.storeCfgRebuild
  if was = now then m
  else
    let held (d : Nat) : Bool := m.st.objs.any (fun p => (p.2.slotsOn (fun b => blkDie b = d)).any (fun s => !p.2.lost.contains s))
    (m.onStore fun s => { s with rebuilding := if now then (s.absent.map (·.1)).filter held else [] }).storeShow

/-- A write of STORE.FMT (R615). -/
def Module.formatWrite (m : Module) (w : Wr) : Module :=
  let a := F.storeFmtGo.reg
  if !m.reaches a then m.regWrite a w
  else if !touches w.half 63 63 || !bit w.value 63 || m.flag F.storeFmtGo then m
  else if m.mode ≠ mSmallHours then m.put F.storeFmtResult 1
  else ((m.put F.storeFmtGo 1).onStore fun s => { s with state := .formatting, formatPend := true }).storeShow

/-- Meaning of FORMAT (R615). -/
def execFormat (w : Wr) (s : State) : Res := s.runAs w.master fun m => m.formatWrite w

/-- Meaning of FORMAT_DONE (R615). -/
def execFormatDone (e : Env) (s : State) : Res :=
  s.run fun m =>
    let m := m.at e
    if m.st.state ≠ .formatting then m
    else
      let m := m.formatStore.onStore fun s => { s with state := .stopped }
      (((m.put F.storeFmtGo 0).put F.storeFmtResult 0).raise pgStore Ev.formatDone).storeWear.storeShow

end Sys2Proof.Machine
end

