-- ==== Sys2Proof/Machine/Acks.lean ====
section
/-! DEFINITION. Acknowledgement, results and timers of connections (R216–R244, R263, R264, R270, R319–R321, R355, R357, R389): what
completes an operation, what fails it, and the commands about them. -/

namespace Sys2Proof.Machine

/-! ## Messages that complete -/

/-- Whether rsn_rcvd has reached what a message needs (R233). -/
def Conn.rsnMet (c : Conn) (g : Msg) : Bool :=
  match g.needRsn with
  | none => false
  | some n => decide (seqSub 24 c.rsnRcvd n < 2 ^ 23)

/-- The commands of a connection whose every packet is acknowledged, with the RESULTs that R233 asks for, have reached stage 9 of a
sample (R729). -/
def Module.stageAcked (m : Module) (cid : Nat) : Module :=
  match m.conn cid with
  | none => m
  | some c => m.smp.tagged.foldl (fun m t =>
      let gs := c.msgs.filter (fun g => g.op = some t.op)
      if !gs.isEmpty && gs.all (fun g => c.covered g && c.rsnMet g) then m.stage t.op 9 else m) m

/-- Whether everything that completes a message has come (R233, R264, R270, R588). A get that cannot be answered in full ends once what
was sent of its response is acknowledged (R777). -/
def Module.msgComplete (m : Module) (c : Conn) (g : Msg) : Bool :=
  let rsn := (g.kind = .getRsp && g.respFail.isSome) || c.rsnMet g
  let answer := g.result.isSome || (match g.kind with
    | .get => (match g.op with
      | none => true
      | some id => match m.op id with
        | none => true
        | some o => decide (wLength o.wqe ≤ g.got))
    | .atomic => g.old.isSome
    | .syncReq => g.old.isSome
    | _ => true)
  c.covered g && rsn && answer

/-- An operation's message has ended (R233, R258, R264, R270, R588): with the status of its RESULT, with LOCAL_FAULT for one that was
aborted after its last byte was read (R771, R775), or with success. -/
def Module.opEnd (m : Module) (e : Env) (c : Conn) (g : Msg) (length : Nat) (failed : Nat → Nat) : Module :=
  match g.op with
  | none => m
  | some id =>
    match m.op id, g.aborted, g.result with
    | none, _, _ => m
    | some o, some (off, d), _ => if o.finished then m else m.opFail e id stLocalFault off 0 c.remote d
    | some _, none, some (st, d, info) => m.opDone id st (failed info) 0 c.remote d
    | some _, none, none => m.opDone id stSuccess length 0 c.remote 0

/-- The length that a message's operation asks for. -/
def Module.opLength (m : Module) (g : Msg) : Nat :=
  match g.op with
  | none => g.len
  | some id => ((m.op id).map (fun o => wLength o.wqe)).getD g.len

/-- A rendezvous entry whose RTS and RDV_DATA may both be complete (R321). -/
def Module.rdvCheck (m : Module) (e : Env) (c : Conn) (g : Msg) : Module :=
  let i := g.ref
  match m.rdvAt i g.ref2 with
  | none => m
  | some r =>
    match g.result with
    | some (st, d, info) => m.rdvEnd i r.gen st info d
    | none =>
      let r1 := if g.kind = .rts then { r with rtsDone := true } else { r with dataDone := true }
      let m := { m with mt := { m.mt with rdvs := KMap.put m.mt.rdvs i r1 } }
      if r1.rtsDone && r1.dataDone then
        match g.aborted with
        | some (off, d) =>
          let live := match m.op r.op with
            | none => false
            | some o => !o.finished
          (if live then m.opFail e r.op stLocalFault off 0 c.remote d else m).rdvErase i r.gen
        | none => m.rdvEnd i r.gen stSuccess (r.asked.getD 0) 0
      else m

/-- The RDV_GET of a delivery is complete (R319, R320): its MSN stays known, or its RESULT ends the receive. -/
def Module.rdvGetDone (m : Module) (e : Env) (g : Msg) : Module :=
  match m.mt.deliveries.find? (fun d => d.rts && d.getMsg = g.id) with
  | none => m
  | some d =>
    match g.result with
    | some (st, dt, _) => m.recvEnd e d st d.written dt
    | none =>
      let l := m.mt.deliveries.map (fun (k : Delivery) => if k.rts && k.getMsg = g.id then { k with getMsn := g.msn } else k)
      { m with mt := { m.mt with deliveries := l } }

/-- An UP segment of an operation is complete (R351, R357). -/
def Module.upDone (m : Module) (e : Env) (g : Msg) : Module :=
  let seq := g.ref2 / 2 ^ 32
  let seg := g.ref2 % 2 ^ 32
  let m := m.onColl g.ref fun c => { c with ops := c.ops.map (fun (k : CollOp) =>
    if k.seq = seq then { k with upDone := addNum k.upDone seg } else k) }
  m.collRun e g.ref collFuel

/-- A unicast DOWN is complete (R353): a unicast child then has the segment; of any other, only its DOWN_ACK says so. -/
def Module.downDone (m : Module) (e : Env) (c : Conn) (g : Msg) : Module :=
  match m.coll g.ref with
  | none => m
  | some k =>
    match k.childOf c.remote with
    | none => m
    | some i =>
      if ((k.children[i]?).map (·.2)).getD 0 ≠ 0 then m
      else (m.setColl g.ref (k.release i (fun r => r.seq = g.ref2 / 2 ^ 32 && r.seg = g.ref2 % 2 ^ 32))).collRun e g.ref collFuel

/-- What follows the completion of a message of a connection. -/
def Module.msgDone (m : Module) (e : Env) (cid : Nat) (c : Conn) (g : Msg) : Module :=
  match g.kind with
  | .put => m.opEnd e c g (m.opLength g) id
  | .storePut => m.opEnd e c g (m.opLength g) id
  | .eager => m.opEnd e c g g.len id
  | .get => m.opEnd e c g (m.opLength g) (fun _ => g.got)
  | .atomic => m.opEnd e c g (g.old.getD 0) (fun _ => 0)
  | .syncReq => m.opEnd e c g (g.old.getD 0) (fun _ => 0)
  | .rts => m.rdvCheck e c g
  | .rdvData => m.rdvCheck e c g
  | .rdvGet => m.rdvGetDone e g
  | .up => m.upDone e g
  | .down => m.downDone e c g
  | .getRsp =>
    match g.respFail with
    | none => m
    | some (st, d) => m.postResult cid g.tc st d g.ref g.ackedBytes
  | _ => m

/-- The messages of a connection that are complete end, oldest first (R233). -/
def Module.completeMsgs (m : Module) (e : Env) (cid : Nat) : Nat → Module
  | 0 => m
  | n + 1 =>
    match m.conn cid with
    | none => m
    | some c =>
      match c.msgs.find? (fun g => m.msgComplete c g) with
      | none => m
      | some g => ((m.setConn cid { c with msgs := c.msgs.filter (fun h => h.id ≠ g.id) }).msgDone e cid c g).completeMsgs e cid n

/-- A bound on the messages of a connection that complete at once. -/
def msgFuel : Nat := 65536

/-! ## Messages that fail -/

/-- The COLL operation of an UP message that fails completes with a status, and its context has done with it (R237, log 143). -/
def Module.upFail (m : Module) (c : Conn) (status detail : Nat) (g : Msg) : Module :=
  let seq := g.ref2 / 2 ^ 32
  let m := match g.op with
    | none => m
    | some id => m.opDone id status 0 seq c.remote detail
  m.onColl g.ref fun k => { k with ops := k.ops.filter (fun o => o.seq ≠ seq), slots := k.slots.filter (fun s => s.seq ≠ seq) }

/-- A message fails with its direction (R221, R230, R231, R237, R321). -/
def Module.msgFail (m : Module) (e : Env) (c : Conn) (status detail : Nat) (g : Msg) : Module :=
  match g.kind with
  | .rts => m.rdvEnd g.ref g.ref2 status 0 detail
  | .rdvData => m.rdvEnd g.ref g.ref2 status 0 detail
  | .rdvGet =>
    match m.mt.deliveries.find? (fun d => d.rts && d.getMsg = g.id) with
    | none => m
    | some d => m.recvEnd e d stConnFailed d.written 0
  | .up => m.upFail c status detail g
  | _ => match g.op with
    | none => m
    | some id => m.opDone id status 0 0 c.remote detail

/-- The rendezvous entries that end with a connection (R321): all of it, or those that wait for their RDV_GET once their RTS has gone
out. -/
def Module.rdvsOf (m : Module) (c : Conn) (all : Bool) : List (Nat × Rdv) :=
  let unsent (i gen : Nat) : Bool := c.msgs.any (fun g => decide (g.kind = .rts) && decide (g.ref = i) && decide (g.ref2 = gen) && g.msn.isNone)
  m.mt.rdvs.filter (fun p => decide (p.2.fa = c.remote) && decide (p.2.nd = c.nd) && (all || (p.2.asked.isNone && !unsent p.1 p.2.gen)))

/-- What waits at the matching tiles on a connection that has failed or started anew (R321, R323): rendezvous sends, and receives that
wait for RDV_DATA. -/
def Module.rdvFail (m : Module) (e : Env) (cid : Nat) (c : Conn) (detail : Nat) (all : Bool) : Module :=
  let m := (m.rdvsOf c all).foldl (fun m p => m.rdvEnd p.1 p.2.gen stConnFailed 0 detail) m
  (m.mt.deliveries.filter (fun d => d.rts && d.conn = some cid)).foldl (fun m d => m.recvEnd e d stConnFailed d.written 0) m

/-- Whether a connection is the management connection to a fabric manager (R88, R245). -/
def Module.isManager (m : Module) (fa : Nat) : Bool :=
  (List.range 4).any (fun i => m.flag (F.xptFmgrEn i) && decide (m.get (F.xptFmgrFa i) = fa))

/-- The failure or re-establishment of the management connection resets master 10 (R88). -/
def Module.managerReset (m : Module) (c : Conn) : Module := if c.nd = 0 && m.isManager c.remote then m.masterReset 10 else m

/-- A send direction at rest. Only an ACK returns the RNR delay to its start (R227). -/
def Conn.rest (c : Conn) : Conn :=
  { c with txState := .idle, msgs := [], tx := [], probes := 0, probeRnr := none, failOps := [], ndRun := none }

/-- A send direction fails (R230, R231, R243): every operation of it completes with CONN_FAILED. One that was sending is FAILING until
those completions are over; one that only probed is in IDLE. -/
def Module.dirFail (m : Module) (e : Env) (cid : Nat) (detail : Nat) : Module :=
  match m.conn cid with
  | none => m
  | some c =>
    let ids := (c.msgs.filterMap (·.op) ++ (m.rdvsOf c true).map (·.2.op)).eraseDups
    let m := (m.setConn cid c.rest).memberLost e c.remote c.nd
    let m := c.msgs.foldl (fun m g => m.msgFail e c stConnFailed detail g) m
    let m := m.rdvFail e cid c detail true
    let left := ids.filter (fun id => (m.op id).isSome)
    let m := if c.txState = .probing || left.isEmpty then m
      else m.onConn cid fun c => { c with txState := .failing, failOps := left }
    (m.managerReset c).raise (pgXpt (tileOfCid cid)) Ev.connFailed

/-- A run of NO_DOMAIN NACKs is over (R237): every waiting operation completes with NO_DOMAIN. -/
def Module.dirNoDomain (m : Module) (e : Env) (cid : Nat) : Module :=
  match m.conn cid with
  | none => m
  | some c => c.msgs.foldl (fun m g => m.msgFail e c stNoDomain 0 g) (m.setConn cid c.rest)

/-! ## ACK -/

/-- A round-trip time as srtt and rttvar hold it (R206): exact where it fits 20 bits, else a free value (log 121). -/
def rttHold (n : Nat) : Nat := if n < 2 ^ 20 then n else (Config.rttField n).toNat

/-- A round-trip sample (R228), in ns, with quotients rounded down. -/
def Conn.sample (c : Conn) (m : Module) (s : Nat) : Conn :=
  let diff := if s ≤ c.srtt then c.srtt - s else s - c.srtt
  let rttvar := rttHold (if c.sampled then (3 * c.rttvar + diff) / 4 else s / 2)
  let srtt := rttHold (if c.sampled then (7 * c.srtt + s) / 8 else s)
  { c with srtt := srtt, rttvar := rttvar, sampled := true, rto := min (max (srtt + 4 * rttvar) m.rtoMin) m.rtoMax }

/-- Whether an ACK covers a PSN of its epoch, by cum or by SACK (R224). -/
def ackCovers (cum : Nat) (sack : List Byte) (psn : Nat) : Bool :=
  let back := seqSub 24 cum psn
  let i := seqSub 24 psn (cum + 1)
  (decide (0 < back) && decide (back < 2 ^ 23)) ||
  (decide (i < 256) && ((sack[i / 8]?).getD 0).toNat.testBit (i % 8))

/-- A packet is covered for the first time: it is marked, a sample is taken from attempt 0 (R228), and payload of a response
counts (R777). -/
def Conn.coverPkt (c : Conn) (m : Module) (d : TxPkt) : Conn :=
  let c1 := { c with tx := c.tx.map (fun (q : TxPkt) => if q.psn = d.psn && q.epoch = d.epoch then { q with acked := true, rnr := none, held := false } else q),
                     msgs := c.msgs.map (fun (g : Msg) => if g.id = d.msg then { g with ackedBytes := g.ackedBytes + pPlen d.pkt } else g) }
  if d.pkt.attempt = 0 then c1.sample m (m.now - d.sentAt) else c1

/-- What rsn_rcvd has to reach for a message (R233): the rsn_next of the ACK that covers its last-covered PSN; a later ACK that covers
that PSN and has a lower rsn_next serves as well. `fresh` is what the ACK covers first. -/
def Msg.ackSeen (g : Msg) (epoch cum rsn : Nat) (sack : List Byte) (fresh : List TxPkt) : Msg :=
  match (fresh.filter (fun d => d.msg = g.id)).getLast? with
  | some d => { g with lastPsn := some (epoch, d.psn), needRsn := some rsn }
  | none =>
    match g.lastPsn, g.needRsn with
    | some (ep, psn), some need =>
      if ep = epoch && ackCovers cum sack psn && decide (seqSub 24 need rsn < 2 ^ 23) then { g with needRsn := some rsn } else g
    | _, _ => g

/-- The commands of which an ACK covers a packet (R729: stage 8). -/
def Conn.coveredOps (c : Conn) (cum : Nat) (sack : List Byte) : List Nat :=
  (c.tx.filter (fun d => d.epoch = c.txEpoch && ackCovers cum sack d.psn)).filterMap (fun d =>
    (c.msgs.find? (fun g => g.id = d.msg)).bind (·.op))

/-- An ACK is taken (R224, R227, R228, R233, R235, R237, R243). -/
def Conn.takeAck (c : Conn) (m : Module) (cum rsn : Nat) (sack : List Byte) : Conn :=
  let fresh := c.tx.filter (fun d => d.epoch = c.txEpoch && !d.acked && ackCovers cum sack d.psn)
  let c1 := fresh.foldl (fun c d => c.coverPkt m d) c
  let c1 := { c1 with msgs := c1.msgs.map (fun g => g.ackSeen c.txEpoch cum rsn sack fresh) }
  let d := seqSub 24 cum c.txBase
  let moves := decide (0 < d) && decide (d ≤ seqSub 24 c.txNext c.txBase)
  let c2 := if moves then { c1 with txBase := cum, rnrDelay := 0, ndRun := none,
                                    tx := c1.tx.filter (fun q => decide (d ≤ seqSub 24 q.psn c.txBase)) } else c1
  if c2.txState = .rolling && c2.tx.isEmpty then
    { c2 with txState := .open, txEpoch := (c2.txEpoch + 1) % 2 ^ 32, txNext := 0, txBase := 0 }
  else c2

/-- Whether a send direction takes authenticated ACKs and NACKs. -/
def Conn.sending (c : Conn) : Bool := c.txState = .open || c.txState = .rolling

/-- The connection that a control packet is about, by the remote end's FA and the ND, with its context in the cache (R204). -/
def Module.ctlConn (m : Module) (p : Packet) : Option (Nat × Conn × Module) :=
  match m.cidOf p.src p.nd, m.keyOf p.nd with
  | some _, some (slot, _) =>
    match m.needConn p.src p.nd slot with
    | (some cid, m1) => (m1.conn cid).map (fun c => (cid, c, m1))
    | (none, _) => none
  | _, _ => none

/-- Meaning of ACK (R214, R224, R227, R228, R233, R235, R243). -/
def execAck (k : Nat) (e : Env) (s : State) : Res :=
  s.arrivingRaw k wAck e fun m p =>
    match m.ctlConn p with
    | none => m
    | some (cid, c, m) =>
      if !c.sending || p.epoch ≠ c.txEpoch then m
      else match m.openControl c p with
        | none => m
        | some q =>
          let m1 := (c.coveredOps (bits q.opw 63 40) q.ext).foldl (fun m id => m.stage id 8) m
          let m1 := (m1.setConn cid (c.takeAck m (bits q.opw 63 40) (bits q.opw 39 16) q.ext)).stageAcked cid
          (m1.completeMsgs e cid msgFuel).settle e

/-! ## RESULT and the responses -/

/-- rsn_rcvd passes the results received (R233). -/
def Conn.passRsn (c : Conn) : Nat → Conn
  | 0 => c
  | n + 1 =>
    if c.rsnAhead.contains c.rsnRcvd then
      ({ c with rsnAhead := c.rsnAhead.filter (· ≠ c.rsnRcvd), rsnRcvd := (c.rsnRcvd + 1) % 2 ^ 24 }).passRsn n
    else c

/-- What an arriving RESULT does (R232, R233): it has an effect on a direction in OPEN or ROLLING only (R243). -/
def Module.resultEngine (m : Module) (p : Opened) (cid : Nat) : Verdict × Module :=
  match (m.conn cid).filter Conn.sending with
  | none => (.accept, m)
  | some c =>
    let rsn := fieldLE p.payload 0 3
    let res := (fieldLE p.payload 3 1, fieldLE p.payload 4 2, fieldLE p.payload 8 8)
    let msn := fieldLE p.payload 6 2 % 1024
    let c1 := { c with msgs := c.msgs.map (fun (g : Msg) => if g.msn = some msn && g.result.isNone then { g with result := some res } else g) }
    let c2 := if seqSub 24 rsn c.rsnRcvd < 2 ^ 23 then ({ c1 with rsnAhead := addNum c1.rsnAhead rsn }).passRsn 1024 else c1
    (.accept, m.setConn cid c2)

/-- Operations of the connection a packet came on complete (R233). -/
def Module.completeFrom (m : Module) (e : Env) (p : Opened) : Module :=
  match m.cidOf p.src p.nd with
  | none => m
  | some cid => ((m.stageAcked cid).completeMsgs e cid msgFuel).settle e

/-- Meaning of RESULT (R232, R233, R240). -/
def execResult (k : Nat) (e : Env) (s : State) : Res :=
  s.arriving k wResult e fun m p => (m.rxPacket e p (fun m cid => m.resultEngine p cid)).completeFrom e p

/-- Meaning of GET_RSP (R240, R263–R265, R279, R777). -/
def execGetRsp (k : Nat) (e : Env) (s : State) : Res :=
  s.arriving k wGetRsp e fun m p => (m.rxPacket e p (fun m cid => m.getRspEngine e p cid)).completeFrom e p

/-- Meaning of ATOMIC_RSP (R240, R263, R270). -/
def execAtomicRsp (k : Nat) (e : Env) (s : State) : Res :=
  s.arriving k wAtomicRsp e fun m p => (m.rxPacket e p (fun m cid => m.atomicRspEngine e p cid)).completeFrom e p

/-- What an arriving STORE_SYNC_RSP does (R588). -/
def Module.syncRspEngine (m : Module) (p : Opened) (cid : Nat) : Verdict × Module :=
  match m.conn cid with
  | none => (.accept, m)
  | some c =>
    match c.named .syncReq (pXdata p % 1024) with
    | none => (.accept, m)
    | some g => (.accept, m.setConn cid (c.setMsg { g with old := some (fieldLE p.payload 0 8) }))

/-- Meaning of STORE_SYNC_RSP (R588). -/
def execStoreSyncRsp (k : Nat) (e : Env) (s : State) : Res :=
  s.arriving k wSyncRsp e fun m p => (m.rxPacket e p (fun m cid => m.syncRspEngine p cid)).completeFrom e p

/-! ## CHALLENGE and PROBE -/

/-- A CHALLENGE is accepted (R88, R220, R221, R312, R321, R389): what was under way fails, and the direction opens under e_min. -/
def Module.challenged (m : Module) (e : Env) (cid : Nat) (c : Conn) (nonce emin : Nat) : Module :=
  let fresh := c.greeted && decide (nonce ≠ c.peerNonce)
  let lost := c.msgs.filter (fun g => g.msn.isSome)
  let c1 : Conn := { c with txState := .open, peerNonce := nonce, txEpoch := emin, txNext := 0, txBase := 0, txMsn := 0, probes := 0,
                            greeted := true, tx := [], msgs := c.msgs.filter (fun g => g.msn.isNone), ndRun := none, probeRnr := none,
                            failOps := [],
                            rsnRcvd := if nonce = c.peerNonce then c.rsnRcvd else 0,
                            rsnAhead := if nonce = c.peerNonce then c.rsnAhead else [] }
  let m := m.setConn cid c1
  let m := if fresh then (m.memberLost e c.remote c.nd).raise (pgXpt (tileOfCid cid)) Ev.peerReset else m
  let m := lost.foldl (fun m g => m.msgFail e c stConnFailed 2 g) m
  let m := if c.greeted then m.rdvFail e cid c 2 false else m
  (m.stageOpen cid).managerReset c

/-- Meaning of CHALLENGE (R88, R214, R218, R220, R221, R237, R243, R312, R321, R389). -/
def execChallenge (k : Nat) (e : Env) (s : State) : Res :=
  s.arrivingRaw k wChallenge e fun m p =>
    match m.ctlConn p with
    | none => m
    | some (cid, c, m) =>
      match m.openChallenged c p with
      | none => m
      | some q =>
        let nonce := extBE q 0 8
        let emin := bits q.opw 63 32
        if c.txState = .idle || p.epoch ≠ emin then m
        else if nonce ≠ c.peerNonce || c.txEpoch < emin || c.txState = .probing then (m.challenged e cid c nonce emin).settle e
        else m

/-- What a PROBE does to the receive direction (R219). -/
def Module.probed (m : Module) (p : Packet) (slot : Nat) : Module :=
  let prop := bits (clearPacket p).opw 63 32
  match m.needConn p.src p.nd slot with
  | (none, m1) => m1.nackBare 0 p nkRnrConn
  | (some cid, m) =>
    match m.conn cid with
    | none => m
    | some c =>
      let c1 := match c.rxState with
        | .none => c.rxRestart prop .challenged
        | .challenged => if c.rxEpoch < prop then c.rxRestart prop .challenged else c
        | .open => c.rxRestart (max prop (c.rxEpoch + 1)) .challenged
      (m.setConn cid c1).challenge cid p.tc 0 p.attempt

/-- Meaning of PROBE (R209, R214, R218, R219, R244, R312). -/
def execProbe (k : Nat) (e : Env) (s : State) : Res :=
  s.arrivingRaw k wProbe e fun m p =>
    match m.keyOf p.nd with
    | none => m.nackBare 0 p nkNoDomain
    | some (slot, _) => (m.probed p slot).settle e

/-! ## NACK and retransmission -/

/-- Packets are transmitted again, oldest first; where one would need attempt 255 the direction fails (R229, R230). -/
def Module.resendAll (m : Module) (e : Env) (cid : Nat) : List TxPkt → Module
  | [] => m
  | d :: l =>
    match m.resend e cid d with
    | none => m.dirFail e cid 1
    | some m1 => m1.resendAll e cid l

/-- The RNR delay starts or doubles (R227). -/
def Module.rnrNext (m : Module) (c : Conn) : Nat :=
  if c.rnrDelay = 0 then m.get F.xptRnrRnrMin * 1000 else min (2 * c.rnrDelay) (m.get F.xptRnrRnrMax * 1000)

/-- A packet, or in PROBING the PROBE, is to go out again after a delay (R226, R227). -/
def Module.rnrMark (m : Module) (cid : Nat) (c : Conn) (psn delay : Nat) : Module :=
  let due := some (m.now + delay)
  m.setConn cid { c with rnrDelay := delay,
                         probeRnr := if c.txState = .probing then due else c.probeRnr,
                         tx := c.tx.map (fun (q : TxPkt) => if q.psn = psn && !q.acked then { q with rnr := due, held := false } else q) }

/-- A NO_DOMAIN NACK (R237): a run starts where none is in progress; one that starts with nd_wait = 0 is over at once (R238). The packet
waits for the RNR delay as it stands: the NACK is no RNR NACK (R227). -/
def Module.noDomain (m : Module) (e : Env) (cid : Nat) (c : Conn) (psn : Nat) : Module :=
  let delay := if c.rnrDelay = 0 then m.get F.xptRnrRnrMin * 1000 else c.rnrDelay
  let wait := m.get F.xptRnrNdWait * 1000
  let m1 := m.rnrMark cid { c with ndRun := some (c.ndRun.getD (m.now + wait)) } psn delay
  if c.ndRun.isNone && wait = 0 then m1.dirNoDomain e cid else m1

/-- Whether an unauthenticated NACK names an outstanding packet, or the last PROBE (R222). -/
def Conn.nackNames (c : Conn) (p : Opened) : Bool :=
  let psn := bits p.opw 63 40
  let att := bits p.opw 39 32
  let proposed := if c.greeted then (c.txEpoch + 1) % 2 ^ 32 else 0
  (c.txState = .probing && psn = 0 && att = 0xFF && p.epoch = proposed) ||
  (c.txState = .open && c.tx.any (fun d => d.psn = psn && d.pkt.attempt = att && d.epoch = p.epoch && !d.acked))

/-- What an authenticated NACK does to the packet it names (R226, R227). -/
def Module.nacked (m : Module) (e : Env) (cid : Nat) (c : Conn) (psn att cause : Nat) : Module :=
  match c.tx.find? (fun d => d.psn = psn && d.epoch = c.txEpoch && !d.acked) with
  | none => m
  | some d =>
    if cause = nkTrimmed then (if d.pkt.attempt = att then m.resendAll e cid [d] else m)
    else if 1 ≤ cause && cause ≤ 4 then m.rnrMark cid c psn (m.rnrNext c)
    else m

/-- Meaning of NACK (R214, R222, R226, R227, R237, R243). -/
def execNack (k : Nat) (e : Env) (s : State) : Res :=
  s.arrivingRaw k wNack e fun m p =>
    match m.ctlConn p with
    | none => m
    | some (cid, c, m) =>
      let m := m.count (pgXpt (tileOfCid cid)) 11
      if untagged p then
        let q := clearPacket p
        let psn := bits q.opw 63 40
        let cause := bits q.opw 31 24
        if !c.nackNames q then m
        else if cause = nkNoDomain then (m.noDomain e cid c psn).settle e
        else if cause = nkRnrConn then m.rnrMark cid c psn (m.rnrNext c)
        else m
      else if !c.sending || p.epoch ≠ c.txEpoch then m
      else match m.openControl c p with
        | none => m
        | some q =>
          ((m.nacked e cid c (bits q.opw 63 40) (bits q.opw 39 32) (bits q.opw 31 24)).completeMsgs e cid msgFuel).settle e

/-- A PROBE goes out again; after 255 of them the waiting operations fail (R231, R243). -/
def Module.probeAgain (m : Module) (e : Env) (cid : Nat) (c : Conn) : Module :=
  if 255 ≤ c.probes then (m.dirFail e cid 1).settle e
  else (m.setConn cid { c with probes := c.probes + 1 }).sendProbe cid ((c.msgs.head?.map (·.tc)).getD 0)

/-- Meaning of RNR_RETRANSMIT (R213, R214, R226, R227, R230, R231): the packets whose RNR delay is over, or a PROBE whose delay is, go
out again. -/
def execRnrRetransmit (cid : Nat) (e : Env) (s : State) : Res :=
  s.run fun m =>
    let m := m.at e
    let past (t : Option Nat) : Bool := t.any (fun t => decide (t ≤ m.now))
    match m.conn cid with
    | none => m
    | some c =>
      if c.txState = .probing then (if past c.probeRnr then m.probeAgain e cid c else m)
      else if c.sending then
        ((m.resendAll e cid (c.tx.filter (fun d => past d.rnr))).completeMsgs e cid msgFuel).settle e
      else m

/-- Meaning of RETRANSMIT_TIMEOUT (R213, R229, R230, R243): where the oldest unacknowledged packet has waited rto, every packet that has
goes out again and rto doubles. Packets that wait for the RNR delay or for the injection shaper are left to it. -/
def execRetransmitTimeout (cid : Nat) (e : Env) (s : State) : Res :=
  s.run fun m =>
    let m := m.at e
    match m.conn cid with
    | none => m
    | some c =>
      let late (d : TxPkt) : Bool := decide (d.sentAt + c.rto ≤ m.now)
      match c.tx.filter (fun d => !d.acked && d.rnr.isNone && !d.held) with
      | [] => m
      | d :: l =>
        if !c.sending || !late d then m
        else
          let m := (m.setConn cid { c with rto := min (2 * c.rto) m.rtoMax }).count (pgXpt (tileOfCid cid)) 2
          ((m.resendAll e cid ((d :: l).filter late)).completeMsgs e cid msgFuel).settle e

/-- A connection's next packet goes out, first a retransmission that the injection shaper held. A direction at rest that messages wait
on starts to open. -/
def Module.sendPacket (m : Module) (e : Env) (cid : Nat) : Module :=
  let m := m.wake cid
  let held := (m.conn cid).bind (fun c => if c.sending then c.tx.find? (·.held) else none)
  let m := match held with
    | some d => m.resendAll e cid [d]
    | none => m.sendNext e cid
  ((m.completeMsgs e cid msgFuel).retryWaiting).settle e

/-- Meaning of PACKET_SEND (R125, R173, R194–R198, R208, R223, R230, R235, R409–R411, R775, R777): the connection's next packet. -/
def execPacketSend (cid : Nat) (e : Env) (s : State) : Res :=
  s.run fun m => (m.at e).sendPacket e cid

/-- Meaning of PROBE_TIMEOUT (R217, R231, R243): the PROBE goes out again where its timer has run out, and rto doubles. -/
def execProbeTimeout (cid : Nat) (e : Env) (s : State) : Res :=
  s.run fun m =>
    let m := m.at e
    match m.conn cid with
    | none => m
    | some c =>
      if c.txState ≠ .probing || m.now < c.probeDue then m
      else m.probeAgain e cid { c with rto := min (2 * c.rto) m.rtoMax }

/-- Meaning of ND_WAIT_EXPIRY (R237): a run ends after the nd_wait that stood when it started (R238). -/
def execNdWaitExpiry (cid : Nat) (e : Env) (s : State) : Res :=
  s.run fun m =>
    let m := m.at e
    match m.conn cid with
    | none => m
    | some c =>
      match c.ndRun with
      | none => m
      | some t => if t ≤ m.now then (m.dirNoDomain e cid).settle e else m

/-! ## Trim notices and delayed ACKs -/

/-- Meaning of TRIM_NOTICE (R43, R202, R226, R242): one TRIMMED NACK per PSN and attempt inside the window, else a discard. -/
def execTrimNotice (k : Nat) (e : Env) (s : State) : Res :=
  s.run fun m =>
    let m := m.at e
    match m.takeInbox k (fun p => p.trimmed && !malformed p) with
    | none => m
    | some (p, m) =>
      match m.ctlConn p with
      | none => m.count (pgXpt (m.tileFor p)) 14
      | some (cid, c, m) =>
        if isControl p.opcode || c.rxState = .none || p.epoch ≠ c.rxEpoch || 1024 ≤ seqSub 24 p.psn c.rxBase ||
            c.bitmap.contains p.psn || c.trims.contains (p.psn, p.attempt) then m.count (pgXpt (tileOfCid cid)) 14
        else
          ((m.setConn cid { c with trims := c.trims ++ [(p.psn, p.attempt)] }).nack cid p.tc p.psn p.attempt nkTrimmed).settle e

/-- Meaning of ACK_DELAY (R43, R214, R216, R224, R225): an ACK for acceptances not yet reported, ack_delay after the first of them. -/
def execAckDelay (cid : Nat) (e : Env) (s : State) : Res :=
  s.run fun m =>
    let m := m.at e
    match m.conn cid with
    | none => m
    | some c => if c.ackPend = 0 || m.now < c.ackDue then m else (m.sendAck cid c.ackTc).settle e

end Sys2Proof.Machine
end

