-- ==== Sys2Proof/Machine/Lms.lean ====
section
/-! DEFINITION. The check of a signature by a vendor root key (R692): one level of HSS/LMS as RFC 8554 defines it, with
LMS_SHA256_M32_H20 and LMOTS_SHA256_N32_W8. -/

namespace Sys2Proof.Machine

/-- The type codes of R692. -/
def lmsH20 : Nat := 8
def lmotsW8 : Nat := 4

/-- Height of the tree, and hash chains of a one-time signature. -/
def lmsHeight : Nat := 20
def lmotsChains : Nat := 34

/-- `n` steps of a hash chain from digit `j` on: `pre` is the identifier, the index and the number of the chain. -/
def lmotsChain (pre : List Byte) : Nat → Nat → List Byte → List Byte
  | 0, _, x => x
  | n + 1, j, x => lmotsChain pre n (j + 1) (sha256 (pre ++ [BitVec.ofNat 8 j] ++ x))

/-- The digits that a one-time signature signs: the 32 bytes of a hash, and their checksum. -/
def lmotsDigits (h : List Byte) : List Nat :=
  h.map BitVec.toNat ++ (beBytes 2 ((h.map (fun b => 255 - b.toNat)).sum)).map BitVec.toNat

/-- The one-time public key that a signature of a message leads to: `pre` is the identifier and the index, `y` the hashes of the
signature. -/
def lmotsKey (pre c y msg : List Byte) : List Byte :=
  let digits := lmotsDigits (sha256 (pre ++ [0x81, 0x81] ++ c ++ msg))
  sha256 (pre ++ [0x80, 0x80] ++ (List.range lmotsChains).flatMap (fun i =>
    let a := digits.getD i 0
    lmotsChain (pre ++ beBytes 2 i) (255 - a) a ((y.drop (32 * i)).take 32)))

/-- The root of the tree above a node, from the path of its siblings. -/
def lmsRoot (ident : List Byte) : Nat → Nat → List Byte → List Byte → List Byte
  | 0, _, x, _ => x
  | n + 1, node, x, path =>
    let side := path.take 32
    let pair := if node % 2 = 1 then side ++ x else x ++ side
    lmsRoot ident n (node / 2) (sha256 (ident ++ beBytes 4 (node / 2) ++ [0x83, 0x83] ++ pair)) (path.drop 32)

/-- Big-endian bytes of a text at an offset, as a number. -/
def fieldBE (bs : List Byte) (off n : Nat) : Nat := leNat ((bs.drop off).take n).reverse

/-- Whether a signature of 1,776 bytes by a public key of 60 bytes is one of a message (R692). -/
def hssCheck (pub msg sig : List Byte) : Bool :=
  let ident := (pub.drop 12).take 16
  let q := fieldBE sig 4 4
  let pre := ident ++ beBytes 4 q
  let key := lmotsKey pre ((sig.drop 12).take 32) (sig.drop 44) msg
  let node := 2 ^ lmsHeight + q
  let leaf := sha256 (ident ++ beBytes 4 node ++ [0x82, 0x82] ++ key)
  sig.length = 1776 && fieldBE sig 0 4 = 0 && fieldBE pub 0 4 = 1 && fieldBE pub 4 4 = lmsH20 && fieldBE pub 8 4 = lmotsW8 &&
  fieldBE sig 8 4 = lmotsW8 && fieldBE sig 1132 4 = lmsH20 && decide (q < 2 ^ lmsHeight) &&
  lmsRoot ident lmsHeight node leaf (sig.drop 1136) = (pub.drop 28).take 32

end Sys2Proof.Machine
end

