-- ==== Sys2Proof/Machine/Boot.lean ====
section
/-! DEFINITION. The boot flash, verification, the measurement log and the identity (R689–R706): what boot, the sideband and the admin
queue share. -/

namespace Sys2Proof.Machine

/-! ## The directory and the image slots -/

/-- The 32 bytes of a directory copy (R690). -/
def Dir.bytes (d : Dir) : List Byte :=
  let b := leBytes 4 0x52445849 ++ leBytes 4 d.seq ++ leBytes 1 d.active ++ leBytes 1 d.pending ++ leBytes 1 d.tries ++ leBytes 1 d.flags ++
    List.replicate 16 0
  b ++ leBytes 4 (crc32c b)

/-- The directory copy at the start of an area, where it is valid (R690). -/
def dirOf (b : List Byte) : Option Dir :=
  if fieldLE b 0 4 = 0x52445849 && fieldLE b 0x1C 4 = crc32c (b.take 0x1C) && b.length = 32 then
    some { seq := fieldLE b 4 4, active := fieldLE b 8 1, pending := fieldLE b 9 1, tries := fieldLE b 10 1, flags := fieldLE b 11 1 }
  else none

/-- The directory copy that governs (R690): the valid one with the higher seq. -/
def Nor.dir (n : Nor) : Option Dir :=
  match dirOf n.area0, dirOf n.area1 with
  | some a, some b => some (if a.seq < b.seq then b else a)
  | some a, none => some a
  | none, b => b

/-- The directory changes (R690): the copy that does not govern is erased, and takes the new one with seq one higher. -/
def Nor.setDir (n : Nor) (f : Dir → Dir) : Nor :=
  let old := n.dir.getD { seq := 0, active := 0xFF, pending := 0xFF, tries := 0, flags := 0 }
  let new := { f old with seq := old.seq + 1 }
  let first : Bool := match dirOf n.area0, dirOf n.area1 with
    | some a, some b => decide (b.seq ≤ a.seq)
    | some _, none => true
    | none, _ => false
  if first then { n with area1 := new.bytes } else { n with area0 := new.bytes }

/-- The bytes of an image slot that are not erased: 0 A, 1 B. -/
def Nor.slot (n : Nor) (k : Nat) : List (Nat × Byte) := if k = 0 then n.slotA else n.slotB

/-- An image slot with its bytes changed. -/
def Nor.setSlot (n : Nor) (k : Nat) (l : List (Nat × Byte)) : Nor := if k = 0 then { n with slotA := l } else { n with slotB := l }

/-- Bytes of an image slot; an erased byte reads as 0xFF. -/
def Nor.read (n : Nor) (k off len : Nat) : List Byte :=
  (List.range len).map (fun i => Sparse.read (fun _ => 0xFF) (n.slot k) (off + i))

/-- Bytes of a slot are programmed: bits go from 1 to 0. -/
def Nor.program (n : Nor) (k off : Nat) (bs : List Byte) : Nor :=
  n.setSlot k ((bs.zipIdx).foldl (fun l b =>
    let a := off + b.2
    Sparse.write (fun _ => 0xFF) l a (Sparse.read (fun _ => 0xFF) l a &&& b.1)) (n.slot k))

/-- Length of an image slot. -/
def slotBytes : Nat := 28 * 2 ^ 20

/-! ## Images -/

/-- A component of an image (R691). -/
structure ImgComp where
  id : Nat
  svn : Nat
  offset : Nat
  size : Nat
  cver : Nat
  digest : List Byte
  deriving DecidableEq, Repr

/-- The components that an image header lists. -/
def imgComps (h : List Byte) : List ImgComp :=
  (List.range 3).map (fun i =>
    let o := 0x20 + 64 * i
    { id := fieldLE h o 1, svn := fieldLE h (o + 1) 1, offset := fieldLE h (o + 4) 4, size := fieldLE h (o + 8) 4,
      cver := fieldLE h (o + 16) 8, digest := (h.drop (o + 24)).take 32 })

/-- The header of the image in a slot, bytes 0x000–0x0FF. -/
def Nor.header (n : Nor) (k : Nat) : List Byte := n.read k 0 0x100

/-- Whether a header and its component table are in order (R691): step 2 of R693. -/
def headerOk (h : List Byte) : Bool :=
  let length := fieldLE h 0x10 4
  let cs := imgComps h
  let inside (c : ImgComp) : Bool := c.offset % 4096 = 0 && decide (0x800 ≤ c.offset) && decide (2 ^ 20 ≤ c.size) &&
    decide (c.size ≤ 24 * 2 ^ 20) && decide (c.offset + c.size ≤ length)
  let apart (c d : ImgComp) : Bool := c.id = d.id || decide (c.offset + c.size ≤ d.offset) || decide (d.offset + d.size ≤ c.offset)
  fieldLE h 0 4 = 0x57465849 && fieldLE h 4 2 = 1 && fieldLE h 6 2 = 3 && decide (length ≤ slotBytes) && decide (fieldLE h 0x14 1 ≤ 1) &&
  cs.map (·.id) = [1, 2, 3] && cs.all inside && cs.all (fun c => cs.all (apart c))

/-- The fuse counter of a component (R695). -/
def Fuses.ctr (f : Fuses) : Nat → Nat
  | 1 => f.ctr1
  | 2 => f.ctr2
  | _ => f.ctr3

/-- Whether a signature by a vendor root key that is not revoked is one of a message (R692). -/
def Module.rootSigned (m : Module) (root : Nat) (msg sig : List Byte) : Bool :=
  !nbit m.fuses.revoked root && hssCheck (beBytes 60 (Config.rootKey root)) msg sig

/-- Steps 2–4 of R693 on a slot: 0 where they pass, else the result of FWCTL. -/
def Module.checkImage (m : Module) (k : Nat) : Nat :=
  let h := m.y.nor.header k
  let root := fieldLE h 0x14 1
  if !headerOk h then 4
  else if !m.rootSigned root h (m.y.nor.read k 0x100 1776) then 2
  else if (imgComps h).all (fun c => decide (m.fuses.ctr c.id ≤ c.svn)) then 0
  else 3

/-- Whether a component in a slot has the digest its header gives. -/
def Nor.digestOk (n : Nor) (k : Nat) (c : ImgComp) : Bool := sha256 (n.read k c.offset c.size) = c.digest

/-! ## The measurement log -/

/-- The bytes of a log entry (R703). -/
def LogEnt.bytes (l : LogEnt) : List Byte :=
  [BitVec.ofNat 8 l.kind, BitVec.ofNat 8 l.slot, BitVec.ofNat 8 l.svn] ++ List.replicate 5 0 ++ leBytes 8 l.version ++ l.digest

/-- An entry is recorded (R703, R704). -/
def Module.logAdd (m : Module) (l : LogEnt) : Module :=
  let full := 32 ≤ m.y.log.length
  let y := { m.y with logDigest := sha256 (m.y.logDigest ++ l.bytes), log := if full then m.y.log else m.y.log ++ [l] }
  let m := { m with y := y }
  let m := if full then m.put F.trustStsTrunc 1 else m
  m.put F.trustStsLogN m.y.log.length

/-- The log is empty. -/
def Module.logClear (m : Module) : Module :=
  let m := { m with y := { m.y with log := [], logDigest := List.replicate 32 0 } }
  (m.put F.trustStsTrunc 0).put F.trustStsLogN 0

/-- A digest whose input the spec does not give (R703). -/
def Module.freeDigest (m : Module) : List Byte × Module :=
  (leBytes 32 (Config.freeDigest m.draws), { m with draws := m.draws + 1 })

/-- The fuses as a version field: the three counters, then the lifecycle (R703). -/
def Fuses.version (f : Fuses) : Nat := f.ctr1 + f.ctr2 * 2 ^ 8 + f.ctr3 * 2 ^ 16 + f.lifecycle * 2 ^ 24

/-! ## The identity -/

/-- The 32 bytes of a reservation record (R700). -/
def resvBytes (seq limit : Nat) : List Byte :=
  let b := leBytes 4 0x56525849 ++ leBytes 4 seq ++ leBytes 4 limit ++ List.replicate 16 0
  b ++ leBytes 4 (crc32c b)

/-- The seq and the limit of a reservation record, where it is valid (R700). -/
def resvOf (b : List Byte) : Option (Nat × Nat) :=
  if fieldLE b 0 4 = 0x56525849 && fieldLE b 28 4 = crc32c (b.take 28) && b.length = 32 then some (fieldLE b 4 4, fieldLE b 8 4) else none

/-- The valid reservation records of both areas. -/
def Nor.records (n : Nor) : List (Nat × Nat) := (n.resv0 ++ n.resv1).filterMap resvOf

/-- The reservation limit: the highest valid one found (R699). -/
def Nor.limit (n : Nor) : Nat := (n.records.map (·.2)).foldl max 0

/-- TRUST[0].IDSTS shows the next index and the reservations left (R702). -/
def Module.showIdentity (m : Module) : Module :=
  let left := (2 ^ 25 - m.y.idLimit) / 1024
  ((m.put F.trustIdstsNext m.y.idNext).put F.trustIdstsLeft left).putFlag F.trustIdstsExhausted (m.y.idNext = m.y.idLimit && left = 0)

/-- The MMP starts (R699): its next index is the limit. -/
def Module.startIdentity (m : Module) : Module :=
  let k := m.y.nor.limit
  { m with y := { m.y with idNext := k, idLimit := k } }.showIdentity

/-- Records that an area holds: 128 KiB of 32 bytes. -/
def resvRecords : Nat := 4096

/-- A record with a limit is programmed (R700): appended to the area in use, or to the other one, erased first, where that is full. -/
def Nor.reserve (n : Nor) (limit : Nat) : Nor :=
  let seq := (n.records.map (·.1)).foldl max 0
  let new := resvBytes (seq + 1) limit
  let second := (n.resv1.filterMap resvOf).any (fun r => r.1 = seq)
  if second then
    if n.resv1.length < resvRecords then { n with resv1 := n.resv1 ++ [new] } else { n with resv0 := [new] }
  else if n.resv0.length < resvRecords then { n with resv0 := n.resv0 ++ [new] } else { n with resv1 := [new] }

/-- The next signature index, taken (R698, R699, R702); none where the identity is exhausted. -/
def Module.nextIndex (m : Module) : Option Nat × Module :=
  let m := if m.y.idLimit < m.y.nor.limit then m.startIdentity else m
  let q := m.y.idNext
  if q < m.y.idLimit then (some q, { m with y := { m.y with idNext := q + 1 } }.showIdentity)
  else if 2 ^ 25 < q + 1024 then (none, m.showIdentity)
  else
    let y := { m.y with nor := m.y.nor.reserve (q + 1024), idLimit := q + 1024, idNext := q + 1 }
    let m := { m with y := y }.showIdentity
    (some q, if (2 ^ 25 - (q + 1024)) / 1024 < 1024 then m.raise (pgTrust 0) Ev.idLow else m)

/-- Signatures that fail their check take an index each (R701); then the index of the one that goes out. -/
def Module.signIndex (m : Module) : Nat → Option Nat × Module
  | 0 => m.nextIndex
  | n + 1 =>
    match m.nextIndex with
    | (none, m) => (none, m)
    | (some _, m) => (m.raise (pgTrust 0) Ev.signFail).signIndex n

/-- Some bytes cut or filled with zeros to a length. -/
def fitBytes (n : Nat) (bs : List Byte) : List Byte := bs.take n ++ List.replicate (n - bs.length) 0

/-- Length of a report (R705). -/
def Module.reportLength (m : Module) (cert : Bool) : Nat := 0x80 + 48 * m.y.log.length + 3124 + (if cert then 1844 else 0)

/-- The signed part of an attestation report (R705). -/
def Module.reportBody (m : Module) (cert : Bool) (nonce : List Byte) (q : Nat) (now : Nat) : List Byte :=
  let flags := b2n cert + 2 * m.get F.trustStsTrunc + 4 * m.get F.trustStsFallback + 8 * m.get F.trustStsDebug
  leBytes 4 0x52415849 ++ leBytes 2 1 ++ leBytes 2 flags ++ leBytes 4 m.fuses.serial ++ leBytes 1 m.fuses.variant ++
  leBytes 1 m.fuses.stepping ++ leBytes 1 m.fuses.lifecycle ++ leBytes 1 m.mode ++
  leBytes 4 (m.fa + b2n m.groupValid * 2 ^ 31) ++ leBytes 1 m.fuses.ctr1 ++ leBytes 1 m.fuses.ctr2 ++ leBytes 1 m.fuses.ctr3 ++
  leBytes 1 (m.get F.trustStsSlot) ++ leBytes 8 m.y.version ++ leBytes 8 now ++ leBytes 4 q ++
  leBytes 2 m.y.log.length ++ leBytes 2 0 ++ fitBytes 32 nonce ++ m.y.logDigest ++ List.replicate 16 0 ++
  m.y.log.flatMap LogEnt.bytes

/-- A signed report (R698, R701, R705); none where the identity is exhausted. -/
def Module.report (m : Module) (cert : Bool) (nonce : List Byte) (bad now : Nat) : Option (List Byte) × Module :=
  match m.signIndex bad with
  | (none, m) => (none, m)
  | (some q, m) =>
    let body := m.reportBody cert nonce q now
    (some (body ++ leBytes 3124 (Config.identitySign q body) ++ (if cert then fitBytes 1844 m.y.nor.cert else [])), m)

/-! ## Boot -/

/-- The slot choice of R694, with the directory it writes. -/
def Module.chooseSlot (m : Module) : Module :=
  let boot (m : Module) (k : Nat) (fell : Bool) : Module :=
    { m with y := { m.y with bootSlot := k } }.putFlag F.trustStsFallback fell
  match m.y.nor.dir with
  | none => boot m 0xFF false
  | some d =>
    if d.pending ≤ 1 then
      if 0 < d.tries then
        boot { m with y := { m.y with nor := m.y.nor.setDir fun (d : Dir) => { d with tries := d.tries - 1 } } } d.pending false
      else
        boot { m with y := { m.y with nor := m.y.nor.setDir fun (d : Dir) => { d with pending := 0xFF, flags := d.flags ||| 1 } } }
          d.active true
    else boot m d.active false

/-- The components of a slot are hashed and recorded one after another; the next only where the one before matches (R693). -/
def Module.measure (m : Module) (k : Nat) : List ImgComp → Bool × Module
  | [] => (true, m)
  | c :: l =>
    let d := sha256 (m.y.nor.read k c.offset c.size)
    let m := m.logAdd { kind := 3 + c.id, slot := k, svn := c.svn, version := c.cver, digest := d }
    if d = c.digest then m.measure k l else (false, m)

/-- Steps 2–7 of R693 on a slot. -/
def Module.trySlot (m : Module) (k : Nat) : Bool × Module :=
  if 1 < k then (false, m)
  else
    let h := m.y.nor.header k
    let (d2, m) := m.freeDigest
    let m := m.logAdd { kind := 2, slot := k, svn := 0, version := fieldLE h 8 8, digest := d2 }
    let m := m.logAdd { kind := 3, slot := k, svn := 0, version := fieldLE h 8 8, digest := sha256 h }
    if m.checkImage k ≠ 0 then (false, m)
    else
      let (d7, m) := m.freeDigest
      let m := m.logAdd { kind := 7, slot := 0xFF, svn := 0, version := m.fuses.version, digest := d7 }
      m.measure k (imgComps h)

/-- What runs once a slot has booted (R693, R695). -/
def Module.slotRuns (m : Module) (k : Nat) : Module :=
  let h := m.y.nor.header k
  let svn (i : Nat) : Nat := fieldLE h (0x21 + 64 * i) 1
  let m := { m with y := { m.y with version := fieldLE h 8 8 } }
  ((((m.put F.trustStsSlot k).put F.trustSvnRun1 (svn 0)).put F.trustSvnRun2 (svn 1)).put F.trustSvnRun3 (svn 2)).startIdentity

/-- Step 1 of R623 (R693, R694, R703): the log restarts; where the chosen slot fails, the other is tried, unless it is not named as a
fallback (R696). -/
def Module.boot (m : Module) : Bool × Module :=
  let k := m.y.bootSlot
  let m := m.logClear.logAdd { kind := 1, slot := 0xFF, svn := 0, version := Config.romVersion, digest := leBytes 32 Config.romDigest }
  match m.trySlot k with
  | (true, m) => (true, m.slotRuns k)
  | (false, m) =>
    if 1 < k || m.y.nor.barred.contains (1 - k) then (false, m)
    else
      let m := { m with y := { m.y with nor := m.y.nor.setDir fun (d : Dir) => { d with flags := d.flags ||| 1 } } }
      let m := m.put F.trustStsFallback 1
      match m.trySlot (1 - k) with
      | (true, m) => (true, m.slotRuns (1 - k))
      | (false, m) => (false, m)

end Sys2Proof.Machine
end

