-- ==== Sys2Proof/Machine/Front.lean ====
section
/-! DEFINITION. The front end (R648–R669): what a sample shows, the start conditions, turning the FET off, and trips. -/

namespace Sys2Proof.Machine

/-- States of the front end (PWR.STS.state). -/
def feOff : Nat := 0
def feWait : Nat := 1
def feRamp : Nat := 2
def feRun : Nat := 3
def feCool : Nat := 4
def feLatched : Nat := 5

/-- State of the front end. -/
def Module.feState (m : Module) : Nat := m.get F.pwrStsState

/-- Whether the FET is on. -/
def Module.fetOn (m : Module) : Bool := m.feState = feRamp || m.feState = feRun

/-- Power-good. -/
def Module.pg (m : Module) : Bool := m.flag F.pwrStsPg

/-- The module with its front end changed. -/
def Module.onFe (m : Module) (f : Front → Front) : Module := { m with y := { m.y with fe := f m.y.fe } }

/-- Input power as the POWER cause of R627 sees it, 0.1 W: above the variant maximum or not, and since when below pcap. -/
def Module.notePower (m : Module) (p : Nat) : Module :=
  let low := decide (p < 10 * m.get F.govBudgetPcap)
  { m with y := { m.y with powerOver := decide (10 * m.variantMax < p),
                           powerLowAt := if low then some (m.y.powerLowAt.getD m.now) else none } }

/-- What a sample shows (R659, PWR.MEAS, PWR.TEMP, PWR.STS). The inrush timer stops in the first sample with the output at 92 % of the
input and the gate enhanced (R654, R660). -/
def Module.feSample (m : Module) (x : Meas) : Module :=
  let m := (((m.put F.pwrMeasVin x.vin).put F.pwrMeasVout x.vout).put F.pwrMeasIin x.iin).put F.pwrMeasPin x.pin
  let used := max x.sensed x.model
  let m := ((m.put F.pwrTempSensed (unsigned 8 x.sensed)).put F.pwrTempModel (unsigned 8 x.model)).put F.pwrTempUsed (unsigned 8 used)
  let m := (m.onFe fun f => { f with used := used }).putFlag F.pwrStsAuxOk (!m.y.fe.auxGone)
  let m := (m.putFlag F.pwrStsFold (x.fold && m.fetOn)).notePower x.pin
  if m.y.fe.inrush && decide (92 * x.vin ≤ 100 * x.vout) && x.enhanced then
    (m.onFe fun f => { f with inrush := false }).put F.pwrStsState feRun
  else m

/-- The conditions of R650, apart from their 10 ms. -/
def Module.feMay (m : Module) : Bool :=
  !m.y.fe.auxGone && m.flag F.pwrStsPwrEn && m.flag F.pwrStsInOk && !m.flag F.pwrCtlSwOff && m.feState ≠ feCool &&
  m.feState ≠ feLatched && decide (m.y.fe.used < 70)

/-- The front end begins or gives up the 10 ms of R650. -/
def Module.feJudge (m : Module) : Module :=
  if m.feState = feOff && m.feMay then (m.put F.pwrStsState feWait).onFe fun f => { f with waitAt := some m.now }
  else if m.feState = feWait && !m.feMay then (m.put F.pwrStsState feOff).onFe fun f => { f with waitAt := none }
  else m

/-- Power-good falls (R662, R663). -/
def Module.pgFall (m : Module) : Module :=
  if m.pg then ((m.put F.pwrStsPg 0).onFe fun f => { f with pgAt := none }).raise pgPwr Ev.pgFall else m

/-- An attempt that MODE.REQ DAWN started ends (R652). -/
def Module.dawnFails (m : Module) : Module :=
  if m.y.dawnWait then
    ({ m with y := { m.y with dawnWait := false } }.put F.modeStsBusy 0).raise pgMode Ev.reqRefused
  else m

/-- The FET turns off, for a cause as mid_cause has it (R664, R669); 6 is one that R669 does not name. -/
def Module.fetOff (m : Module) (by' : Nat) : Module :=
  let on := m.fetOn
  let m := if on then m.put F.pwrStsState feOff else m
  let m := (m.put F.pwrStsFold 0).put F.pwrStsIlim 0
  let m := m.onFe fun f =>
    { f with rampAt := none, inrush := false, runAt := none, offBy := if on then by' else f.offBy }
  m.pgFall

/-- Trip causes (PWR.FLTLOG.cause). -/
def tripShort : Nat := 1
def tripCollapse : Nat := 2
def tripInrush : Nat := 3
def tripRun : Nat := 4
def tripFastOc : Nat := 5
def tripFetOt : Nat := 6

/-- A trip (R665, R668, R669): the FET turns off, the trip is recorded, and the front end cools or latches off. -/
def Module.trip (m : Module) (cause : Nat) : Module :=
  let retries := bits m.y.fe.rampCfg 22 20
  let tries := min 8 (m.get F.pwrStsTries + 1)
  let m := (m.fetOff 3).put F.pwrStsTries tries
  let m :=
    if m.flag F.pwrFltlogValid then m.put F.pwrFltlogOverrun 1
    else (((m.put F.pwrFltlogValid 1).put F.pwrFltlogCause cause).put F.pwrFltlogTries tries).put F.pwrFltlogAtMs (m.now / 1000000)
  let m := (m.onFe fun f => { f with fault := true }).raise pgPwr Ev.trip
  let m :=
    if tries ≤ retries then (m.put F.pwrStsState feCool).onFe fun f => { f with coolAt := some m.now }
    else (m.put F.pwrStsState feLatched).raise pgPwr Ev.latchOff
  m.dawnFails

/-- A latch-off clears (R666, R667). -/
def Module.unlatch (m : Module) : Module :=
  if m.feState = feLatched then (((m.put F.pwrStsState feOff).put F.pwrStsTries 0)).feJudge else m

/-- A write of PWR.CTL (R664, R667): sw_off holds the FET off while it is 1, clear clears a latch-off. -/
def Module.pwrCtl (m : Module) (w : Wr) : Module :=
  let a := F.pwrCtlSwOff.reg
  if !m.reaches a || !touches w.half 2 1 then m.regWrite a w
  else
    let m := m.put F.pwrCtlSwOff (bits w.value 1 1)
    let m := if bit w.value 1 then m.fetOff 6 else m
    (if bit w.value 2 then m.unlatch else m).feJudge

end Sys2Proof.Machine
end

