-- ==== Sys2Proof/Machine/Scheduling.lean ====
section
/-! DEFINITION. Traffic classes, shaping and quiet windows (R396–R421): the egress scheduler, token buckets at the ports, gates and
their schedules; and the dwell bound with its trims (R445–R454). -/

namespace Sys2Proof.Machine

/-! ## Gates -/

/-- Length of a schedule's cycle, ns (R414). -/
def Sched.cycle (s : Sched) : Nat := (s.ents.map (·.2)).sum

/-- The entry in force at an offset of the cycle, and what is left of it. -/
def entryAt : List (Nat × Nat) → Nat → Nat → Nat × Nat
  | [], _, i => (i, 0)
  | (_, d) :: l, off, i => if off < d then (i, d - off) else entryAt l (off - d) (i + 1)

/-- The entry of a schedule in force at a fabric time, and what is left of it, ns (R414). -/
def Sched.pos (s : Sched) (now : Nat) : Nat × Nat :=
  if s.cycle = 0 then (0, 0) else entryAt s.ents (((now : Int) - s.base) % (s.cycle : Int)).toNat 0

/-- Durations of the leading entries that are open for a class. -/
def openRun (t : Nat) : List (Nat × Nat) → Nat
  | [] => 0
  | (o, d) :: l => if nbit o t then d + openRun t l else 0

/-- What a class's gate does at a fabric time (R413–R415): closed, open without end, or open for so many ns. -/
inductive GateNow where
  | closed | always | left (ns : Nat)
  deriving DecidableEq, Repr

/-- The gate of a class under a schedule. -/
def Sched.gate (s : Sched) (t now : Nat) : GateNow :=
  if !s.en || t = 7 || s.ents.all (fun x => nbit x.1 t) then .always
  else
    let (i, rest) := s.pos now
    match s.ents[i]? with
    | none => .closed
    | some x =>
      if nbit x.1 t then .left (rest + openRun t ((s.ents.drop (i + 1)) ++ s.ents.take i)) else .closed

/-- The gate of a class of a port; a bypassed class's is always open (R420). -/
def Module.gate (m : Module) (p t : Nat) : GateNow :=
  match (m.port p).sched with
  | none => .always
  | some s => if nbit (m.get (F.pschGstsBypass p)) t then .always else s.gate t m.fabricNow

/-- Whether the gate of a head's class is open and the head fits its window (R415). -/
def Module.gateAdmits (m : Module) (p : Nat) (d : QPkt) : Bool :=
  match m.gate p d.pkt.tc with
  | .closed => false
  | .always => true
  | .left ns => decide ((d.pkt.flits + 2) * m.tflit p ≤ ns * 1000)

/-- Lengths of the runs of open entries. -/
def runs (t : Nat) : List (Nat × Nat) → Nat → List Nat
  | [], acc => if acc = 0 then [] else [acc]
  | (o, d) :: l, acc => if nbit o t then runs t l (acc + d) else (if acc = 0 then [] else [acc]) ++ runs t l 0

/-- The windows of a class in a cycle (chapter "Traffic classes", "Gates"): none where the class is open in every entry. -/
def Sched.windows (s : Sched) (t : Nat) : List Nat :=
  match s.ents.findIdx? (fun x => !nbit x.1 t) with
  | none => []
  | some i => runs t (s.ents.drop i ++ s.ents.take i) 0

/-- Whether a class has a window below the floor of a flit time (R416). -/
def Sched.short (s : Sched) (t flit : Nat) : Bool := s.en && (s.windows t).any (fun w => decide (w * 1000 < 35 * flit))

/-- A port's bypassed classes at its current flit time (R420). -/
def Module.rejudge (m : Module) (p : Nat) : Module :=
  let old := m.get (F.pschGstsBypass p)
  let new := match (m.port p).sched with
    | none => 0
    | some s => ((List.range 7).map (fun t => if s.short t (m.tflit p) then 2 ^ t else 0)).sum
  let m := m.put (F.pschGstsBypass p) new
  if (List.range 7).any (fun t => nbit new t && !nbit old t) then m.raise (pgPsch p) Ev.gateBypass else m

/-- Whether a narrower width leaves a window of TC0–TC6, in force or pending, below the floor (R419). -/
def Module.narrowBlocked (m : Module) (p width : Nat) : Bool :=
  let flit := flitPs width (m.get (F.portLstsRate p))
  let bad (s : Sched) : Bool := (List.range 7).any (fun t => s.short t flit)
  (match (m.port p).sched with
    | none => false
    | some s => bad s) ||
  (match (m.port p).next with
    | none => false
    | some (_, s) => bad s)

/-- The staged schedule of a port. -/
def Module.stagedSched (m : Module) (p : Nat) : Sched :=
  { en := m.flag (F.pschGctlEn p), base := m.get (F.pschGbaseBase p),
    ents := (List.range (min 16 (m.get (F.pschGctlCount p)))).map (fun i => (m.get (F.pschGentOpen p i), m.get (F.pschGentDur p i))) }

/-- The first failing check of a commit, 0 for none (R417). -/
def Module.gateCheck (m : Module) (p : Nat) (s : Sched) : Nat :=
  let n := m.get (F.pschGctlCount p)
  let q := m.port p
  let changing := ((q.wown.map (·.width)).toList ++ (q.wfar.map (·.width)).toList).map
    (fun w => flitPs w (m.get (F.portLstsRate p)))
  let flit := changing.foldl max (m.tflit p)
  if !s.en then 0
  else if n < 1 || 16 < n then 1
  else if s.ents.any (fun x => x.2 = 0) || 2 ^ 32 - 1 < s.cycle then 2
  else if (List.range 7).any (fun t => s.short t flit) then 3
  else 0

/-- The first instant of a schedule that is not earlier than a time (R418). -/
def Sched.startAt (s : Sched) (now : Nat) : Nat :=
  if now ≤ s.base then s.base else if s.cycle = 0 then now else s.base + ceilDiv (now - s.base) s.cycle * s.cycle

/-- A write of PSCH[p].GCTL: the staged fields, and the commit (R69, R417, R418). -/
def Module.gctlWrite (m : Module) (p : Nat) (w : Wr) : Module :=
  let a := (F.pschGctlEn p).reg
  let m1 := m.regWrite a w
  if !m.reaches a || !bit (writeOnes w) 63 then m1
  else
    let s := m1.stagedSched p
    let r := m1.gateCheck p s
    let m1 := m1.put (F.pschGctlResult p) r
    if r ≠ 0 then m1.raise (pgPsch p) Ev.gateReject
    else (m1.onPort p fun q => { q with next := some (s.startAt m1.fabricNow, s) }).put (F.pschGstsPending p) 1

/-- Meaning of GATE_COMMIT (R416–R418). -/
def execGateCommit (p : Fin 48) (w : Wr) (e : Env) (s : State) : Res := s.runAs w.master fun m => (m.at e).gctlWrite p.val w

/-- Meaning of SCHED_SWITCH (R414, R418): at its first instant, the pending schedule of a port comes into force. -/
def execSchedSwitch (p : Fin 48) (e : Env) (s : State) : Res :=
  s.run fun m =>
    let m := m.at e
    let p := p.val
    match (m.port p).next with
    | none => m
    | some (t, s) =>
      if m.fabricNow < t then m
      else
        let m := m.onPort p fun q => { q with sched := some s, next := none }
        let m := (m.putFlag (F.pschGstsActive p) s.en).put (F.pschGstsPending p) 0
        (m.rejudge p).raise (pgPsch p) Ev.schedSwitch

/-! ## Buckets at a port -/

/-- Offset of PSCH[p].BKT[t]. -/
def bktReg (p t : Nat) : Nat := pgPsch p * 0x1000 + 0x80 + 8 * t

/-- The bucket pair of a class of a port, now (R402, R403). -/
def Module.bucket (m : Module) (p t : Nat) : Bucket :=
  let w := m.word (bktReg p t)
  (KMap.getD (m.port p).buckets t (fullBucket w t m.now)).at 4 w t m.now

/-- A write of a bucket register, of a port or of an injection profile (R404): both levels take their burst sizes. -/
def Module.bucketWrite (m : Module) (a : Nat) (w : Wr) : Module :=
  let m1 := m.regWrite a w
  let page := a / 0x1000
  let off := a % 0x1000
  if !m.reaches a then m1
  else if pgPsch 0 ≤ page && page < pgPsch 48 && 0x80 ≤ off && off < 0xC0 then
    m1.onPort (page - pgPsch 0) fun q => { q with buckets := KMap.erase q.buckets ((off - 0x80) / 8) }
  else if page = pgXpt 0 && 0x400 ≤ off && off < 0x800 then
    let k := (off - 0x400) / 8
    { m1 with n := { m1.n with inj := m1.n.inj.filter (fun b => b.1 % 128 ≠ k) } }
  else m1

/-- Meaning of BUCKET_WRITE (R404, R405). -/
def execBucketWrite (addr : BitVec 24) (w : Wr) (e : Env) (s : State) : Res :=
  s.runAs w.master fun m => (m.at e).bucketWrite (regAddr addr.toNat) w

/-! ## The egress scheduler -/

/-- The head of a class of a port. -/
def Port.head (q : Port) (c : Nat) : Option QPkt := q.queue.find? (fun d => d.pkt.tc = c)

/-- Whether a link can take one more packet now (R445, R466, R484, R508): credits, room in the replay buffer, room in the sequence
space, every cell staged, and TC7 only on a quarantined link. -/
def Module.linkTakes (m : Module) (p : Nat) (d : QPkt) : Bool :=
  let q := m.port p
  let held := (q.replay.map (fun r => r.pkt.flits)).sum
  let next := m.get (F.portLstsTxSeq p)
  let behind := match q.replay with
    | [] => 0
    | r :: _ => seqSub 12 next r.seq
  m.isUp p && (m.qcause p = 0 || d.pkt.tc = 7) && m.staged d.id &&
  (if d.pkt.trimmed then decide (1 ≤ q.credStub) else decide (d.pkt.flits ≤ q.credReg)) &&
  decide (held + d.pkt.flits ≤ replayPool p) && decide (behind < 2047)

/-- How the scheduler judges a head (R396, R398): eligible and committed. -/
def Module.judge (m : Module) (p : Nat) (d : QPkt) : Bool × Bool :=
  if !m.linkTakes p d then (false, false)
  else if d.pkt.trimmed then (true, true)
  else
    let b := m.bucket p d.pkt.tc
    (m.gateAdmits p d && decide (0 < b.peak), decide (0 < b.comm))

/-- A class's weight (R399). -/
def Module.weight (m : Module) (p c : Nat) : Nat := bits (m.word (F.pschWeightW p).reg) (8 * c + 7) (8 * c)

/-- Deficit round robin over the eligible classes of a tier (R399): the class served, and the deficits. `cs` lists class, weight
and flits of the head. The fuel bounds the visits: every round adds at least one flit of at most 33. -/
def drr (cs : List (Nat × Nat × Nat)) : Nat → List Nat → Nat → Nat × List Nat
  | 0, df, pos => (pos, df)
  | n + 1, df, pos =>
    let after := (cs.find? (fun c => pos < c.1)).or cs.head?
    match after with
    | none => (pos, df)
    | some (c, w, f) =>
      let v := df.getD c 0 + w
      if f ≤ v then (c, df.set c (v - f)) else drr cs n (df.set c v) c

/-- The weighted rule in a tier (R399–R401): the class served, its tier's deficits, and whether it is on a visit of nonzero weight.
`mid` says so of the class last served: its visit goes on while its deficit lasts, whatever its weight is now. -/
def serveTier (cs : List (Nat × Nat × Nat)) (df : List Nat) (pos : Nat) (mid : Bool) : Nat × List Nat × Bool :=
  let heavy := cs.filter (fun c => c.2.1 ≠ 0)
  match cs.find? (fun c => mid && c.1 = pos && decide (c.2.2 ≤ df.getD c.1 0)) with
  | some (c, _, f) => (c, df.set c (df.getD c 0 - f), true)
  | none =>
    if heavy.isEmpty then (((cs.find? (fun c => pos < c.1)).or cs.head?).map (·.1) |>.getD pos, df, false)
    else
      let (c, df) := drr heavy 256 df pos
      (c, df, true)

/-- The class that sends next, and the port with its deficits moved (R396). -/
def Module.choose (m : Module) (p : Nat) : Option (Nat × Port) :=
  let q := m.port p
  let heads := (List.range 8).filterMap (fun c => (q.head c).map (fun d => (c, d, m.judge p d)))
  let el := heads.filter (fun h => h.2.2.1)
  let has (c : Nat) : Bool := el.any (fun h => h.1 = c)
  let low := el.filter (fun h => h.1 < 6)
  let committed := low.filter (fun h => h.2.2.2)
  let list (l : List (Nat × QPkt × Bool × Bool)) : List (Nat × Nat × Nat) :=
    l.map (fun h => (h.1, m.weight p h.1, h.2.1.pkt.flits))
  if has 7 then some (7, q)
  else if has 6 then some (6, q)
  else if !committed.isEmpty then
    let (c, df, mid) := serveTier (list committed) q.defC q.posC q.midC
    some (c, { q with defC := df, posC := c, midC := mid })
  else if !low.isEmpty then
    let (c, df, mid) := serveTier (list low) q.defP q.posP q.midP
    some (c, { q with defP := df, posP := c, midP := mid })
  else none

/-- Heads that a gate or a bucket holds are counted, each once (R726). -/
def Module.countHeld (m : Module) (p : Nat) : Module :=
  (List.range 8).foldl (fun m c =>
    match (m.port p).head c with
    | none => m
    | some d =>
      if d.pkt.trimmed then m
      else
        let g := !m.gateAdmits p d
        let b := decide ((m.bucket p c).peak ≤ 0)
        let m1 := if g && !d.heldGate then m.count (pgPsch p) (8 + c) else m
        let m2 := if b && !d.heldBucket then m1.count (pgPsch p) (16 + c) else m1
        m2.onPort p fun q =>
          let mark (x : QPkt) : QPkt :=
            if x.id = d.id then { x with heldGate := x.heldGate || g, heldBucket := x.heldBucket || b } else x
          { q with queue := q.queue.map mark }) m

/-- A packet of a command leaves on a port: the stages of its sample (R729). -/
def Module.sampleStart (m : Module) (p : Packet) : Module :=
  if p.mcast || isControl p.opcode then m
  else match (m.x.conns.find? (fun c => c.2.remote = p.dst && c.2.nd = p.nd)).map (·.2) with
  | none => m
  | some c =>
    match c.tx.find? (fun d => d.psn = p.psn && d.epoch = p.epoch) with
    | none => m
    | some d =>
      match (c.msgs.find? (fun g => g.id = d.msg)).bind (·.op) with
      | none => m
      | some id =>
        let m := if d.off = 0 then m.stage id 6 else m
        if pLast d.pkt && d.pkt.attempt = 0 then m.stage id 7 else m

/-- Packets that are to be sent again go out, oldest first, while credits allow it (R509, R514, R526). -/
def Module.pump (m : Module) (p : Nat) : Nat → Module
  | 0 => m
  | n + 1 =>
    let q := m.port p
    match q.again with
    | [] => m
    | s :: l =>
      match q.replay.find? (fun r => r.seq = s) with
      | none => (m.setPort p { q with again := l }).pump p n
      | some r =>
        let f := r.pkt.flits
        let short := r.respend && (if r.pkt.trimmed then decide (q.credStub < 1) else decide (q.credReg < f))
        if short then m
        else
          let sent (x : RPkt) : RPkt := if x.seq = s then { x with due := m.now + m.get (F.portLcfgRplTo p) * 100, respend := false } else x
          let q1 := { q with again := l, replay := q.replay.map sent,
                             busy := max q.busy (m.now * 1000) + f * m.tflit p,
                             credReg := if r.respend && !r.pkt.trimmed then q.credReg - f else q.credReg,
                             credStub := if r.respend && r.pkt.trimmed then q.credStub - 1 else q.credStub }
          (((m.setPort p q1).emit (.packet p s (packetBytes r.pkt))).countUp (pgPort p) 0 f |>.count (pgPort p) 4).pump p n

/-- Transmission of a packet starts (R402, R424, R484, R500, R505, R508, R509): at most two control flits first, then the packet
with its sequence number, its credits spent, a copy in the replay buffer, and a release to its input tile. -/
def Module.startPacket (m : Module) (p c : Nat) (d : QPkt) : Module :=
  let q := m.port p
  let owed := sortOwed q.owes
  let m := (owed.take 2).foldl (fun m c => m.sendFlit p c) (m.setPort p { q with owes := [] })
  let m := m.onPort p fun q => { q with owes := owed.drop 2 ++ q.owes }
  let q := m.port p
  let f := d.pkt.flits
  let seq := m.get (F.portLstsTxSeq p)
  let pkt := { d.pkt with hops := (d.pkt.hops + 1) % 32 }
  let b := m.bucket p c
  let q := { q with replay := q.replay ++ [{ seq := seq, pkt := pkt, due := m.now + m.get (F.portLcfgRplTo p) * 100, respend := false }],
                    credReg := if pkt.trimmed then q.credReg else q.credReg - f,
                    credStub := if pkt.trimmed then q.credStub - 1 else q.credStub,
                    buckets := if pkt.trimmed then q.buckets else KMap.put q.buckets c (b.take f),
                    busy := m.now * 1000 + (f + min 2 owed.length) * m.tflit p }
  let m := (m.setPort p q).put (F.portLstsTxSeq p) ((seq + 1) % 4096)
  let rel : Rel := { id := d.id, inTile := d.inTile, inPort := d.inPort, flits := f, notice := d.pkt.trimmed, ownStub := d.ownStub }
  let m := { m with n := { m.n with rels := m.n.rels ++ [rel] } }
  let m := (((m.dequeue p d.id).emit (.packet p seq (packetBytes pkt))).countUp (pgPsch p) c f).countUp (pgPort p) 0 f
  let m := m.count (pgPort p) 2
  if d.inPort.isNone then m.sampleStart pkt else m

/-- Meaning of PACKET_START (R396–R400, R402, R406–R408, R413–R415, R424, R445, R484, R498, R500, R505, R508, R509, R526): at a
packet boundary of a port, packets that are to be sent again go first, and else the scheduler's choice starts. -/
def execPacketStart (p : Fin 48) (e : Env) (s : State) : Res :=
  s.run fun m =>
    let m := m.at e
    let p := p.val
    if !m.isUp p || m.now * 1000 < (m.port p).busy then m
    else if !(m.port p).again.isEmpty then m.pump p 4096
    else
      match m.choose p with
      | none => (m.countHeld p).flushCtl p
      | some (c, q) =>
        match q.head c with
        | none => m
        | some d => (((m.setPort p q).startPacket p c d).countHeld p)

/-! ## The dwell bound -/

/-- The port in whose queue a packet waits, and the packet. -/
def Module.queued (m : Module) (id : Nat) : Option (Nat × QPkt) :=
  m.n.ports.findSome? (fun q => (q.2.queue.find? (fun d => d.id = id)).map (fun d => (q.1, d)))

/-- A notice is built in the stub pool of the port the packet arrived on, and routed afresh (R448, R449, R507). -/
def Module.buildNotice (m : Module) (a : Nat) (p : Packet) : Module :=
  if stubShare ≤ (m.port a).rxOwn then m.count pgRoute 1
  else
    let m := m.onPort a fun q => { q with rxOwn := q.rxOwn + 1 }
    let n := noticeOf p
    match m.route (portTile a) n (some a) with
    | (.out d n1, m1) => m1.enqueueOut d n1 (portTile a) (some a) true 0
    | (.deliver, m1) => (m1.deliverHere n).freeSlots a 1 true true
    | (h, m1) => (m1.hopEvent h).freeSlots a 1 true true

/-- The header of a trimmed packet of this module goes back to its transport tile, which acts as on a TRIMMED NACK (R451). -/
def Module.trimmedOwn (m : Module) (e : Env) (p : Packet) : Module :=
  match m.x.conns.find? (fun c => c.2.remote = p.dst && c.2.nd = p.nd) with
  | none => m
  | some (cid, c) =>
    if isControl p.opcode || !c.sending || p.epoch ≠ c.txEpoch then m
    else
      match c.tx.find? (fun d => d.psn = p.psn && d.epoch = c.txEpoch && !d.acked && d.pkt.attempt = p.attempt) with
      | none => m
      | some d => (m.resendAll e cid [d]).settle e

/-- The header of a trimmed multicast copy goes to the collective tile, which treats it as a REPAIR by dseq from that member (R452). -/
def Module.trimmedCopy (m : Module) (p : Packet) : Module :=
  match m.coll p.msn with
  | none => m
  | some c =>
    match c.children.findIdx? (fun k => k.1 = p.dst), c.kept.find? (fun r => r.dseqs.contains p.psn) with
    | some i, some r => m.sendAgain p.msn i r
    | _, _ => m

/-- A queued packet is trimmed (R448, R451, R452, R485). -/
def Module.trim (m : Module) (e : Env) (p : Nat) (d : QPkt) : Module :=
  let m := (m.dequeue p d.id).count pgRoute 0
  match d.inPort with
  | some a => (m.freeSlots a d.pkt.flits false false).buildNotice a d.pkt
  | none => if d.pkt.mcast then m.trimmedCopy d.pkt else m.trimmedOwn e d.pkt

/-- A trim notice is dropped, and its stub slot freed (R450). -/
def Module.dropNotice (m : Module) (p : Nat) (d : QPkt) : Module :=
  let m := (m.dequeue p d.id).count pgRoute 2
  match d.inPort with
  | some a => m.freeSlots a 1 true d.ownStub
  | none => m

/-- Meaning of DWELL_TRIM (R447–R449, R451, R452, R454, R485, R507). -/
def execDwellTrim (id : Nat) (e : Env) (s : State) : Res :=
  s.run fun m =>
    let m := m.at e
    match m.queued id with
    | none => m
    | some (p, d) => if d.pkt.trimmed || m.now < d.enq + d.dwell then m else m.trim e p d

/-- Meaning of NOTICE_DROP (R450). -/
def execNoticeDrop (id : Nat) (e : Env) (s : State) : Res :=
  s.run fun m =>
    let m := m.at e
    match m.queued id with
    | none => m
    | some (p, d) => if !d.pkt.trimmed || m.now < d.enq + d.dwell then m else m.dropNotice p d

end Sys2Proof.Machine
end

