-- ==== Sys2Proof/Machine/Mesh.lean ====
section
/-! DEFINITION. The on-die tile mesh (R469–R497): offers, grants, cells, releases, throttling, gated tiles and their return. -/

namespace Sys2Proof.Machine

/-- Tile states (TILE.STATE.state, R493). -/
def tsRun : Nat := 0
def tsWaking : Nat := 1
def tsClockGated : Nat := 2
def tsPowerGated : Nat := 3
def tsOff : Nat := 4

/-- State of a tile's engine. -/
def Module.tileState (m : Module) (n : Nat) : Nat := m.get (F.tileStateState n)

/-- Whether a tile's engine is gated. -/
def Module.tileGated (m : Module) (n : Nat) : Bool := m.tileState n = tsClockGated || m.tileState n = tsPowerGated

/-- GOV.STS.gated follows the tiles. -/
def Module.showGated (m : Module) : Module := m.put F.govStsGated ((List.range 64).filter m.tileGated).length

/-- A gated tile begins to wake (R496). -/
def Module.wakeTile (m : Module) (n : Nat) : Module :=
  if m.tileGated n then (m.put (F.tileStateState n) tsWaking).showGated else m

/-- An offer that arrives: of the transfer of a queued packet, or of an engine that opens a transfer of its own. -/
def Module.offerArrives (m : Module) (o : Offer) : Module :=
  match o with
  | .packet id =>
    match m.xfer id with
    | none => m
    | some x =>
      if x.stage ≠ .offered then m
      else
        let m := m.onXfer id fun x => { x with stage := .queued }
        let m := m.wakeTile x.dst
        match m.n.xfers.find? (fun y => y.src = x.src && y.dst = x.dst && y.stage = .unsent) with
        | none => m
        | some y => m.onXfer y.id fun y => { y with stage := .offered }
  | .engine src dst cells =>
    if src.val = dst.val || cells = 0 || 33 < cells then m
    else
      let x : Xfer := { id := m.n.nextPkt, src := src.val, dst := dst.val, cells := cells, out := none, group := 0, stage := .queued,
                        grantedAt := m.now, placed := [] }
      { m with n := { m.n with nextPkt := m.n.nextPkt + 1, xfers := m.n.xfers ++ [x] } }.wakeTile dst.val

/-- Meaning of OFFER (R479, R480, R482, R483, R496): the destination consumes the offer, returns the credit, and grants what it can
serve, in order of arrival; a gated tile wakes first. -/
def execOffer (o : Offer) (e : Env) (s : State) : Res :=
  s.run fun m =>
    let m := (m.at e).offerArrives o
    let dst := match o with
      | .packet id => (m.xfer id).map (·.dst)
      | .engine _ dst _ => some dst.val
    match dst with
    | none => m
    | some d => if m.tileState d = tsRun then m.grantOffers d else m

/-- The tiles of the smallest rectangle that holds two tiles (R474). -/
def rectangle (a b : Nat) : List Nat :=
  (List.range 64).filter (fun n =>
    decide (min (a / 8) (b / 8) ≤ n / 8) && decide (n / 8 ≤ max (a / 8) (b / 8)) &&
    decide (min (a % 8) (b % 8) ≤ n % 8) && decide (n % 8 ≤ max (a % 8) (b % 8)))

/-- A transfer's cell at its source (R473, R474): its intermediate tile is drawn. -/
def Module.makeCell (m : Module) (x : Xfer) (i : Nat) : Module :=
  let (mid, m) :=
    if m.flag F.meshCfgMidEn then
      let l := rectangle x.src x.dst
      let (d, m) := m.draw
      (l.getD (d % l.length) x.src, m)
    else (x.src, m)
  let c : Cell := { xfer := x.id, index := i, dst := x.dst, src := x.src, mid := mid, phase := decide (mid = x.src), age := 0, kind := 0,
                    mask := 0, mdim := false, group := 0, table := false, relay := false, aged := false, place := .waiting }
  { m with n := { m.n with cells := m.n.cells ++ [c] } }

/-- The cells of a multicast to tiles of one row (R488). It has no intermediate tile (log 144). -/
def multicastCells (xs : List Xfer) (x : Xfer) : List Cell :=
  (List.range x.cells).map fun i =>
    { xfer := x.id, index := i, dst := x.dst, src := x.src, mid := x.src, phase := true, age := 0, kind := 2,
      mask := (xs.map (fun y => 2 ^ maskBit false y.dst)).sum, mdim := false, group := x.group, table := false, relay := false,
      aged := false, place := .waiting }

/-- Core cycles in a time at the core step (R641). -/
def Module.cycles (m : Module) (ns : Nat) : Nat := ns * (20 - 4 * m.get F.govStsStep) / 10

/-- Granted data cells that wait to enter the mesh at a tile (R490). -/
def Module.waiting (m : Module) (tile : Nat) : Nat :=
  (m.n.cells.filter (fun c => c.place = .waiting && c.src = tile && !c.table)).length

/-- A tile enters or leaves throttling as its waiting cells stand (R490). -/
def Module.throttle (m : Module) (tile : Nat) : Module :=
  let n := m.waiting tile
  if !m.flag (F.tileStateThrottled tile) then
    if m.get F.meshCfgThrHi < n then
      let m := m.put (F.tileStateThrottled tile) 1
      { m with n := { m.n with throttleAt := KMap.put m.n.throttleAt tile m.now } }.raise pgMesh Ev.throttle
    else m
  else if n < m.get F.meshCfgThrLo then
    let k := m.cycles (m.now - KMap.getD m.n.throttleAt tile m.now)
    let m := m.put (F.tileStateThrottled tile) 0
    ({ m with n := { m.n with throttleAt := KMap.erase m.n.throttleAt tile } }.countUp pgMesh 8 k).countUp pgMesh 9 k
  else m

/-- The cells of a transfer wait to go out once it, and every other transfer of its multicast, has its grant (R480, R488). -/
def Module.injectXfer (m : Module) (x : Xfer) : Module :=
  if x.group = 0 then ((List.range x.cells).foldl (fun m i => m.makeCell x i) m).throttle x.src
  else
    let peers := m.n.xfers.filter (fun y => y.group = x.group)
    if peers.all (fun y => y.stage = .granted) then
      { m with n := { m.n with cells := m.n.cells ++ multicastCells peers x } }.throttle x.src
    else m

/-- Meaning of GRANT (R474, R480, R483, R488, R490). -/
def execGrant (id : Nat) (e : Env) (s : State) : Res :=
  s.run fun m =>
    let m := m.at e
    match m.xfer id with
    | none => m
    | some x =>
      if x.stage ≠ .granting then m
      else
        let x := { x with stage := XferStage.granted }
        (m.onXfer id (fun _ => x)).injectXfer x

/-! ## Routers -/

/-- Mesh outputs of a tile's router: 0 north, 1 east, 2 south, 3 west. Row 0 is the northernmost (R469). -/
def outputsOf (t : Nat) : List Nat :=
  (if t / 8 = 0 then [] else [0]) ++ (if t % 8 = 7 then [] else [1]) ++ (if t / 8 = 7 then [] else [2]) ++
  (if t % 8 = 0 then [] else [3])

/-- The tile an output leads to. -/
def nextTile (t d : Nat) : Nat :=
  match d with
  | 0 => t - 8
  | 1 => t + 1
  | 2 => t + 8
  | _ => t - 1

/-- The productive outputs toward a tile: first along the row, then along the column (R474). -/
def productive (t goal : Nat) : List Nat :=
  (if t % 8 < goal % 8 then [1] else if goal % 8 < t % 8 then [3] else []) ++
  (if t / 8 < goal / 8 then [2] else if goal / 8 < t / 8 then [0] else [])

/-- The output a cell gets at a router (R475), given those taken already as pairs of tile and output: its productive one, another
productive one, else the first free of north, east, south and west. -/
def pickOutput (taken : List (Nat × Nat)) (t goal : Nat) : Option Nat :=
  let open' (d : Nat) : Bool := !taken.contains (t, d)
  ((productive t goal).find? open').or ((outputsOf t).find? open')

/-- Hops between two tiles. -/
def tileHops (a b : Nat) : Nat := (a / 8 - b / 8) + (b / 8 - a / 8) + (a % 8 - b % 8) + (b % 8 - a % 8)

/-- The tiles a multicast cell still names (R473). -/
def Cell.members (c : Cell) : List Nat :=
  (List.range 8).filterMap fun i =>
    if nbit c.mask i then some (if c.mdim then 8 * i + c.dst % 8 else 8 * (c.dst / 8) + i) else none

/-- The tile a cell at a router heads for (R474, R488): of a multicast the nearest tile it names, the lower one on a tie (log 144). -/
def Cell.goal (c : Cell) (t : Nat) : Nat :=
  if c.kind = 2 then (minBy (tileHops t) c.members).getD c.dst else if c.phase then c.dst else c.mid

/-- The tiles of a column, outside row 4, that are port tiles: those to which a tile of row 4 relays (R489). -/
def columnMask (t : Nat) : Nat :=
  ((List.range 8).map (fun r => if r ≠ 4 && (tileKind (8 * r + t % 8)).1 = 1 then 2 ^ r else 0)).sum

/-- Cells of the group route table: 1,024 entries of 8 bytes. -/
def tableCells : Nat := 64

/-- A cell of the table reaches a tile (R461, R489): the router relays it down its own column where it asks for that, the engine
taking no part; a port tile that has the whole table uses it. -/
def Module.tableCell (m : Module) (c : Cell) (t : Nat) : Module :=
  let down : Cell := { c with src := t, dst := t, mdim := true, mask := columnMask t, relay := false, age := 0, aged := false, place := .waiting }
  let k := KMap.getD m.n.grtGot t 0 + 1
  let port := (tileKind t).1 = 1
  { m with n := { m.n with
    cells := if c.relay then m.n.cells ++ [down] else m.n.cells
    grtGot := if port then KMap.put m.n.grtGot t k else m.n.grtGot
    grtNew := if port && k = tableCells then addNum m.n.grtNew t else m.n.grtNew } }

/-- A router ejects a cell, or a copy of a multicast cell, at its tile (R475, R488); the copy of a transfer that is over is discarded. -/
def Module.sink (m : Module) (c : Cell) (t : Nat) : Module :=
  if c.table then m.tableCell c t
  else
    let owner := if c.kind = 2 then (m.n.xfers.find? (fun y => y.group = c.group && y.dst = t)).map (·.id) else some c.xfer
    match owner with
    | none => m
    | some id => { m with n := { m.n with cells := m.n.cells ++ [{ c with xfer := id, dst := t, mask := 0, place := .sunk }] } }

/-- Work of the routers of a plane in one cycle: the module, and the outputs taken so far; output 4 is ejection. -/
abbrev Routed := Module × List (Nat × Nat)

/-- A cell leaves a router for the next one: a hop takes two core cycles (R474). An output that is not productive is a deflection (log 144). -/
def Module.hopCell (s : Routed) (c : Cell) (t : Nat) : Routed :=
  match pickOutput s.2 t (c.goal t) with
  | none => ({ s.1 with n := { s.1.n with cells := s.1.n.cells ++ [{ c with place := .link t 0 }] } }, s.2)
  | some d =>
    let m := if (productive t (c.goal t)).contains d then s.1 else s.1.count pgMesh (2 + c.index % 2)
    ({ m with n := { m.n with cells := m.n.cells ++ [{ c with place := .link (nextTile t d) 2 }] } }, (t, d) :: s.2)

/-- A router assigns an arriving cell (R474, R475, R477, R488): at most one cell of a plane is ejected in a cycle. -/
def Module.assignCell (s : Routed) (ct : Cell × Nat) : Routed :=
  let (c, t) := ct
  let c := if t = c.mid then { c with phase := true } else c
  if c.goal t = t && !s.2.contains (t, 4) then
    let s1 : Routed := (s.1.sink c t, (t, 4) :: s.2)
    if c.kind = 2 && (c.without t).mask ≠ 0 then Module.hopCell s1 (c.without t) t else s1
  else Module.hopCell s c t

/-- Whether the routers judge a cell before another: the older first, of equal ages the one of the lower source (R475). -/
def Cell.before (a b : Cell) : Bool := decide (b.age < a.age) || (a.age = b.age && decide (a.src ≤ b.src))

/-- A cell put in its place among those judged. -/
def insertCell (c : Cell × Nat) : List (Cell × Nat) → List (Cell × Nat)
  | [] => [c]
  | d :: l => if c.1.before d.1 then c :: d :: l else d :: insertCell c l

/-- The cells of a plane that arrive at routers in this cycle, in the order in which they are judged (R475). -/
def Module.arrivals (m : Module) (plane : Nat) : List (Cell × Nat) :=
  (m.n.cells.filterMap (fun c => match c.place with
    | .link t 0 => if c.index % 2 = plane then some (c, t) else none
    | _ => none)).foldr insertCell []

/-- A tile puts its first waiting cell of a plane into the mesh where an output is left free (R477), one every thr_gap cycles while it is
throttled (R490), one a cycle else. -/
def Module.injectAt (plane : Nat) (s : Routed) (t : Nat) : Routed :=
  let (m, taken) := s
  match m.n.cells.find? (fun c => c.place = .waiting && c.src = t && c.index % 2 = plane) with
  | none => s
  | some c =>
    let ready := match KMap.get m.n.injectAt (2 * t + plane) with
      | none => true
      | some k => !m.flag (F.tileStateThrottled t) || decide (k + m.get F.meshCfgThrGap ≤ m.n.meshTime)
    if !ready || (pickOutput taken t (c.goal t)).isNone then s
    else
      let m := { m with n := { m.n with
        cells := m.n.cells.filter (fun y => y ≠ c)
        injectAt := KMap.put m.n.injectAt (2 * t + plane) m.n.meshTime } }
      let (m, taken) := Module.hopCell (m.count pgMesh plane, taken) c t
      (m.throttle t, taken)

/-- A cell at the end of a core cycle: one cycle older, and nearer to the next router; at the senior age it goes for its destination
(R474, R476). -/
def Cell.tick (senior : Nat) (c : Cell) : Cell :=
  match c.place with
  | .link t n =>
    let age := min 255 (c.age + 1)
    { c with age := age, place := .link t (n - 1), phase := c.phase || decide (senior ≤ age), aged := c.aged || decide (senior ≤ age) }
  | _ => c

/-- A core cycle of the mesh (R474–R477, R488–R490): on each plane the routers assign the cells that arrive, and then, where cells may
enter, the tiles inject. -/
def Module.meshCycle (m : Module) (enter : Bool) : Module :=
  let plane (m : Module) (p : Nat) : Module :=
    let l := m.arrivals p
    let m := { m with n := { m.n with cells := m.n.cells.filter (fun c => !l.any (fun y => y.1 = c)) } }
    let s := l.foldl Module.assignCell (m, [])
    if enter then ((List.range 64).foldl (Module.injectAt p) s).1 else s.1
  let m := plane (plane m 0) 1
  let senior := m.get F.meshCfgSenior
  let reach (p : Nat) : Nat := (m.n.cells.filter (fun c => c.index % 2 = p && !c.aged && (c.tick senior).aged)).length
  let m := (m.countUp pgMesh 10 (reach 0)).countUp pgMesh 11 (reach 1)
  { m with n := { m.n with meshTime := m.n.meshTime + 1, cells := m.n.cells.map (Cell.tick senior) } }

/-- Core cycles pass until something holds. -/
def Module.meshUntil (stop : Module → Bool) (enter : Bool) : Nat → Module → Module
  | 0, m => m
  | n + 1, m => if stop m then m else Module.meshUntil stop enter n (m.meshCycle enter)

/-- The cell of a transfer with an index: that which lies at the destination, else the cell on the way that carries it. -/
def Module.cellOf (m : Module) (id index : Nat) : Option Cell :=
  let mine (c : Cell) : Bool := c.index = index && !c.table
  (m.n.cells.find? (fun c => mine c && c.xfer = id && c.place = .sunk)).or
    (match m.xfer id with
      | none => m.n.cells.find? (fun c => mine c && c.xfer = id && c.kind ≠ 2)
      | some x => m.n.cells.find? (fun c => mine c && c.place ≠ .sunk &&
          (if c.kind = 2 then decide (x.group ≠ 0) && c.group = x.group && c.members.contains x.dst else decide (c.xfer = id))))

/-- Meaning of CELL_EJECT (R475–R478, R481, R487): a cell of a transfer reaches its destination, once as many core cycles have passed as
its way takes (log 144), and is placed by its transfer and index. Routers correct single-bit errors in it and count them; the router
that finds an uncorrectable one, `after` cycles on, discards the cell there. -/
def execCellEject (id index : Nat) (ecc : Ecc) (after singles : Nat) (e : Env) (s : State) : Res :=
  s.run fun m =>
    let m := m.at e
    let j := index % 2
    match m.cellOf id index with
    | none => m
    | some _ =>
      let there (m : Module) : Bool := ((m.cellOf id index).map (fun c => decide (c.place = .sunk))).getD true
      let m := Module.meshUntil there true (if ecc = .bad then min after 4096 else 4096) m
      let m := m.countUp pgMesh (4 + j) (singles + if ecc = .corrected then 1 else 0)
      let m := match m.cellOf id index with
        | none => m
        | some c => { m with n := { m.n with cells := m.n.cells.filter (fun y => y ≠ c) } }
      if ecc = .bad then (m.count pgMesh (6 + j)).raise pgMesh Ev.meshEcc
      else
        let m := m.onXfer id fun x => { x with placed := addNum x.placed index }
        match m.xfer id with
        | none => m
        | some x => if x.out.isNone && x.placed.length = x.cells then m.closeXfer id else m

/-- The cells of a commit (R461, R489): the management tile sends the table along row 4, to be relayed, and down its own column, in two
transfers of 32 cells (log 145). -/
def spreadCells : List Cell :=
  let one (k i : Nat) (row : Bool) : Cell :=
    { xfer := k, index := i, dst := 35, src := 35, mid := 35, phase := true, age := 0, kind := 2,
      mask := if row then 0b11110111 else columnMask 35, mdim := !row, group := 0, table := true, relay := row, aged := false,
      place := .waiting }
  (List.range 2).flatMap fun k => (List.range 32).flatMap fun i => [one k i true, one k i false]

/-- Meaning of RELEASE (R484): the input tile frees the packet's flits, and their credits go upstream. -/
def execRelease (id : Nat) (e : Env) (s : State) : Res :=
  s.run fun m =>
    let m := m.at e
    match m.n.rels.find? (fun r => r.id = id) with
    | none => m
    | some r =>
      let m := { m with n := { m.n with rels := m.n.rels.filter (fun y => y.id ≠ id) } }
      match r.inPort with
      | none => m
      | some a => m.freeSlots a r.flits r.notice r.ownStub

/-- Meaning of TILE_WAKE (R464, R495, R496): a port tile takes the master copy of the GRT, and its hints are stale; then the grants
follow. -/
def execTileWake (n : Fin 64) (e : Env) (s : State) : Res :=
  s.run fun m =>
    let m := m.at e
    let t := n.val
    if m.tileState t ≠ tsWaking then m
    else
      let m := m.put (F.tileStateState t) tsRun
      let m := if (tileKind t).1 = 1 then
          let p := leadDuo (tileKind t).2
          { m with n := { m.n with grtNew := addNum m.n.grtNew t } }.onPort p fun q => { q with hint := none }
        else m
      m.grantOffers t

/-- A write of TILE[n].HOLD: setting nogate wakes a gated tile (R497). -/
def Module.nogate (m : Module) (t : Nat) (w : Wr) : Module :=
  let a := (F.tileHoldNogate t).reg
  let m1 := m.regWrite a w
  if m.reaches a && bit (writeOnes w) 0 then m1.wakeTile t else m1

/-- Meaning of NOGATE (R497). -/
def execNogate (n : Fin 64) (w : Wr) (s : State) : Res := s.runAs w.master fun m => m.nogate n.val w

end Sys2Proof.Machine
end

