-- ==== Sys2Proof/Machine/Routes.lean ====
section
/-! DEFINITION. The group route table and quarantine (R459–R468): staging, commits, health writes, and what a master sets and
clears. -/

namespace Sys2Proof.Machine

/-- The word of a table for a group. -/
def grtWord (t : List (Nat × Word)) (g : Nat) : Word := Sparse.read (fun _ => 0) t g

/-- A table with a group's word set. -/
def grtSet (t : List (Nat × Word)) (g : Nat) (w : Word) : List (Nat × Word) := Sparse.write (fun _ => 0) t g w

/-- A write of ROUTE.RCMD (R460–R462): ignored while go reads 1; load copies the table in force into the staging copy, and go
commits the staging copy where its epoch is newer. -/
def Module.rcmdWrite (m : Module) (w : Wr) : Module :=
  let a := F.routeRcmdNewEpoch.reg
  if !m.reaches a then m.regWrite a w
  else if m.flag F.routeRcmdGo then m
  else
    let m := m.regWrite a w
    let m := if bit (writeOnes w) 62 then { m with n := { m.n with grtStage := m.n.grt } } else m
    if !bit (writeOnes w) 63 then m
    else
      let d := seqSub 16 (m.get F.routeRcmdNewEpoch) (m.get F.routeEpochEpoch)
      if 1 ≤ d && d ≤ 32767 then
        let m := ((m.put F.routeRcmdResult 0).put F.routeRcmdGo 1).put F.routeEpochSpread 1
        { m with n := { m.n with grtOld := m.n.grt, grt := m.n.grtStage, grtNew := [], grtGot := [], cells := m.n.cells ++ spreadCells } }
      else (m.put F.routeRcmdResult 1).raise pgRoute Ev.commitReject

/-- Meaning of ROUTE_COMMIT (R460–R462). -/
def execRouteCommit (w : Wr) (s : State) : Res := s.runAs w.master fun m => m.rcmdWrite w

/-- Meaning of GRT_LOAD (R462). -/
def execGrtLoad (w : Wr) (s : State) : Res := s.runAs w.master fun m => m.rcmdWrite w

/-- Whether every port tile that runs holds the whole new table (R461). -/
def Module.spreadOver (m : Module) : Bool :=
  (List.range 64).all fun t => (tileKind t).1 ≠ 1 || m.tileState t ≠ tsRun || m.n.grtNew.contains t

/-- Meaning of COMMIT_DONE (R461): as many core cycles pass as the table's cells take, until every port tile that is not gated holds the
new table (log 145). -/
def execCommitDone (s : State) : Res :=
  s.run fun m =>
    let m := if m.flag F.routeEpochSpread then Module.meshUntil Module.spreadOver true 4096 m else m
    if !m.flag F.routeEpochSpread || !m.spreadOver then m
    else
      let m := ((m.put F.routeEpochSpread 0).put F.routeRcmdGo 0).put F.routeEpochEpoch (m.get F.routeRcmdNewEpoch)
      { m with n := { m.n with
        grtOld := [], grtNew := [], grtGot := [], cells := m.n.cells.filter (fun c => !c.table) } }.raise pgRoute Ev.commitDone

/-- A write of ROUTE.HLTH (R463): the up bit of an exit in every copy of the table. -/
def Module.hlthWrite (m : Module) (w : Wr) : Module :=
  let a := F.routeHlthUp.reg
  if !m.reaches a then m.regWrite a w
  else
    let v := writeOnes w
    let g := bits v 9 0
    let b := 16 * bits v 17 16 + 14
    let f (t : List (Nat × Word)) : List (Nat × Word) := grtSet t g (setBits (grtWord t g) b b (bits v 31 31))
    { m with n := { m.n with
      grtStage := f m.n.grtStage
      grt := f m.n.grt
      grtOld := if m.flag F.routeEpochSpread then f m.n.grtOld else m.n.grtOld } }

/-- Meaning of HLTH (R463). A write of the high half alone names nothing. -/
def execHlth (w : Wr) (s : State) : Res := s.runAs w.master fun m => if touches w.half 31 0 then m.hlthWrite w else m

/-- A port's quarantine ends, whatever its cause (R468). -/
def Module.endQuarantine (m : Module) (p : Nat) : Module :=
  (m.setQcause p 0).onPort p fun q => { q with qmaster := false }

/-- A write of ROUTE.QCTL (R466, R468): with set and clear both 1 it is ignored. -/
def Module.qctlWrite (m : Module) (w : Wr) : Module :=
  let a := F.routeQctlSet.reg
  let v := writeOnes w
  let p := leadDuo (bits v 5 0)
  if !m.reaches a then m.regWrite a w
  else if !isPort p || bit v 9 = bit v 8 then m
  else if bit v 9 then
    ((m.setQcause p 4).onPort p fun q => { q with qmaster := true }).raise pgRoute Ev.quarantine
  else (m.endQuarantine p).owe p (.link true false false)

/-- Meaning of QUARANTINE_SET (R466). -/
def execQuarantineSet (w : Wr) (e : Env) (s : State) : Res := s.runAs w.master fun m => (m.at e).qctlWrite w

/-- Meaning of QUARANTINE_CLEAR (R468). -/
def execQuarantineClear (w : Wr) (e : Env) (s : State) : Res := s.runAs w.master fun m => (m.at e).qctlWrite w

end Sys2Proof.Machine
end

