-- ==== Sys2Proof/Machine/Links.lean ====
section
/-! DEFINITION. What the link and lane chapters share (R498–R564): lanes that come up and stop, retraining, a link going down,
width changes and spare substitution as a port acts in them. -/

namespace Sys2Proof.Machine

/-! ## Lanes -/

/-- A lane as a cold reset leaves it. -/
def laneInit (n : Nat) : Lane :=
  { saved := none, fast := false, added := false, mode := resetWord (pgLane n * 0x1000 + 0x40), txeq := txeqReset n, stageAt := 0,
    retry := false, inj := none }

/-- A lane. -/
def Module.lane (m : Module) (n : Nat) : Lane := KMap.getD m.n.lanes n (laneInit n)

/-- The module with a lane changed. -/
def Module.onLane (m : Module) (n : Nat) (f : Lane → Lane) : Module :=
  { m with n := { m.n with lanes := KMap.put m.n.lanes n (f (m.lane n)) } }

/-- Stage of a lane. -/
def Module.laneStage (m : Module) (n : Nat) : Nat := m.get (F.laneRxstsStage n)

/-- A lane enters a stage. -/
def Module.setStage (m : Module) (n st : Nat) : Module :=
  (m.put (F.laneRxstsStage n) st).onLane n fun l => { l with stageAt := m.now }

/-- A scan in progress ends early (R566). -/
def Module.abortScan (m : Module) (n : Nat) : Module :=
  if m.flag (F.laneScanBusy n) then
    ((m.put (F.laneScanBusy n) 0).put (F.laneScanStatus n) 1).raise (pgLane n) Ev.scanDone
  else m

/-- A lane's saved state is discarded (R561). -/
def Module.dropSaved (m : Module) (n : Nat) : Module :=
  (m.onLane n fun l => { l with saved := none, fast := false }).put (F.laneRxstsSaved n) 0

/-- The rate a port's lanes run at: MODE.rate of its lowest lane (R544). -/
def Module.portRate (m : Module) (p : Nat) : Nat := m.get (F.laneModeRate (2 * p))

/-- Rate and profile under which a lane comes up: a spare that stands in takes the rate of its quad (R544, R545). -/
def Module.laneRate (m : Module) (n : Nat) : Nat :=
  match m.portOfLane n with
  | none => m.get (F.laneModeRate n)
  | some p => (m.port p).rate.getD (m.portRate p)

/-- Whether a lane's saved state may be used, its temperature apart (R560). -/
def Module.savedGood (m : Module) (n : Nat) : Bool :=
  match (m.lane n).saved with
  | none => false
  | some s =>
    decide (m.now ≤ s.time + m.get (F.laneRxctlTapAge n) * 1000000) && s.rate = m.laneRate n &&
    s.profile = m.get (F.laneModeProfile n) && !m.flag (F.laneRxctlNosaved n)

/-! ## What a lane's transmitter sends -/

/-- A lane's position in its port (R553): a spare that stands in takes that of the duo it replaces. -/
def Module.posOf (m : Module) (n : Nat) : Nat :=
  match m.portOfLane n with
  | none => n % 2
  | some p => (List.range (2 ^ fullWidth p)).findIdx (fun i => m.laneAt p i = n)

/-- The training frames of a lane (R553): `count` is 15 until the countdown. -/
def Module.frameOf (m : Module) (n count : Nat) : TrainFrame :=
  { pos := m.posOf n, kind := portKind ((m.portOfLane n).getD n), ready := decide (lgReady ≤ m.laneStage n), count := count,
    rate := m.laneRate n, spare := decide (46 ≤ n / 2) && (m.portOfLane n).isSome }

/-- What a lane's transmitter sends in its stage, the generator on or not (R552, R554, R562, R567). -/
def Module.laneSends (m : Module) (n : Nat) : LaneTx :=
  if m.flag (F.lanePgenEn n) then .pattern (m.get (F.lanePgenPattern n))
  else if m.laneStage n = lgOff then .idle
  else if m.laneStage n = lgRun then .flits
  else .frames (m.frameOf n 15)

/-- The symbols that error injection has replaced since they were last counted are counted (R569). -/
def Module.settleInjection (m : Module) (n : Nat) : Module :=
  match (m.lane n).inj with
  | none => m
  | some x =>
    let total := injectedIn x.burst x.period (symbolsIn x.rate (m.now - x.since))
    (m.onLane n fun l => { l with inj := some { x with counted := total } }).countUp (pgLane n) 8 (total - x.counted)

/-- Error injection of a lane follows PGEN and its stage (R569): into a pattern, or into the flit stream of a lane in RUN. -/
def Module.injUpdate (m : Module) (n : Nat) : Module :=
  let burst := m.get (F.lanePgenInjBurst n)
  let period := m.get (F.lanePgenInjPeriod n)
  let on := decide (0 < burst) &&
    (m.flag (F.lanePgenEn n) || (m.flag (F.lanePgenInjTraffic n) && decide (m.laneStage n = lgRun)))
  let new : Injection := { burst := burst, period := period, rate := m.laneRate n, since := m.now, counted := 0 }
  match (m.lane n).inj with
  | none => if on then (m.onLane n fun l => { l with inj := some new }).emit (.inject n burst period) else m
  | some x =>
    if on && x.burst = burst && x.period = period && x.rate = m.laneRate n then m
    else
      let m := m.settleInjection n
      if on then (m.onLane n fun l => { l with inj := some new }).emit (.inject n burst period)
      else (m.onLane n fun l => { l with inj := none }).emit (.inject n 0 period)

/-- A lane starts to come up (R554, R560): POWER, MODE taken as it stands, from saved state where that may be used. -/
def Module.startLane (m : Module) (n : Nat) (added : Bool) : Module :=
  let m := m.abortScan n
  let fast := m.savedGood n
  let mode := setBits (m.word (F.laneModeRate n).reg) 11 10 (m.laneRate n)
  let m := m.onLane n fun l => { l with fast := fast, added := added, mode := mode, retry := false }
  let m := ((m.put (F.laneRxstsLock n) 0).put (F.laneRxstsStandby n) 0).put (F.laneRxstsDegraded n) 0
  let m := ((m.put (F.laneRxstsInv n) 0).put (F.laneRxstsFpos n) 0).putFlag (F.laneRxstsSaved n) (m.lane n).saved.isSome
  let m := ((m.setStage n lgPower).count (pgLane n) 2).injUpdate n
  m.emit (.lane n (m.laneSends n))

/-- A lane enters standby (R559, R562): it copies its state where it stood in RUN, its transmitter idles, its receiver is off. -/
def Module.standbyLane (m : Module) (n : Nat) : Module :=
  let running := decide (m.laneStage n = lgRun)
  let m := m.abortScan n
  let m := m.onLane n fun l =>
    { l with saved := if running then l.saved.map (fun s => { s with time := m.now }) else l.saved, added := false }
  let m := (((m.put (F.laneRxstsLock n) 0).put (F.laneRxstsStandby n) 1).setStage n lgOff).injUpdate n
  m.emit (.lane n (m.laneSends n))

/-- A lane stops: its port is disabled, or its domain is (R520). -/
def Module.stopLane (m : Module) (n : Nat) : Module :=
  let m := (((m.abortScan n).put (F.laneRxstsLock n) 0).setStage n lgOff).injUpdate n
  m.emit (.lane n (m.laneSends n))

/-- Whether the network reference in use is good (R755, R756). -/
def Module.nrefGood (m : Module) : Bool := if m.flag F.clkNrefAct then m.flag F.clkNrefOk1 else m.flag F.clkNrefOk0

/-- Whether a port's lanes may come up: the mode runs its links (R616, R623), or is Small Hours with the port in loopback (R633), and
the network reference in use is good (R756, R757). -/
def Module.lanesMay (m : Module) (p : Nat) : Bool :=
  (m.noonish || m.mode = mDusk || m.mode = mTwilight ||
    (m.mode = mSmallHours && (m.lanesOf p).any (fun n => m.get (F.laneModeLoop n) ≠ 0))) &&
  m.nrefGood

/-- The lanes of a port come up anew (R528, R554): failed ones only where a retry is due (R564). -/
def Module.restartLanes (m : Module) (p : Nat) : Module :=
  let m := m.onPort p fun q => { q with firstRun := none }
  if !m.lanesMay p then m else
  (m.lanesOf p).foldl (fun m n =>
    if m.flag (F.laneRxstsFailed n) && !(m.lane n).retry then m else m.startLane n false) m

/-! ## Time sources -/

/-- The port a module takes time from (R383): the up port whose neighbour reports the lowest dist below 30. -/
def Module.timeSource (m : Module) : Option Nat :=
  if m.flag F.timeCfgGm then none
  else minBy (fun p => (m.port p).farDist) (portList.filter (fun p => m.isUp p && decide ((m.port p).farDist < 30)))

/-- TIME.STS shows the source and the module's own dist (R383). A span within ±2 ns of one source ends with that source (R384). -/
def Module.showSource (m : Module) : Module :=
  let same := decide (m.timeSource = m.n.source)
  let m := { m with n := { m.n with nearAt := if same then m.n.nearAt else none, source := m.timeSource } }
  let m := m.put F.timeStsGm (m.get F.timeCfgGm)
  if m.flag F.timeCfgGm then m.put F.timeStsDist 0
  else
    match m.timeSource with
    | none => m.put F.timeStsDist 31
    | some p => (m.put F.timeStsDist ((m.port p).farDist + 1)).put F.timeStsPort p

/-! ## Width -/

/-- A port runs at a width on some lanes from now on (R415, R420, R532). -/
def Module.applyWidth (m : Module) (p width mask : Nat) : Module :=
  let m := (m.put (F.portLstsWidth p) width).put (F.portLstsLanes p) mask
  (m.put (F.pschGstsTflit p) (flitPs width (m.get (F.portLstsRate p)))).rejudge p

/-- LSTS.wchg follows what is in progress. -/
def Module.showWchg (m : Module) (p : Nat) : Module :=
  let q := m.port p
  let st := m.get (F.portSpareState p)
  m.putFlag (F.portLstsWchg p) (q.wown.isSome || q.wfar.isSome || st = 1 || st = 2)

/-- LWID.go returns to 0, and the writes made meanwhile reach their staging fields (R69). -/
def Module.goEnds (m : Module) (p : Nat) : Module :=
  let m := m.put (F.portLwidGo p) 0
  let late := (m.port p).lwidLate
  late.foldl (fun m w => m.setWord (F.portLwidGo p).reg (m.writtenWord (F.portLwidGo p).reg w)) (m.onPort p fun q => { q with lwidLate := [] })

/-- This end's own width change ends with a result (R532–R536, R563). -/
def Module.endOwn (m : Module) (p result : Nat) : Module :=
  let m := m.onPort p fun q => { q with wown := none, spBack := q.spBack && result = 0 }
  let m := ((m.put (F.portLwidResult p) result).goEnds p).showWchg p
  if 1 ≤ result && result ≤ 4 then m.raise (pgPort p) Ev.widthFail else m

/-- Every width change in progress is superseded (R536). -/
def Module.endWidths (m : Module) (p : Nat) : Module :=
  let q := m.port p
  if q.wown.isNone && q.wfar.isNone && q.wadd.isNone then m
  else
    let m := m.onPort p fun q => { q with wown := none, wfar := none, wadd := none, spBack := false }
    ((m.put (F.portLwidResult p) 5).goEnds p).showWchg p

/-- READY is sent once every added lane is locked, and the REQ once both ends are ready (R533, R541, R563). -/
def Module.checkAdded (m : Module) (p : Nat) : Module :=
  let q := m.port p
  match q.wadd with
  | none => m
  | some a =>
    if a.sentReady || !((m.lanesIn p a.mask).all (fun n => m.laneStage n = lgRun)) then m
    else if a.spare then
      (m.onPort p fun q => { q with wadd := none, spSent := true }).owe p (.spare 3 (m.get (F.portLstsSparePos p)))
    else
      let sent (o : WOwn) : WOwn := { o with sentReady := true }
      (m.onPort p fun q => { q with wadd := none, wown := q.wown.map sent }).owe p (.width 7 a.width false a.mask a.id)

/-- The requester sends its REQ once it has sent and received READY (R533). -/
def Module.tryReq (m : Module) (p : Nat) : Module :=
  match (m.port p).wown with
  | none => m
  | some o =>
    if o.reqSent || (o.prep && !(o.sentReady && o.gotReady)) then m
    else
      (m.onPort p fun q => { q with wown := some { o with reqSent := true } }).owe p (.width 1 o.width o.forced o.mask o.id)

/-- Some lanes are brought up while the port runs on (R533, R563). -/
def Module.addLanes (m : Module) (p id width mask : Nat) (spare : Bool) : Module :=
  let a : WAdd := { id := id, width := width, mask := mask, sentReady := false, spare := spare, since := m.now }
  let m := m.onPort p fun q => { q with wadd := some a }
  let m := (m.lanesIn p mask).foldl (fun m n => if m.laneStage n = lgRun then m else m.startLane n true) m
  m.checkAdded p

/-- A width change is asked for (R419, R532–R534): refused here where a lane is not usable, or where it narrows against R419. -/
def Module.askWidth (m : Module) (p width mask : Nat) : Module :=
  let now := m.get (F.portLstsLanes p)
  let added := mask &&& (now ^^^ (mask ||| now))
  let fits := width ≤ fullWidth p && popCount 4 mask = 2 ^ width && mask < 2 ^ 2 ^ fullWidth p
  if !m.isUp p || !fits || mask &&& m.unfailed p ≠ mask then m.endOwn p 4
  else if width < m.get (F.portLstsWidth p) && m.narrowBlocked p width then m.endOwn p 3
  else
    let q := m.port p
    let o : WOwn := { id := q.nextId, width := width, mask := mask, forced := false, prep := decide (added ≠ 0), sentReady := false,
                      gotReady := false, reqSent := false, txDone := false, rxDone := false }
    let m := (m.setPort p { q with wown := some o, nextId := (q.nextId + 1) % 256 }).showWchg p
    if added = 0 then m.tryReq p
    else (((m.owe p (.width 6 width false mask o.id)).addLanes p o.id width added false).checkAdded p).tryReq p

/-! ## Spare substitution -/

/-- Whether a spare serves, or is being trained for, a quad of its half (R35, R37). -/
def Module.spareBusy (m : Module) (p : Nat) : Bool :=
  ((List.range 4).map (fun k => (if p < 38 then 30 else 38) + 2 * k)).any (fun d =>
    m.flag (F.portLstsSpare d) || m.get (F.portSpareState d) = 1 || m.get (F.portSpareState d) = 2)

/-- SPARE.state changes, with its event. -/
def Module.spareState (m : Module) (p st : Nat) : Module :=
  ((m.put (F.portSpareState p) st).raise (pgPort p) Ev.spare).showWchg p

/-- A substitution is asked for (R541). -/
def Module.askSpare (m : Module) (p pos : Nat) : Module :=
  if !isQuadDuo p || !m.isUp p then m
  else if m.spareBusy p then m.spareState p 4
  else
    let m := m.onPort p fun q => { q with spAsked := true, spSent := false, spGot := false }
    ((m.put (F.portLstsSparePos p) pos).spareState p 1).owe p (.spare 1 pos)

/-- A spare duo is steered into a position, and its lanes come up (R36, R541, R561). -/
def Module.steer (m : Module) (p pos : Nat) : Module :=
  let gone := [60 + 2 * (p - 30) + 2 * pos, 60 + 2 * (p - 30) + 2 * pos + 1]
  let m := gone.foldl (fun m n => (m.standbyLane n).dropSaved n) m
  let m := (m.put (F.portLstsSpare p) 1).put (F.portLstsSparePos p) pos
  let m := m.put (F.portLstsState (spareOf p)) lsStandin
  let m := [2 * spareOf p, 2 * spareOf p + 1].foldl (fun m n => m.dropSaved n) m
  let mask := [2 * pos, 2 * pos + 1].foldl (fun a i => a + 2 ^ m.logical p i) 0
  (m.spareState p 2).addLanes p 0 (fullWidth p) mask true

/-- The spare goes back to standby (R542, R561). -/
def Module.unsteer (m : Module) (p : Nat) : Module :=
  let m := [2 * spareOf p, 2 * spareOf p + 1].foldl (fun m n => (m.standbyLane n).dropSaved n) m
  let m := (m.put (F.portLstsSpare p) 0).put (F.portLstsState (spareOf p)) lsDown
  m.spareState p 0

/-- Both ends' spares are ready: the quad widens with the spare in place, at the request of the end that asked (R541). -/
def Module.checkSpare (m : Module) (p : Nat) : Module :=
  let q := m.port p
  if m.get (F.portSpareState p) = 2 && q.spSent && q.spGot then
    let m := m.spareState p 3
    if q.spAsked then m.askWidth p (fullWidth p) (2 ^ 2 ^ fullWidth p - 1) else m
  else m

/-- The module with what Daylight counts of a port changed. -/
def Module.onDayPort (m : Module) (p : Nat) (f : DayPort → DayPort) : Module :=
  { m with y := { m.y with day := { m.y.day with ports := KMap.put m.y.day.ports p (f (KMap.getD m.y.day.ports p DayPort.init)) } } }

/-- What follows a width change that is complete (R541, R542): a duo that failed is replaced where SPARE.auto asks it, and a release
goes on once the quad runs on the position that remains. -/
def Module.afterWidth (m : Module) (p : Nat) : Module :=
  let q := m.port p
  let m := m.onDayPort p fun d => { d with since := 0 }
  if q.spBack then
    let pos := m.get (F.portLstsSparePos p)
    let m := m.onPort p fun q => { q with spBack := false }
    ((m.owe p (.spare 4 pos)).unsteer p).askWidth p (fullWidth p) (2 ^ 2 ^ fullWidth p - 1)
  else if isQuadDuo p && m.flag (F.portSpareAuto p) && !m.flag (F.portLstsSpare p) && !m.spareBusy p then
    match [0, 1].find? (fun k => [2 * k, 2 * k + 1].any (fun i => m.flag (F.laneRxstsFailed (m.laneAt p i)))) with
    | some k =>
      if m.get (F.portLstsLanes p) &&& ([2 * k, 2 * k + 1].foldl (fun a i => a + 2 ^ m.logical p i) 0) = 0 then m.askSpare p k else m
    | none => m
  else m

/-- A width change may be complete: transmit and receive have switched (R532). -/
def Module.checkWidth (m : Module) (p : Nat) : Module :=
  let q := m.port p
  let own := match q.wown with
    | some o => o.txDone && o.rxDone
    | none => false
  let far := match q.wfar with
    | some f => f.txDone && f.rxDone
    | none => false
  if own then ((m.endOwn p 0).raise (pgPort p) Ev.widthDone).afterWidth p
  else if far then
    let m := (m.onPort p fun q => { q with wfar := none }).showWchg p
    (m.raise (pgPort p) Ev.widthDone).afterWidth p
  else m

/-! ## Retraining and going down -/

/-- A port retrains (R527, R528, R536): the flag goes out, no further packet starts, the lanes retrain; queue, replay buffer and
sequence state stay. -/
def Module.retrain (m : Module) (p : Nat) : Module :=
  if !m.isUp p then m
  else
    let q := m.port p
    let m := if q.wown.isNone && q.wfar.isNone && q.wadd.isNone then m else m.onDayPort p fun d => { d with again := true }
    let m := (m.endWidths p).sendFlit p (.link false true false)
    let m := (m.put (F.portLstsState p) lsRetrain).raise (pgPort p) Ev.retrain
    let m := m.onPort p fun q =>
      { q with owes := [], retrainEnd := some (m.now + m.get (F.portLcfgDownUs p) * 1000), far := none, farAck := false, sentAck := false, hunting := false }
    (m.restartLanes p).showSource

/-- A link goes down (R529, R530): credits are lost, the grace timer starts, or with no grace the replay buffer is discarded. -/
def Module.linkDown (m : Module) (p : Nat) (grace : Bool) : Module :=
  let was := m.lstate p
  if was = lsDown || was = lsBonded || was = lsStandin || was = lsDisabled then m
  else
    let m := (m.endWidths p).put (F.portLstsState p) lsDown
    let m := ((m.put (F.portLstsLanes p) 0).put (F.portLctlDown p) 0).put (F.portLctlRetrain p) 0
    let up := was = lsUp || (m.port p).retrainEnd.isSome
    let wait := grace && m.get (F.portLcfgGraceUs p) ≠ 0
    let m := m.onPort p fun q =>
      { q with credReg := 0, credStub := 0, owes := [], hint := none, retrainEnd := none, far := none, farAck := false, sentAck := false,
               hunting := false, farDist := 31, farSynced := false, spAsked := false,
               graceEnd := if !up then q.graceEnd else if wait then some (m.now + m.get (F.portLcfgGraceUs p) * 1000) else none,
               replay := if up && !wait then [] else q.replay, again := if up && !wait then [] else q.again,
               stateValid := if up && !wait then false else q.stateValid }
    let m := if up then (m.putFlag (F.portLstsGrace p) wait).raise (pgPort p) Ev.linkDown else m
    m.showSource

/-- A link goes down with a LINK flit that says so (R529). -/
def Module.takeDown (m : Module) (p : Nat) (grace : Bool) : Module :=
  let m := if m.isUp p then m.sendFlit p (.link false false true) else m
  m.linkDown p grace

/-- A port reset (R681, R768), of a port or of the quad of a spare that stands in; the lanes of a spare at rest. -/
def Module.portReset (m : Module) (d : Nat) : Module :=
  let p := if 46 ≤ d then (m.portOfLane (2 * d)).getD d else leadDuo d
  if !isPort p then [2 * p, 2 * p + 1].foldl (fun m n => (m.stopLane n).dropSaved n) m
  else
    let m := m.takeDown p false
    let m := m.onPort p fun q => { q with stateValid := false, replay := [], again := [], graceEnd := none }
    let m := m.put (F.portLstsGrace p) 0
    let m := (m.lanesOf p).foldl (fun m n => (m.dropSaved n).stopLane n) m
    if m.flag (F.portLctlEn p) && m.lstate p = lsDown then m.restartLanes p else m

end Sys2Proof.Machine
end

