-- ==== Sys2Proof/Machine/LinkLayer.lean ====
section
/-! DEFINITION. The link layer in a running port (R498–R519): packets received, LINK and REPLAY flits, the timers of the link,
framing; and fabric time on the link (R383–R388, R539, R540). -/

namespace Sys2Proof.Machine

/-! ## Framing -/

/-- A port loses its framing (R499, R502). -/
def Module.hunt (m : Module) (p : Nat) : Module :=
  if (m.port p).hunting then m else (m.onPort p fun q => { q with hunting := true }).count (pgPort p) 11

/-- A receiver asks for a replay (R513): no second REPLAY for the same expected number until half of rpl_to has passed. -/
def Module.sendReplay (m : Module) (p reason : Nat) : Module :=
  let want := m.get (F.portLstsRxSeq p)
  let early := match (m.port p).rplSent with
    | none => false
    | some (s, t) => s = want && decide (m.now < t)
  if early then m else (m.onPort p fun q => { q with rplSent := some (want, m.now + m.get (F.portLcfgRplTo p) * 50) }).owe p (.replay want reason)

/-- A good control flit of a type arrives at a port whose link runs or trains (R501, R503): a hunting receiver is framed again. -/
def Module.rxCtl (m : Module) (p : Nat) (flit : List Byte) (type : Nat) (f : Module → Module) : Module :=
  if (!m.isUp p && m.lstate p ≠ lsExchange) || ctlType flit ≠ some type then m
  else
    let m := m.count (pgPort p) 1
    f (if (m.port p).hunting then (m.onPort p fun q => { q with hunting := false }).sendReplay p 3 else m)

/-- Meaning of IDLE (R501). -/
def execIdle (p : Fin 48) (flit : List Byte) (e : Env) (s : State) : Res := s.run fun m => (m.at e).rxCtl p.val flit 0 id

/-- Meaning of BAD_CONTROL_FLIT (R503, R517): a hunting receiver takes only a flit with the marker for a control flit. -/
def execBadControlFlit (p : Fin 48) (flit : List Byte) (e : Env) (s : State) : Res :=
  s.run fun m =>
    let m := m.at e
    let p := p.val
    if (!m.isUp p && m.lstate p ≠ lsExchange) || (ctlType flit).isSome then m
    else if (m.port p).hunting && flit.take 12 ≠ ctlMarker then m
    else (m.count (pgPort p) 1).count (pgPort p) 8

/-- Meaning of UNCORRECTABLE_CODEWORD (R502, R510, R513): `took` regular slots had been taken by flits of the packet that is now not
accepted; the discarded flits include a packet boundary, or flits of a packet. -/
def execUncorrectableCodeword (p : Fin 48) (took : Nat) (boundary inPacket : Bool) (e : Env) (s : State) : Res :=
  s.run fun m =>
    let m := m.at e
    let p := p.val
    if !m.isUp p && m.lstate p ≠ lsExchange then m
    else
      let m := m.count (pgPort p) 9
      if !m.isUp p then m
      else
        let m := m.onPort p fun q => { q with reserved := q.reserved + took }
        let m := if boundary then m.hunt p else m
        if inPacket then m.sendReplay p 2 else m

/-! ## Packets -/

/-- Whether the module routes and delivers packets in its mode (R616). -/
def Module.routes (m : Module) : Bool :=
  let mode := m.get F.modeStsMode
  decide (2 ≤ mode) && decide (mode ≤ 5)

/-- An accepted packet goes on: delivered, queued at its next port, or discarded (R424–R438, R446, R482). -/
def Module.forward (m : Module) (p : Nat) (pkt : Packet) : Module :=
  let free (m : Module) : Module := m.freeSlots p pkt.flits pkt.trimmed false
  if !m.routes then free m
  else
    match m.route (portTile p) pkt (some p) with
    | (.deliver, m) => (free m).deliverHere pkt
    | (.out d pkt, m) => m.enqueueOut d pkt (portTile p) (some p) false 0
    | (h, m) => free (m.hopEvent h)

/-- A packet is accepted (R510): the expected number advances, its flits take slots, reserved ones first. -/
def Module.acceptPacket (m : Module) (p : Nat) (pkt : Packet) : Module :=
  let m := (m.put (F.portLstsRxSeq p) ((m.get (F.portLstsRxSeq p) + 1) % 4096)).count (pgPort p) 3
  let f := if pkt.trimmed then 0 else pkt.flits
  let m := m.onPort p fun q =>
    { q with rxReg := q.rxReg + f, rxStub := q.rxStub + b2n pkt.trimmed, reserved := q.reserved - f, rplSent := none }
  let m := if p < 30 && pkt.tc = 7 then { m with n := { m.n with lastTc7 := KMap.put m.n.lastTc7 pkt.src p } } else m
  (m.linkDue p).forward p pkt

/-- Meaning of PACKET_RECEIVE (R499, R510, R513): accepted, discarded as a duplicate, or discarded as ahead. The sequence number of a
packet is where R499 framed it. -/
def execPacketReceive (p : Fin 48) (seq : BitVec 12) (pkt : Packet) (e : Env) (s : State) : Res :=
  s.run fun m =>
    let m := m.at e
    let p := p.val
    if !m.isUp p || (m.port p).hunting then m
    else if pkt.flits = 0 then (m.count (pgPort p) 1).count (pgPort p) 8
    else if 33 < pkt.flits then m.hunt p
    else
      let m := m.countUp (pgPort p) 1 pkt.flits
      let d := seqSub 12 (m.get (F.portLstsRxSeq p)) seq.toNat
      if d = 0 then m.acceptPacket p pkt
      else if d ≤ 2048 then m.count (pgPort p) 6
      else (m.count (pgPort p) 7).sendReplay p 1

/-! ## Acknowledgement, credits and replay -/

/-- Packets up to a sequence number leave the replay buffer (R512, R525). -/
def Module.release (m : Module) (p ack : Nat) : Module :=
  m.onPort p fun q =>
    let gone (s : Nat) : Bool := decide (seqSub 12 ack s < 2048)
    if q.replay.any (fun r => gone r.seq) then
      { q with
          replay := q.replay.filter (fun r => !gone r.seq)
          again := q.again.filter (fun s => !gone s)
          rplCount := 0 }
    else q

/-- The effective window after a LINK flit (R518, R519). Packets that spend their credits anew are counted when they do, and trim
notices spend none of the pool. -/
def Module.judgeWindow (m : Module) (p owed : Nat) : Module :=
  let q := m.port p
  let inFlight := ((q.replay.filter (fun r => !r.respend && !r.pkt.trimmed)).map (fun r => r.pkt.flits)).sum
  let w := q.credReg + owed + inFlight
  let m := (m.put (F.portWinEff p) w).put (F.portWinMin p) (min w (m.get (F.portWinMin p)))
  if w < m.get (F.portWinFloor p) then (m.put (F.portWinLow p) 1).raise (pgPort p) Ev.winLow else m

/-- The hint of a LINK flit (R439, R440). -/
def Module.takeHint (m : Module) (p : Nat) (flit : List Byte) : Module :=
  let h := flitBE flit 22 5
  let quad (k : Nat) : Bool × Nat := (nbit h (5 * k + 4), h / 2 ^ (5 * k) % 16)
  let xy := flitBE flit 27 1
  m.onPort p fun q => { q with hint := some { quads := (List.range 8).map quad, x := xy / 16, y := xy % 16, time := m.now } }

/-- Meaning of LINK (R439, R440, R468, R512, R518–R520, R527, R529). -/
def execLink (p : Fin 48) (flit : List Byte) (e : Env) (s : State) : Res :=
  s.run fun m =>
    let p := p.val
    (m.at e).rxCtl p flit 1 fun m =>
      if !m.isUp p then m
      else
        let m := m.release p (flitBE flit 14 2 % 4096)
        let m := m.onPort p fun q =>
          { q with credReg := q.credReg + flitBE flit 16 2 % 8192, credStub := q.credStub + flitBE flit 18 1 % 16 }
        let m := (m.judgeWindow p (flitBE flit 20 2 % 8192)).takeHint p flit
        let flags := flitBE flit 19 1
        let m := if nbit flags 0 then m.endQuarantine p else m
        let m := if nbit flags 1 then m.retrain p else m
        if nbit flags 2 then (m.linkDown p true).restartLanes p else m

/-- A port sends again from a sequence number on (R514–R516), a control flit first. -/
def Module.replayFrom (m : Module) (p seq : Nat) : Module :=
  let m := m.release p ((seq + 4095) % 4096)
  let q := m.port p
  match q.replay with
  | [] => m
  | r :: _ =>
    let n := if 0 < q.rplCount && q.rplSeq = r.seq then q.rplCount + 1 else 1
    let m := m.onPort p fun q => { q with rplSeq := r.seq, rplCount := n }
    if m.get (F.portLcfgRplMax p) ≤ n then
      ((m.onPort p fun q => { q with rplCount := 0 }).raise (pgPort p) Ev.replayLimit).retrain p
    else
      let onward := (q.replay.filter (fun r => decide (seqSub 12 r.seq seq < 2048))).map (·.seq)
      let m := (m.onPort p fun q => { q with again := onward }).owe p (.link false false false)
      if m.now * 1000 < (m.port p).busy then m else m.pump p 4096

/-- Meaning of REPLAY (R514, R516). -/
def execReplay (p : Fin 48) (flit : List Byte) (e : Env) (s : State) : Res :=
  s.run fun m =>
    let p := p.val
    (m.at e).rxCtl p flit 2 fun m => if m.isUp p then m.replayFrom p (flitBE flit 14 2 % 4096) else m

/-- Meaning of REPLAY_TIMEOUT (R515, R516): the oldest unacknowledged packet has waited, since its last transmission, the rpl_to that
stood then. -/
def execReplayTimeout (p : Fin 48) (e : Env) (s : State) : Res :=
  s.run fun m =>
    let m := m.at e
    let p := p.val
    match (m.port p).replay with
    | [] => m
    | r :: _ =>
      if !m.isUp p || r.respend || m.now < r.due then m else m.replayFrom p r.seq

/-- Meaning of LINK_FLIT_TIMER (R439, R511, R513): a LINK flit is due; and another REPLAY, where one has gone half of rpl_to
unanswered. -/
def execLinkFlitTimer (p : Fin 48) (e : Env) (s : State) : Res :=
  s.run fun m =>
    let m := m.at e
    let p := p.val
    let q := m.port p
    if !m.isUp p || (q.unreported.isNone && decide (m.now < q.lastLink + 1000)) then m
    else
      let m := if q.rplSent.isSome then m.sendReplay p 1 else m
      m.owe p (.link false false false)

/-! ## Fabric time -/

/-- A correction in progress is taken into the offset, and another takes its place (R386). -/
def Module.slewTo (m : Module) (by' : Int) : Module :=
  { m with timeOffset := m.timeOffset + m.slewed, n := { m.n with slewAt := m.now, slewBy := by' } }

/-- Fabric time steps by so many ns (R386, R388): the commands that are sampled are marked. -/
def Module.stepTime (m : Module) (d : Int) : Module :=
  let m := m.slewTo 0
  let tagged (t : Tagged) : Tagged := { t with step := true }
  let m := { m with timeOffset := m.timeOffset + d, n := { m.n with nearAt := none }, smp := { m.smp with tagged := m.smp.tagged.map tagged } }
  m.raise pgTime Ev.timeStep

/-- The module stops being synced (R387, R388). -/
def Module.loseSync (m : Module) : Module :=
  if m.flag F.timeStsSynced then (m.put F.timeStsSynced 0).raise pgTime Ev.syncLost else m

/-- The offset to the time source, in 2^−16 ns, is used (R384, R386, R388). -/
def Module.useOffset (m : Module) (o : Int) : Module :=
  let m := (m.put F.timeStsOffset (unsigned 32 (o / 256))).put F.timeStsHoldover 0
  let ns : Int := (o + 32768) / 65536
  if 65536 * 1000 < o.natAbs then m.loseSync.stepTime (-ns)
  else
    let near := if o.natAbs ≤ 2 * 65536 then some (m.n.nearAt.getD m.now) else none
    let m := m.slewTo (-ns)
    { m with n := { m.n with nearAt := near } }

/-- A time block is received (R383, R539, R540). -/
def Module.takeTime (m : Module) (p : Nat) (flit : List Byte) (at' : Nat) : Module :=
  let now := m.fabricNow
  let stamp (o : Nat) : Int := (flitBE flit (at' + o) 8 * 65536 + flitBE flit (at' + o + 8) 2 : Nat)
  let state := flitBE flit (at' + 30) 1
  let (t4, t3, t1, t2) := ((now * 65536 : Nat), stamp 0, stamp 10, stamp 20)
  let m := m.onPort p fun q =>
    { q with stamp := some { ns := flitBE flit at' 8, frac := flitBE flit (at' + 8) 2, rx := now }, farDist := state % 32,
             farSynced := nbit state 7 }
  let m := m.showSource
  if t1 = 0 then m
  else
    let off : Int := (((t4 : Int) - t3) - (t2 - t1)) / 2
    let m := m.onPort p fun q => { q with delay := (((t4 : Int) - t1) - (t3 - t2)) / 2, offset := some off }
    if m.timeSource = some p then m.useOffset off else m

/-- Meaning of TIME (R383, R386, R388, R539, R540). -/
def execTime (p : Fin 48) (flit : List Byte) (e : Env) (s : State) : Res :=
  s.run fun m =>
    let p := p.val
    (m.at e).rxCtl p flit 3 fun m => if m.isUp p then m.takeTime p flit 14 else m

/-- Meaning of TIME_FLIT_TIMER (R539): TIME.CFG.period, in µs, has passed since the last TIME flit. -/
def execTimeFlitTimer (p : Fin 48) (e : Env) (s : State) : Res :=
  s.run fun m =>
    let m := m.at e
    let p := p.val
    if !m.isUp p || m.now < (m.port p).lastTime + m.get F.timeCfgPeriod * 1000 then m else m.owe p .time

/-- A write of TIME.SET (R388): ignored unless gm = 1. -/
def Module.timeSet (m : Module) (w : Wr) : Module :=
  let a := F.timeSetNs.reg
  if !m.reaches a then m.regWrite a w
  else if !m.flag F.timeCfgGm then m
  else m.stepTime ((writeOnes w).toNat - (m.fabricNow : Int))

/-- Meaning of TIME_SET (R388). -/
def execTimeSet (w : Wr) (e : Env) (s : State) : Res := s.runAs w.master fun m => (m.at e).timeSet w

/-- Meaning of SYNCED (R384): the offset has stayed within ±2 ns for 1 ms; store objects held for their time are judged. -/
def execSynced (e : Env) (s : State) : Res :=
  s.run fun m =>
    let m := m.at e
    match m.n.nearAt with
    | none => m
    | some t =>
      if m.flag F.timeStsSynced || m.timeSource.isNone || m.now < t + 1000000 then m
      else
        let m := ((m.put F.timeStsSynced 1).raise pgTime Ev.synced).onStore fun s => { s with timed := true }
        if m.storeRuns then m.judgeLate false else m

/-- Meaning of SYNC_LOST (R387): the last time source is gone. -/
def execSyncLost (e : Env) (s : State) : Res :=
  s.run fun m =>
    let m := m.at e
    if !m.flag F.timeStsSynced || m.flag F.timeCfgGm || m.timeSource.isSome then m
    else
      let m := (m.loseSync.put F.timeStsHoldover 1).slewTo 0
      { m with n := { m.n with nearAt := none } }

end Sys2Proof.Machine
end

