-- ==== Sys2Proof/Machine/Registers.lean ====
section
/-! DEFINITION. Straps and the fabric address (R17–R24), refused and failed register accesses (R64–R66, R763), page locks,
events and their table (R54, R73–R81), semaphores (R82–R88), check-value units (R89–R94) and counter writes (R716). -/

namespace Sys2Proof.Machine

/-! ## Straps and the fabric address -/

/-- The peer number that X or Y port k of position p reaches in the reference wiring (R29, R30). -/
def refPeer (p k : Nat) : Nat := if k < p then k else k + 1

/-- The byte of ROUTE.PMAP for a duo in the reference wiring (R431): bit 7 valid, the slot or the chassis reached. -/
def pmapByte (chassis slot d : Nat) : Nat :=
  if d < 15 then 0x80 + refPeer slot d else if d < 30 then 0x80 + refPeer chassis (d - 15) else 0

/-- ROUTE.PMAP is loaded with the reference wiring for the straps taken (R431). -/
def Module.loadPmap (m : Module) : Module :=
  if m.flag (F.pgLock pgRoute) then m
  else
    (List.range 4).foldl (fun m k =>
      m.put (F.routePmapMap k)
        (leNat ((List.range 8).map (fun i => BitVec.ofNat 8 (pmapByte m.chassis m.slot (8 * k + i)))))) m

/-- The straps are taken (R19, R741): the chassis and slot enter the FA, HOST_MODE the arrangement of the host links, and
ROUTE.PMAP is loaded. -/
def Module.takeStraps (m : Module) (pins : Nat) : Module :=
  let m := { m with straps := { due := false, sampled := some pins, differs := false, lastDiff := none } }
  let m := m.put F.devFaddrFa (m.get F.devFaddrGroup * 256 + pins % 256)
  let m := (List.range 4).foldl (fun m i => m.put (F.hostLstsArr i) (pins / 256)) m
  m.loadPmap

/-- The straps have differed for 8 AON cycles (R21): at a new difference strap_chg and the event cause are set. -/
def Module.strapChanged (m : Module) (pins : Nat) : Module :=
  match m.straps.sampled with
  | none => m
  | some v =>
    if m.straps.due || pins = v then m
    else if m.straps.differs && decide (m.straps.lastDiff = some pins) then m
    else
      let m := { m with straps := { m.straps with differs := true, lastDiff := some pins } }
      (m.put F.devFaddrStrapChg 1).raise pgDev Ev.strapChanged

/-- Meaning of STRAP_CHANGED (R20, R21). -/
def execStrapChanged (pins : BitVec 10) (s : State) : Res := s.run fun m => m.strapChanged pins.toNat

/-- Meaning of STRAP_AGREEMENT (R21): the condition ends; a later difference counts as new. -/
def execStrapAgreement (s : State) : Res :=
  s.run fun m => { m with straps := { m.straps with differs := false } }

/-- A write of DEV.FADDR (R22, R23): the first group is stored with valid; a different one later is ignored with
FA_CONFLICT. The other fields follow their access types. -/
def Module.groupWrite (m : Module) (w : Wr) : Module :=
  if !m.reaches F.devFaddrGroup.reg || !touches w.half 41 32 then m.regWrite F.devFaddrGroup.reg w
  else
    let g := bits w.value 41 32
    if !m.groupValid then
      let m := m.regWrite F.devFaddrGroup.reg w
      let m := (m.put F.devFaddrGroup g).put F.devFaddrValid 1
      m.put F.devFaddrFa (g * 256 + m.fa % 256)
    else if m.get F.devFaddrGroup = g then m.regWrite F.devFaddrGroup.reg w
    else m.raise pgDev Ev.faConflict

/-- Meaning of GROUP_WRITE (R22, R23). -/
def execGroupWrite (w : Wr) (s : State) : Res := s.runAs w.master fun m => m.groupWrite w

/-! ## Accesses that fail -/

/-- Meaning of REFUSED_ACCESS (R763, R66): nothing changes but the record of the access. The recorded offset is that of the
access. -/
def execRefusedAccess (master : BitVec 4) (addr : BitVec 24) (write : Bool) (s : State) : Res :=
  s.runAs master fun m => m.accessError write true master.toNat (domOf (regAddr addr.toNat)) addr.toNat

/-- Meaning of STOPPED_DOMAIN_READ (R64, R66): where the page's domain is stopped, the read is recorded. -/
def execStoppedDomainRead (master : BitVec 4) (addr : BitVec 24) (s : State) : Res :=
  s.runAs master fun m =>
    let a := regAddr addr.toNat
    if !m.absent (a / 0x1000) && m.domStopped (a / 0x1000) (domOf a) then
      m.accessError false false master.toNat (domOf a) addr.toNat
    else m

/-- Meaning of STOPPED_DOMAIN_WRITE (R65, R66): where the page's domain is stopped, the write is discarded and recorded. -/
def execStoppedDomainWrite (addr : BitVec 24) (w : Wr) (s : State) : Res :=
  s.runAs w.master fun m =>
    let a := regAddr addr.toNat
    if !m.absent (a / 0x1000) && m.domStopped (a / 0x1000) (domOf a) then
      m.accessError true false w.master.toNat (domOf a) addr.toNat
    else m

/-- Meaning of PAGE_LOCK (R52). -/
def execPageLock (page : BitVec 12) (w : Wr) (s : State) : Res := s.runAs w.master fun m => m.pageCtl (page.toNat * 0x1000 + 0x18) w

/-! ## Events -/

/-- A W1C write of EVT_PEND (R55, R76): a source that stays asserted sends one further message. -/
def Module.pendClear (m : Module) (page : Nat) (w : Wr) : Module :=
  if !m.reaches (page * 0x1000 + 0x38) then m.regWrite (page * 0x1000 + 0x38) w
  else if isMsixPage page then m
  else
    let old := m.word (page * 0x1000 + 0x38)
    let new := old &&& ~~~ writeOnes w
    let m1 := m.setWord (page * 0x1000 + 0x38) new
    if old ≠ new && m.asserted page && m1.asserted page then m1.deliver page else m1

/-- Meaning of EVT_PEND_CLEAR (R55, R56, R76). -/
def execEvtPendClear (page : BitVec 12) (w : Wr) (s : State) : Res := s.runAs w.master fun m => m.pendClear page.toNat w

/-- A W1C write of EVT[k].SRCPND[j]: wake and software sources are deasserted, page sources are not touched (R73, R76). -/
def Module.srcpndClear (m : Module) (k j : Nat) (w : Wr) : Module :=
  let a := (F.evtSrcpndPend k j).reg
  if !m.reaches a then m.regWrite a w
  else
    (List.range 64).foldl (fun m i =>
      if 0x240 ≤ 256 * k + 64 * j + i && bit (writeOnes w) i then m.put (F.srcPend (256 * k + 64 * j + i)) 0 else m) m

/-- Meaning of SRCPND_CLEAR (R73, R76). -/
def execSrcpndClear (k : Fin 4) (j : Fin 4) (w : Wr) (s : State) : Res := s.runAs w.master fun m => m.srcpndClear k.val j.val w

/-- A write of an event table entry (R73, R77, R78): setting en on an asserted source sends one message. -/
def Module.entryWrite (m : Module) (n : Nat) (w : Wr) : Module :=
  let a := (F.evtEnt n 63 63).reg
  if !m.reaches a then m.regWrite a w
  else
    let new := mergeHalf w.half (m.word a) w.value
    let was := m.get (F.evtEnt n 63 63)
    let m := (m.put (F.evtEnt n 63 61) (bits new 63 61)).put (F.evtEnt n 57 56) (bits new 57 56)
    let m := m.put (F.evtEnt n 42 32) (bits new 42 32)
    if was = 0 && m.get (F.evtEnt n 63 63) = 1 && m.asserted n then m.deliver n else m

/-- Meaning of EVT_ENTRY_WRITE (R73, R77, R78). -/
def execEvtEntryWrite (n : BitVec 10) (w : Wr) (s : State) : Res := s.runAs w.master fun m => m.entryWrite n.toNat w

/-- A write of EVT[0].SWSET (R73): a software source is asserted; any other number is ignored. -/
def Module.swset (m : Module) (w : Wr) : Module :=
  let n := bits (writeOnes w) 9 0
  if !m.reaches F.evtSwsetN.reg then m.regWrite F.evtSwsetN.reg w
  else if 0x250 ≤ n then m.assertSrc n else m

/-- Meaning of SWSET (R73–R75). -/
def execSwset (w : Wr) (s : State) : Res := s.runAs w.master fun m => m.swset w

/-- Meaning of MSIX_UNMASK (R79): the host clears a vector's mask bit; a pending message is sent if its source is still
asserted. -/
def execMsixUnmask (link : Fin 4) (vector : BitVec 11) (s : State) : Res :=
  s.run fun m =>
    let f := m.msixFn link.val
    let a := 16 * vector.toNat + 8
    let f1 := { f with table := Sparse.write msixDefault f.table a (setBits (f.word a) 32 32 0) }
    (m.setMsix link.val f1).unmasked link.val vector.toNat

/-- Meaning of MSIX_ENABLE (R81): over a link that is up the host sets MSI-X Enable, with the function's mask as given; one message goes
out for each asserted, enabled source routed to the link, and pending vectors that are now unmasked follow. -/
def execMsixEnable (link : Fin 4) (funcMask : Bool) (s : State) : Res :=
  s.run fun m =>
    if !m.linkUp link.val then m
    else
    let f := m.msixFn link.val
    let m1 := m.setMsix link.val { f with enable := true, funcMask := funcMask }
    let fresh := !m.canTake link.val && m1.canTake link.val
    let m2 := if f.enable && f.funcMask && !funcMask then f.pend.foldl (fun m v => m.unmasked link.val v) m1 else m1
    if fresh then
      (List.range 1024).foldl (fun m n =>
        if m.get (F.evtEnt n 63 63) = 1 && m.get (F.evtEnt n 62 62) = 0 && m.get (F.evtEnt n 57 56) = link.val && m.asserted n
        then m.deliver n else m) m2
    else m2

/-! ## Semaphores -/

/-- Whether a group's mask lets a master use a semaphore (R82, GMASK). -/
def Module.semAllowed (m : Module) (n master : Nat) : Bool := nbit (m.get (F.semGmaskMask (n / 16))) master

/-- A write of a nonzero owner (R82, R83): the group's mask is judged before the value and the holder (log 127). -/
def Module.semClaim (m : Module) (n : Nat) (w : Wr) : Module :=
  let id := bits w.value 3 0
  let master := w.master.toNat
  if !m.reaches (F.semLockOwner n).reg then m.regWrite (F.semLockOwner n).reg w
  else if !touches w.half 3 0 || id = 0 then m
  else if !m.semAllowed n master then m.raise pgSem Ev.denied
  else if id = master && m.get (F.semLockOwner n) = 0 then m.put (F.semLockOwner n) id
  else m

/-- Meaning of SEM_CLAIM (R82, R83). -/
def execSemClaim (n : BitVec 8) (w : Wr) (s : State) : Res := s.runAs w.master fun m => m.semClaim n.toNat w

/-- A write of owner 0 by the holder (R84, R87). -/
def Module.semRelease (m : Module) (n : Nat) (w : Wr) : Module :=
  let owner := m.get (F.semLockOwner n)
  if !m.reaches (F.semLockOwner n).reg then m.regWrite (F.semLockOwner n).reg w
  else if touches w.half 3 0 && bits w.value 3 0 = 0 && owner ≠ 0 && owner = w.master.toNat then
    ((m.put (F.semLockOwner n) 0).put (F.semLockBroken n) 0).semWake n
  else m

/-- Meaning of SEM_RELEASE (R84, R85, R87). -/
def execSemRelease (n : BitVec 8) (w : Wr) (s : State) : Res := s.runAs w.master fun m => m.semRelease n.toNat w

/-- A write of owner 0 by the MMP on a semaphore another master holds (R85, R87); on one that is free it changes nothing (log 128). -/
def Module.semForce (m : Module) (n : Nat) (w : Wr) : Module :=
  let owner := m.get (F.semLockOwner n)
  if !m.reaches (F.semLockOwner n).reg then m.regWrite (F.semLockOwner n).reg w
  else if touches w.half 3 0 && bits w.value 3 0 = 0 && owner ≠ 0 && owner ≠ w.master.toNat && w.master.toNat = 8 then
    ((m.put (F.semLockOwner n) 0).put (F.semLockBroken n) 1).semWake n
  else m

/-- Meaning of SEM_FORCE_RELEASE (R85, R87). -/
def execSemForceRelease (n : BitVec 8) (w : Wr) (s : State) : Res := s.runAs w.master fun m => m.semForce n.toNat w

/-- A write of SEM.WAIT (R86): the group's mask is judged before the holder (log 127). -/
def Module.semWait (m : Module) (w : Wr) : Module :=
  let n := bits w.value 7 0
  let i := w.master.toNat
  if !m.reaches F.semWaitN.reg then m.regWrite F.semWaitN.reg w
  else if !touches w.half 7 0 then m
  else if !m.semAllowed n i then m.raise pgSem Ev.denied
  else if m.get (F.semLockOwner n) = i then m
  else if m.get (F.semLockOwner n) = 0 then
    (m.put ⟨(F.semWkpndPend (4 * i + n / 64)).reg, n % 64, n % 64⟩ 1).assertSrc (0x240 + i)
  else m.put ⟨(F.semLockWaiters n).reg, 16 + i, 16 + i⟩ 1

/-- Meaning of SEM_WAIT (R86). -/
def execSemWait (w : Wr) (s : State) : Res := s.runAs w.master fun m => m.semWait w

/-- Meaning of TAP_RESET (R88, R742): a reset of master 9. -/
def execTapReset (s : State) : Res := s.run fun m => m.masterReset 9

/-! ## Check-value units -/

/-- A write of CTL.start (R90, R94): sel is set, VAL takes the initial value of sel, BYTES is cleared. -/
def Module.chkStart (m : Module) (u : Nat) (w : Wr) : Module :=
  if !m.reaches (F.chkCtlSel u).reg then m.regWrite (F.chkCtlSel u).reg w
  else if touches w.half 2 0 && bit w.value 2 then
    let sel := bits w.value 1 0
    ((m.put (F.chkCtlSel u) sel).put (F.chkValVal u) (crcKind sel).init).put (F.chkBytesBytes u) 0
  else m

/-- Meaning of CHK_START (R90, R94). -/
def execChkStart (u : Fin 8) (w : Wr) (s : State) : Res := s.runAs w.master fun m => m.chkStart u.val w

/-- A write of CTL.sel without start (R93): VAL is unchanged. -/
def Module.chkSel (m : Module) (u : Nat) (w : Wr) : Module :=
  if !m.reaches (F.chkCtlSel u).reg then m.regWrite (F.chkCtlSel u).reg w
  else if touches w.half 2 0 && !bit w.value 2 then m.put (F.chkCtlSel u) (bits w.value 1 0) else m

/-- Meaning of CHK_SEL_WRITE (R93). -/
def execChkSelWrite (u : Fin 8) (w : Wr) (s : State) : Res := s.runAs w.master fun m => m.chkSel u.val w

/-- The register of a feed width, and the number of bytes it feeds (R90, R91). -/
def feedReg (u : Nat) : FeedWidth → Fld × Nat
  | .feed8 => (F.chkFeed8Feed u, 1)
  | .feed16 => (F.chkFeed16Feed u, 2)
  | .feed32 => (F.chkFeed32Feed u, 4)

/-- A write of a feed register (R91): 1, 2 or 4 bytes enter the CRC, the low byte first, and BYTES counts them. -/
def Module.chkFeed (m : Module) (u : Nat) (width : FeedWidth) (w : Wr) : Module :=
  let (f, n) := feedReg u width
  if !m.reaches f.reg then m.regWrite f.reg w
  else if !touches w.half 7 0 then m
  else
    let k := crcKind (m.get (F.chkCtlSel u))
    let v := k.feed (m.get (F.chkValVal u)) (leBytes n w.value.toNat)
    (m.put (F.chkValVal u) v).put (F.chkBytesBytes u) (m.get (F.chkBytesBytes u) + n)

/-- Meaning of CHK_FEED (R91, R92). -/
def execChkFeed (u : Fin 8) (width : FeedWidth) (w : Wr) (s : State) : Res := s.runAs w.master fun m => m.chkFeed u.val width w

/-! ## Counters -/

/-- A write of counter n of a page (R716, R717). -/
def Module.counterWrite (m : Module) (page n : Nat) (w : Wr) : Module :=
  let a := page * 0x1000 + 0x800 + 8 * n
  let count := match blockOf page with
    | some (b, _) => ctrCount b.blk
    | none => 0
  if !m.reaches a then m.regWrite a w
  else if count ≤ n then m
  else
    let m := match blockOf page with
      | some (b, i) => if b.blk = Blk.lane && n = 8 then m.settleInjection i else m
      | none => m
    let new := mergeHalf w.half (m.word a) w.value
    (m.put (F.ctrValue page n) (bits new 47 0)).put (F.ctrOvf page n) (bits new 63 63)

/-- Meaning of COUNTER_WRITE (R716, R717). -/
def execCounterWrite (page : BitVec 12) (n : BitVec 8) (w : Wr) (s : State) : Res :=
  s.runAs w.master fun m => m.counterWrite page.toNat n.toNat w

end Sys2Proof.Machine
end

