-- ==== Sys2Proof/Machine/LinkTrain.lean ====
section
/-! DEFINITION. Training (R520–R526): the exchange, what it settles, quarantine as it judges it (R27, R31, R32, R465–R467), and links
that retrain, go down, or are held down (R527–R530). -/

namespace Sys2Proof.Machine

/-! ## The exchange -/

/-- A port enters EXCHANGE (R520, R521). -/
def Module.enterExchange (m : Module) (p : Nat) : Module :=
  (m.put (F.portLstsState p) lsExchange).onPort p fun q =>
    { q with exchAt := m.now, sentAck := false, far := none, farAck := false }

/-- Whether lane bring-up of a port is complete (R558). -/
def Module.lanesReady (m : Module) (p : Nat) : Bool :=
  let lanes := m.lanesOf p
  let runs (n : Nat) : Bool := m.laneStage n = lgRun
  lanes.any runs &&
  (lanes.all (fun n => runs n || m.flag (F.laneRxstsFailed n)) ||
   (match (m.port p).firstRun with
    | none => false
    | some t => decide (t + 20000000 ≤ m.now)))

/-- Meaning of LANE_BRINGUP_COMPLETE (R520, R558). -/
def execLaneBringupComplete (p : Fin 48) (e : Env) (s : State) : Res :=
  s.run fun m =>
    let m := m.at e
    let p := p.val
    let from' := (m.lstate p = lsDown && m.flag (F.portLctlEn p)) || m.lstate p = lsRetrain
    if isPort p && from' && m.lanesReady p then m.enterExchange p else m

/-- The lowest `k` positions of a mask. -/
def lowestLanes (k mask : Nat) : Nat :=
  (((List.range 4).filter (fun i => nbit mask i)).take k).foldl (fun a i => a + 2 ^ i) 0

/-- Whether this end's proposal holds: it has the larger FA, or of equal FAs the larger token (R522, R535). -/
def Module.larger (m : Module) (p fa token : Nat) : Bool :=
  decide (fa < m.fa) || (decide (fa = m.fa) && decide (token < (m.port p).token))

/-- Width, lanes and rate that the exchange settles (R522); none where the ends have no usable lane in common. -/
def Module.agree (m : Module) (p : Nat) (t : Train) : Option (Nat × Nat × Nat) :=
  let mine := m.larger p t.fa t.token
  let common := m.usable p &&& t.lanes
  let n := popCount 4 common
  let widest := if 4 ≤ n then 2 else if 2 ≤ n then 1 else 0
  let width := min (min (if mine then m.get (F.portLwidReq p) else t.width) (fullWidth p)) widest
  if n = 0 then none else some (width, lowestLanes (2 ^ width) common, if mine then m.portRate p else t.rate)

/-- Whether the peer's FA breaks the reference wiring of a port (R29–R32). -/
def Module.miswired (m : Module) (p : Nat) (t : Train) : Bool :=
  let both := m.groupValid && t.gvalid
  let same := decide (faGroup t.fa = faGroup m.fa)
  m.flag F.devFaddrWireChk &&
  (if portKind p = 2 then both && same
   else
    let (c, s) := if portKind p = 0 then (m.chassis, refPeer m.slot p) else (refPeer m.chassis (p - 15), m.slot)
    faChassis t.fa ≠ c || faSlot t.fa ≠ s || (both && !same))

/-- Whether an end with route epoch a finds the other end's epoch b older (R465). -/
def epochOlder (a b : Nat) : Bool :=
  let d := seqSub 16 a b
  decide (1 ≤ d) && decide (d ≤ 32768)

/-- The quarantine with which a link comes up (R27, R31, R32, R465, R467, R523). Of several causes, one that a master set, then an
unassigned group, then the wiring, then the epoch is shown. -/
def Module.quarantineOf (m : Module) (p : Nat) (t : Train) : Nat :=
  let own := m.get F.routeEpochEpoch
  if (m.port p).qmaster || t.qmaster then 4
  else if !m.groupValid || !t.gvalid then 3
  else if m.miswired p t then 2
  else if epochOlder own t.epoch || epochOlder t.epoch own then 1
  else 0

/-- What remains in a replay buffer after an exchange (R525, R526): kept and sent again where both ends hold their state, else
flushed, with numbers from 0. -/
def Module.settleReplay (m : Module) (p : Nat) (t : Train) : Module :=
  if (m.port p).stateValid && t.stateValid then
    let m := m.release p t.lastAcc
    let due (r : RPkt) : RPkt := { r with respend := true }
    m.onPort p fun q => { q with replay := q.replay.map due, again := q.replay.map (·.seq) }
  else
    let m := (m.put (F.portLstsTxSeq p) 0).put (F.portLstsRxSeq p) 0
    m.onPort p fun q => { q with replay := [], again := [] }

/-- A link comes up (R420, R520, R522–R526, R532). -/
def Module.linkComes (m : Module) (p : Nat) (t : Train) (width mask rate : Nat) : Module :=
  let m := (m.put (F.portLstsState p) lsUp).put (F.portLstsRate p) rate
  let m := m.applyWidth p width mask
  let m := (((m.put (F.portPeerValid p) 1).putFlag (F.portPeerGvalid p) t.gvalid).put (F.portPeerDuo p) t.duo).put (F.portPeerEpoch p) t.epoch
  let m := (m.put (F.portPeerKind p) t.kind).put (F.portPeerFa p) t.fa
  let m := m.settleReplay p t
  let m := m.onPort p fun q =>
    { q with credReg := t.freeReg, credStub := t.freeStub, freedReg := 0, freedStub := 0, reserved := 0, hunting := false,
             rplCount := 0, rplSent := none, unreported := none, lastLink := m.now, stateValid := true, peerToken := t.token,
             retrainEnd := none, graceEnd := none, trained := width, owes := [], far := none, farAck := false, sentAck := false }
  let m := ((m.put (F.portLstsGrace p) 0).put (F.portLctlRetrain p) 0).put (F.portWinMin p) (regPool p)
  let cause := m.quarantineOf p t
  let m := if m.miswired p t then m.raise (pgPort p) Ev.miswire else m
  let m := m.setQcause p cause
  let m := if cause = 0 then m else m.raise pgRoute Ev.quarantine
  let m := if m.get (F.portSpareState p) = 2 && width = 2 then m.spareState p 3 else m
  let m := if (KMap.getD m.y.day.ports p DayPort.init).again then m.onDayPort p fun d => { d with since := 0, again := false } else m
  (m.raise (pgPort p) Ev.linkUp).showSource

/-- The exchange is complete once this end has sent and received a TRAIN with ack (R521). A rate that differs from the one the lanes
run at makes them come up again in full at the agreed one (R544). -/
def Module.checkExchange (m : Module) (p : Nat) : Module :=
  let q := m.port p
  match q.far with
  | none => m
  | some t =>
    if m.lstate p ≠ lsExchange || !q.sentAck || !q.farAck then m
    else
      match m.agree p t with
      | none => m
      | some (width, mask, rate) =>
        let runs := bits (m.lane (m.laneOfLogical p ((List.range 4).findIdx (fun i => nbit mask i)))).mode 11 10
        if runs = rate then m.linkComes p t width mask rate
        else
          let m := m.put (F.portLstsState p) (if q.retrainEnd.isSome then lsRetrain else lsDown)
          let m := m.onPort p fun q => { q with rate := some rate, far := none, farAck := false, sentAck := false }
          ((m.lanesOf p).foldl (fun m n => m.dropSaved n) m).restartLanes p

/-- What a TRAIN flit says (R504). -/
def parseTrain (f : List Byte) : Train :=
  let flags := flitBE f 17 1
  let b20 := flitBE f 20 1
  let b21 := flitBE f 21 1
  { fa := flitBE f 14 3 % 2 ^ 18, gvalid := nbit flags 0, qmaster := nbit flags 1, ack := nbit flags 2, stateValid := nbit flags 3,
    epoch := flitBE f 18 2, duo := b20 % 64, kind := b20 / 64, width := b21 % 4, rate := b21 / 4 % 4, lanes := b21 / 16,
    lastAcc := flitBE f 22 2 % 4096, freeReg := flitBE f 24 2 % 8192, freeStub := flitBE f 26 1 % 16, token := flitBE f 28 8 }

/-- Meaning of TRAIN (R383, R521–R526, R540). -/
def execTrain (p : Fin 48) (flit : List Byte) (e : Env) (s : State) : Res :=
  s.run fun m =>
    let p := p.val
    (m.at e).rxCtl p flit 4 fun m =>
      if m.lstate p ≠ lsExchange then m
      else
        let t := parseTrain flit
        let m := m.onPort p fun q => { q with far := some t, farAck := q.farAck || t.ack }
        (m.takeTime p flit 36).checkExchange p

/-- Meaning of TRAIN_FLIT_TIMER (R521): a microsecond of EXCHANGE has passed, the FEC aligned. -/
def execTrainFlitTimer (p : Fin 48) (e : Env) (s : State) : Res :=
  s.run fun m =>
    let m := m.at e
    let p := p.val
    if m.lstate p ≠ lsExchange then m else (m.sendFlit p .train).checkExchange p

/-- Meaning of EXCHANGE_TIMEOUT (R520): 1 ms without completion. -/
def execExchangeTimeout (p : Fin 48) (e : Env) (s : State) : Res :=
  s.run fun m =>
    let m := m.at e
    let p := p.val
    if m.lstate p ≠ lsExchange || m.now < (m.port p).exchAt + 1000000 then m else (m.linkDown p true).restartLanes p

/-- Meaning of LOCK_LOSS_TIMEOUT (R520, R529): a retrain has not reached UP within the down_us that stood when it began. -/
def execLockLossTimeout (p : Fin 48) (e : Env) (s : State) : Res :=
  s.run fun m =>
    let m := m.at e
    let p := p.val
    match (m.port p).retrainEnd with
    | none => m
    | some t =>
      if (m.lstate p ≠ lsRetrain && m.lstate p ≠ lsExchange) || m.now < t then m
      else m.linkDown p true

/-- Meaning of GRACE_FLUSH (R530): the grace timer, started with the grace_us of that time, runs out. -/
def execGraceFlush (p : Fin 48) (e : Env) (s : State) : Res :=
  s.run fun m =>
    let m := m.at e
    let p := p.val
    match (m.port p).graceEnd with
    | none => m
    | some t =>
      if m.now < t then m
      else
        let m := m.onPort p fun q => { q with graceEnd := none, replay := [], again := [], stateValid := false }
        (m.put (F.portLstsGrace p) 0).raise (pgPort p) Ev.graceFlush

/-! ## PORT.LCTL -/

/-- A write of PORT[p].LCTL (R520, R527–R529): en holds the link DOWN with its lanes stopped, or lets them come up; down and retrain act
on a link that is UP. The second duo of a quad ignores it. -/
def Module.lctlWrite (m : Module) (p : Nat) (w : Wr) : Module :=
  let a := (F.portLctlEn p).reg
  if !m.reaches a then m.regWrite a w
  else if !isPort p || !touches w.half 2 0 then m
  else
    let v := writeOnes w
    let was := m.flag (F.portLctlEn p)
    let m := m.put (F.portLctlEn p) (bits v 0 0)
    if !bit v 0 then
      let m := (m.takeDown p true).onPort p fun q => { q with rate := none }
      if was then (m.lanesOf p).foldl (fun m n => m.stopLane n) m else m
    else
      let m := if was || m.lstate p ≠ lsDown then m else m.restartLanes p
      if bit v 2 && m.isUp p then (m.takeDown p true).restartLanes p
      else if bit v 1 && m.isUp p then (m.retrain p).put (F.portLctlRetrain p) 1
      else m

/-- Meaning of RETRAIN (R527, R528). -/
def execRetrain (p : Fin 48) (w : Wr) (e : Env) (s : State) : Res := s.runAs w.master fun m => (m.at e).lctlWrite p.val w

/-- Meaning of TAKE_LINK_DOWN (R529). -/
def execTakeLinkDown (p : Fin 48) (w : Wr) (e : Env) (s : State) : Res := s.runAs w.master fun m => (m.at e).lctlWrite p.val w

/-- Meaning of LINK_ENABLE (R520). -/
def execLinkEnable (p : Fin 48) (w : Wr) (e : Env) (s : State) : Res := s.runAs w.master fun m => (m.at e).lctlWrite p.val w

end Sys2Proof.Machine
end

