-- ==== Sys2Proof/Machine/LinkWidth.lean ====
section
/-! DEFINITION. Width changes (R531–R538) and spare substitution (R541, R542), as their control flits and registers drive them. -/

namespace Sys2Proof.Machine

/-! ## Width changes -/

/-- A WIDTH flit of an op, or a SPARE flit, arrives on a port that is UP: the handler has the fields. -/
def Module.rxOp (m : Module) (p : Nat) (flit : List Byte) (type op : Nat) (f : Module → Module) : Module :=
  m.rxCtl p flit type fun m => if m.isUp p && flitBE flit 14 1 = op then f m else m

/-- Width, forced, mask and id of a WIDTH flit (R504). -/
def widthOf (flit : List Byte) : Nat := flitBE flit 15 1 % 4
def forcedOf (flit : List Byte) : Bool := nbit (flitBE flit 15 1) 7
def maskOf (flit : List Byte) : Nat := flitBE flit 16 1 % 16
def idOf (flit : List Byte) : Nat := flitBE flit 17 1

/-- A write of PORT[p].LWID (R69, R532–R534): while a change is in progress it waits for the end of that change; the second duo of a
quad ignores it. -/
def Module.lwidWrite (m : Module) (p : Nat) (w : Wr) : Module :=
  let a := (F.portLwidGo p).reg
  if !m.reaches a then m.regWrite a w
  else if !isPort p then m
  else if m.flag (F.portLwidGo p) then m.onPort p fun q => { q with lwidLate := q.lwidLate ++ [w] }
  else
    let m1 := m.regWrite a w
    if !bit (writeOnes w) 63 then m1
    else if (m1.port p).wown.isSome then m1
    else (m1.put (F.portLwidGo p) 1).askWidth p (m1.get (F.portLwidReq p)) (m1.get (F.portLwidMask p))

/-- Meaning of WIDTH_GO (R419, R532–R534). -/
def execWidthGo (p : Fin 48) (w : Wr) (e : Env) (s : State) : Res := s.runAs w.master fun m => (m.at e).lwidWrite p.val w

/-- Whether Daylight refuses a narrowing that the other end asks for (R636). -/
def Module.busyPort (m : Module) (p : Nat) : Bool :=
  let d := m.y.day
  d.on && (decide (d.widHi ≤ 2 * (KMap.getD d.ports p DayPort.init).u) || decide (d.wideQ ≤ m.occupancy p))

/-- A forced REQ (R537): obeyed at the next packet boundary; what this end asked for is superseded. -/
def Module.obeyForced (m : Module) (p width mask id : Nat) : Module :=
  let m := if (m.port p).wown.isSome then m.endOwn p 5 else m
  let m := (m.onPort p fun q => { q with wfar := none, wadd := none }).owe p (.width 2 width true mask id)
  ((m.applyWidth p width mask).showWchg p).afterWidth p

/-- The answer to a voluntary REQ (R419, R532, R534, R636): REFUSE, or ACK and then MARK. -/
def Module.answerReq (m : Module) (p width mask id : Nat) : Module :=
  let narrows := decide (width < m.get (F.portLstsWidth p))
  let usable := decide (mask &&& m.usable p = mask) && decide (popCount 4 mask = 2 ^ width) && decide (width ≤ fullWidth p)
  if !usable || (narrows && (m.narrowBlocked p width || m.busyPort p)) then m.owe p (.width 3 width false mask id)
  else
    let m := (m.owe p (.width 2 width false mask id)).owe p (.width 5 width false mask id)
    let m := m.onPort p fun q =>
      { q with wfar := some { id := id, width := width, mask := mask, txDone := true, rxDone := false } }
    (m.applyWidth p width mask).showWchg p

/-- Meaning of WIDTH_REQ (R419, R420, R532, R534, R535, R537, R636). -/
def execWidthReq (p : Fin 48) (flit : List Byte) (e : Env) (s : State) : Res :=
  s.run fun m =>
    let p := p.val
    (m.at e).rxOp p flit 5 1 fun m =>
      let (width, mask, id) := (widthOf flit, maskOf flit, idOf flit)
      if forcedOf flit then m.obeyForced p width mask id
      else
        match (m.port p).wown with
        | none => m.answerReq p width mask id
        | some o =>
          if !o.reqSent then m.answerReq p width mask id
          else if m.larger p (m.get (F.portPeerFa p)) (m.port p).peerToken then m
          else ((m.owe p (.width 4 o.width o.forced o.mask o.id)).endOwn p 2).answerReq p width mask id

/-- Meaning of WIDTH_ACK (R532, R537): the requester sends MARK and switches its transmit. A forced REQ is over with its ACK. -/
def execWidthAck (p : Fin 48) (flit : List Byte) (e : Env) (s : State) : Res :=
  s.run fun m =>
    let p := p.val
    (m.at e).rxOp p flit 5 2 fun m =>
      match (m.port p).wown with
      | none => m
      | some o =>
        if o.id ≠ idOf flit || !o.reqSent || o.txDone then m
        else if o.forced then ((m.onPort p fun q => { q with wown := none }).showWchg p).afterWidth p
        else
          let m := m.owe p (.width 5 o.width false o.mask o.id)
          let m := m.onPort p fun q => { q with wown := some { o with txDone := true } }
          (m.applyWidth p o.width o.mask).checkWidth p

/-- Meaning of WIDTH_REFUSE (R534). -/
def execWidthRefuse (p : Fin 48) (flit : List Byte) (e : Env) (s : State) : Res :=
  s.run fun m =>
    let p := p.val
    (m.at e).rxOp p flit 5 3 fun m =>
      match (m.port p).wown with
      | none => m
      | some o => if o.id = idOf flit && o.reqSent && !o.txDone then m.endOwn p 1 else m

/-- Meaning of WIDTH_YIELD (R535): the request of this end, the larger, goes on; its answer follows. -/
def execWidthYield (p : Fin 48) (flit : List Byte) (e : Env) (s : State) : Res := s.run fun m => (m.at e).rxOp p.val flit 5 4 id

/-- Meaning of WIDTH_MARK (R532): the receive lanes switch, and the change may be complete. -/
def execWidthMark (p : Fin 48) (flit : List Byte) (e : Env) (s : State) : Res :=
  s.run fun m =>
    let p := p.val
    (m.at e).rxOp p flit 5 5 fun m =>
      let id := idOf flit
      let far (f : WFar) : WFar := if f.id = id then { f with rxDone := true } else f
      let own (o : WOwn) : WOwn := { o with rxDone := true }
      match (m.port p).wown with
      | some o =>
        if o.id = id && o.txDone then (m.onPort p fun q => { q with wown := some (own o) }).checkWidth p
        else (m.onPort p fun q => { q with wfar := q.wfar.map far }).checkWidth p
      | none => (m.onPort p fun q => { q with wfar := q.wfar.map far }).checkWidth p

/-- Meaning of WIDTH_PREP (R533, R563): the lanes it adds come out of standby. One that names a failed lane retries it (R564). -/
def execWidthPrep (p : Fin 48) (flit : List Byte) (e : Env) (s : State) : Res :=
  s.run fun m =>
    let p := p.val
    (m.at e).rxOp p flit 5 6 fun m =>
      let now := m.get (F.portLstsLanes p)
      let added := (List.range 4).foldl (fun a i => if nbit (maskOf flit) i && !nbit now i then a + 2 ^ i else a) 0
      if added = 0 then m else m.addLanes p (idOf flit) (widthOf flit) added false

/-- Meaning of WIDTH_READY (R533). -/
def execWidthReady (p : Fin 48) (flit : List Byte) (e : Env) (s : State) : Res :=
  s.run fun m =>
    let p := p.val
    (m.at e).rxOp p flit 5 7 fun m =>
      let ready (o : WOwn) : WOwn := { o with gotReady := true }
      (m.onPort p fun q => { q with wown := q.wown.map ready }).tryReq p

/-- Meaning of ADDED_LANE_TIMEOUT (R541, R563): the change is abandoned, and the lanes that are not ready go back to standby. -/
def execAddedLaneTimeout (p : Fin 48) (e : Env) (s : State) : Res :=
  s.run fun m =>
    let m := m.at e
    let p := p.val
    match (m.port p).wadd with
    | none => m
    | some a =>
      if m.now < a.since + 20000000 then m
      else
        let m := m.onPort p fun q => { q with wadd := none }
        let m := (m.lanesIn p a.mask).foldl (fun m n => if m.laneStage n = lgRun then m else m.standbyLane n) m
        let m := if a.spare then
            (m.onPort p fun q => { q with spAsked := false, spSent := false, spGot := false }).unsteer p
          else m
        if (m.port p).wown.isSome then m.endOwn p 4
        else if a.spare then (m.put (F.portLwidResult p) 4).raise (pgPort p) Ev.widthFail
        else m.showWchg p

/-! ## Spare substitution -/

/-- A write of PORT[p].SPARE (R541, R542). -/
def Module.spareWrite (m : Module) (p : Nat) (w : Wr) : Module :=
  let a := (F.portSpareReq p).reg
  if !m.reaches a then m.regWrite a w
  else if !isPort p then m
  else
    let m := m.regWrite a w
    let v := writeOnes w
    let m := if bit v 63 then m.askSpare p (m.get (F.portSparePos p)) else m
    if !bit v 62 || !m.flag (F.portLstsSpare p) || !m.isUp p then m
    else
      let pos := m.get (F.portLstsSparePos p)
      let rest := m.laneMask p fun n => n / 2 ≠ spareOf p
      let m := m.onPort p fun q => { q with spBack := true }
      if m.get (F.portLstsLanes p) &&& rest = m.get (F.portLstsLanes p) then m.afterWidth p
      else m.askWidth p 1 (2 ^ m.logical p (2 - 2 * pos) + 2 ^ m.logical p (3 - 2 * pos))

/-- Meaning of SPARE_REQUEST (R37, R541). -/
def execSpareRequest (p : Fin 48) (w : Wr) (e : Env) (s : State) : Res := s.runAs w.master fun m => (m.at e).spareWrite p.val w

/-- Meaning of SPARE_RELEASE_WRITE (R542). -/
def execSpareReleaseWrite (p : Fin 48) (w : Wr) (e : Env) (s : State) : Res := s.runAs w.master fun m => (m.at e).spareWrite p.val w

/-- The position of a SPARE flit (R504). -/
def sparePosOf (flit : List Byte) : Nat := flitBE flit 15 1 % 2

/-- Meaning of SPARE_REQ (R541): REFUSE where this end's spare is in use, else ACK, and the spare is steered in. -/
def execSpareReq (p : Fin 48) (flit : List Byte) (e : Env) (s : State) : Res :=
  s.run fun m =>
    let p := p.val
    let pos := sparePosOf flit
    (m.at e).rxOp p flit 6 1 fun m =>
      if !isQuadDuo p then m
      else if m.spareBusy p && !(m.get (F.portSpareState p) = 1 && m.get (F.portLstsSparePos p) = pos) then m.owe p (.spare 5 pos)
      else
        let m := m.onPort p fun q => { q with spSent := false, spGot := false }
        (m.owe p (.spare 2 pos)).steer p pos

/-- Meaning of SPARE_ACK (R541). -/
def execSpareAck (p : Fin 48) (flit : List Byte) (e : Env) (s : State) : Res :=
  s.run fun m =>
    let p := p.val
    (m.at e).rxOp p flit 6 2 fun m => if m.get (F.portSpareState p) = 1 then m.steer p (m.get (F.portLstsSparePos p)) else m

/-- Meaning of SPARE_READY (R541). -/
def execSpareReady (p : Fin 48) (flit : List Byte) (e : Env) (s : State) : Res :=
  s.run fun m =>
    let p := p.val
    (m.at e).rxOp p flit 6 3 fun m =>
      if m.get (F.portSpareState p) = 2 then (m.onPort p fun q => { q with spGot := true }).checkSpare p else m

/-- Meaning of SPARE_RELEASE (R542). -/
def execSpareRelease (p : Fin 48) (flit : List Byte) (e : Env) (s : State) : Res :=
  s.run fun m =>
    let p := p.val
    (m.at e).rxOp p flit 6 4 fun m => if m.flag (F.portLstsSpare p) then m.unsteer p else m

/-- Meaning of SPARE_REFUSE (R541). -/
def execSpareRefuse (p : Fin 48) (flit : List Byte) (e : Env) (s : State) : Res :=
  s.run fun m =>
    let p := p.val
    (m.at e).rxOp p flit 6 5 fun m =>
      if m.get (F.portSpareState p) = 1 then (m.onPort p fun q => { q with spAsked := false }).spareState p 4 else m

end Sys2Proof.Machine
end

