-- ==== Sys2Proof/Machine/Lanes.lean ====
section
/-! DEFINITION. Lanes (R543–R568): bring-up stages, saved state, failure and repair, transmitter settings, mode, eye scans and the
pattern checker. -/

namespace Sys2Proof.Machine

/-- Whether a write stays inside the ranges of its register (R766). -/
def Module.writeFits (m : Module) (a : Nat) (w : Wr) : Bool :=
  match regAt a with
  | none => false
  | some r =>
    let locked := m.flag (F.pgLock (a / 0x1000))
    r.fields.all (fun f => f.inRange locked w (m.word a)) && m.writeOk a (m.word a) (r.write locked w (m.word a))

/-! ## Bring-up -/

/-- The limit of a stage, ns (R554, R560); none for SIGNAL. -/
def stageLimit (st : Nat) (fast : Bool) : Option Nat :=
  match st with
  | 1 => some 50000
  | 3 => some 3000000
  | 4 => some (if fast then 200000 else 12000000)
  | 5 => some 1000000
  | 6 => some 4000000
  | _ => none

/-- The receive lanes of a lane's port that have passed IDENT, and the lane itself. -/
def Module.mapped (m : Module) (n : Nat) : List Nat :=
  match m.portOfLane n with
  | none => [n]
  | some p => (m.lanesOf p).filter (fun k => k = n || decide (lgReady ≤ m.laneStage k))

/-- Lanes in a port of a lane. -/
def Module.portWidth (m : Module) (n : Nat) : Nat :=
  match m.portOfLane n with
  | none => 2
  | some p => 2 ^ fullWidth p

/-- A lane's receiver is ready: its frames say so (R553, R554). -/
def Module.laneReady (m : Module) (n : Nat) : Module :=
  let m := m.setStage n lgReady
  m.emit (.lane n (m.laneSends n))

/-- The frames of the countdown, of which the last has count 0 (R554); an added lane has none (R563). -/
def Module.countdown (m : Module) (n : Nat) : Module :=
  if (m.lane n).added || m.flag (F.lanePgenEn n) then m
  else (List.range 15).foldl (fun m k => m.emit (.lane n (.frames (m.frameOf n (14 - k))))) m

/-- A lane has read its identity (R555, R556): it goes on to READY where the port's map is straight or reversed. -/
def Module.identify (m : Module) (n : Nat) (seen : LaneSeen) : Module :=
  let mode := (m.lane n).mode
  let pol := bits mode 6 5
  if (pol = 1 && seen.inverted) || (pol = 2 && !seen.inverted) then m
  else
    let m := m.put (F.laneRxstsFpos n) seen.pos
    let m := if pol = 0 && seen.inverted && !m.flag (F.laneRxstsInv n) then m.raise (pgLane n) Ev.polarity else m
    let m := m.putFlag (F.laneRxstsInv n) seen.inverted
    let lanes := m.mapped n
    let fpos (k : Nat) : Nat := m.get (F.laneRxstsFpos k)
    let straight := lanes.all (fun k => fpos k = m.posOf k)
    let swapped := lanes.all (fun k => fpos k + 1 + m.posOf k = m.portWidth n)
    if straight then (lanes.foldl (fun m k => m.put (F.laneRxstsRev k) 0) m).laneReady n
    else if swapped && !bit mode 4 then (lanes.foldl (fun m k => m.put (F.laneRxstsRev k) 1) m).laneReady n
    else m.raise (pgLane n) Ev.laneMap

/-- A lane reaches RUN (R554, R558, R563, R564). -/
def Module.laneRuns (m : Module) (n : Nat) : Module :=
  let m := m.countdown n
  let m := if (m.lane n).fast then m.count (pgLane n) 4 else m
  let m := ((m.put (F.laneRxstsAttempts n) 0).put (F.laneRxstsFailed n) 0).setStage n lgRun
  let m := ((m.onLane n fun l => { l with retry := false }).raise (pgLane n) Ev.lock).injUpdate n
  let m := m.emit (.lane n (m.laneSends n))
  match m.portOfLane n with
  | none => m
  | some p =>
    let m := m.onPort p fun q => { q with firstRun := some (q.firstRun.getD m.now) }
    ((m.checkAdded p).checkSpare p).tryReq p

/-- Whether the temperature has moved less than 10 °C since a lane saved its state (R560). -/
def Module.savedCool (m : Module) (n : Nat) (temp : Int) : Bool :=
  match (m.lane n).saved with
  | none => false
  | some s => decide ((temp - s.adapted.temp).natAbs < 10)

/-- Meaning of BRINGUP_STAGE_DONE (R554–R556, R560, R563). -/
def execBringupStageDone (n : Fin 96) (seen : LaneSeen) (e : Env) (s : State) : Res :=
  s.run fun m =>
    let m := m.at e
    let n := n.val
    let st := m.laneStage n
    let m1 := m.put (F.laneRxstsSer n) (min seen.s 255)
    if st = lgPower then m.setStage n lgSignal
    else if st = lgSignal then
      let fast := (m.lane n).fast && m.savedGood n && m.savedCool n seen.temp
      (m.onLane n fun l => { l with fast := fast }).setStage n (if fast then lgAdapt else lgAcquire)
    else if st = lgAcquire then
      if 20 ≤ seen.s then (m1.put (F.laneRxstsLock n) 1).setStage n lgAdapt else m
    else if st = lgAdapt then
      if m.get (F.laneRxctlSerWarn n) ≤ seen.s then (m1.put (F.laneRxstsLock n) 1).setStage n lgIdent else m
    else if st = lgIdent then m1.identify n seen
    else if st = lgReady then m1.laneRuns n
    else m

/-! ## Failure, loss of lock and repair -/

/-- The width and lanes a port is left with (R537): of a quad the duo that is whole, where one is. -/
def remaining (mask : Nat) : Nat × Nat :=
  let n := popCount 4 mask
  if 4 ≤ n then (2, mask)
  else if 2 ≤ n then (1, if mask &&& 3 = 3 then 3 else if mask &&& 12 = 12 then 12 else lowestLanes 2 mask)
  else (0, lowestLanes 1 mask)

/-- A port narrows by force (R537): REQ with forced = 1, its receiver switched at once and hunting. -/
def Module.forceWidth (m : Module) (p mask : Nat) : Module :=
  let (width, lanes) := remaining mask
  let m := if (m.port p).wown.isSome then m.endOwn p 5 else m
  let q := m.port p
  let o : WOwn := { id := q.nextId, width := width, mask := lanes, forced := true, prep := false, sentReady := false,
                    gotReady := false, reqSent := true, txDone := false, rxDone := true }
  let m := m.setPort p { q with wown := some o, wfar := none, wadd := none, nextId := (q.nextId + 1) % 256 }
  (((m.owe p (.width 1 width true lanes o.id)).applyWidth p width lanes).hunt p).showWchg p

/-- A lane fails (R551, R561): it enters standby; a lane in use narrows its port, or where none is left makes it retrain. -/
def Module.laneFail (m : Module) (n : Nat) : Module :=
  let used := m.laneInUse n
  let port := m.portOfLane n
  let m := ((m.put (F.laneRxstsFailed n) 1).raise (pgLane n) Ev.failed).standbyLane n
  let m := m.dropSaved n
  match port with
  | none => m
  | some p =>
    if !used then m
    else
      let left := m.get (F.portLstsLanes p) &&& m.usable p
      if left = 0 then m.retrain p else m.forceWidth p left

/-- Meaning of BRINGUP_FAIL (R551, R554, R560): a stage exceeds its limit; a receiver that adapts from saved state falls back to ACQUIRE. -/
def execBringupFail (n : Fin 96) (e : Env) (s : State) : Res :=
  s.run fun m =>
    let m := m.at e
    let n := n.val
    let l := m.lane n
    match stageLimit (m.laneStage n) l.fast with
    | none => m
    | some limit =>
      if m.now < l.stageAt + limit then m
      else if m.laneStage n = lgAdapt && l.fast then
        (((m.dropSaved n).raise (pgLane n) Ev.savedReject).count (pgLane n) 5).setStage n lgAcquire
      else
        let k := m.get (F.laneRxstsAttempts n) + 1
        let m := ((m.put (F.laneRxstsAttempts n) (min k 15)).raise (pgLane n) Ev.bringupFail).count (pgLane n) 3
        let m := m.put (F.laneRxstsLock n) 0
        if 3 ≤ k then m.laneFail n else (m.setStage n lgSignal).count (pgLane n) 2

/-- Meaning of LANE_FAILED (R420, R537, R551, R561). -/
def execLaneFailed (n : Fin 96) (e : Env) (s : State) : Res :=
  s.run fun m =>
    let m := m.at e
    if m.laneStage n.val = lgRun then m.laneFail n.val else m

/-- A lane loses symbol lock (R520, R550, R566): in use, its port retrains; else it comes up anew. -/
def Module.loseLock (m : Module) (n : Nat) : Module :=
  let used := m.laneInUse n
  let m := (m.abortScan n).put (F.laneRxstsLock n) 0
  let m := (m.raise (pgLane n) Ev.lockLost).count (pgLane n) 1
  match m.portOfLane n with
  | some p => if used then m.retrain p else if m.laneStage n = lgRun then m.startLane n (m.isUp p) else m
  | none => if m.laneStage n = lgRun then m.startLane n false else m

/-- Meaning of LOCK_LOST (R550, R566). -/
def execLockLost (n : Fin 96) (e : Env) (s : State) : Res :=
  s.run fun m =>
    let m := m.at e
    if m.flag (F.laneRxstsLock n.val) then m.loseLock n.val else m

/-- Meaning of DEGRADED (R551). -/
def execDegraded (n : Fin 96) (on : Bool) (e : Env) (s : State) : Res :=
  s.run fun m =>
    let m := m.at e
    let n := n.val
    if m.laneStage n ≠ lgRun || m.flag (F.laneRxstsDegraded n) = on then m
    else
      let m := m.putFlag (F.laneRxstsDegraded n) on
      if on then m.raise (pgLane n) Ev.degraded else m

/-- Meaning of SAVED_STATE_COPY (R559). -/
def execSavedStateCopy (n : Fin 96) (adapted : Adapted) (e : Env) (s : State) : Res :=
  s.run fun m =>
    let m := m.at e
    let n := n.val
    if m.laneStage n ≠ lgRun || m.flag (F.laneRxstsDegraded n) then m
    else
      let mode := (m.lane n).mode
      let v : Saved := { time := m.now, rate := bits mode 11 10, profile := bits mode 9 8, inv := m.flag (F.laneRxstsInv n),
                         adapted := adapted }
      let m := m.onLane n fun l => { l with saved := some v }
      m.putFlag (F.laneRxstsSaved n) (m.savedGood n)

/-- A failed lane is retried (R564): by a PREP that names only the lane where its port is UP, else at the port's next bring-up. -/
def Module.retryLane (m : Module) (n : Nat) : Module :=
  if !m.flag (F.laneRxstsFailed n) then m
  else
    let later := m.onLane n fun l => { l with retry := true }
    match m.portOfLane n with
    | none => later
    | some p =>
      let q := m.port p
      if !m.isUp p || q.wown.isSome || q.wadd.isSome then later
      else
        let mask := 2 ^ m.logical p (m.posOf n)
        let w := m.get (F.portLstsWidth p)
        let m := m.onPort p fun q => { q with nextId := (q.nextId + 1) % 256 }
        (m.owe p (.width 6 w false mask q.nextId)).addLanes p q.nextId w mask false

/-- A write of LANE[n].RXCTL (R564). -/
def Module.rxctlWrite (m : Module) (n : Nat) (w : Wr) : Module :=
  let a := (F.laneRxctlRepair n).reg
  let m1 := m.regWrite a w
  if m.reaches a && m.writeFits a w && bit (writeOnes w) 63 then m1.retryLane n else m1

/-- Meaning of LANE_REPAIR (R564). -/
def execLaneRepair (n : Fin 96) (w : Wr) (e : Env) (s : State) : Res := s.runAs w.master fun m => (m.at e).rxctlWrite n.val w

/-- Meaning of AUTO_REPAIR (R564): repair_ivl has passed since the lane failed. -/
def execAutoRepair (n : Fin 96) (e : Env) (s : State) : Res :=
  s.run fun m =>
    let m := m.at e
    let n := n.val
    if !m.flag (F.laneRxctlAutoRepair n) || m.now < (m.lane n).stageAt + m.get (F.laneRxctlRepairIvl n) * 100000000 then m
    else m.retryLane n

/-- Meaning of TAP_LIMIT (R548): a coefficient reaches the end of its range while the receiver adapts. -/
def execTapLimit (n : Fin 96) (e : Env) (s : State) : Res :=
  s.run fun m =>
    let m := m.at e
    let n := n.val
    if m.laneStage n < lgAdapt || m.flag (F.laneRxctlFreeze n) then m else m.raise (pgLane n) Ev.tapLimit

/-! ## Transmitter, mode, scans and checker -/

/-- Whether transmitter settings are accepted (R546). -/
def txeqOk (w : Word) : Bool :=
  let c (hi lo : Nat) : Int := signed 7 (bits w hi lo)
  let all := [c 34 28, c 27 21, c 20 14, c 13 7, c 6 0]
  decide ((all.map Int.natAbs).sum ≤ 64) && decide (32 ≤ c 27 21) && decide (40 ≤ bits w 54 48) && decide (bits w 54 48 ≤ 120)

/-- A write of LANE[n].TXEQ (R69, R546, R547, R561). -/
def Module.txeqWrite (m : Module) (n : Nat) (w : Wr) : Module :=
  let a := (F.laneTxeqCommit n).reg
  let m1 := m.regWrite a w
  if !m.reaches a || !bit (writeOnes w) 63 then m1
  else
    let v := m1.word a
    if txeqOk v then
      let m2 := (m1.put (F.laneTxeqReject n) 0).onLane n fun l => { l with txeq := setBits v 63 55 0 }
      (m2.dropSaved n).emit (.settings n (setBits v 63 55 0))
    else m1.put (F.laneTxeqReject n) 1

/-- Meaning of TXEQ_COMMIT (R546, R547, R561). -/
def execTxeqCommit (n : Fin 96) (w : Wr) (s : State) : Res := s.runAs w.master fun m => m.txeqWrite n.val w

/-- A write of LANE[n].MODE (R544, R561): it applies at the next bring-up; a new rate on the lowest lane of a port that is UP makes it
retrain, at the rate it runs at until the exchange has settled another. -/
def Module.modeWrite (m : Module) (n : Nat) (w : Wr) : Module :=
  let a := (F.laneModeRate n).reg
  if !m.reaches a then m.regWrite a w
  else if !m.writeFits a w then m
  else
    let oldRate := m.get (F.laneModeRate n)
    let oldProfile := m.get (F.laneModeProfile n)
    let rate := if touches w.half 11 10 then bits w.value 11 10 else oldRate
    let m := (m.regWrite a w).put (F.laneModeRate n) rate
    let m := if rate ≠ oldRate || m.get (F.laneModeProfile n) ≠ oldProfile then m.dropSaved n else m
    match m.portOfLane n with
    | none => m
    | some p =>
      if rate = oldRate || n ≠ 2 * p then m
      else if m.isUp p then (m.onPort p fun q => { q with rate := some (m.get (F.portLstsRate p)) }).retrain p
      else m.onPort p fun q => { q with rate := none }

/-- Meaning of LANE_MODE_WRITE (R544, R545, R561). -/
def execLaneModeWrite (n : Fin 96) (w : Wr) (e : Env) (s : State) : Res := s.runAs w.master fun m => (m.at e).modeWrite n.val w

/-- A write of LANE[n].PGEN (R567, R569): the transmitter sends the pattern, or again what its stage gives, and injects errors as the
register says. -/
def Module.pgenWrite (m : Module) (n addr : Nat) (w : Wr) : Module :=
  let was := m.laneSends n
  let m := (m.regWrite addr w).injUpdate n
  if m.laneSends n = was then m else m.emit (.lane n (m.laneSends n))

/-- A write of LANE[n].SCAN (R565, R566): ignored while a scan runs. -/
def Module.scanWrite (m : Module) (n : Nat) (w : Wr) : Module :=
  let a := (F.laneScanStart n).reg
  if !m.reaches a then m.regWrite a w
  else if m.flag (F.laneScanBusy n) || !m.writeFits a w then m
  else
    let m := m.regWrite a w
    if !bit (writeOnes w) 63 then m
    else if m.laneStage n < lgAdapt then m.put (F.laneScanStatus n) 2
    else (m.put (F.laneScanStatus n) 0).put (F.laneScanBusy n) 1

/-- Meaning of SCAN_START (R565, R566). -/
def execScanStart (n : Fin 96) (w : Wr) (s : State) : Res := s.runAs w.master fun m => m.scanWrite n.val w

/-- Meaning of SCAN_DONE (R565, R566). -/
def execScanDone (n : Fin 96) (errors : BitVec 40) (e : Env) (s : State) : Res :=
  s.run fun m =>
    let m := m.at e
    let n := n.val
    if !m.flag (F.laneScanBusy n) then m
    else
      let m := ((m.put (F.laneScanBusy n) 0).put (F.laneScanStatus n) 0).put (F.laneScanresErrors n) errors.toNat
      m.raise (pgLane n) Ev.scanDone

/-- Meaning of PCHK_SYNC_LOST (R568): 32 or more of 256 symbols were in error; the checker synchronises again. -/
def execPchkSyncLost (n : Fin 96) (errors : Nat) (e : Env) (s : State) : Res :=
  s.run fun m =>
    let m := m.at e
    let n := n.val
    if !m.flag (F.lanePchkEn n) || errors < 32 || 256 < errors then m
    else (((m.countUp (pgLane n) 6 256).countUp (pgLane n) 7 errors).put (F.lanePchkSync n) 1).raise (pgLane n) Ev.pchkSyncLost

end Sys2Proof.Machine
end

