-- ==== Sys2Proof/Machine/Teardown.lean ====
section
/-! DEFINITION. What ends a domain or the host memory behind a link: SET_DOMAIN_KEY and CLEAR_DOMAIN (R149, R150, R283, R412), resets of
host links and functions (R156, R157, R673, R684), and the freeing of connections and contexts that resets and modes share
(R629, R676, R680). -/

namespace Sys2Proof.Machine

/-! ## Keys and connections -/

/-- A key slot is erased, with the region caches of its domain (R149, R283, R708). -/
def Module.eraseSlot (m : Module) (s : Nat) : Module :=
  let m := (m.put (F.trustKslotUsed s) 0).put (F.trustKslotNd s) 0
  { m with x := { m.x with keys := KMap.erase m.x.keys s, dirs := KMap.erase m.x.dirs s,
                           regions := m.x.regions.filter (fun p => p.1 / 2 ^ 24 ≠ s) } }

/-- A key is installed in a slot; KSLOT shows the slot and its ND (R41, R150, R412, R708). -/
def Module.fillSlot (m : Module) (s nd key : Nat) : Module :=
  let m := (m.eraseSlot s).fillProfile (m.profile s)
  let m := (m.put (F.trustKslotUsed s) 1).put (F.trustKslotNd s) nd
  { m with x := { m.x with keys := KMap.put m.x.keys s { nd := nd, key := key } } }

/-- What the matching tiles still hold of a connection that is no more: deliveries from it end, other messages keep what landed. -/
def Module.matchCut (m : Module) (e : Env) (cid detail : Nat) : Module :=
  let cut := m.mt.deliveries.filter (fun d => d.conn = some cid)
  let m := cut.foldl (fun m d => m.recvEnd e d stConnFailed d.written detail) m
  m.setUnexp (m.mt.unexp.map (fun (u : Unexp) => if u.conn = some cid then { u with conn := none } else u))

/-- A connection that CLEAR_DOMAIN tears down: its operations complete with CONN_FAILED, detail DOMAIN_CLEARED (R149, R231). -/
def Module.tearConn (m : Module) (e : Env) (cid : Nat) (c : Conn) : Module :=
  let m := m.memberLost e c.remote c.nd
  let m := c.msgs.foldl (fun m g => m.msgFail e c stConnFailed 3 g) m
  (m.rdvFail e cid c 3 true).matchCut e cid 3

/-- Connections of the domains that a test selects, in the cache and out of it. -/
def Module.connsOf (m : Module) (sel : Nat → Bool) : List (Nat × Conn) :=
  m.x.conns.filter (fun p => sel p.2.nd) ++ m.x.evicted.filter (fun p => sel p.2.nd)

/-- The connections and waiting messages of some domains are gone. -/
def Module.freeConns (m : Module) (sel : Nat → Bool) : Module :=
  { m with x := { m.x with conns := m.x.conns.filter (fun p => !sel p.2.nd), evicted := m.x.evicted.filter (fun p => !sel p.2.nd),
                           waiting := m.x.waiting.filter (fun w => !sel w.2.1), opening := m.x.opening.filter (fun w => !sel w.2.1) } }

/-! ## SET_DOMAIN_KEY and CLEAR_DOMAIN -/

/-- A 256-bit key in a WQE: four words from an offset, the first the least significant. -/
def wqeKey (w : List Word) (off : Nat) : Nat :=
  (List.range 4).foldl (fun a i => a + wqeField w (off + 8 * i) 8 * 2 ^ (64 * i)) 0

/-- Meaning of SET_DOMAIN_KEY (R41, R142, R143, R150, R404, R412, R708): the lowest free slot of 1–63. -/
def execSetDomainKey (e : Env) (s : State) : Res :=
  s.admin 0x88 e fun m w =>
    let nd := wqeField w 0x10 2
    let free := (rangeFrom 1 63).find? (fun k => (KMap.get m.x.keys k).isNone)
    m.checked [(nd ≠ 0 && nd ≠ 0xFFFF, stAdminInvalid, 0x10), ((m.keyOf nd).isNone, stAdminState, 0x10),
        (free.isSome, stAdminNoResource, 0x10)] fun m =>
      match free with
      | none => m
      | some k => (m.fillSlot k nd (wqeKey w 0x18)).adminOk k

/-- Every CR of the table that the module has had in its cache, cached again (R99). -/
def Module.recallCrs (m : Module) (e : Env) : Module := m.q.awayCr.foldl (fun m n => m.needCr e n) m

/-- Meaning of CLEAR_DOMAIN (R133, R134, R149, R283, R708): key, connections and region caches of the ND go, its WQs enter ERROR. The
command completes with CLEAR_DOMAIN_DONE. -/
def execClearDomain (e : Env) (s : State) : Res :=
  s.admin 0x89 e fun m w =>
    let nd := wqeField w 0x10 2
    m.checked [(nd ≠ 0 && nd ≠ 0xFFFF, stAdminInvalid, 0x10)] fun m =>
      let sel (k : Nat) : Bool := k = nd
      let gone := if (m.keyOf nd).isSome then m.connsOf sel else []
      let wait := m.x.waiting.filter (fun w => sel w.2.1)
      let m := match m.keyOf nd with
        | none => m
        | some (k, _) => m.eraseSlot k
      let m := m.freeConns sel
      let m := gone.foldl (fun m p => m.tearConn e p.1 p.2) m
      let m := wait.foldl (fun m w => m.msgFail e (m.newConn w.1 w.2.1 0) stConnFailed 3 w.2.2) m
      let m := m.eachWq e (fun c => c.nd = nd) (fun m n => m.wqError e n ecDomainCleared none)
      { m with q := { m.q with admin := m.q.admin.map (fun (a : AdminOp) => { a with count := gone.length }) } }

/-- Whether an operation of an ND is in progress, the admin command itself apart. -/
def Module.ndBusy (m : Module) (nd op : Nat) : Bool :=
  m.q.ops.any (fun p => p.1 ≠ op && !p.2.finished &&
    (match m.wq p.2.wq with
      | none => false
      | some c => c.nd = nd)) ||
  m.mt.deliveries.any (fun d => match m.mctx d.mctx with
    | none => false
    | some c => c.nd = nd)

/-- Meaning of CLEAR_DOMAIN_DONE (R149): no operation of the ND is in progress; the command completes with the number of connections
torn down. -/
def execClearDomainDone (e : Env) (s : State) : Res :=
  s.run fun m =>
    let m := m.at e
    match m.adminIs 0x89 with
    | none => m
    | some a =>
      let m := (m.q.ops.map (·.2.wq)).foldl (fun m n => m.needWq e n) m
      if m.ndBusy (wqeField a.wqe 0x10 2) a.op then m else m.adminOk a.count

/-! ## The transport tiles -/

/-- Operations that end without completion (R629, R676, R680). -/
def Module.dropOps (m : Module) (ids : List Nat) : Module :=
  ids.foldl (fun m id => match m.op id with
    | none => m
    | some o => if o.finished then m else m.abandon id) m

/-- A rendezvous entry ends with its operation, without completion. -/
def Module.rdvDrop (m : Module) (i gen : Nat) : Module :=
  match m.rdvAt i gen with
  | none => m
  | some r => (m.dropOps [r.op]).rdvErase i gen

/-- Every connection context is freed without completion (R210, R676): the operations of its messages end so; what the matching tiles
still receive from one ends as under R312 (log 12). -/
def Module.xptFree (m : Module) (e : Env) : Module :=
  let msgs := m.x.conns.flatMap (fun p => p.2.msgs) ++ m.x.waiting.map (fun w => w.2.2)
  let m := m.dropOps (msgs.filterMap (·.op))
  let m := (msgs.filter (fun g => g.kind = .rts || g.kind = .rdvData)).foldl (fun m g => m.rdvDrop g.ref g.ref2) m
  let m := (m.mt.deliveries.filter (fun d => d.conn.isSome)).foldl (fun m d => m.recvEnd e d stConnFailed d.written 0) m
  let m := (m.mt.unexp.filter (fun u => u.held)).foldl (fun m u => m.freeBounce u.mctx u.bounce) m
  let keep := (m.mt.unexp.filter (fun u => !u.held)).map (fun (u : Unexp) => { u with conn := none })
  let m := ((m.setUnexp keep).mtUse 0).mtUse 1
  { m with x := { m.x with conns := [], evicted := [], waiting := [], opening := [] } }

/-- Every connection is freed, and a new boot nonce is drawn (R210, R676). -/
def Module.xptRestart (m : Module) (e : Env) : Module :=
  let (d, m) := m.draw
  (m.put F.xptNonceNonce d).xptFree e

/-- A write of XPT[0].PG_CTL (R210, R774). -/
def Module.xptCtl (m : Module) (w : Wr) : Module :=
  let a := pgXpt 0 * 0x1000 + 0x18
  let new := bits w.value 0 0
  let m1 := m.pageCtl a w
  if !m.reaches a || !touches w.half 0 0 || m.get (F.pgEnable (pgXpt 0)) = new then m1
  else
    let m1 := (m1.put (F.pgEnable (pgXpt 0)) new).xptRestart (Env.bare m1.now)
    if new = 1 then { m1 with x := { m1.x with tableLost := false } } else m1

/-- Meaning of XPT_ENABLE (R210, R774). -/
def execXptEnable (w : Wr) (s : State) : Res := s.runAs w.master fun m => m.xptCtl w

/-! ## Resets of host links -/

/-- R156 for one link: its WQs enter ERROR with LINK_RESET, their started operations issue no further access, its CRs enter ERROR and
what they hold is discarded. -/
def Module.linkQueues (m : Module) (e : Env) (i : Nat) : Module :=
  let m := m.eachWq e (fun c => c.link = i) fun m n =>
    let m := m.wqError e n ecLinkReset none
    { m with q := { m.q with ops := m.q.ops.map (fun (p : Nat × Op) =>
        if p.2.wq = n && p.2.started then (p.1, { p.2 with dead := true }) else p) } }
  let m := m.recallCrs e
  ((m.q.crs.filter (fun p => p.2.link = i)).map (·.1)).foldl (fun m n =>
    match m.cr n with
    | none => m
    | some _ => ((m.crError n).setCrRt n { m.crRt n with linkDead := true }).discardHeld n (fun _ => true)) m

/-- What the reset of a link does to queues (R156, R157): of the table link, R156 for every link, then R101. -/
def Module.linkReset (m : Module) (e : Env) (i : Nat) : Module :=
  if !m.running then m
  else if m.get F.qctlWqtabLink = i then
    let m := (List.range 4).foldl (fun m k => m.linkQueues e k) m
    (m.put (F.pgEnable pgQctl) 0).queuesClear
  else m.linkQueues e i

/-- A page's registers return to their cold-reset values, but for RWL fields, the page lock and counters (R684). -/
def Module.resetReg (m : Module) (a : Nat) : Module :=
  let off := a % 0x1000
  if 0x800 ≤ off && (match blockOf (a / 0x1000) with
      | none => false
      | some (b, _) => decide ((off - 0x800) / 8 < ctrCount b.blk)) then m
  else if off = 0x018 then m.setWord a (setBits (resetWord a) 1 1 (bits (m.word a) 1 1))
  else if off = 0x020 then m.setWord a (setBits (resetWord a) 61 61 (bits (m.word a) 61 61))
  else
    match regAt a with
    | none => m.setWord a (resetWord a)
    | some r =>
      m.setWord a (r.fields.foldl (fun w f => if f.acc = .rwl then setBits w f.hi f.lo (bits (m.word a) f.hi f.lo) else w) (resetWord a))

/-- The registers of some pages that differ from their cold-reset values are reset (R684). -/
def Module.resetPages (m : Module) (p : Nat → Bool) : Module :=
  ((m.regs.map (·.1)).filter (fun a => p (a / 0x1000))).foldl (fun m a => m.resetReg a) m

/-- Since when every host link has been down (R627). -/
def Module.noteHosts (m : Module) : Module :=
  let since := if (List.range 4).any m.linkUp then none else some (m.y.hostDownAt.getD m.now)
  { m with y := { m.y with hostDownAt := since } }

/-- The state of the block that a reset of a link or of its function clears (R88, R156, R157, R673, R684). An entry that a
REVOKE_REGION has marked stays pinned (R277). -/
def Module.hostClear (m : Module) (e : Env) (i : Nat) : Module :=
  let m := (m.linkReset e i).dtuDrop
  let m := { m with x := { m.x with dirs := [], regions := if m.q.admin.isSome then m.x.regions.filter (·.2.revoking) else [] } }
  let m := if m.get F.xptConntabLink = i then
      let m := m.xptRestart e
      { m with x := { m.x with tableLost := true } }
    else m
  (m.masterReset (i + 1)).setMsix i MsixFn.init

/-- PERST_N of a link is low, or high. -/
def Module.notePerst (m : Module) (i : Nat) (low : Bool) : Module :=
  let l := m.y.perstLow.filter (· ≠ i)
  { m with y := { m.y with perstLow := if low then l ++ [i] else l } }

/-- A reset of a host link (R673, R684): the link goes down, its HOST page returns to its reset values. -/
def Module.hostReset (m : Module) (e : Env) (i : Nat) (perst : Bool) : Module :=
  let arr := m.get (F.hostLstsArr i)
  let ref := m.get (F.hostLstsRefclkLost i)
  let was := m.linkUp i
  let m := (m.hostClear e i).resetPages (fun p => p = pgHost i)
  let m := ((m.put (F.hostLstsArr i) arr).put (F.hostLstsRefclkLost i) ref).putFlag (F.hostLstsPerst i) perst
  let m := if was then m.raise (pgHost i) Ev.hostDown else m
  (m.notePerst i perst).noteHosts

/-- A reset of a link's function: as a host link reset, the PCIe link staying up (R673). The request enable of AtomicOps returns to 0
with the configuration space. -/
def Module.functionReset (m : Module) (e : Env) (i : Nat) : Module :=
  let keep := m.word (F.hostLstsUp i).reg
  let m := (m.hostClear e i).resetPages (fun p => p = pgHost i)
  (m.setWord (F.hostLstsUp i).reg keep).put (F.hostLstsAtomic i) 0

/-- Whether a host link has a page, and the main input is on. -/
def Module.hostThere (m : Module) (i : Nat) : Bool := linkProvided m.hostMode i && !m.mainOff

/-- Meaning of HOST_LINK_RESET (R81, R88, R156, R157, R673, R684): PERST_N, a hot reset, or the link going down. -/
def execHostLinkReset (i : Fin 4) (perst : Bool) (e : Env) (s : State) : Res :=
  s.run fun m =>
    let m := m.at e
    if m.hostThere i.val then m.hostReset e i.val perst else (m.notePerst i.val perst).masterReset (i.val + 1)

/-- Meaning of FUNCTION_RESET (R673). -/
def execFunctionReset (i : Fin 4) (e : Env) (s : State) : Res :=
  s.run fun m =>
    let m := m.at e
    if m.hostThere i.val then m.functionReset e i.val else m

/-! ## Contexts freed without completion -/

/-- Every matching context of a tile becomes FREE, its CR's binds going down where asked, and its lists and deliveries are
released (R629, R680). -/
def Module.freeMatch (m : Module) (e : Env) (t : Nat) (unbind : Bool) : Module :=
  let gone := m.mtCtxs t
  let m := if unbind then gone.foldl (fun m p => (m.needCr e p.2.cr).unbind p.2.cr) m else m
  let mine (x : Nat) : Bool := mtTile x = t
  let m := m.poolFree (m.mt.deliveries.filter (fun d => mine d.mctx)).length
  let m := { m with mt := { m.mt with ctxs := m.mt.ctxs.filter (fun p => !mine p.1), unexp := m.mt.unexp.filter (fun u => !mine u.mctx),
                                      deliveries := m.mt.deliveries.filter (fun d => !mine d.mctx) } }
  (m.spillSync t).mtUse t

/-- Every collective context of a tile becomes FREE; its counters, slots and triggered lists are released (R629, R680). -/
def Module.freeColl (m : Module) (e : Env) (t : Nat) (unbind : Bool) : Module :=
  let mine (x : Nat) : Bool := collTile x = t
  let gone := m.cl.ctxs.filter (fun p => mine p.1)
  let m := m.dropLists (fun _ l => mine l.coll)
  let m := if unbind then gone.foldl (fun m p => (m.needCr e p.2.cr).unbind p.2.cr) m else m
  let ids := gone.flatMap (fun p => p.2.ops.map (·.id))
  let owned (c : Nat) : Bool := gone.any (fun p => decide (p.2.ctrBase ≤ c) && decide (c < p.2.ctrBase + p.2.ctrCount))
  let m := m.dropOps ids
  let m := { m with cl := { m.cl with ctxs := m.cl.ctxs.filter (fun p => !mine p.1), ctrs := m.cl.ctrs.filter (fun p => !owned p.1) } }
  m.collUse t

end Sys2Proof.Machine
end

