-- ==== Sys2Proof/Machine/Modes.lean ====
section
/-! DEFINITION. The mode machine (R616–R633): entering and leaving each mode, requests and their answers, and the module reset (R678)
that leads to Dawn. -/

namespace Sys2Proof.Machine

/-! ## Changing mode -/

/-- The module enters a mode (R619, R621, R688): prev, MODE_CHANGE, the end of a transition, and RESET_DONE after a reset. -/
def Module.enterMode (m : Module) (k : Nat) : Module :=
  if m.mode = k then m
  else
    let m := (m.put F.modeStsPrev m.mode).put F.modeStsMode k
    let m := if k = mDusk || k = mNightfall then m else m.put F.modeStsBusy 0
    let m := m.raise pgMode Ev.modeChange
    if m.y.resetDue && (k = mNoon || k = mTwilight) then
      { m with y := { m.y with resetDue := false } }.raise pgRst Ev.resetDone
    else m

/-- Whether the main input is on for the mode machine: every mode but Midnight and Nightfall (R616). -/
def Module.mainOn (m : Module) : Bool := !m.mainOff

/-! ## What a stop of the main input loses -/

/-- Every transmitter goes to electrical idle. -/
def Module.lanesOff (m : Module) : Module :=
  (List.range 96).foldl (fun m n => if m.laneStage n = lgOff then m else m.emit (.lane n .idle)) m

/-- The host links go down with the main input: each is a reset of its master (R88, R673). -/
def Module.hostsReset (m : Module) : Module := [1, 2, 3, 4].foldl (fun m i => m.masterReset i) m

/-- Keys, connections, queues, contexts, caches, routes, links and lanes are lost (R684, R685). -/
def Module.enginesLost (m : Module) : Module :=
  let m := (m.x.keys.map (·.1)).foldl (fun m s => m.eraseSlot s) m
  { m with
    q := { Queues.init with nextOp := m.q.nextOp }
    dtu := Dtu.init
    smp := Sampler.init
    x := { Xpt.init with nextMsg := m.x.nextMsg }
    mt := Matching.init
    cl := Colls.init
    n := { Net.init with nextPkt := m.n.nextPkt, nextGroup := m.n.nextGroup }
    msix := []
    y := { m.y with day := Daylight.init } }

/-- The registers of the domains that stop return to their cold-reset values (R685, R686); those of the store only in Midnight. -/
def Module.regsLost (m : Module) (store : Bool) : Module :=
  let keep (d : Dom) : Bool := match d with
    | .aon | .mgmt => true
    | .store => !store
    | _ => false
  { m with regs := m.regs.filter (fun p => keep (domOf p.1)) }

/-- Fabric time starts again at 0 (R684, R686). -/
def Module.timeLost (m : Module) : Module := { m with timeOffset := -(m.now : Int) }

/-- What a fuse, a strap or a pin gives a register, shown again after a reset (R1, R4, R15, R17, R684, R695). -/
def Module.showFused (m : Module) : Module :=
  let f := m.fuses
  let dies := match f.variant with
    | 0 => 0
    | 1 => 64
    | _ => 128
  let m := (((m.put F.devIdentSerial f.serial).put F.devIdentStoreDies dies).put F.devIdentStepping f.stepping).put F.devIdentVariant f.variant
  let m := ((m.put F.trustStsLifecycle f.lifecycle).put F.trustStsRevoked f.revoked).put F.trustMctpidIana f.iana
  let m := ((m.put F.trustSvnCtr1 f.ctr1).put F.trustSvnCtr2 f.ctr2).put F.trustSvnCtr3 f.ctr3
  let m := (m.put F.govBudgetPcap m.variantMax).put F.devFaddrFa (m.get F.devFaddrGroup * 256 + (m.straps.sampled.getD 0) % 256)
  let m := (List.range 4).foldl (fun m i =>
    ((m.put (F.hostLstsArr i) (match m.straps.sampled with
      | none => 0
      | some v => v / 256)).putFlag (F.hostLstsPerst i) (m.y.perstLow.contains i)).putFlag (F.hostLstsRefclkLost i) (m.y.refLost.contains i)) m
  if f.variant = 0 then m.put (F.tileStateState (tileOf 9 0)) tsOff else m

/-- What the domains hold when they start (R210, R431, R523, R686): fused and strapped values, a nonce, a token for each port. -/
def Module.domainsStart (m : Module) : Module :=
  let keep := m.get F.govBudgetPcap
  let m := m.showFused.loadPmap
  let m := if keep = 0 then m else m.put F.govBudgetPcap keep
  let (d, m) := m.draw
  let m := m.put F.xptNonceNonce d
  portList.foldl (fun m p =>
    let (d, m) := m.draw
    m.onPort p fun q => { q with token := d % 2 ^ 64 }) m

/-! ## Dawn, Midnight and Nightfall -/

/-- The module enters Dawn (R617, R623, R694): the boot ROM chooses the slot. -/
def Module.enterDawn (m : Module) : Module :=
  let m := m.domainsStart.timeLost
  let y := { m.y with recovery := false, bootFailed := false, dawnWait := false, challenge := none }
  let m := { m with y := y }.put F.govStsStep 0
  (m.enterMode mDawn).chooseSlot.noteHosts

/-- Power-good in Midnight leads to Dawn unless a latch holds (R617, R632), once the straps are taken (R19). -/
def Module.dawnIfGood (m : Module) : Module :=
  if m.mode = mMidnight && m.pg && !m.straps.due && !m.flag F.modeStsThermLatch && m.feState ≠ feLatched then m.enterDawn else m

/-- Meaning of STRAP_SAMPLE (R19, R20, R431, R741, R743): where a sample is due the pins are taken, and a module that waits for them
in Midnight with power-good leaves for Dawn. -/
def execStrapSample (pins : BitVec 10) (s : State) : Res :=
  s.run fun m => if m.straps.due then (m.takeStraps pins.toNat).dawnIfGood else m

/-- The module enters Midnight (R631, R669): the store is off; mid_cause says what turned the FET off, a cause that R669 does not name as
a free value (log 24). -/
def Module.enterMidnight (m : Module) : Module :=
  let m := m.lanesOff.hostsReset.enginesLost.storeDiscard.onStore fun s => { s with state := .off }
  let (cause, m) :=
    if m.y.fe.offBy = 6 then
      let (d, m) := m.draw
      (d % 16, m)
    else (m.y.fe.offBy, m)
  let m := (m.regsLost true).put F.modeStsMidCause cause
  (m.enterMode mMidnight).noteHosts.dawnIfGood

/-- The module enters Nightfall (R88, R609, R631): lanes, host links and CORE stop; the store finishes on hold-up. -/
def Module.enterNightfall (m : Module) : Module :=
  let m := m.lanesOff.hostsReset.enginesLost.regsLost false
  let m := m.onStore fun s => { s with state := if s.state = .off then .off else .stopped, feeds := [], reading := none }
  let m := (m.enterMode mNightfall).noteHosts
  if m.noStore then m.enterMidnight else m

/-! ## The endpoint stops -/

/-- The store stops as at Dusk where it runs and its tile is healthy (R610), else at once with what it staged lost. -/
def Module.storeStop (m : Module) (healthy : Bool) : Module :=
  match m.st.state with
  | .run => if healthy then m.storeDrain else m.storeDiscard.onStore fun s => { s with state := .stopped }
  | .scanning | .replay => m.onStore fun s => { s with state := .stopped }
  | _ => m

/-- The endpoint stops (R629): the queue block, every connection and key but those of ND 0, every matching and collective context,
and the caches. -/
def Module.endpointStop (m : Module) (e : Env) (storeOk : Bool) : Module :=
  let m := ((m.put (F.pgEnable pgQctl) 0).queuesClear).freeConns (· ≠ 0)
  let m := ((m.x.keys.filter (fun p => p.2.nd ≠ 0)).map (·.1)).foldl (fun m s => m.eraseSlot s) m
  let m := [0, 1].foldl (fun m t => (m.freeMatch e t false).freeColl e t false) m
  let m := { m.dtuDrop with x := { m.dtuDrop.x with dirs := [], regions := [] } }
  ({ m with mt := { m.mt with rdvs := [] } }).storeStop storeOk

/-- The module enters Twilight (R629). -/
def Module.enterTwilight (m : Module) (e : Env) (storeOk : Bool) : Module :=
  (m.endpointStop e storeOk).enterMode mTwilight

/-- A Twilight cause arises (R618, R627): its bit is set while the main input is on, and from Noon or Afternoon the module enters
Twilight. -/
def Module.twilightCause (m : Module) (e : Env) (b : Nat) (storeOk : Bool) : Module :=
  if m.mainOff then m
  else
    let m := m.put ⟨F.modeCauseCause.reg, b, b⟩ 1
    if m.noonish then m.enterTwilight e storeOk else m

/-- Twilight is left for Noon (R630): a new nonce, no context left, and the engine tiles wake. The store stays stopped. -/
def Module.leaveTwilight (m : Module) : Module :=
  let m := ((m.put (F.pgEnable (pgXpt 0)) 1).xptRestart (Env.bare m.now)).xptRestart (Env.bare m.now)
  let m := { m with x := { m.x with tableLost := false } }
  let m := (List.range 64).foldl (fun m n => m.wakeTile n) m
  m.enterMode mNoon

/-! ## Dusk and its targets -/

/-- The module enters Dusk (R610, R624). -/
def Module.enterDusk (m : Module) (target : Nat) : Module :=
  let m := (m.put F.modeStsBusy 1).put F.modeStsTarget target
  let m := { m with y := { m.y with duskAt := m.now, duskLate := false } }
  (m.storeStop true).enterMode mDusk

/-- Whether the store has stopped. -/
def Module.storeStopped (m : Module) : Bool :=
  match m.st.state with
  | .stopped | .off | .unformatted => true
  | _ => false

/-- Whether the drain of Dusk is complete (R626); a WQ whose context is not cached has outstanding 0 where none of its operations is
under way. -/
def Module.drained (m : Module) : Bool :=
  m.q.wqs.all (fun p => p.2.outstanding = 0) && m.q.ops.all (fun p => p.2.silent || !m.q.awayWq.contains p.2.wq) &&
  m.q.crRt.all (fun p => p.2.held.isEmpty) &&
  (m.x.conns ++ m.x.evicted).all (fun p => p.2.tx.all (·.acked))

/-- The FET is turned off by request, and the module enters Midnight without Nightfall (R626, R669). -/
def Module.turnIn (m : Module) : Module :=
  ((m.put F.pwrCtlSwOff 1).fetOff 2).enterMidnight

/-- Ports in loopback bring their lanes up again (R528, R633). -/
def Module.loopsStart (m : Module) : Module :=
  portList.foldl (fun m p =>
    if m.flag (F.portLctlEn p) && m.lstate p = lsDown && (m.lanesOf p).any (fun n => m.get (F.laneModeLoop n) ≠ 0) then m.restartLanes p
    else m) m

/-- The module enters Small Hours (R626, R633): every port goes down, and those in loopback start again; the endpoint is stopped; a
format that was cut starts again (R615). -/
def Module.enterSmallHours (m : Module) (e : Env) : Module :=
  let m := portList.foldl (fun m p => m.takeDown p true) m
  let m := (List.range 96).foldl (fun m n => if m.laneStage n = lgOff || m.get (F.laneModeLoop n) ≠ 0 then m else m.stopLane n) m
  let m := m.endpointStop e true
  let m := if m.st.formatPend then (m.put F.storeFmtGo 1).onStore fun s => { s with state := .formatting } else m
  (m.storeShow.enterMode mSmallHours).loopsStart

/-- Dusk ends (R626). -/
def Module.leaveDusk (m : Module) (e : Env) : Module :=
  if m.get F.modeStsTarget = mSmallHours then m.enterSmallHours e else m.turnIn

/-! ## The module reset -/

/-- A reset is recorded in RST.LAST (R688). -/
def Module.recordReset (m : Module) (kind source master : Nat) : Module :=
  let m := ((m.put F.rstLastValid 1).put F.rstLastKind kind).put F.rstLastSource source
  let m := m.put F.rstLastMaster (if source = 3 || source = 4 then master else 0)
  { m with y := { m.y with resetDue := true } }.put F.rstLastCount (m.get F.rstLastCount + 1)

/-- The registers of every domain but AON return to their cold-reset values, but for RWL fields and page locks; counters return to 0
(R684). -/
def Module.moduleRegs (m : Module) : Module :=
  let gone := (m.regs.map (·.1)).filter (fun a => domOf a ≠ .aon)
  let isCtr (a : Nat) : Bool := decide (0x800 ≤ a % 0x1000) && (match blockOf (a / 0x1000) with
    | none => false
    | some (b, _) => decide ((a % 0x1000 - 0x800) / 8 < ctrCount b.blk))
  gone.foldl (fun m a => if isCtr a then m.setWord a 0 else m.resetReg a) m

/-- A module or fabric reset, to the end of its step 3 (R678, R684). A new sample of the straps is due (R19); until it is taken the
last one stands (log 124). -/
def Module.resetAll (m : Module) (fabric : Bool) : Module :=
  let m := portList.foldl (fun m p => if m.isUp p then m.takeDown p true else m) m
  let m := if m.storeRuns then m.storeFinish true else m.storeDiscard.onStore fun s => { s with state := .off }
  let group := if fabric then 0 else m.get F.devFaddrGroup
  let valid := if fabric then 0 else m.get F.devFaddrValid
  let latch := m.get F.modeStsThermLatch
  let cause := m.get F.modeStsMidCause
  let mode := m.mode
  let m := m.lanesOff.enginesLost.moduleRegs
  let m := (((m.put F.devFaddrGroup group).put F.devFaddrValid valid).put F.modeStsThermLatch latch).put F.modeStsMidCause cause
  let m := m.put F.modeStsMode mode
  let y := { m.y with log := [], logDigest := List.replicate 32 0, recovery := false, bootFailed := false, challenge := none,
                      dawnWait := false, sensorsOut := [], temps := [], powerOver := false, powerLowAt := none,
                      day := Daylight.init, console := [], version := 0 }
  ({ m with y := y, straps := { m.straps with due := true } }).timeLost.showFused.loadPmap.noteHosts

/-- Step 4 of R678: Dawn, where the main input is on. In Midnight and Nightfall the MMP starts again and the mode stays. -/
def Module.resetEnds (m : Module) : Module :=
  let m := { m with y := { m.y with resetWait := false } }
  if m.mainOff then m.startIdentity else m.enterDawn

/-- A module or fabric reset (R678, R679, R688); source and master as RST.LAST has them. While MOD_RESET_N is low the module stays before
step 4. -/
def Module.moduleReset (m : Module) (fabric : Bool) (source master : Nat) : Module :=
  let m := (m.resetAll fabric).recordReset (if fabric then 1 else 2) source master
  if m.y.resetLow then { m with y := { m.y with resetWait := true } } else m.resetEnds

/-! ## Requests -/

/-- Whether MODE.REQ DAWN may leave Midnight (R617, R632): no latched power fault, and after a thermal latch every sensor below its
warning limit. -/
def Module.dawnGuard (m : Module) : Bool :=
  let cool (k : Nat) : Bool := !m.y.sensorsOut.contains k &&
    decide (((m.y.temps.find? (fun p => p.1 = k)).map (·.2)).getD 0 < (m.get (F.thermLimWarn k) : Int))
  m.feState ≠ feLatched && (!m.flag F.modeStsThermLatch || [0, 1, 2].all cool)

/-- The answer to a request (R617, R620, R621). -/
def Module.modeAnswer (m : Module) (code : Nat) : Nat :=
  let at' (l : List Nat) : Bool := l.contains m.mode
  if m.flag F.modeStsBusy then 2
  else
    match code with
    | 1 =>
      if m.noonish then 0
      else if m.mode ≠ mTwilight then 3
      else if m.get F.modeCauseCause = 0 then 0 else 1
    | 2 => if m.noonish then 0 else 3
    | 3 => if m.noonish || at' [mTwilight, mSmallHours] then 0 else 3
    | 4 => if m.noonish || m.mode = mTwilight then 0 else 3
    | 5 =>
      if at' [mTwilight, mSmallHours] then 0
      else if m.mode ≠ mMidnight then 3
      else if m.dawnGuard then 0 else 1
    | _ => 4

/-- An accepted request starts its transition (R617, R626, R629, R630, R652). -/
def Module.modeStart (m : Module) (e : Env) (master code : Nat) : Module :=
  match code with
  | 1 => if m.mode = mTwilight then m.leaveTwilight else m
  | 2 => m.twilightCause e 4 true
  | 3 => if m.mode = mSmallHours then m.turnIn else m.enterDusk mMidnight
  | 4 => m.enterDusk mSmallHours
  | _ =>
    if m.mode = mMidnight then
      let m := ((m.put F.pwrCtlSwOff 0).put F.modeStsThermLatch 0).put F.modeStsBusy 1
      ({ m with y := { m.y with dawnWait := true } }).feJudge
    else (m.moduleReset false 4 master).put F.modeReqResult 0

/-- A mode request of a master (R620): the result, and the transition it starts. -/
def Module.modeRequest (m : Module) (e : Env) (master code : Nat) : Nat × Module :=
  let r := m.modeAnswer code
  let m := m.put F.modeReqResult r
  (r, if r = 0 then m.modeStart e master code else m.raise pgMode Ev.reqRefused)

/-- A write of MODE.REQ (R620). -/
def Module.modeReqWrite (m : Module) (w : Wr) (e : Env) : Module :=
  let a := F.modeReqCode.reg
  if !m.reaches a || !touches w.half 3 0 then m.regWrite a w
  else (m.modeRequest e w.master.toNat (bits w.value 3 0)).2

/-- Meaning of REQUEST_NOON (R617, R620, R621, R630). -/
def execRequestNoon (w : Wr) (e : Env) (s : State) : Res := s.runAs w.master fun m => (m.at e).modeReqWrite w e

/-- Meaning of REQUEST_TWILIGHT (R617, R620, R627, R629). -/
def execRequestTwilight (w : Wr) (e : Env) (s : State) : Res := s.runAs w.master fun m => (m.at e).modeReqWrite w e

/-- Meaning of REQUEST_DUSK_OFF (R617, R620, R624, R626). -/
def execRequestDuskOff (w : Wr) (e : Env) (s : State) : Res := s.runAs w.master fun m => (m.at e).modeReqWrite w e

/-- Meaning of REQUEST_DUSK_MAINT (R617, R620, R624). -/
def execRequestDuskMaint (w : Wr) (e : Env) (s : State) : Res := s.runAs w.master fun m => (m.at e).modeReqWrite w e

/-- Meaning of REQUEST_DAWN (R617, R620, R632, R652, R678). -/
def execRequestDawn (w : Wr) (e : Env) (s : State) : Res := s.runAs w.master fun m => (m.at e).modeReqWrite w e

/-- Meaning of REQUEST_MODE (R622): the request of the WQ's link as master, answered when it is accepted or refused. -/
def execRequestMode (e : Env) (s : State) : Res :=
  s.admin 0xC1 e fun m w =>
    let code := wqeField w 0x10 1
    let link := match m.wq 0 with
      | none => 0
      | some c => c.link
    let prev := m.mode
    let r := m.modeAnswer code
    let done := match r with
      | 0 => m.adminEnd stSuccess prev 0
      | 4 => m.adminEnd stAdminInvalid 0 0x10
      | _ => m.adminEnd stAdminState 0 0x10
    let m := done.put F.modeReqResult r
    if r = 0 then m.modeStart e (link + 1) code else m.raise pgMode Ev.reqRefused

/-- Whether dusk_to has passed since the entry to Dusk (R626). -/
def Module.duskPast (m : Module) : Bool := decide (m.y.duskAt + m.get F.modeCfgDuskTo * 1000000 ≤ m.now)

/-- Dusk_to has passed before the drain was complete (R626): DUSK_TIMEOUT is raised once. -/
def Module.noteDuskLate (m : Module) : Module :=
  if m.duskPast && !m.drained && !m.y.duskLate then { m with y := { m.y with duskLate := true } }.raise pgMode Ev.duskTimeout else m

/-- Meaning of DRAIN_COMPLETE (R626): with the store stopped, the drain complete or dusk_to past, Dusk ends. -/
def execDrainComplete (e : Env) (s : State) : Res :=
  s.run fun m =>
    let m := m.at e
    if m.mode = mDusk && m.storeStopped && (m.drained || m.duskPast) then m.noteDuskLate.leaveDusk e else m

/-- Meaning of DUSK_TIMEOUT (R626): dusk_to has passed before the drain was complete; the module enters its target once the store has
stopped. -/
def execDuskTimeout (e : Env) (s : State) : Res :=
  s.run fun m =>
    let m := m.at e
    if m.mode ≠ mDusk || m.drained || !m.duskPast then m
    else
      let m := m.noteDuskLate
      if m.storeStopped then m.leaveDusk e else m

/-- Meaning of NIGHTFALL (R609, R618, R631): power-good has fallen in a mode that needs the main input. -/
def execNightfall (e : Env) (s : State) : Res :=
  s.run fun m =>
    let m := m.at e
    if m.mainOff || m.pg then m else m.enterNightfall

/-- Meaning of NIGHTFALL_DONE (R609, R631): the programs issued have ended and pending records are programmed. -/
def execNightfallDone (e : Env) (s : State) : Res :=
  s.run fun m =>
    let m := m.at e
    if m.mode ≠ mNightfall then m else (m.storeFinish true).enterMidnight

end Sys2Proof.Machine
end

