-- ==== Sys2Proof/Machine/PowerEntry.lean ====
section
/-! DEFINITION. Power entry as it happens (R648–R669, R672): ramps, trips, power-good, and what turns the FET off. -/

namespace Sys2Proof.Machine

/-- A meaning on a sample of the front end: the sample is shown, then `f`, then the start conditions are judged. -/
def State.sample (s : State) (x : Meas) (e : Env) (f : Module → Module) : Res :=
  s.run fun m => (f ((m.at e).feSample x)).feJudge

/-- Whether a time has come since an instant, if there is one. -/
def Module.since (m : Module) (t : Option Nat) (ns : Nat) : Bool :=
  match t with
  | none => false
  | some t => decide (t + ns ≤ m.now)

/-- Meaning of RAMP_START (R650, R653, R654): the conditions have held for 10 ms. The ramp takes PWR.CFG as it stands. -/
def execRampStart (x : Meas) (e : Env) (s : State) : Res :=
  s.sample x e fun m =>
    if m.feState = feWait && m.feMay && m.since m.y.fe.waitAt 10000000 then
      (m.put F.pwrStsState feRamp).onFe fun f =>
        { f with waitAt := none, rampAt := some m.now, inrush := true, rampCfg := m.word F.pwrCfgFoldW.reg }
    else m

/-- Meaning of SHORT_CHECK (R655): the sample that falls 5 ms after the ramp starts. -/
def execShortCheck (x : Meas) (e : Env) (s : State) : Res :=
  s.sample x e fun m =>
    if m.feState = feRamp && m.since m.y.fe.rampAt 5000000 && !m.since m.y.fe.rampAt 5000040 && x.vout ≤ 200 && x.fold then m.trip tripShort
    else m

/-- Meaning of RAMP_COLLAPSE (R656): after the first 5 ms, the output has lagged by more than 4.0 V in foldback for 1 ms. -/
def execRampCollapse (x : Meas) (e : Env) (s : State) : Res :=
  s.sample x e fun m =>
    if m.feState = feRamp && m.since m.y.fe.rampAt 5000000 && x.fold then m.trip tripCollapse else m

/-- Meaning of INRUSH_TIMEOUT (R654, R660): the timer reaches inrush_ms. -/
def execInrushTimeout (x : Meas) (e : Env) (s : State) : Res :=
  s.sample x e fun m =>
    if m.y.fe.inrush && m.since m.y.fe.rampAt (bits m.y.fe.rampCfg 63 48 * 1000000) then m.trip tripInrush else m

/-- The current limit ends: the current is below 9.0 A and the gate is enhanced (R657). -/
def Module.limitEnds (m : Module) (x : Meas) : Module :=
  if x.iin < 9000 && x.enhanced then (m.put F.pwrStsIlim 0).onFe fun f => { f with runAt := none } else m

/-- Meaning of CURRENT_LIMIT (R657): in RUN the limit begins and starts the run timer, or ends and clears it. -/
def execCurrentLimit (on : Bool) (x : Meas) (e : Env) (s : State) : Res :=
  s.sample x e fun m =>
    if !on then m.limitEnds x
    else if m.feState = feRun && 9000 ≤ x.iin && !m.flag F.pwrStsIlim then
      (m.put F.pwrStsIlim 1).onFe fun f => { f with runAt := some m.now, runCfg := m.word F.pwrCfgFoldW.reg }
    else m

/-- Meaning of RUN_TIMEOUT (R657, R660): the timer reaches run_us while the limit holds. -/
def execRunTimeout (x : Meas) (e : Env) (s : State) : Res :=
  s.sample x e fun m =>
    let m := m.limitEnds x
    if m.flag F.pwrStsIlim && m.since m.y.fe.runAt (bits m.y.fe.runCfg 47 32 * 1000) then m.trip tripRun else m

/-- Meaning of FAST_OC (R658): 30 A in a ramp or in RUN. -/
def execFastOc (x : Meas) (e : Env) (s : State) : Res :=
  s.sample x e fun m => if m.fetOn && 30000 ≤ x.iin then m.trip tripFastOc else m

/-- Meaning of FET_OT (R659): 150 °C with the FET on. -/
def execFetOt (x : Meas) (e : Env) (s : State) : Res :=
  s.sample x e fun m => if m.fetOn && 150 ≤ m.y.fe.used then m.trip tripFetOt else m

/-- Meaning of SENSE_MISMATCH (R659): sensed and modelled temperature have disagreed for 1 ms. -/
def execSenseMismatch (x : Meas) (e : Env) (s : State) : Res :=
  s.sample x e fun m =>
    let apart := decide (20 < (x.sensed - x.model).natAbs) || decide (x.sensed < -40) || decide (200 < x.sensed)
    if apart then (m.put F.pwrStsSenseMis 1).raise pgPwr Ev.senseMismatch else m

/-- Meaning of PG_RISE (R617, R652, R661, R663, R668): 2,500 consecutive good samples. -/
def execPgRise (x : Meas) (e : Env) (s : State) : Res :=
  s.sample x e fun m =>
    let good := decide (92 * x.vin ≤ 100 * x.vout) && x.enhanced && !m.y.fe.inrush && !m.flag F.pwrStsIlim
    if m.feState = feRun && !m.pg && good then
      let m := (m.put F.pwrStsPg 1).onFe fun f => { f with pgAt := some m.now, fault := false }
      (m.raise pgPwr Ev.pgRise).dawnIfGood
    else m

/-- Meaning of PG_DROP (R662, R670): the output has stayed below 80 % of the input for 250 samples. -/
def execPgDrop (x : Meas) (e : Env) (s : State) : Res :=
  s.sample x e fun m => if m.pg && 100 * x.vout < 80 * x.vin then m.fetOff 6 else m

/-- Meaning of PWR_EN_LOW (R652, R664): PWR_EN has been low for 1 µs. -/
def execPwrEnLow (x : Meas) (e : Env) (s : State) : Res :=
  s.sample x e fun m =>
    let m := (m.put F.pwrStsPwrEn 0).onFe fun f => { f with enLowAt := some (f.enLowAt.getD (m.now - 1000)) }
    (m.fetOff 1).dawnFails

/-- Meaning of PWR_EN_RISE (R667): PWR_EN is high; after 10 ms low it clears a latch-off. -/
def execPwrEnRise (x : Meas) (e : Env) (s : State) : Res :=
  s.sample x e fun m =>
    let long := m.since m.y.fe.enLowAt 10000000
    let m := (m.put F.pwrStsPwrEn 1).onFe fun f => { f with enLowAt := none }
    if long then m.unlatch else m

/-- Meaning of SW_OFF (R664). -/
def execSwOff (w : Wr) (e : Env) (s : State) : Res := s.runAs w.master fun m => (m.at e).pwrCtl w

/-- Meaning of LATCH_CLEAR (R666, R667). -/
def execLatchClear (w : Wr) (e : Env) (s : State) : Res := s.runAs w.master fun m => (m.at e).pwrCtl w

/-- The input has left the range between the thresholds (INPUT_RANGE). -/
def Module.inputBad (m : Module) : Module :=
  if m.flag F.pwrStsInOk then (m.put F.pwrStsInOk 0).raise pgPwr Ev.inputRange else m

/-- Meaning of UNDERVOLTAGE (R664): below 38.5 V for 5 µs. -/
def execUndervoltage (x : Meas) (e : Env) (s : State) : Res :=
  s.sample x e fun m => if x.vin < 3850 then m.inputBad.fetOff 4 else m

/-- Meaning of OVERVOLTAGE (R664): above 63.0 V for 10 µs. -/
def execOvervoltage (x : Meas) (e : Env) (s : State) : Res :=
  s.sample x e fun m => if 6300 < x.vin then m.inputBad.fetOff 4 else m

/-- Meaning of REVERSE_CURRENT (R664): 2.0 A for 500 ns. -/
def execReverseCurrent (x : Meas) (e : Env) (s : State) : Res := s.sample x e fun m => m.fetOff 4

/-- Meaning of INPUT_RANGE (R650): the input has entered the range between the thresholds. -/
def execInputRange (x : Meas) (e : Env) (s : State) : Res :=
  s.sample x e fun m =>
    if 3950 < x.vin && x.vin < 6300 && !m.flag F.pwrStsInOk then (m.put F.pwrStsInOk 1).raise pgPwr Ev.inputRange else m

/-- Meaning of COOL_END (R665): 1 s in COOL, and the FET below 70 °C. -/
def execCoolEnd (x : Meas) (e : Env) (s : State) : Res :=
  s.sample x e fun m =>
    if m.feState = feCool && m.since m.y.fe.coolAt 1000000000 && decide (m.y.fe.used < 70) then
      (m.put F.pwrStsState feOff).onFe fun f => { f with coolAt := none }
    else m

/-- Meaning of TRIES_RESET (R666): power-good has stayed asserted for 10 s. -/
def execTriesReset (x : Meas) (e : Env) (s : State) : Res :=
  s.sample x e fun m => if m.pg && m.since m.y.fe.pgAt 10000000000 then m.put F.pwrStsTries 0 else m

end Sys2Proof.Machine
end

