-- ==== Sys2Proof/Machine/Causes.lean ====
section
/-! DEFINITION. Temperatures (R645–R647), thermal critical (R632), and the causes of Twilight (R486, R627, R628). -/

namespace Sys2Proof.Machine

/-! ## Temperatures -/

/-- The level of a sensor in THERM.STS (R645). -/
def Module.thermLevel (m : Module) (k : Nat) : Nat := m.get F.thermStsLevel / 4 ^ k % 4

/-- The level that a temperature gives a sensor (R645, R646): a level is reached at its limit and clears 5 °C below it. -/
def Module.levelFor (m : Module) (k : Nat) (t : Int) : Nat :=
  let old := m.thermLevel k
  let stands (l : Nat) (limit : Nat) : Bool := decide ((limit : Int) ≤ t) || (decide (l ≤ old) && decide ((limit : Int) - 5 < t))
  if stands 3 (m.get (F.thermLimTwi k)) then 3
  else if stands 2 (m.get (F.thermLimThrottle k)) then 2
  else if stands 1 (m.get (F.thermLimWarn k)) then 1
  else 0

/-- A sensor takes a level (R627, R646): an event for each level it reaches, and the cause THERMAL at the Twilight limit; where the
sensor is at its critical limit too, the cause is recorded and the transition of higher rank follows (R618). -/
def Module.setLevel (m : Module) (e : Env) (k l : Nat) (critical : Bool) : Module :=
  let old := m.thermLevel k
  let m := m.put ⟨F.thermStsLevel.reg, 2 * k + 1, 2 * k⟩ l
  let rises (n : Nat) : Bool := decide (old < n) && decide (n ≤ l)
  let m := if rises 1 then m.raise pgTherm Ev.tempWarn else m
  let m := if rises 2 then m.raise pgTherm Ev.tempThrottle else m
  if !rises 3 then m
  else if critical then
    let m := m.raise pgTherm Ev.tempTwilight
    if m.mainOff then m else m.put ⟨F.modeCauseCause.reg, 2, 2⟩ 1
  else (m.raise pgTherm Ev.tempTwilight).twilightCause e 2 true

/-- A sensor has failed (R647): it counts as at its throttle limit. -/
def Module.sensorFails (m : Module) (e : Env) (k : Nat) : Module :=
  let m := { m with y := { m.y with sensorsOut := addNum m.y.sensorsOut k, temps := m.y.temps.filter (fun p => p.1 ≠ k) } }
  let m := (m.put F.thermStsSensorFail 1).raise pgTherm Ev.sensorFail
  m.setLevel e k (m.levelFor k (m.get (F.thermLimThrottle k))) false

/-- A sensor reaches its critical limit (R632, R669): the FET turns off, the latch is set, and the module enters Nightfall. -/
def Module.thermCritical (m : Module) : Module :=
  let m := (m.put F.pwrCtlSwOff 1).put F.modeStsThermLatch 1
  let m := (m.fetOff 5).feJudge.dawnFails
  if m.mainOff then m else m.enterNightfall

/-- A sensor reads a temperature (R645–R647). A T00 has no NAND sensor. -/
def Module.senses (m : Module) (e : Env) (k : Nat) (t : Int) (tile : Nat) : Module :=
  if k = 1 && m.noStore then m
  else if t < -40 || 150 < t then m.sensorFails e k
  else
    let y := { m.y with sensorsOut := m.y.sensorsOut.filter (· ≠ k), temps := m.y.temps.filter (fun p => p.1 ≠ k) ++ [(k, t)] }
    let m := { m with y := y }.putFlag F.thermStsSensorFail (!y.sensorsOut.isEmpty)
    let m := match k with
      | 0 => (m.put F.thermStsDie (unsigned 8 t)).put F.thermStsDieTile tile
      | 1 => m.put F.thermStsNand (unsigned 8 t)
      | _ => m.put F.thermStsCool (unsigned 8 t)
    let critical := decide ((m.get (F.thermLimCrit k) : Int) ≤ t)
    let m := m.setLevel e k (m.levelFor k t) critical
    if critical then m.thermCritical else m

/-- Meaning of SENSOR_LIMIT (R627, R645, R646): sensor 0 is the die, 1 the NAND, 2 the coolant. -/
def execSensorLimit (k : Fin 3) (temp : Int) (tile : Fin 64) (e : Env) (s : State) : Res :=
  s.run fun m => (m.at e).senses e k.val temp tile.val

/-- Meaning of THERMAL_CRITICAL (R618, R632, R646, R669). -/
def execThermalCritical (k : Fin 3) (temp : Int) (e : Env) (s : State) : Res :=
  s.run fun m => (m.at e).senses e k.val temp (m.get F.thermStsDieTile)

/-- Meaning of SENSOR_FAIL (R646, R647). -/
def execSensorFail (k : Fin 3) (e : Env) (s : State) : Res :=
  s.run fun m => if k.val = 1 && m.noStore then m.at e else (m.at e).sensorFails e k.val

/-! ## Causes of Twilight -/

/-- A port is taken down and held DISABLED (R623, R628). -/
def Module.disablePort (m : Module) (d : Nat) : Module :=
  let p := if 46 ≤ d then (m.portOfLane (2 * d)).getD d else leadDuo d
  let m := if isPort p then m.takeDown p true else m
  let m := m.put (F.portLstsState p) lsDisabled
  (if isPort p then m.lanesOf p else [2 * p, 2 * p + 1]).foldl (fun m n => m.stopLane n) m

/-- A tile has failed (R628): a fatal engine error of an engine tile, or a port that is held DISABLED. The management tile's failure is
named by no rule. -/
def Module.tileFails (m : Module) (e : Env) (t : Nat) : Module :=
  let (kind, unit) := tileKind t
  if m.mainOff || kind = 0 || kind = 9 then m
  else if kind = 1 then m.disablePort unit
  else (m.put F.modeCauseTile t).twilightCause e 0 (kind ≠ 8)

/-- Meaning of FATAL_ENGINE_ERROR (R618, R627–R629). -/
def execFatalEngineError (tile : Fin 64) (e : Env) (s : State) : Res := s.run fun m => (m.at e).tileFails e tile.val

/-- Meaning of GRANT_TIMEOUT (R485, R486): a granted cell is missing 1 µs after its grant. -/
def execGrantTimeout (id : Nat) (e : Env) (s : State) : Res :=
  s.run fun m =>
    let m := m.at e
    match m.xfer id with
    | none => m
    | some x =>
      if x.stage ≠ .granted || x.cells ≤ x.placed.length || m.now < x.grantedAt + 1000 then m
      else
        let m := m.raise pgMesh Ev.grantTimeout
        match m.queued id with
        | some (p, d) => if d.pkt.trimmed then m.dropNotice p d else m.trim e p d
        | none => (m.closeXfer id).tileFails e x.dst

/-- Meaning of HOST_LOSS_TIMEOUT (R618, R627): every host link has been down for host_to. -/
def execHostLossTimeout (e : Env) (s : State) : Res :=
  s.run fun m =>
    let m := m.at e
    let bound := m.get F.modeCfgHostTo
    let mode := m.noonish || m.mode = mDusk || m.mode = mTwilight
    if mode && bound ≠ 0 && m.since m.y.hostDownAt (bound * 1000000) then m.twilightCause e 1 true else m

/-- Meaning of POWER_OVER_TIMEOUT (R618, R627): input power, in 0.1 W, has exceeded the variant maximum for 1 ms. -/
def execPowerOverTimeout (power : Nat) (e : Env) (s : State) : Res :=
  s.run fun m =>
    let m := (m.at e).notePower power
    if m.y.powerOver then m.twilightCause e 3 true else m

/-- Whether the condition of a cause is gone (R627). -/
def Module.causeGone (m : Module) (b : Nat) : Bool :=
  match b with
  | 1 => (List.range 4).any m.linkUp
  | 2 => [0, 1, 2].all (fun k => decide (m.thermLevel k < 3))
  | 3 => m.since m.y.powerLowAt 100000000
  | 4 => true
  | _ => false

/-- A write of MODE.CAUSE (R627). -/
def Module.causeWrite (m : Module) (w : Wr) : Module :=
  let a := F.modeCauseCause.reg
  if !m.reaches a then m.regWrite a w
  else
    (List.range 6).foldl (fun m b => if bit (writeOnes w) b && m.causeGone b then m.put ⟨a, b, b⟩ 0 else m) m

/-- Meaning of CAUSE_CLEAR (R627). -/
def execCauseClear (w : Wr) (e : Env) (s : State) : Res := s.runAs w.master fun m => (m.at e).causeWrite w

end Sys2Proof.Machine
end

