-- ==== Sys2Proof/Machine/Resets.lean ====
section
/-! DEFINITION. Resets (R673–R684, R688, R768): cold, fabric, module, MMP, tile, port and lane. Host links and their functions stand in
the file Teardown. -/

namespace Sys2Proof.Machine

/-! ## Cold -/

/-- The state a cold reset leaves (R19, R673, R684, R688): the fuses, the boot flash, the NAND and the levels of pins stay. -/
def Module.coldState (m : Module) (source : Nat) : Module :=
  let m := m.lanesOff.enginesLost.storeDiscard.onStore fun s => { s with state := .off }
  let y := { Sys.init with nor := m.y.nor, resetLow := m.y.resetLow, perstLow := m.y.perstLow, refLost := m.y.refLost }
  let m := { m with
    regs := []
    now := 0
    timeOffset := 0
    straps := { due := true, sampled := none, differs := false, lastDiff := none }
    y := y }
  m.showFused.recordReset 0 source 0 |>.put F.rstLastCount 0

/-- Meaning of COLD_RESET (R672, R673): AUX_3V3 rises at power-up, or returns after a loss. Where the main input has carried the module
meanwhile, its return is no reset. -/
def execColdReset (auxReturn : Bool) (s : State) : Res :=
  s.run fun m =>
    if auxReturn && m.y.fe.auxGone && m.pg then (m.onFe fun f => { f with auxGone := false }).put F.pwrStsAuxOk 1
    else m.coldState (b2n auxReturn)

/-- Meaning of AUX_LOST (R672): with power-good the module runs on; else everything stops, and what a cold reset clears is gone. -/
def execAuxLost (x : Meas) (e : Env) (s : State) : Res :=
  s.run fun m =>
    let m := (m.at e).feSample x
    if m.pg then
      if m.y.fe.auxGone then m
      else ((m.onFe fun f => { f with auxGone := true }).put F.pwrStsAuxOk 0).raise pgPwr Ev.auxLost
    else m.coldState 0

/-! ## The MMP -/

/-- An MMP reset (R88, R683, R688): the MMP boots again; where it does not verify, the module enters Twilight with cause ENGINE. In Dawn
the boot follows with DAWN_COMPLETE. -/
def Module.mmpReset (m : Module) (e : Env) (source master : Nat) : Module :=
  let m := ((m.masterReset 8).recordReset 3 source master).chooseSlot
  let m := { m with y := { m.y with challenge := none, console := [] } }
  if m.mode = mDawn then { m with y := { m.y with recovery := false, bootFailed := false } }
  else
    match m.boot with
    | (true, m) => m
    | (false, m) => m.twilightCause e 0 true

/-! ## Lanes, ports and tiles -/

/-- A lane reset (R682): to POWER, with its saved state only where `keep` says so; in use, the port retrains. -/
def Module.laneReset (m : Module) (n : Nat) (keep : Bool) : Module :=
  let m := if keep then m else m.dropSaved n
  if m.laneInUse n then m.loseLock n
  else
    let m := m.abortScan n
    if m.laneStage n = lgOff then m else m.startLane n ((m.lane n).added)

/-- A reset of the store's tile (R609, R680): it stops without its pending records, and replays its journal as at Dawn where the mode
lets it run. -/
def Module.storeReset (m : Module) : Module :=
  if m.noStore then m
  else
    let run := m.noonish
    ((m.storeFinish false).onStore fun s => { s with state := if run then .scanning else .stopped }).storeShow

/-- A tile reset, by the tile's kind and unit (R88, R674–R676, R680, R768). -/
def Module.engineReset (m : Module) (e : Env) (kind unit : Nat) : Module :=
  match kind with
  | 1 => m.portReset unit
  | 2 => m.functionReset e unit
  | 3 => (m.xptRestart e).xptRestart e
  | 4 => m.freeMatch e unit true
  | 5 => m.freeColl e unit true
  | 7 => m.dtuDrop
  | 8 => m.storeReset
  | _ => m

/-- A soft reset that a page starts (R674, R675); on every other page it has no effect. -/
def Module.softReset (m : Module) (e : Env) (page : Nat) : Module :=
  match blockOf page with
  | none => m
  | some (b, i) =>
    match b.blk with
    | .tile => m.engineReset e (tileKind i).1 (tileKind i).2
    | .xpt => m.engineReset e 3 i
    | .qctl => (m.put (F.pgEnable pgQctl) 0).queuesClear
    | .dtu => m.engineReset e 7 0
    | .match => m.engineReset e 4 i
    | .coll => m.engineReset e 5 i
    | .store | .stch => m.engineReset e 8 0
    | .host => m.functionReset e i
    | .port => m.portReset i
    | .lane => m.laneReset i false
    | _ => m

/-- A write of a page's PG_CTL (R52, R100, R101, R210, R674, R764): its enable, its lock, then its soft reset. -/
def Module.pgCtlWrite (m : Module) (e : Env) (page : Nat) (w : Wr) : Module :=
  let a := page * 0x1000 + 0x18
  let ok := m.reaches a && !isMsixPage page
  let m :=
    if page = pgQctl then m.queueCtl w e
    else if page = pgDtu then m.dtuEnable w
    else if page = pgXpt 0 then m.xptCtl w
    else m.pageCtl a w
  if ok && touches w.half 2 2 && bit w.value 2 then m.softReset e page else m

/-! ## RST.CTL -/

/-- Whether a module or fabric reset in progress, which waits for MOD_RESET_N, contains the one that arrives (R677). -/
def Module.contained (m : Module) (fabric : Bool) : Bool :=
  m.y.resetWait && !(fabric && m.get F.rstLastKind = 2)

/-- A write of RST.CTL (R673, R677, R682, R766). The widest reset that one write asks for contains the others. -/
def Module.rstWrite (m : Module) (e : Env) (w : Wr) : Module :=
  let a := F.rstCtlModule.reg
  let master := w.master.toNat
  let v := writeOnes w
  if !m.reaches a || !m.writeFits a w then m.regWrite a w
  else
    let m := m.regWrite a w
    if bit v 62 && (master = 8 || master = 10) && !m.contained true then m.moduleReset true 3 master
    else if m.y.resetWait then m
    else if bit v 63 then m.moduleReset false 3 master
    else
      let m := if bit v 61 && master ≠ 8 then m.mmpReset e 3 master else m
      if bit v 60 && m.mainOn then m.laneReset (m.get F.rstCtlLaneNo) (m.flag F.rstCtlKeep) else m

/-- Meaning of FABRIC_RESET (R673, R677, R678, R684, R688). -/
def execFabricReset (w : Wr) (e : Env) (s : State) : Res := s.runAs w.master fun m => (m.at e).rstWrite e w

/-- Meaning of MODULE_RESET (R673, R677–R679, R684, R688): MOD_RESET_N has been low for 1 µs, or RST.CTL.module. -/
def execModuleReset (src : ResetSrc) (e : Env) (s : State) : Res :=
  s.run fun m =>
    let m := m.at e
    match src with
    | .reg w => if m.masterReaches w.master.toNat then m.rstWrite e w else m
    | .pin =>
      let m := { m with y := { m.y with resetLow := true } }
      if m.contained false then m else m.moduleReset false 2 0

/-- Meaning of MOD_RESET_RELEASE (R679). -/
def execModResetRelease (e : Env) (s : State) : Res :=
  s.run fun m =>
    let m := m.at e
    let m := { m with y := { m.y with resetLow := false } }
    if m.y.resetWait then m.resetEnds else m

/-- Meaning of MMP_RESET (R88, R683, R688): the watchdog, or RST.CTL.mmp. -/
def execMmpReset (w : Option Wr) (e : Env) (s : State) : Res :=
  s.run fun m =>
    let m := m.at e
    match w with
    | some w => if m.masterReaches w.master.toNat then m.rstWrite e w else m
    | none => if m.y.resetWait then m else m.mmpReset e 5 0

/-- Meaning of TILE_RESET (R673–R676, R680, R768). -/
def execTileReset (page : BitVec 12) (w : Wr) (e : Env) (s : State) : Res := s.runAs w.master fun m => (m.at e).pgCtlWrite e page.toNat w

/-- Meaning of PORT_RESET (R673, R674, R681, R768). -/
def execPortReset (page : BitVec 12) (w : Wr) (e : Env) (s : State) : Res := s.runAs w.master fun m => (m.at e).pgCtlWrite e page.toNat w

/-- Meaning of LANE_RESET (R673, R674, R682): PG_CTL of the lane's page, or RST.CTL. -/
def execLaneReset (page : BitVec 12) (w : Wr) (e : Env) (s : State) : Res :=
  s.runAs w.master fun m => if page.toNat = pgRst then (m.at e).rstWrite e w else (m.at e).pgCtlWrite e page.toNat w

end Sys2Proof.Machine
end

