-- ==== Sys2Proof/Machine/Dawn.lean ====
section
/-! DEFINITION. Dawn (R623): verification, self-test, and what starts before the module enters Noon. -/

namespace Sys2Proof.Machine

/-- The key that wraps the ND 0 key (R709). -/
def wrapKey : List Byte := beBytes 32 Config.wrapKey

/-- The wrapped ND 0 key is installed in slot 0; one that fails to unwrap is discarded (R709). -/
def Module.unwrapKey (m : Module) : Module :=
  match m.y.nor.mgmtKey with
  | none => m
  | some b =>
    match aesUnwrap wrapKey b with
    | some k => m.fillSlot 0 0 (leNat k)
    | none => { m with y := { m.y with nor := { m.y.nor with mgmtKey := none } } }.raise (pgTrust 0) Ev.mgmtKeyLost

/-- The module remains in Dawn with its ports held DOWN (R623); the recovery responder runs where no slot verified (R694). -/
def Module.bootFails (m : Module) (recovery : Bool) : Module :=
  { m with y := { m.y with bootFailed := true, recovery := recovery } }.raise pgMode Ev.bootFail

/-- The store starts its scan (R611, R623). -/
def Module.storeScan (m : Module) : Module :=
  if m.noStore then m else (m.onStore fun s => { s with state := .scanning, timed := m.flag F.timeStsSynced }).storeShow

/-- Lane bring-up starts on every port with LCTL.en = 1 (R623). -/
def Module.linksStart (m : Module) : Module :=
  portList.foldl (fun m p => if m.flag (F.portLctlEn p) && m.lstate p = lsDown then m.restartLanes p else m) m

/-- Steps 3–5 of R623. -/
def Module.dawnEnds (m : Module) (e : Env) (failed : List Nat) : Module :=
  let engines := failed.filter (fun t => (tileKind t).1 ≠ 1)
  let m := (failed.filter (fun t => (tileKind t).1 = 1)).foldl (fun m t => m.disablePort (tileKind t).2) m
  let m := (m.put F.govStsStep 0).unwrapKey.storeScan
  let m :=
    if engines.isEmpty then m.enterMode mNoon
    else (m.put ⟨F.modeCauseCause.reg, 5, 5⟩ 1).enterTwilight e (engines.all (fun t => (tileKind t).1 ≠ 8))
  m.linksStart

/-- Meaning of DAWN_COMPLETE (R617, R623, R693, R694, R699, R709): boot verification runs, and the self-test has found some tiles, or the
mesh, in fault. -/
def execDawnComplete (failed : List (Fin 64)) (mesh : Bool) (e : Env) (s : State) : Res :=
  s.run fun m =>
    let m := m.at e
    if m.mode ≠ mDawn || m.y.resetWait || m.y.bootFailed then m
    else
      match m.boot with
      | (false, m) => m.bootFails true
      | (true, m) =>
        let l := failed.map (·.val)
        if mesh || l.any (fun t => (tileKind t).1 = 9 || (tileKind t).1 = 6) then m.bootFails false
        else m.dawnEnds e l

end Sys2Proof.Machine
end

