-- ==== Sys2Proof/Machine/Daylight.lean ====
section
/-! DEFINITION. Daylight (R619, R634–R646): what an epoch reads and decides. -/

namespace Sys2Proof.Machine

/-- The module with Daylight changed. -/
def Module.onDay (m : Module) (f : Daylight → Daylight) : Module := { m with y := { m.y with day := f m.y.day } }

/-- The value an input lists for a number, 0 where it lists none. -/
def inputOf (l : List (Nat × Nat)) (k : Nat) : Nat := ((l.find? (fun p => p.1 = k)).map (·.2)).getD 0

/-- The engine tiles (R469). -/
def engineTiles : List Nat := (List.range 64).filter (fun n => (tileKind n).1 ≠ 1)

/-- The narrowest width of a port's kind (GOV.PORTPOL). -/
def Module.widthFloor (m : Module) (p : Nat) : Nat :=
  match portKind p with
  | 0 => m.get F.govPortpolMinX
  | 1 => m.get F.govPortpolMinY
  | _ => m.get F.govPortpolMinG

/-- Whether Daylight may act on a port (R637). -/
def Module.portFree (m : Module) (p : Nat) : Bool := m.isUp p && !m.flag (F.portLstsWchg p)

/-- What Daylight counts of a port over an epoch (R635, R637). -/
def Module.countPort (m : Module) (inp : Epoch) (p : Nat) : Module :=
  let u := inputOf inp.u p
  let up := m.isUp p
  m.onDayPort p fun d => { d with
    low := if up && u < m.get F.govPortpolNarLo then min 4095 (d.low + 1) else 0
    high := if up && m.get F.govPortpolWidHi ≤ u then min 2 (d.high + 1) else 0
    since := min 4095 (d.since + 1), u := u }

/-- Whether a port can be narrowed one step, its utilisation apart (R419, R635, R642). -/
def Module.canNarrow (m : Module) (p : Nat) : Bool :=
  let w := m.get (F.portLstsWidth p)
  m.portFree p && decide (m.widthFloor p < w) && !m.narrowBlocked p (w - 1)

/-- A port is asked to narrow by one step, to its lanes of lowest position (R532, R635). -/
def Module.narrow (m : Module) (p : Nat) : Module :=
  let w := m.get (F.portLstsWidth p)
  m.askWidth p (w - 1) (lowestLanes (2 ^ (w - 1)) (m.get (F.portLstsLanes p)))

/-- A port is asked to widen by a step, to the lanes that narrowing left (R533, R635). -/
def Module.widen (m : Module) (p w : Nat) : Module :=
  let now := m.get (F.portLstsLanes p)
  let rest := m.unfailed p &&& (15 ^^^ now)
  m.askWidth p w (now ||| lowestLanes (2 ^ w - popCount 4 now) rest)

/-- The decision on a port's width (R635). -/
def Module.decideWidth (m : Module) (p : Nat) : Module :=
  let d := KMap.getD m.y.day.ports p DayPort.init
  let w := m.get (F.portLstsWidth p)
  let occ := m.occupancy p
  let q := m.port p
  let urgent := q.queue.any (fun d => decide (6 ≤ d.pkt.tc))
  if !m.portFree p then m
  else if w < q.trained && (2 ≤ d.high || m.get F.govPortpolWideQ ≤ occ) then m.widen p (w + 1)
  else if m.get F.govPortpolNarN ≤ d.low && occ < m.get F.govPortpolWideQ && !urgent && m.get F.govPortpolHold ≤ d.since && m.canNarrow p
  then m.narrow p
  else m

/-- A standing since when is kept while a condition holds, and dropped when it ends. -/
def noteSince (l : List (Nat × Nat)) (k now : Nat) (on : Bool) : List (Nat × Nat) :=
  if on then (if (KMap.get l k).isSome then l else KMap.put l k now) else KMap.erase l k

/-- Whether something has stood for a time. -/
def Module.stoodFor (m : Module) (l : List (Nat × Nat)) (k ns : Nat) : Bool := m.since (KMap.get l k) ns

/-- Standby of a lane (R562, R637, R638): unused by its port for sb_delay, or for 1 s without signal under a port that is DOWN; lanes of
such a port are awake for 20 µs every probe_ivl. -/
def Module.decideLane (m : Module) (n : Nat) : Module :=
  match m.portOfLane n with
  | none => m
  | some p =>
    let awake := m.laneStage n ≠ lgOff
    let standby := m.flag (F.laneRxstsStandby n)
    let down := m.lstate p = lsDown && m.flag (F.portLctlEn p)
    let quiet := down && m.laneStage n = lgSignal
    let unused := m.isUp p && awake && !m.laneInUse n
    let m := m.onDay fun y =>
      { y with unused := noteSince y.unused n m.now (unused || quiet || (down && standby)), probing := noteSince y.probing n m.now (quiet &&
          (KMap.get y.probing n).isSome) }
    let stand (m : Module) : Module := (m.standbyLane n).onDay fun y =>
      { y with unused := KMap.put y.unused n m.now, probing := KMap.erase y.probing n }
    if unused && !m.flag (F.portLstsWchg p) && m.stoodFor m.y.day.unused n (m.get F.govPortpolSbDelay * 1000000) then stand m
    else if quiet && (m.stoodFor m.y.day.unused n 1000000000 || m.stoodFor m.y.day.probing n 20000) then stand m
    else if down && standby && m.lanesMay p && m.stoodFor m.y.day.unused n (m.get F.govGatepolProbeIvl * 1000000) then
      (m.startLane n false).onDay fun y => { y with unused := KMap.put y.unused n m.now, probing := KMap.put y.probing n m.now }
    else m

/-- The condition under which a tile may be gated (R471, R472, R495, R497). -/
def Module.mayGate (m : Module) (inp : Epoch) (t : Nat) : Bool :=
  let (kind, unit) := tileKind t
  let idle (p : Nat) : Bool :=
    let q := m.port p
    q.queue.isEmpty && q.replay.isEmpty && q.rxReg = 0 && q.rxStub = 0 && q.rxOwn = 0
  !m.flag (F.tileHoldNogate t) &&
  (match kind with
    | 1 =>
      let second := isQuadDuo unit && unit % 2 = 1 && m.lstate unit = lsBonded
      let asleep := (m.lanesOf unit).all (fun n => m.flag (F.laneRxstsStandby n) || m.laneStage n = lgOff)
      !((List.range 4).map homeTile).contains t && (second || 46 ≤ unit || asleep) && (!isPort unit || idle unit)
    | 2 => !m.linkUp unit
    | 3 => m.x.conns.all (fun p => p.1 % 4 ≠ unit || p.2.tx.all (·.acked))
    | 4 => (m.mtCtxs unit).isEmpty
    | 5 => m.cl.ctxs.all (fun p => collTile p.1 ≠ unit) && m.cl.lists.all (fun p => collTile p.2.coll ≠ unit)
    | 7 => m.q.wqRt.all (fun p => match p.2.fetch with
        | none => true
        | some f => f.walk.isNone) && inputOf inp.e t = 0
    | 8 => m.storeStopped
    | _ => false)

/-- The caches a tile drops as it is gated (R186, R494); a Region Table entry marked REVOKING stays pinned (R277). -/
def Module.dropCaches (m : Module) (t : Nat) : Module :=
  let (kind, unit) := tileKind t
  let micro (m : Module) (k : Nat) : Module := { m with dtu := { m.dtu with micro := KMap.erase m.dtu.micro k } }
  match kind with
  | 3 =>
    let mine := m.x.conns.filter (fun p => p.1 % 4 = unit)
    let m := { m with x := { m.x with
      conns := m.x.conns.filter (fun p => p.1 % 4 ≠ unit)
      evicted := mine.foldl (fun l p => KMap.put l p.1 p.2) m.x.evicted
      regions := m.x.regions.filter (fun p => p.2.revoking) } }
    micro m (1 + unit)
  | 4 => micro m (5 + unit)
  | 5 => micro m (7 + unit)
  | 7 => m.dtuDrop
  | 8 => micro m 9
  | _ => m

/-- Gating of a tile (R494, R639). -/
def Module.decideTile (m : Module) (inp : Epoch) (t : Nat) : Module :=
  let may := m.mayGate inp t
  let m := m.onDay fun y => { y with idle := noteSince y.idle t m.now may }
  let st := m.tileState t
  if st ≠ tsPowerGated && (st = tsRun || st = tsClockGated) && m.stoodFor m.y.day.idle t (m.get F.govGatepolPgIdle * 1000000) then
    (m.dropCaches t).put (F.tileStateState t) tsPowerGated
  else if st = tsRun && m.stoodFor m.y.day.idle t (m.get F.govGatepolGateIdle * 1000) then
    (m.dropCaches t).put (F.tileStateState t) tsClockGated
  else m

/-- Whether some SRAM bank may sleep (R640). -/
def Module.bankRests (m : Module) : Bool :=
  portList.any (fun p => m.lstate p = lsDown && (m.port p).queue.isEmpty && (m.port p).replay.isEmpty) || !m.storeRuns ||
  engineTiles.any m.tileGated

/-- GOV.STS.asleep (R640): which banks hold what is not stated, so their number is a free value where some may sleep (log 25). -/
def Module.showAsleep (m : Module) : Module :=
  if m.bankRests then
    let (d, m) := m.draw
    m.put F.govStsAsleep (d % 97)
  else m.put F.govStsAsleep 0

/-- The core changes its step (R492, R641). -/
def Module.setStep (m : Module) (k : Nat) : Module :=
  (m.put F.govStsStep k).onDay fun y => { y with coreSince := 0 }

/-- The decision on the core step (R641). -/
def Module.decideStep (m : Module) (inp : Epoch) : Module :=
  let step := m.get F.govStsStep
  let busy := inp.throttled || engineTiles.any (fun t => m.get F.govCorepolCoreHi ≤ inputOf inp.e t)
  let quiet := !inp.throttled && engineTiles.all (fun t => inputOf inp.e t < m.get F.govCorepolCoreLo)
  let m := m.onDay fun y => { y with coreLow := if quiet then min 4095 (y.coreLow + 1) else 0 }
  if m.y.day.coreSince < 10 then m
  else if busy && 0 < step then m.setStep (step - 1)
  else if m.get F.govCorepolCoreN ≤ m.y.day.coreLow && step < m.get F.govBudgetMinStep then m.setStep (step + 1)
  else m

/-- The port of lowest utilisation that can be narrowed (R642). -/
def Module.quietest (m : Module) : Option Nat :=
  minBy (fun p => (KMap.getD m.y.day.ports p DayPort.init).u) (portList.filter m.canNarrow)

/-- Input power over the last 100 epochs, 0.1 W (R642). -/
def Module.avgPower (m : Module) : Nat := m.y.day.power.sum / max 1 m.y.day.power.length

/-- The power cap (R642): one action of an epoch in which the average exceeds pcap. -/
def Module.capPower (m : Module) : Module :=
  let step := m.get F.govStsStep
  if m.avgPower ≤ 10 * m.get F.govBudgetPcap then m
  else if step < m.get F.govBudgetMinStep then (if m.y.day.coreSince < 10 then m else m.setStep (step + 1))
  else
    match m.quietest with
    | some p => m.narrow p
    | none => m.raise pgGov Ev.capExceeded

/-- What a sensor at its throttle limit asks of an epoch (R646). -/
def Module.coolDown (m : Module) : Module :=
  if [0, 1, 2].any (fun k => decide (2 ≤ m.thermLevel k)) then
    let step := m.get F.govStsStep
    let m := if step < 3 then m.setStep (step + 1) else m
    match m.quietest with
    | some p => m.narrow p
    | none => m
  else m

/-- Ports that retrain. -/
def Module.retraining (m : Module) : Nat := (portList.filter (fun p => (m.port p).retrainEnd.isSome)).length

/-- A port whose window ran low retrains (R643). -/
def Module.lowWindow (m : Module) (p : Nat) : Module :=
  if m.flag (F.portWinLow p) && m.portFree p && m.retraining < m.get F.govBudgetMaxRt then
    ((m.retrain p).put (F.portWinLow p) 0).raise pgGov Ev.winRetrain
  else m

/-- What holds while GOV.CTL.en is 0 (R644): trained widths, awake tiles, 2.0 GHz. -/
def Module.unwind (m : Module) : Module :=
  let m := portList.foldl (fun m p =>
    let q := m.port p
    if m.portFree p && m.get (F.portLstsWidth p) < q.trained then m.widen p q.trained else m) m
  let m := (List.range 64).foldl (fun m t => m.wakeTile t) m
  if m.get F.govStsStep = 0 then m else m.setStep 0

/-- Whether a saving is in force (R619). -/
def Module.saving (m : Module) : Bool :=
  decide (0 < m.get F.govStsStep) || portList.any (fun p => m.isUp p && decide (m.get (F.portLstsWidth p) < (m.port p).trained)) ||
  engineTiles.any m.tileGated

/-- GOV.STS, and the moves between Noon and Afternoon (R617, R619). -/
def Module.showDay (m : Module) : Module :=
  let saving := m.saving
  let m := ((m.showGated.putFlag F.govStsSaving saving).put F.govStsRetraining m.retraining).put F.govStsPower (m.avgPower / 10)
  if m.mode = mNoon && saving && m.flag F.govCtlEn then m.enterMode mAfternoon
  else if m.mode = mAfternoon && !saving then m.enterMode mNoon
  else m

/-- An epoch of Daylight (R634). -/
def Module.epoch (m : Module) (inp : Epoch) : Module :=
  let m := (m.notePower inp.power).onDay fun y => { y with
    power := (inp.power :: y.power).take 100, coreSince := min 4095 (y.coreSince + 1), on := m.flag F.govCtlEn,
    widHi := m.get F.govPortpolWidHi, wideQ := m.get F.govPortpolWideQ }
  let m := portList.foldl (fun m p => m.countPort inp p) m
  let above := decide (10 * m.get F.govBudgetPcap < m.avgPower)
  let m :=
    if !m.flag F.govCtlEn then
      let m := if above then m else m.unwind
      (List.range 96).foldl (fun m n => m.decideLane n) m
    else if m.flag F.govCtlFreeze then m
    else
      let m := portList.foldl (fun m p => m.decideWidth p) m
      let m := (List.range 96).foldl (fun m n => m.decideLane n) m
      let m := (List.range 64).foldl (fun m t => m.decideTile inp t) m
      (m.decideStep inp).coolDown
  let m := m.capPower
  let m := portList.foldl (fun m p => m.lowWindow p) m
  m.showAsleep.showDay

/-- Meaning of DAYLIGHT_EPOCH (R492, R494, R617, R619, R634–R646): 10 µs have passed in a mode in which Daylight runs. -/
def execDaylightEpoch (inp : Epoch) (e : Env) (s : State) : Res :=
  s.run fun m =>
    let m := m.at e
    if m.mainOff || m.mode = mDawn then m else m.epoch inp

end Sys2Proof.Machine
end

