-- ==== Sys2Proof/Machine/Pins.lean ====
section
/-! DEFINITION. The sampler's controls and the counters' freeze and snapshot (R718–R735), and the pins of the connectors: reference
clocks, host links, sideband and console (R745–R757). -/

namespace Sys2Proof.Machine

/-! ## Freeze and snapshot -/

/-- Whether an offset of BAR0 holds a counter that the catalogue assigns (R717, R726). -/
def isCounter (a : Nat) : Bool :=
  match blockOf (a / 0x1000) with
  | none => false
  | some (b, _) => decide (0x800 ≤ a % 0x1000) && decide (a % 8 = 0) && decide ((a % 0x1000 - 0x800) / 8 < ctrCount b.blk)

/-- The counters of the pages that exist while their domain is stopped (R721). -/
def Module.stoppedCounters (m : Module) : List Nat :=
  let pages := (List.range 4).map pgHost ++ (List.range 96).map pgLane ++ [pgStore] ++ (List.range 16).map pgStch
  (pages.filter (fun p => !m.absent p && m.domStopped p (domOf (p * 0x1000)))).flatMap (fun p =>
    match blockOf p with
    | none => []
    | some (b, _) => (List.range (ctrCount b.blk)).map (fun n => p * 0x1000 + 0x800 + 8 * n))

/-- Every counter is copied at one instant (R718, R720, R721): a snapshot copy that is not listed reads 0. -/
def Module.snapshot (m : Module) : Module :=
  let live := m.regs.filter (fun (r : Nat × Word) => isCounter r.1)
  let all := m.stoppedCounters.foldl (fun l a => Sparse.write (fun _ => 0) l a (BitVec.ofNat 64 (2 ^ 64 - 1))) live
  ({ m with smp := { m.smp with snap := all } }).put F.sampleSnaptNs m.fabricNow

/-- Every lane's replaced symbols are counted up to now (R569). -/
def Module.settleInjections (m : Module) : Module := m.n.lanes.foldl (fun m l => m.settleInjection l.1) m

/-- A write of SAMPLE.CTR (R719, R720): freeze is set, then a snapshot is taken; it is complete at once, so snap reads 0. -/
def Module.sampleCtrWrite (m : Module) (w : Wr) : Module :=
  let a := F.sampleCtrFreeze.reg
  if !m.reaches a then m.regWrite a w
  else if !touches w.half 1 0 then m
  else
    let m := (m.settleInjections).put F.sampleCtrFreeze (bits w.value 0 0)
    if bit w.value 1 then m.snapshot else m

/-- Meaning of FREEZE (R718, R719). -/
def execFreeze (w : Wr) (e : Env) (s : State) : Res := s.runAs w.master fun m => (m.at e).sampleCtrWrite w

/-- Meaning of SNAPSHOT (R718, R720, R721). -/
def execSnapshot (w : Wr) (e : Env) (s : State) : Res := s.runAs w.master fun m => (m.at e).sampleCtrWrite w

/-! ## Sampling -/

/-- The ring in use, where there is one, is released once the last record for it is written (R733). -/
def Module.sampleLeave (m : Module) : Module :=
  if !m.smp.on then m
  else { m with smp := { m.smp with on := false, releasing := addNum m.smp.releasing m.smp.cr } }.sampleRelease

/-- The first check of R732 that a commit with en = 1 fails, 0 for none. -/
def Module.sampleCheck (m : Module) : Nat :=
  if 24 < m.get F.sampleCfgK then 1
  else
    match m.cr (m.get F.sampleCfgCr) with
    | none => 2
    | some c => if c.state ≠ .active || c.binds ≠ 0 then 2 else if c.pi % 2 ≠ 0 then 3 else 0

/-- A commit of SAMPLE.CFG (R68, R732, R733). -/
def Module.sampleCommit (m : Module) (e : Env) : Module :=
  if !m.flag F.sampleCfgEn then ((m.put F.sampleCfgResult 0).sampleLeave).put F.sampleStsActive 0
  else
    let cr := m.get F.sampleCfgCr
    let m := m.needCr e cr
    let r := m.sampleCheck
    let m := m.put F.sampleCfgResult r
    if r ≠ 0 then m
    else
      let m := m.sampleLeave.bind cr
      let smp := { m.smp with on := true, k := m.get F.sampleCfgK, wqSel := m.get F.sampleCfgWqSel, cr := cr }
      { m with smp := smp }.put F.sampleStsActive 1

/-- A write of SAMPLE.CFG (R67–R69): the staged fields, then the commit. -/
def Module.sampleCfgWrite (m : Module) (e : Env) (w : Wr) : Module :=
  let a := F.sampleCfgEn.reg
  let m1 := m.regWrite a w
  if m.reaches a && bit (writeOnes w) 63 then m1.sampleCommit e else m1

/-- Meaning of SAMPLE_ENABLE (R147, R727, R732). -/
def execSampleEnable (w : Wr) (e : Env) (s : State) : Res := s.runAs w.master fun m => (m.at e).sampleCfgWrite e w

/-- Meaning of SAMPLE_DISABLE (R147, R733). -/
def execSampleDisable (w : Wr) (e : Env) (s : State) : Res := s.runAs w.master fun m => (m.at e).sampleCfgWrite e w

/-! ## Network reference clocks -/

/-- Whether a network input is good. -/
def Module.nrefOk (m : Module) (i : Nat) : Bool := if i = 0 then m.flag F.clkNrefOk0 else m.flag F.clkNrefOk1

/-- A network input is judged good, or lost. -/
def Module.setNrefOk (m : Module) (i : Nat) (ok : Bool) : Module :=
  if i = 0 then m.putFlag F.clkNrefOk0 ok else m.putFlag F.clkNrefOk1 ok

/-- Every running lane loses symbol lock, and the ports retrain (R756). -/
def Module.nrefGlitch (m : Module) : Module :=
  (List.range 96).foldl (fun m n => if m.flag (F.laneRxstsLock n) then m.loseLock n else m) m

/-- The module switches to a network input (R756). -/
def Module.nrefSwitch (m : Module) (i : Nat) : Module := ((m.put F.clkNrefAct i).raise pgClk Ev.nrefSwitch).nrefGlitch

/-- Both network inputs are lost (R757): every port goes down, its lanes stop, and fabric time runs on the crystal. -/
def Module.nrefGone (m : Module) : Module :=
  let m := portList.foldl (fun m p =>
    let m := m.linkDown p true
    (m.lanesOf p).foldl (fun m n => if m.laneStage n = lgOff then m else m.stopLane n) m) m
  ((m.loseSync.put F.timeStsHoldover 1).slewTo 0).raise pgClk Ev.nrefNone

/-- Meaning of NREF_LOST (R755–R757). -/
def execNrefLost (i : Fin 2) (e : Env) (s : State) : Res :=
  s.run fun m =>
    let m := m.at e
    let i := i.val
    if !m.nrefOk i then m
    else
      let m := (m.setNrefOk i false).raise pgClk Ev.nrefLost
      let other := m.nrefOk (1 - i)
      if m.get F.clkNrefAct ≠ i then m
      else if other && m.flag F.clkNrefAuto then if m.mainOff then m.put F.clkNrefAct (1 - i) else m.nrefSwitch (1 - i)
      else if m.mainOff then if other then m else m.raise pgClk Ev.nrefNone
      else if other then m.nrefGlitch else m.nrefGone

/-- Meaning of NREF_GOOD (R755, R757): with neither input good before, the module uses this one and the ports come up anew. -/
def execNrefGood (i : Fin 2) (e : Env) (s : State) : Res :=
  s.run fun m =>
    let m := m.at e
    let i := i.val
    if m.nrefOk i then m
    else
      let first := !m.nrefOk (1 - i)
      let m := m.setNrefOk i true
      let m := if first then m.put F.clkNrefAct i else m
      if m.get F.clkNrefAct ≠ i || m.mainOff then m
      else portList.foldl (fun m p =>
        if m.flag (F.portLctlEn p) && m.lstate p = lsDown then m.restartLanes p else m) m

/-- A write of CLK.NREF (R756): auto and sel are stored; naming a good input that is not in use switches to it. -/
def Module.nrefWrite (m : Module) (w : Wr) : Module :=
  let a := F.clkNrefSel.reg
  let m1 := m.regWrite a w
  if !m.reaches a || !touches w.half 0 0 then m1
  else
    let sel := bits w.value 0 0
    let m := m1.put F.clkNrefSel sel
    if !m.nrefOk sel || m.get F.clkNrefAct = sel then m
    else if m.mainOff then (m.put F.clkNrefAct sel).raise pgClk Ev.nrefSwitch else m.nrefSwitch sel

/-- Meaning of NREF_SELECT (R756). -/
def execNrefSelect (w : Wr) (e : Env) (s : State) : Res := s.runAs w.master fun m => (m.at e).nrefWrite w

/-! ## Host links -/

/-- Meaning of REF_LOST (R747): the link goes down as by a host link reset. -/
def execRefLost (i : Fin 4) (e : Env) (s : State) : Res :=
  s.run fun m =>
    let m := m.at e
    let i := i.val
    let m := { m with y := { m.y with refLost := addNum m.y.refLost i } }
    if !m.hostThere i then m
    else
      let m := m.hostReset e i (m.y.perstLow.contains i)
      (m.put (F.hostLstsRefclkLost i) 1).raise (pgHost i) Ev.refLost

/-- Meaning of REFCLK_RETURN (R747). -/
def execRefclkReturn (i : Fin 4) (e : Env) (s : State) : Res :=
  s.run fun m =>
    let m := m.at e
    let i := i.val
    let m := { m with y := { m.y with refLost := m.y.refLost.filter (· ≠ i) } }
    if m.hostThere i then m.put (F.hostLstsRefclkLost i) 0 else m

/-- Lanes of a link in its arrangement (R743). -/
def arrangedWidth (hostMode i : Nat) : Nat :=
  match hostMode with
  | 0 => 16
  | 1 => if i = 0 then 16 else 8
  | _ => 8

/-- Meaning of HOST_LINK_UP (R743, R745, R746): the link reaches L0 at a rate and width; PERST_N is then high. -/
def execHostLinkUp (i : Fin 4) (rate : Fin 8) (width : Fin 17) (rev atomic : Bool) (e : Env) (s : State) : Res :=
  s.run fun m =>
    let m := m.at e
    let i := i.val
    let full := arrangedWidth m.hostMode i
    let ok := m.hostThere i && !m.linkUp i && !m.y.refLost.contains i && decide (1 ≤ rate.val) &&
      [1, 2, 4, 8, 16].contains width.val && decide (width.val ≤ full)
    if !ok then m
    else
      let m := (m.notePerst i false).put (F.hostLstsPerst i) 0
      let slow := decide (rate.val < 5) || decide (width.val < full)
      let m := ((m.put (F.hostLstsUp i) 1).put (F.hostLstsRate i) rate.val).put (F.hostLstsWidth i) width.val
      let m := ((m.putFlag (F.hostLstsRev i) rev).putFlag (F.hostLstsSlow i) slow).putFlag (F.hostLstsAtomic i) atomic
      let m := m.raise (pgHost i) Ev.hostUp
      (if slow then m.raise (pgHost i) Ev.slow else m).noteHosts

/-! ## Sideband and console -/

/-- Meaning of DYNAMIC_ADDRESS_ASSIGNMENT (R748). -/
def execDynamicAddressAssignment (addr : BitVec 7) (s : State) : Res :=
  s.run fun m => { m with y := { m.y with dynAddr := some addr.toNat } }

/-- Meaning of RSTDAA (R748). -/
def execRstdaa (s : State) : Res := s.run fun m => { m with y := { m.y with dynAddr := none } }

/-- Meaning of CONSOLE_INPUT (R750): accepted in OPEN, in RETURNED, or after a debug unlock. -/
def execConsoleInput (c : Byte) (s : State) : Res :=
  s.run fun m =>
    if m.fuses.lifecycle = 0 || m.fuses.lifecycle = 2 || m.flag F.trustStsDebug then
      { m with y := { m.y with console := m.y.console ++ [c] } }
    else m

end Sys2Proof.Machine
end

