-- ==== Sys2Proof/Machine/Trust.lean ====
section
/-! DEFINITION. Reports, messages on the sideband, firmware update, the ND 0 key and the debug unlock (R696, R702, R706–R712). -/

namespace Sys2Proof.Machine

/-! ## Firmware update -/

/-- Results of FWCTL. -/
def fwDone : Nat := 0
def fwWrongMode : Nat := 1
def fwFormat : Nat := 4
def fwNotConfirmed : Nat := 5

/-- Whether open, write, verify and activate are accepted (R712). -/
def Module.mayUpdate (m : Module) : Bool := m.mode = mSmallHours || (m.mode = mDawn && m.y.recovery)

/-- Whether confirm and advance are accepted (R712). -/
def Module.mayConfirm (m : Module) : Bool := m.noonish || m.mode = mSmallHours

/-- The module with its boot flash changed. -/
def Module.onNor (m : Module) (f : Nor → Nor) : Module := { m with y := { m.y with nor := f m.y.nor } }

/-- An operation of FWCTL ends with a result. -/
def Module.fwEnd (m : Module) (r : Nat) : Module := (m.put F.trustFwctlResult r).raise (pgTrust 0) Ev.fwDone

/-- Open (R712): the slot is erased, and no slot is pending. -/
def Module.fwOpen (m : Module) (slot : Nat) : Nat × Module :=
  let active := (m.y.nor.dir.map (·.active)).getD 0xFF
  if !m.mayUpdate then (fwWrongMode, m)
  else if 1 < slot || (!m.y.recovery && (1 < active || slot = active)) then (fwFormat, m)
  else
    let m := m.onNor fun n => { n.setSlot slot [] with barred := n.barred.filter (· ≠ slot) }
    (fwDone, m.onNor fun n => n.setDir fun (d : Dir) => { d with pending := 0xFF, tries := 0 })

/-- Write (R707, R712): 1 to 4096 bytes are programmed at an offset of the slot; none outside it. -/
def Module.fwWrite (m : Module) (slot off : Nat) (bs : List Byte) : Nat × Module :=
  if !m.mayUpdate then (fwWrongMode, m)
  else if bs.isEmpty || 4096 < bs.length || slotBytes < off + bs.length then (fwFormat, m)
  else (fwDone, m.onNor fun n => n.program slot off bs)

/-- Verify (R712): steps 2–4 of R693, and every digest. -/
def Module.fwVerify (m : Module) (slot : Nat) : Nat :=
  if !m.mayUpdate then fwWrongMode
  else
    let r := m.checkImage slot
    if r ≠ 0 then r
    else if (imgComps (m.y.nor.header slot)).all (fun c => m.y.nor.digestOk slot c) then fwDone
    else fwFormat

/-- Activate (R712): the directory names the slot as pending, with tries 3. -/
def Module.fwActivate (m : Module) (slot : Nat) : Nat × Module :=
  if !m.mayUpdate then (fwWrongMode, m)
  else (fwDone, m.onNor fun n => n.setDir fun (d : Dir) => { d with pending := slot, tries := 3 })

/-- Confirm (R712): the booted slot, which is pending, becomes active. -/
def Module.fwConfirm (m : Module) : Nat × Module :=
  let booted := m.get F.trustStsSlot
  if !m.mayConfirm then (fwWrongMode, m)
  else if m.y.nor.dir.map (·.pending) ≠ some booted then (fwNotConfirmed, m)
  else (fwDone, m.onNor fun n => n.setDir fun (d : Dir) => { d with active := booted, pending := 0xFF, tries := 0 })

/-- Advance (R696): each fuse counter is raised to the running svn; the other slot is no fallback where it holds less. -/
def Module.fwAdvance (m : Module) : Nat × Module :=
  let booted := m.get F.trustStsSlot
  if !m.mayConfirm then (fwWrongMode, m)
  else if m.y.nor.dir.map (fun d => (d.active, decide (d.pending ≤ 1))) ≠ some (booted, false) then (fwNotConfirmed, m)
  else
    let up (old run : Nat) : Nat := max old (min 64 run)
    let f := m.fuses
    let f1 := { f with ctr1 := up f.ctr1 (m.get F.trustSvnRun1), ctr2 := up f.ctr2 (m.get F.trustSvnRun2),
                       ctr3 := up f.ctr3 (m.get F.trustSvnRun3) }
    let m := { m with fuses := f1 }
    let m := ((m.put F.trustSvnCtr1 f1.ctr1).put F.trustSvnCtr2 f1.ctr2).put F.trustSvnCtr3 f1.ctr3
    let other := 1 - booted
    let low := (imgComps (m.y.nor.header other)).any (fun c => c.svn < f1.ctr c.id)
    (fwDone, if low then m.onNor fun n => { n with barred := addNum n.barred other } else m)

/-- The image bytes in FWWIN. -/
def Module.window (m : Module) : List Byte :=
  (List.range 128).flatMap (fun k => leBytes 8 (m.word (F.trustFwwinData k).reg).toNat)

/-- A write of FWCTL (R696, R712): slot is set, and the first operation that the write names runs. -/
def Module.fwctlWrite (m : Module) (w : Wr) : Module :=
  let a := F.trustFwctlSlot.reg
  if !m.reaches a then m.regWrite a w
  else
    let m := m.regWrite a w
    let v := writeOnes w
    let slot := m.get F.trustFwctlSlot
    let finish (r : Nat × Module) : Module := r.2.fwEnd r.1
    if bit v 63 then finish (m.fwOpen slot)
    else if bit v 62 then finish (m.fwWrite slot (m.get F.trustFwoffOffset * 1024) m.window)
    else if bit v 61 then m.fwEnd (m.fwVerify slot)
    else if bit v 60 then finish (m.fwActivate slot)
    else if bit v 59 then finish m.fwConfirm
    else if bit v 58 then finish m.fwAdvance
    else m

/-! ## Messages -/

/-- An answer on the sideband (R707): code, tag, status, a zero byte, and the body. -/
def Module.mctpReply (m : Module) (msg : List Byte) (status : Nat) (body : List Byte) : Module :=
  m.emit (.mctp ([(msg[0]?).getD 0, (msg[1]?).getD 0, BitVec.ofNat 8 status, 0] ++ body))

/-- The status of a message for a result of FWCTL (R707). -/
def fwStatus (r : Nat) : Nat :=
  match r with
  | 0 => 0
  | 1 => 2
  | 6 => 4
  | _ => 3

/-- A firmware message ends as the FWCTL operation does. -/
def fwMsg (msg : List Byte) (r : Nat × Module) : Module := (r.2.fwEnd r.1).mctpReply msg (fwStatus r.1) []

/-- Time as a report gives it: what a read of TIME.NOW returns. -/
def Module.reportTime (m : Module) : Nat := if m.mainOff then 2 ^ 64 - 1 else m.fabricNow

/-- GET_REPORT (R702, R707, R710). -/
def Module.msgReport (m : Module) (msg : List Byte) (bad : Nat) : Module :=
  if m.fuses.lifecycle = 2 then m.mctpReply msg 2 []
  else
    match m.report (nbit (fieldLE msg 4 4) 0) ((msg.drop 8).take 32) bad m.reportTime with
    | (none, m) => m.mctpReply msg 5 []
    | (some r, m) => m.mctpReply msg 0 r

/-- GET_CERT (R707). -/
def Module.msgCert (m : Module) (msg : List Byte) : Module := m.mctpReply msg 0 (fitBytes 1844 m.y.nor.cert)

/-- SET_MGMT_KEY (R709, R710). -/
def Module.msgKey (m : Module) (msg : List Byte) : Module :=
  if m.fuses.lifecycle = 2 then m.mctpReply msg 2 []
  else
    let key := leNat (fitBytes 32 (msg.drop 4))
    let m := m.onNor fun n => { n with mgmtKey := some (aesWrap wrapKey (fitBytes 32 (msg.drop 4))) }
    let m := if m.mainOff then m else m.fillSlot 0 0 key
    let (d, m) := m.freeDigest
    (m.logAdd { kind := 9, slot := 0xFF, svn := 0, version := 0, digest := d }).mctpReply msg 0 []

/-- DEBUG_CHALLENGE (R711): a fresh challenge, which answers one unlock at most. -/
def Module.msgChallenge (m : Module) (msg : List Byte) : Module :=
  let (d, m) := m.draw
  let c := leBytes 32 d
  { m with y := { m.y with challenge := some c } }.mctpReply msg 0 c

/-- DEBUG_UNLOCK (R703, R711). -/
def Module.msgUnlock (m : Module) (msg : List Byte) : Module :=
  match m.y.challenge with
  | none => m.mctpReply msg 3 []
  | some c =>
    let m := { m with y := { m.y with challenge := none } }
    let said := leBytes 4 m.fuses.serial ++ c
    let sig := fitBytes 1776 (msg.drop 4)
    if m.rootSigned 0 said sig || m.rootSigned 1 said sig then
      let m := m.logAdd { kind := 8, slot := 0xFF, svn := 0, version := 0, digest := sha256 msg }
      ((m.put F.trustStsDebug 1).raise (pgTrust 0) Ev.debugUnlock).mctpReply msg 0 []
    else m.mctpReply msg 3 []

/-- The code of a message. -/
def msgCode (msg : List Byte) : Nat := fieldLE msg 0 1

/-- A message but REG_ACCESS (R694, R707): an unknown code, and what the recovery responder does not accept, are answered by their
status. -/
def Module.mctpPlain (m : Module) (msg : List Byte) (bad : Nat) : Module :=
  let slot := m.get F.trustFwctlSlot
  let code := msgCode msg
  if m.mode = mDawn && m.y.recovery && code ≠ 0x01 && !(decide (0x10 ≤ code) && decide (code ≤ 0x15)) then m.mctpReply msg 2 []
  else
    match code with
    | 0x01 => m.msgReport msg bad
    | 0x02 => m.msgCert msg
    | 0x03 => m.msgKey msg
    | 0x10 =>
      let k := fieldLE msg 4 1
      let (r, m) := m.fwOpen k
      fwMsg msg (r, if r = 0 then m.put F.trustFwctlSlot k else m)
    | 0x11 => fwMsg msg (m.fwWrite slot (fieldLE msg 4 4) (msg.drop 8))
    | 0x12 =>
      let r := m.fwVerify slot
      (m.fwEnd r).mctpReply msg (fwStatus r) [BitVec.ofNat 8 r]
    | 0x13 => fwMsg msg (m.fwActivate slot)
    | 0x14 => fwMsg msg m.fwConfirm
    | 0x15 => fwMsg msg m.fwAdvance
    | 0x20 => m.msgChallenge msg
    | 0x21 => m.msgUnlock msg
    | _ => m.mctpReply msg 1 []

/-- A request of the firmware update: a write of FWCTL, or a message. -/
def Module.fwRequest (m : Module) (r : FwReq) : Module :=
  match r with
  | .reg w => if m.masterReaches w.master.toNat then m.fwctlWrite w else m
  | .mctp msg => m.mctpPlain msg 0

/-- Meaning of FW_OPEN (R712). -/
def execFwOpen (r : FwReq) (e : Env) (s : State) : Res := s.run fun m => (m.at e).fwRequest r

/-- Meaning of FW_WRITE (R712). -/
def execFwWrite (r : FwReq) (e : Env) (s : State) : Res := s.run fun m => (m.at e).fwRequest r

/-- Meaning of FW_VERIFY (R691–R693, R695, R712). -/
def execFwVerify (r : FwReq) (e : Env) (s : State) : Res := s.run fun m => (m.at e).fwRequest r

/-- Meaning of FW_ACTIVATE (R690, R712). -/
def execFwActivate (r : FwReq) (e : Env) (s : State) : Res := s.run fun m => (m.at e).fwRequest r

/-- Meaning of FW_CONFIRM (R690, R712). -/
def execFwConfirm (r : FwReq) (e : Env) (s : State) : Res := s.run fun m => (m.at e).fwRequest r

/-- Meaning of FW_ADVANCE (R695, R696, R712). -/
def execFwAdvance (r : FwReq) (e : Env) (s : State) : Res := s.run fun m => (m.at e).fwRequest r

/-- Meaning of GET_REPORT (R698, R701, R702, R705, R707, R710); `bad` signatures fail their check first. -/
def execGetReport (msg : List Byte) (bad : Nat) (e : Env) (s : State) : Res := s.run fun m => (m.at e).mctpPlain msg bad

/-- Meaning of GET_CERT (R707). -/
def execGetCert (msg : List Byte) (e : Env) (s : State) : Res := s.run fun m => (m.at e).mctpPlain msg 0

/-- Meaning of SET_MGMT_KEY (R708–R710). -/
def execSetMgmtKey (msg : List Byte) (e : Env) (s : State) : Res := s.run fun m => (m.at e).mctpPlain msg 0

/-- Meaning of DEBUG_CHALLENGE (R711). -/
def execDebugChallenge (msg : List Byte) (e : Env) (s : State) : Res := s.run fun m => (m.at e).mctpPlain msg 0

/-- Meaning of DEBUG_UNLOCK (R703, R711). -/
def execDebugUnlock (msg : List Byte) (e : Env) (s : State) : Res := s.run fun m => (m.at e).mctpPlain msg 0

/-! ## GET_ATTESTATION -/

/-- The access of an address in the body of an admin command (R161, R183). -/
def bodyReq (asid va : Nat) : XReq :=
  { asid := asid, va := va % 2 ^ 64, acc := .localWrite, user := false, allowSe := true, engine := 0, source := 7, object := 0 }

/-- A report goes to dst_va (R706): a fault is found, and recorded, before anything is written. -/
def Module.attest (m : Module) (e : Env) (c : WqCtx) (va n : Nat) (cert : Bool) (nonce : List Byte) (bad : Nat) : Module :=
  match (m.writeVirt e c.link (bodyReq c.asid va) (List.replicate n 0)).1 with
  | some (_, off) => ((m.translate e (bodyReq c.asid (va + off))).2).adminEnd stAdminInvalid 0 0x10
  | none =>
    match m.report cert nonce bad m.fabricNow with
    | (none, m) => m.adminEnd stAdminNoResource 0 0
    | (some r, m) => ((m.writeVirt e c.link (bodyReq c.asid va) r).2).adminOk r.length

/-- Meaning of GET_ATTESTATION (R141, R142, R183, R698, R701, R702, R706, R710). -/
def execGetAttestation (bad : Nat) (e : Env) (s : State) : Res :=
  s.admin 0xC0 e fun m w =>
    let flags := wqeField w 0x1C 4
    let n := m.reportLength (nbit flags 0)
    m.checked [(m.fuses.lifecycle ≠ 2, stAdminState, 0), (n ≤ wqeField w 0x18 4, stAdminInvalid, 0x18),
        (flags < 2, stAdminInvalid, 0x1C)] fun m =>
      match m.wq 0 with
      | none => m
      | some c => m.attest e c (wqeField w 0x10 8) n (nbit flags 0) (((wordBytes w).drop 0x20).take 32) bad

end Sys2Proof.Machine
end

