-- ==== Sys2Proof/Machine/RegAccess.lean ====
section
/-! DEFINITION. Any access to the register space: what a write of any register does (R58–R69), what a read of any register or
of a counter view returns (R50, R51, R64, R714–R724), and the accesses that come in packets and messages (R245–R247, R707). -/

namespace Sys2Proof.Machine

/-! ## Writes -/

/-- A write of SEM.LOCK[n] (R82–R85). -/
def Module.semWrite (m : Module) (n : Nat) (w : Wr) : Module :=
  if bits w.value 3 0 ≠ 0 then m.semClaim n w
  else if m.get (F.semLockOwner n) = w.master.toNat then m.semRelease n w
  else m.semForce n w

/-- A write of a register of check-value unit u, at an offset from the unit's first register (R89–R93). -/
def Module.chkWrite (m : Module) (u off addr : Nat) (w : Wr) : Module :=
  match off with
  | 0x00 => if bit (writeOnes w) 2 then m.chkStart u w else m.chkSel u w
  | 0x18 => m.chkFeed u .feed8 w
  | 0x20 => m.chkFeed u .feed16 w
  | 0x28 => m.chkFeed u .feed32 w
  | _ => m.regWrite addr w

/-- A write of TIME.CFG: gm takes effect on the source and shows in TIME.STS (R383). -/
def Module.timeCfgWrite (m : Module) (addr : Nat) (w : Wr) : Module :=
  let m1 := m.regWrite addr w
  if m.reaches addr then m1.showSource else m1

/-- A write of ROUTE.GDATA: the entry of GSEL.index in the staging copy, nothing where GSEL.view is 1 (R459). -/
def Module.gdataWrite (m : Module) (w : Wr) : Module :=
  let a := F.routeGdataEntry.reg
  if !m.reaches a then m.regWrite a w
  else if m.flag F.routeGselView then m
  else
    let g := m.get F.routeGselIndex
    { m with n := { m.n with grtStage := grtSet m.n.grtStage g (mergeHalf w.half (grtWord m.n.grtStage g) w.value) } }

/-- A write of a register outside the page header and the counters, by its block, its instance and its offset in the page. -/
def Module.blockWrite (m : Module) (e : Env) (b : Blk) (i off addr : Nat) (w : Wr) : Module :=
  match b with
  | .dev => if off = 0x048 then m.groupWrite w else m.regWrite addr w
  | .mode => if off = 0x048 then m.modeReqWrite w e else if off = 0x058 then m.causeWrite w else m.regWrite addr w
  | .pwr => if off = 0x040 then m.pwrCtl w else m.regWrite addr w
  | .clk => if off = 0x040 then m.nrefWrite w else m.regWrite addr w
  | .rst => if off = 0x040 then m.rstWrite e w else m.regWrite addr w
  | .trust => if i = 1 && off = 0x040 then m.fwctlWrite w else m.regWrite addr w
  | .sem =>
    if off = 0x0C0 then m.semWait w else if 0x800 ≤ off then m.semWrite ((off - 0x800) / 8) w else m.regWrite addr w
  | .chk => if 0x100 ≤ off && off < 0x300 then m.chkWrite ((off - 0x100) / 64) (off % 64) addr w else m.regWrite addr w
  | .evt =>
    if 0x800 ≤ off then m.entryWrite (256 * i + (off - 0x800) / 8) w
    else if off < 0x060 then m.srcpndClear i ((off - 0x40) / 8) w
    else if i = 0 && off = 0x080 then m.swset w
    else m.regWrite addr w
  | .time => if off = 0x058 then m.timeCfgWrite addr w else if off = 0x060 then m.timeSet w else m.regWrite addr w
  | .sample =>
    if off = 0x040 then m.sampleCtrWrite w else if off = 0x050 then m.sampleCfgWrite e w else m.regWrite addr w
  | .xpt => if i = 0 && 0x400 ≤ off && off < 0x800 then m.bucketWrite (regAddr addr) w else m.regWrite addr w
  | .store =>
    if off = 0x040 then m.storeCfgWrite addr w else if off = 0x090 then m.formatWrite w else m.regWrite addr w
  | .port =>
    if off = 0x050 then m.lctlWrite i w else if off = 0x058 then m.lwidWrite i w
    else if off = 0x070 then m.spareWrite i w else m.regWrite addr w
  | .psch =>
    if off = 0x0C0 then m.gctlWrite i w else if 0x080 ≤ off && off < 0x0C0 then m.bucketWrite (regAddr addr) w
    else m.regWrite addr w
  | .lane =>
    if off = 0x040 then m.modeWrite i w else if off = 0x048 then m.txeqWrite i w else if off = 0x060 then m.rxctlWrite i w
    else if off = 0x068 then m.scanWrite i w else if off = 0x050 then m.pgenWrite i addr w else m.regWrite addr w
  | .route =>
    if off = 0x060 then m.rcmdWrite w else if off = 0x070 then m.gdataWrite w
    else if off = 0x078 then (if touches w.half 31 0 then m.hlthWrite w else m)
    else if off = 0x080 then m.qctlWrite w else m.regWrite addr w
  | .tile => if off = 0x048 then m.nogate i w else m.regWrite addr w
  | .gov | .therm | .host | .qctl | .admin | .dtu | .match | .coll | .mesh | .stch => m.regWrite addr w

/-- A write of any register of BAR0 (R13, R50–R52, R55, R58, R62, R65, R67–R69, R716, R717, R766). -/
def Module.writeAny (m : Module) (e : Env) (addr : Nat) (w : Wr) : Module :=
  let a := regAddr addr
  let page := a / 0x1000
  let off := a % 0x1000
  match blockOf page with
  | none => m.regWrite addr w
  | some (b, i) =>
    if off = 0x018 then m.pgCtlWrite e page w
    else if off = 0x038 then m.pendClear page w
    else if off < 0x040 then m.regWrite addr w
    else if 0x800 ≤ off && ctrCount b.blk ≠ 0 then m.counterWrite page ((off - 0x800) / 8) w
    else m.blockWrite e b.blk i off addr w

/-- Whether a write's address suits its size (R11, R763): a whole register at a multiple of 8, a half at a multiple of 4. -/
def wrAligned (w : Wr) (addr : Nat) : Bool :=
  match w.half with
  | .full => decide (addr % 8 = 0)
  | .lo => decide (addr % 4 = 0)
  | .hi => decide (addr % 4 = 0)

/-- Meaning of REGISTER_WRITE (R13, R58, R65, R67–R69, R763, R766): a write that is not aligned is refused and recorded. -/
def execRegisterWrite (addr : BitVec 24) (w : Wr) (e : Env) (s : State) : Res :=
  s.runAs w.master fun m =>
    if wrAligned w addr.toNat then (m.at e).writeAny e addr.toNat w
    else m.accessError true true w.master.toNat (domOf (regAddr addr.toNat)) addr.toNat

/-! ## Reads -/

/-- The tile a page's block lives in, where a tile of R469 holds it. -/
def tileOfPage (b : Blk) (i : Nat) : Option Nat :=
  match b with
  | .tile => some i
  | .port | .psch => some (tileOf 1 i)
  | .host => some (tileOf 2 i)
  | .xpt => some (tileOf 3 i)
  | .match => some (tileOf 4 i)
  | .coll => some (tileOf 5 i)
  | .qctl | .admin => some (tileOf 6 0)
  | .dtu => some (tileOf 7 0)
  | .store | .stch => some (tileOf 8 0)
  | _ => none

/-- EVT_RAW of a page (R21, R56): the causes that are conditions. A cause that is an occurrence shows for one cycle only, and reads 0. -/
def Module.evtRaw (m : Module) (b : Blk) (i : Nat) : Word :=
  match b with
  | .dev => BitVec.ofNat 64 (b2n m.straps.differs * 2 ^ Ev.strapChanged)
  | .port => BitVec.ofNat 64 (b2n (isPort i && m.lstate i = lsDown) * 2 ^ Ev.linkDown)
  | .host => BitVec.ofNat 64 (b2n (!m.linkUp i) * 2 ^ Ev.hostDown)
  | _ => 0

/-- The sources that a register SRCPND j of page EVT[k] shows asserted (R73). -/
def Module.srcpnd (m : Module) (k j : Nat) : Word :=
  BitVec.ofNat 64 (((List.range 64).map (fun i => if m.asserted (256 * k + 64 * j + i) then 2 ^ i else 0)).sum)

/-- The entry of a port's schedule that is in force at a fabric time (R414, R418): 0 without a schedule. -/
def Sched.entryAt (s : Sched) (now : Nat) : Nat :=
  if !s.en || s.cycle = 0 then 0
  else
    let off := (((now : Int) - s.base) % (s.cycle : Int)).toNat
    ((List.range s.ents.length).find? (fun i => decide (off < ((s.ents.take (i + 1)).map (·.2)).sum))).getD 0

/-- What a register of a running page shows: some registers show what the state holds elsewhere. RESULT of a check-value unit shows its
formula in every state, after a reset too (log 129). -/
def Module.shown (m : Module) (a : Nat) : Word :=
  let page := a / 0x1000
  let off := a % 0x1000
  let w := m.word a
  match blockOf page with
  | none => w
  | some (b, i) =>
    match b.blk, off with
    | blk, 0x020 =>
      let gated := match tileOfPage blk i with
        | none => false
        | some t => m.tileGated t
      setBits (setBits w 62 62 (b2n gated)) 63 63 (b2n (m.y.resetWait && b.dom ≠ .aon))
    | blk, 0x028 => m.evtRaw blk i
    | .chk, _ =>
      if 0x100 ≤ off && off < 0x300 && off % 64 = 0x10 then
        let u := (off - 0x100) / 64
        let k := crcKind (m.get (F.chkCtlSel u))
        BitVec.ofNat 64 (m.get (F.chkValVal u) ^^^ k.xor)
      else w
    | .evt, _ =>
      if 0x800 ≤ off then setBits w 60 60 (b2n (m.asserted (256 * i + (off - 0x800) / 8)))
      else if 0x040 ≤ off && off < 0x060 then m.srcpnd i ((off - 0x40) / 8)
      else w
    | .time, 0x040 => BitVec.ofNat 64 m.fabricNow
    | .time, 0x048 => BitVec.ofNat 64 (m.fabricNow % 2 ^ 48 * 65536)
    | .psch, 0x0C8 => setBits w 3 0 (((m.port i).sched.map (fun (s : Sched) => s.entryAt m.fabricNow)).getD 0)
    | .route, 0x070 => grtWord (if m.flag F.routeGselView then m.n.grt else m.n.grtStage) (m.get F.routeGselIndex)
    | .trust, _ =>
      if i = 0 && 0x080 ≤ off && off < 0x0C0 then
        let k := (off - 0x80) / 8
        if k = 7 then setBits (Config.identityPub k) 63 32 0 else Config.identityPub k
      else w
    | _, _ => w

/-- What the MSI-X pages show a master (R51): its own link's table and pending bits; other masters do not reach them. -/
def Module.msixRead (m : Module) (master a : Nat) : Word :=
  if master = 0 || 4 < master then 0
  else
    let f := m.msixFn (master - 1)
    let off := a - 0xF00000
    if off < 0x8000 then f.word off
    else
      let k := (off - 0x8000) / 8
      BitVec.ofNat 64 (((List.range 64).map (fun i => if f.pend.contains (64 * k + i) then 2 ^ i else 0)).sum)

/-- A 64-bit read of a register of BAR0 by a master (R50–R52, R60, R64, R66): an absent page, a stopped domain, or what the register
shows. -/
def Module.readAny (m : Module) (master addr : Nat) : Word × Module :=
  let a := regAddr addr
  let page := a / 0x1000
  if isMsixPage page then (m.msixRead master a, m)
  else if m.absent page then
    let inst := match blockOf page with
      | none => 0
      | some (_, i) => i
    (if a % 0x1000 = 0 then setBits (setBits 0 27 16 page) 15 8 inst else 0, m)
  else if m.domStopped page (domOf a) then
    (BitVec.ofNat 64 (2 ^ 64 - 1), m.accessError false false master (domOf a) addr)
  else (m.settleInjections.shown a, m)

/-- A read of BAR4 (R722–R724): view 1 is the full view; live counters, then their snapshot copies, then zeros. -/
def Module.bar4Read (m : Module) (view page off : Nat) : Word :=
  let seen := view = 1 || (page < 0x240 && nbit (m.get (F.sampleUvisVis (page / 64))) (page % 64))
  let a := page * 0x1000 + 0x800 + off % 0x800 / 8 * 8
  if !seen || 0x1000 ≤ off || !isCounter a || m.absent page then 0
  else if 0x800 ≤ off then Sparse.read (fun _ => 0) m.smp.snap a
  else if m.domStopped page (domOf a) then BitVec.ofNat 64 (2 ^ 64 - 1)
  else m.settleInjections.word a

/-! ## Register entries in packets and messages -/

/-- An access is at an offset its size allows (R11). -/
def entryFits (op off : Nat) : Bool :=
  match op with
  | 1 | 2 => decide (off % 8 = 0)
  | 3 | 4 => decide (off % 4 = 0)
  | _ => false

/-- One register entry, performed by a master: status and value of its answer (R247). -/
def Module.entryAccess (m : Module) (e : Env) (master op addr value : Nat) : Nat × Nat × Module :=
  if !entryFits op addr then (1, 0, m)
  else
    let high := decide (addr % 8 = 4)
    let half : Half := if op = 2 then .full else if high then .hi else .lo
    let data := if op = 4 && high then value % 2 ^ 32 * 2 ^ 32 else value
    let w : Wr := { master := BitVec.ofNat 4 master, half := half, value := BitVec.ofNat 64 data }
    if op = 2 || op = 4 then (0, 0, m.writeAny e addr w)
    else
      let (v, m1) := m.readAny master addr
      (0, if op = 1 then v.toNat else if high then bits v 63 32 else bits v 31 0, m1)

/-- The 16-byte entries of a payload (R246). -/
def entriesOf : Nat → List Byte → List (List Byte)
  | 0, _ => []
  | n + 1, bs => if bs.length < 16 then [] else bs.take 16 :: entriesOf n (bs.drop 16)

/-- An entry of a response: the entry with its status and value (R247). -/
def entryAnswer (b : List Byte) (status value : Nat) : List Byte :=
  b.take 1 ++ leBytes 1 status ++ (b.drop 2).take 6 ++ leBytes 8 value

/-- The entries of a payload, performed in order by a master (R247). -/
def Module.entriesRun (m : Module) (e : Env) (master : Nat) : List (List Byte) → List Byte × Module
  | [] => ([], m)
  | b :: l =>
    let page := fieldLE b 2 2 % 2 ^ 12
    let off := fieldLE b 4 2 % 2 ^ 12
    let (status, value, m1) := m.entryAccess e master (fieldLE b 0 1) (page * 0x1000 + off) (fieldLE b 8 8)
    let (rest, m2) := m1.entriesRun e master l
    (entryAnswer b status value ++ rest, m2)

/-- What an arriving MGMT_REQ does at its connection (R245–R247); one that arrives in ND 0 in another class than TC7 is performed too, and
answered in its class (log 126). -/
def Module.mgmtEngine (m : Module) (e : Env) (p : Opened) (cid : Nat) : Verdict × Module :=
  let l := entriesOf 32 p.payload
  let (body, m1) :=
    if m.isManager p.src && p.nd = 0 then m.entriesRun e 10 l
    else (l.flatMap (fun b => entryAnswer b 2 0), m)
  let g := Msg.new .mgmtRsp wMgmtRsp p.tc body.length (.inline body)
  (.accept, m1.queueMsg cid { g with xdata := pXdata p % 2 ^ 16 })

/-- Meaning of MGMT_REQ (R60, R240, R241, R245–R247): performed once, as its PSN is accepted once. -/
def execMgmtReq (k : Nat) (e : Env) (s : State) : Res :=
  s.arriving k wMgmtReq e fun m p => m.rxPacket e p (fun m cid => m.mgmtEngine e p cid)

/-- Meaning of REG_ACCESS (R247, R694, R707): the entries are performed as master 8; the recovery responder refuses them. -/
def execRegAccess (msg : List Byte) (e : Env) (s : State) : Res :=
  s.run fun m =>
    let m := m.at e
    if msgCode msg ≠ 4 then m
    else if m.mode = mDawn && m.y.recovery then m.mctpReply msg 2 []
    else
      let (body, m1) := m.entriesRun e 8 (entriesOf 512 (msg.drop 4))
      m1.mctpReply msg 0 body

/-- Meaning of HOST_READ_RETURN (R138, R154, R161, R765): the payload of a connection's next packet, the producer shadow of a WQ, or
the consumer shadow of a CR. -/
def execHostReadReturn (a : ReadOf) (e : Env) (s : State) : Res :=
  s.run fun m =>
    let m := m.at e
    match a with
    | .payload cid => m.sendPacket e cid
    | .pi n => m.shadowPoll e n
    | .ci n => ((m.needCr e n).crReadShadow e n).drainHeld e n 16385

end Sys2Proof.Machine
end

