-- ==== Sys2Proof/Machine/Dispatch.lean ====
section
/-! DEFINITION. The dispatch of the commands: one arm for each constructor, each a call of the command's meaning. -/

namespace Sys2Proof.Machine

/-- What a command does to the state, everything but the queue of waiting commands. -/
def exec (i : Instr) (s : State) : Host.Outcome State Fault Refusal :=
  match i with
  | .coldReset auxReturn => Sys2Proof.Machine.execColdReset auxReturn s
  | .strapSample pins => Sys2Proof.Machine.execStrapSample pins s
  | .strapChanged pins => Sys2Proof.Machine.execStrapChanged pins s
  | .groupWrite w => Sys2Proof.Machine.execGroupWrite w s
  | .registerWrite addr w e => Sys2Proof.Machine.execRegisterWrite addr w e s
  | .refusedAccess master addr write => Sys2Proof.Machine.execRefusedAccess master addr write s
  | .stoppedDomainRead master addr => Sys2Proof.Machine.execStoppedDomainRead master addr s
  | .stoppedDomainWrite addr w => Sys2Proof.Machine.execStoppedDomainWrite addr w s
  | .pageLock page w => Sys2Proof.Machine.execPageLock page w s
  | .evtPendClear page w => Sys2Proof.Machine.execEvtPendClear page w s
  | .srcpndClear k j w => Sys2Proof.Machine.execSrcpndClear k j w s
  | .evtEntryWrite n w => Sys2Proof.Machine.execEvtEntryWrite n w s
  | .swset w => Sys2Proof.Machine.execSwset w s
  | .msixUnmask link vector => Sys2Proof.Machine.execMsixUnmask link vector s
  | .msixEnable link funcMask => Sys2Proof.Machine.execMsixEnable link funcMask s
  | .semClaim n w => Sys2Proof.Machine.execSemClaim n w s
  | .semRelease n w => Sys2Proof.Machine.execSemRelease n w s
  | .semForceRelease n w => Sys2Proof.Machine.execSemForceRelease n w s
  | .semWait w => Sys2Proof.Machine.execSemWait w s
  | .chkStart u w => Sys2Proof.Machine.execChkStart u w s
  | .chkSelWrite u w => Sys2Proof.Machine.execChkSelWrite u w s
  | .chkFeed u width w => Sys2Proof.Machine.execChkFeed u width w s
  | .queueBlockEnable w e => Sys2Proof.Machine.execQueueBlockEnable w e s
  | .queueBlockDisable w e => Sys2Proof.Machine.execQueueBlockDisable w e s
  | .wqDoorbell n link half value e => Sys2Proof.Machine.execWqDoorbell n link half value e s
  | .crDoorbell n link half value e => Sys2Proof.Machine.execCrDoorbell n link half value e s
  | .crArm n link value e => Sys2Proof.Machine.execCrArm n link value e s
  | .pushWrite n link off data e => Sys2Proof.Machine.execPushWrite n link off data e s
  | .shadowPoll n e => Sys2Proof.Machine.execShadowPoll n e s
  | .wqeFetch n e => Sys2Proof.Machine.execWqeFetch n e s
  | .wqeFetchReturn n data e => Sys2Proof.Machine.execWqeFetchReturn n data e s
  | .ciShadowWrite n e => Sys2Proof.Machine.execCiShadowWrite n e s
  | .unassignedOpcode id e => Sys2Proof.Machine.execUnassignedOpcode id e s
  | .completionWrite k e => Sys2Proof.Machine.execCompletionWrite k e s
  | .crShadowReread n e => Sys2Proof.Machine.execCrShadowReread n e s
  | .crOverflowTimeout n e => Sys2Proof.Machine.execCrOverflowTimeout n e s
  | .createWq e => Sys2Proof.Machine.execCreateWq e s
  | .destroyWq e => Sys2Proof.Machine.execDestroyWq e s
  | .wqCloseDone e => Sys2Proof.Machine.execWqCloseDone e s
  | .modifyWq e => Sys2Proof.Machine.execModifyWq e s
  | .createCr e => Sys2Proof.Machine.execCreateCr e s
  | .destroyCr e => Sys2Proof.Machine.execDestroyCr e s
  | .invalidateContext e => Sys2Proof.Machine.execInvalidateContext e s
  | .invalidateTlb e => Sys2Proof.Machine.execInvalidateTlb e s
  | .invalidateTlbDone e => Sys2Proof.Machine.execInvalidateTlbDone e s
  | .revokeRegion e => Sys2Proof.Machine.execRevokeRegion e s
  | .revokeDone e => Sys2Proof.Machine.execRevokeDone e s
  | .setDomainKey e => Sys2Proof.Machine.execSetDomainKey e s
  | .clearDomain e => Sys2Proof.Machine.execClearDomain e s
  | .clearDomainDone e => Sys2Proof.Machine.execClearDomainDone e s
  | .createMc e => Sys2Proof.Machine.execCreateMc e s
  | .destroyMc e => Sys2Proof.Machine.execDestroyMc e s
  | .createColl e => Sys2Proof.Machine.execCreateColl e s
  | .destroyColl e => Sys2Proof.Machine.execDestroyColl e s
  | .collContextFree e => Sys2Proof.Machine.execCollContextFree e s
  | .createMatch e => Sys2Proof.Machine.execCreateMatch e s
  | .destroyMatch e => Sys2Proof.Machine.execDestroyMatch e s
  | .matchContextFree e => Sys2Proof.Machine.execMatchContextFree e s
  | .nop e => Sys2Proof.Machine.execNop e s
  | .storeCreate e => Sys2Proof.Machine.execStoreCreate e s
  | .storeAppend e => Sys2Proof.Machine.execStoreAppend e s
  | .storeCommit e => Sys2Proof.Machine.execStoreCommit e s
  | .storeCommitDone k e => Sys2Proof.Machine.execStoreCommitDone k e s
  | .storeRead e => Sys2Proof.Machine.execStoreRead e s
  | .storeDelete e => Sys2Proof.Machine.execStoreDelete e s
  | .storeList e => Sys2Proof.Machine.execStoreList e s
  | .getAttestation bad e => Sys2Proof.Machine.execGetAttestation bad e s
  | .requestMode e => Sys2Proof.Machine.execRequestMode e s
  | .hostLinkReset ix perst e => Sys2Proof.Machine.execHostLinkReset ix perst e s
  | .functionReset ix e => Sys2Proof.Machine.execFunctionReset ix e s
  | .dtuEnable w => Sys2Proof.Machine.execDtuEnable w s
  | .walkReadReturn n data e => Sys2Proof.Machine.execWalkReadReturn n data e s
  | .hostReadReturn a e => Sys2Proof.Machine.execHostReadReturn a e s
  | .put id e => Sys2Proof.Machine.execPut id e s
  | .get id e => Sys2Proof.Machine.execGet id e s
  | .atomic id e => Sys2Proof.Machine.execAtomic id e s
  | .putSignal id e => Sys2Proof.Machine.execPutSignal id e s
  | .storePut id e => Sys2Proof.Machine.execStorePut id e s
  | .storeSync id e => Sys2Proof.Machine.execStoreSync id e s
  | .packetSend cid e => Sys2Proof.Machine.execPacketSend cid e s
  | .probe k e => Sys2Proof.Machine.execProbe k e s
  | .challenge k e => Sys2Proof.Machine.execChallenge k e s
  | .ack k e => Sys2Proof.Machine.execAck k e s
  | .nack k e => Sys2Proof.Machine.execNack k e s
  | .result k e => Sys2Proof.Machine.execResult k e s
  | .trimNotice k e => Sys2Proof.Machine.execTrimNotice k e s
  | .malformedPacket k e => Sys2Proof.Machine.execMalformedPacket k e s
  | .retransmitTimeout cid e => Sys2Proof.Machine.execRetransmitTimeout cid e s
  | .probeTimeout cid e => Sys2Proof.Machine.execProbeTimeout cid e s
  | .rnrRetransmit cid e => Sys2Proof.Machine.execRnrRetransmit cid e s
  | .ackDelay cid e => Sys2Proof.Machine.execAckDelay cid e s
  | .ndWaitExpiry cid e => Sys2Proof.Machine.execNdWaitExpiry cid e s
  | .xptEnable w => Sys2Proof.Machine.execXptEnable w s
  | .mgmtReq k e => Sys2Proof.Machine.execMgmtReq k e s
  | .putPacket k e => Sys2Proof.Machine.execPutPacket k e s
  | .putSignalPacket k e => Sys2Proof.Machine.execPutSignalPacket k e s
  | .getReq k e => Sys2Proof.Machine.execGetReq k e s
  | .getRsp k e => Sys2Proof.Machine.execGetRsp k e s
  | .atomicReq k e => Sys2Proof.Machine.execAtomicReq k e s
  | .atomicRsp k e => Sys2Proof.Machine.execAtomicRsp k e s
  | .storePutPacket k e => Sys2Proof.Machine.execStorePutPacket k e s
  | .storeSyncReq k e => Sys2Proof.Machine.execStoreSyncReq k e s
  | .storeSyncRsp k e => Sys2Proof.Machine.execStoreSyncRsp k e s
  | .tsend id e => Sys2Proof.Machine.execTsend id e s
  | .trecv id e => Sys2Proof.Machine.execTrecv id e s
  | .tprobe id e => Sys2Proof.Machine.execTprobe id e s
  | .tcancel id e => Sys2Proof.Machine.execTcancel id e s
  | .eager k e => Sys2Proof.Machine.execEager k e s
  | .rts k e => Sys2Proof.Machine.execRts k e s
  | .rdvGet k e => Sys2Proof.Machine.execRdvGet k e s
  | .rdvData k e => Sys2Proof.Machine.execRdvData k e s
  | .rdvCancel k e => Sys2Proof.Machine.execRdvCancel k e s
  | .coll id e => Sys2Proof.Machine.execColl id e s
  | .ctrAdd id e => Sys2Proof.Machine.execCtrAdd id e s
  | .trigList id e => Sys2Proof.Machine.execTrigList id e s
  | .triggerFire n e => Sys2Proof.Machine.execTriggerFire n e s
  | .up k e => Sys2Proof.Machine.execUp k e s
  | .down k e => Sys2Proof.Machine.execDown k e s
  | .downAck k e => Sys2Proof.Machine.execDownAck k e s
  | .repair k e => Sys2Proof.Machine.execRepair k e s
  | .abort k e => Sys2Proof.Machine.execAbort k e s
  | .downRetainTimeout x child e => Sys2Proof.Machine.execDownRetainTimeout x child e s
  | .timeSet w e => Sys2Proof.Machine.execTimeSet w e s
  | .synced e => Sys2Proof.Machine.execSynced e s
  | .syncLost e => Sys2Proof.Machine.execSyncLost e s
  | .packetStart p e => Sys2Proof.Machine.execPacketStart p e s
  | .bucketWrite addr w e => Sys2Proof.Machine.execBucketWrite addr w e s
  | .gateCommit p w e => Sys2Proof.Machine.execGateCommit p w e s
  | .schedSwitch p e => Sys2Proof.Machine.execSchedSwitch p e s
  | .packetReceive p seq pkt e => Sys2Proof.Machine.execPacketReceive p seq pkt e s
  | .dwellTrim id e => Sys2Proof.Machine.execDwellTrim id e s
  | .noticeDrop id e => Sys2Proof.Machine.execNoticeDrop id e s
  | .routeCommit w => Sys2Proof.Machine.execRouteCommit w s
  | .commitDone => Sys2Proof.Machine.execCommitDone s
  | .grtLoad w => Sys2Proof.Machine.execGrtLoad w s
  | .hlth w => Sys2Proof.Machine.execHlth w s
  | .quarantineSet w e => Sys2Proof.Machine.execQuarantineSet w e s
  | .quarantineClear w e => Sys2Proof.Machine.execQuarantineClear w e s
  | .offer o e => Sys2Proof.Machine.execOffer o e s
  | .grant id e => Sys2Proof.Machine.execGrant id e s
  | .cellEject id index ecc after singles e => Sys2Proof.Machine.execCellEject id index ecc after singles e s
  | .release id e => Sys2Proof.Machine.execRelease id e s
  | .grantTimeout id e => Sys2Proof.Machine.execGrantTimeout id e s
  | .tileWake n e => Sys2Proof.Machine.execTileWake n e s
  | .nogate n w => Sys2Proof.Machine.execNogate n w s
  | .link p flit e => Sys2Proof.Machine.execLink p flit e s
  | .replay p flit e => Sys2Proof.Machine.execReplay p flit e s
  | .idle p flit e => Sys2Proof.Machine.execIdle p flit e s
  | .badControlFlit p flit e => Sys2Proof.Machine.execBadControlFlit p flit e s
  | .uncorrectableCodeword p took boundary inPacket e => Sys2Proof.Machine.execUncorrectableCodeword p took boundary inPacket e s
  | .linkFlitTimer p e => Sys2Proof.Machine.execLinkFlitTimer p e s
  | .replayTimeout p e => Sys2Proof.Machine.execReplayTimeout p e s
  | .train p flit e => Sys2Proof.Machine.execTrain p flit e s
  | .trainFlitTimer p e => Sys2Proof.Machine.execTrainFlitTimer p e s
  | .exchangeTimeout p e => Sys2Proof.Machine.execExchangeTimeout p e s
  | .time p flit e => Sys2Proof.Machine.execTime p flit e s
  | .timeFlitTimer p e => Sys2Proof.Machine.execTimeFlitTimer p e s
  | .retrain p w e => Sys2Proof.Machine.execRetrain p w e s
  | .takeLinkDown p w e => Sys2Proof.Machine.execTakeLinkDown p w e s
  | .linkEnable p w e => Sys2Proof.Machine.execLinkEnable p w e s
  | .lockLossTimeout p e => Sys2Proof.Machine.execLockLossTimeout p e s
  | .graceFlush p e => Sys2Proof.Machine.execGraceFlush p e s
  | .widthGo p w e => Sys2Proof.Machine.execWidthGo p w e s
  | .widthReq p flit e => Sys2Proof.Machine.execWidthReq p flit e s
  | .widthAck p flit e => Sys2Proof.Machine.execWidthAck p flit e s
  | .widthRefuse p flit e => Sys2Proof.Machine.execWidthRefuse p flit e s
  | .widthYield p flit e => Sys2Proof.Machine.execWidthYield p flit e s
  | .widthMark p flit e => Sys2Proof.Machine.execWidthMark p flit e s
  | .widthPrep p flit e => Sys2Proof.Machine.execWidthPrep p flit e s
  | .widthReady p flit e => Sys2Proof.Machine.execWidthReady p flit e s
  | .addedLaneTimeout p e => Sys2Proof.Machine.execAddedLaneTimeout p e s
  | .spareRequest p w e => Sys2Proof.Machine.execSpareRequest p w e s
  | .spareReleaseWrite p w e => Sys2Proof.Machine.execSpareReleaseWrite p w e s
  | .spareReq p flit e => Sys2Proof.Machine.execSpareReq p flit e s
  | .spareAck p flit e => Sys2Proof.Machine.execSpareAck p flit e s
  | .spareReady p flit e => Sys2Proof.Machine.execSpareReady p flit e s
  | .spareRelease p flit e => Sys2Proof.Machine.execSpareRelease p flit e s
  | .spareRefuse p flit e => Sys2Proof.Machine.execSpareRefuse p flit e s
  | .bringupStageDone n seen e => Sys2Proof.Machine.execBringupStageDone n seen e s
  | .laneBringupComplete p e => Sys2Proof.Machine.execLaneBringupComplete p e s
  | .bringupFail n e => Sys2Proof.Machine.execBringupFail n e s
  | .lockLost n e => Sys2Proof.Machine.execLockLost n e s
  | .degraded n on e => Sys2Proof.Machine.execDegraded n on e s
  | .laneFailed n e => Sys2Proof.Machine.execLaneFailed n e s
  | .savedStateCopy n adapted e => Sys2Proof.Machine.execSavedStateCopy n adapted e s
  | .txeqCommit n w => Sys2Proof.Machine.execTxeqCommit n w s
  | .laneModeWrite n w e => Sys2Proof.Machine.execLaneModeWrite n w e s
  | .scanStart n w => Sys2Proof.Machine.execScanStart n w s
  | .scanDone n errors e => Sys2Proof.Machine.execScanDone n errors e s
  | .pchkSyncLost n errors e => Sys2Proof.Machine.execPchkSyncLost n errors e s
  | .laneRepair n w e => Sys2Proof.Machine.execLaneRepair n w e s
  | .autoRepair n e => Sys2Proof.Machine.execAutoRepair n e s
  | .unitProgram id u parity blk e => Sys2Proof.Machine.execUnitProgram id u parity blk e s
  | .unitIdle id u e => Sys2Proof.Machine.execUnitIdle id u e s
  | .nandProgramDone k ok dst e => Sys2Proof.Machine.execNandProgramDone k ok dst e s
  | .nandEraseDone blk ok dst e => Sys2Proof.Machine.execNandEraseDone blk ok dst e s
  | .codewordRead id slot cw step corrected offset dst e => Sys2Proof.Machine.execCodewordRead id slot cw step corrected offset dst e s
  | .scrubPass blk dst e => Sys2Proof.Machine.execScrubPass blk dst e s
  | .dieAbsent die e => Sys2Proof.Machine.execDieAbsent die e s
  | .dieReturn die dst e => Sys2Proof.Machine.execDieReturn die dst e s
  | .rebuildDone die dst e => Sys2Proof.Machine.execRebuildDone die dst e s
  | .storeReplay failedDies markers e => Sys2Proof.Machine.execStoreReplay failedDies markers e s
  | .replaySyncTimeout e => Sys2Proof.Machine.execReplaySyncTimeout e s
  | .format w => Sys2Proof.Machine.execFormat w s
  | .formatDone e => Sys2Proof.Machine.execFormatDone e s
  | .requestNoon w e => Sys2Proof.Machine.execRequestNoon w e s
  | .requestTwilight w e => Sys2Proof.Machine.execRequestTwilight w e s
  | .requestDuskOff w e => Sys2Proof.Machine.execRequestDuskOff w e s
  | .requestDuskMaint w e => Sys2Proof.Machine.execRequestDuskMaint w e s
  | .requestDawn w e => Sys2Proof.Machine.execRequestDawn w e s
  | .dawnComplete failed mesh e => Sys2Proof.Machine.execDawnComplete failed mesh e s
  | .daylightEpoch inp e => Sys2Proof.Machine.execDaylightEpoch inp e s
  | .drainComplete e => Sys2Proof.Machine.execDrainComplete e s
  | .duskTimeout e => Sys2Proof.Machine.execDuskTimeout e s
  | .fatalEngineError tile e => Sys2Proof.Machine.execFatalEngineError tile e s
  | .hostLossTimeout e => Sys2Proof.Machine.execHostLossTimeout e s
  | .powerOverTimeout power e => Sys2Proof.Machine.execPowerOverTimeout power e s
  | .causeClear w e => Sys2Proof.Machine.execCauseClear w e s
  | .sensorLimit k temp tile e => Sys2Proof.Machine.execSensorLimit k temp tile e s
  | .thermalCritical k temp e => Sys2Proof.Machine.execThermalCritical k temp e s
  | .nightfall e => Sys2Proof.Machine.execNightfall e s
  | .nightfallDone e => Sys2Proof.Machine.execNightfallDone e s
  | .rampStart x e => Sys2Proof.Machine.execRampStart x e s
  | .shortCheck x e => Sys2Proof.Machine.execShortCheck x e s
  | .rampCollapse x e => Sys2Proof.Machine.execRampCollapse x e s
  | .inrushTimeout x e => Sys2Proof.Machine.execInrushTimeout x e s
  | .runTimeout x e => Sys2Proof.Machine.execRunTimeout x e s
  | .fastOc x e => Sys2Proof.Machine.execFastOc x e s
  | .fetOt x e => Sys2Proof.Machine.execFetOt x e s
  | .senseMismatch x e => Sys2Proof.Machine.execSenseMismatch x e s
  | .pgRise x e => Sys2Proof.Machine.execPgRise x e s
  | .pgDrop x e => Sys2Proof.Machine.execPgDrop x e s
  | .pwrEnLow x e => Sys2Proof.Machine.execPwrEnLow x e s
  | .pwrEnRise x e => Sys2Proof.Machine.execPwrEnRise x e s
  | .swOff w e => Sys2Proof.Machine.execSwOff w e s
  | .undervoltage x e => Sys2Proof.Machine.execUndervoltage x e s
  | .overvoltage x e => Sys2Proof.Machine.execOvervoltage x e s
  | .reverseCurrent x e => Sys2Proof.Machine.execReverseCurrent x e s
  | .coolEnd x e => Sys2Proof.Machine.execCoolEnd x e s
  | .triesReset x e => Sys2Proof.Machine.execTriesReset x e s
  | .latchClear w e => Sys2Proof.Machine.execLatchClear w e s
  | .auxLost x e => Sys2Proof.Machine.execAuxLost x e s
  | .fabricReset w e => Sys2Proof.Machine.execFabricReset w e s
  | .moduleReset src e => Sys2Proof.Machine.execModuleReset src e s
  | .modResetRelease e => Sys2Proof.Machine.execModResetRelease e s
  | .mmpReset w e => Sys2Proof.Machine.execMmpReset w e s
  | .tileReset page w e => Sys2Proof.Machine.execTileReset page w e s
  | .portReset page w e => Sys2Proof.Machine.execPortReset page w e s
  | .laneReset page w e => Sys2Proof.Machine.execLaneReset page w e s
  | .fwOpen r e => Sys2Proof.Machine.execFwOpen r e s
  | .fwWrite r e => Sys2Proof.Machine.execFwWrite r e s
  | .fwVerify r e => Sys2Proof.Machine.execFwVerify r e s
  | .fwActivate r e => Sys2Proof.Machine.execFwActivate r e s
  | .fwConfirm r e => Sys2Proof.Machine.execFwConfirm r e s
  | .fwAdvance r e => Sys2Proof.Machine.execFwAdvance r e s
  | .getReport msg bad e => Sys2Proof.Machine.execGetReport msg bad e s
  | .getCert msg e => Sys2Proof.Machine.execGetCert msg e s
  | .setMgmtKey msg e => Sys2Proof.Machine.execSetMgmtKey msg e s
  | .regAccess msg e => Sys2Proof.Machine.execRegAccess msg e s
  | .debugChallenge msg e => Sys2Proof.Machine.execDebugChallenge msg e s
  | .debugUnlock msg e => Sys2Proof.Machine.execDebugUnlock msg e s
  | .counterWrite page n w => Sys2Proof.Machine.execCounterWrite page n w s
  | .freeze w e => Sys2Proof.Machine.execFreeze w e s
  | .snapshot w e => Sys2Proof.Machine.execSnapshot w e s
  | .sampleEnable w e => Sys2Proof.Machine.execSampleEnable w e s
  | .sampleDisable w e => Sys2Proof.Machine.execSampleDisable w e s
  | .nrefLost ix e => Sys2Proof.Machine.execNrefLost ix e s
  | .nrefGood ix e => Sys2Proof.Machine.execNrefGood ix e s
  | .nrefSelect w e => Sys2Proof.Machine.execNrefSelect w e s
  | .refLost ix e => Sys2Proof.Machine.execRefLost ix e s
  | .hostLinkUp ix rate width rev atomic e => Sys2Proof.Machine.execHostLinkUp ix rate width rev atomic e s
  | .tapReset => Sys2Proof.Machine.execTapReset s
  | .currentLimit on x e => Sys2Proof.Machine.execCurrentLimit on x e s
  | .sensorFail k e => Sys2Proof.Machine.execSensorFail k e s
  | .tapLimit n e => Sys2Proof.Machine.execTapLimit n e s
  | .strapAgreement => Sys2Proof.Machine.execStrapAgreement s
  | .inputRange x e => Sys2Proof.Machine.execInputRange x e s
  | .dynamicAddressAssignment addr => Sys2Proof.Machine.execDynamicAddressAssignment addr s
  | .rstdaa => Sys2Proof.Machine.execRstdaa s
  | .consoleInput c => Sys2Proof.Machine.execConsoleInput c s
  | .refclkReturn ix e => Sys2Proof.Machine.execRefclkReturn ix e s

end Sys2Proof.Machine
end

