-- ==== Sys2Proof/WellFormed.lean ====
section
/-! DEFINITION. Which commands are well formed: what the outside world can send at all. A meaning does not rest on it. -/

namespace Sys2Proof

/-- The masters of R70: host links 1 to 4, the MMP, the debug port and the fabric manager. -/
def masterOk (m : BitVec 4) : Bool := [1, 2, 3, 4, 8, 9, 10].contains m.toNat

/-- A register write of an assigned master (R70). -/
def wrOk (w : Wr) : Bool := masterOk w.master

/-- A read of host memory is of an aligned 8-byte word of a 64-bit address (R11, R154). -/
def hostRdOk (h : HostRd) : Bool := decide (h.addr % 8 = 0) && decide (h.addr < 2 ^ 64)

/-- What the outside shows a command. -/
def envOk (e : Env) : Bool := e.host.all hostRdOk

/-- A flit is 128 bytes (R195). -/
def flitOk (f : List Byte) : Bool := decide (f.length = 128)

/-- A message on the sideband begins with its 4 bytes and is at most 8 KiB (R707). -/
def msgOk (m : List Byte) : Bool := decide (4 ≤ m.length) && decide (m.length ≤ 8192)

/-- A packet's header fields have the widths of R197, and its bytes fill flits, but for a trim notice's 32 (R195, R202). -/
def packetOk (p : Packet) : Bool :=
  decide (p.dst < 2 ^ 18) && decide (p.src < 2 ^ 18) && decide (p.tc < 8) && decide (p.rmode < 4) && decide (p.vgroup < 2 ^ 10) &&
  decide (p.hops < 2 ^ 5) && decide (p.nd < 2 ^ 16) && decide (p.psn < 2 ^ 24) && decide (p.opcode < 2 ^ 8) &&
  decide (p.epoch < 2 ^ 32) && decide (p.flits < 2 ^ 6) && decide (p.msn < 2 ^ 10) && decide (p.attempt < 2 ^ 8) &&
  decide (p.rsvd < 2 ^ 20) && decide (p.rsvdLow < 2 ^ 8) &&
  (if p.trimmed then decide (p.body.length = 8)
   else decide ((24 + p.body.length) % 128 = 0) && decide (1 ≤ p.body.length) && decide (p.body.length ≤ 33 * 128))

/-- A request of the firmware update. -/
def fwReqOk : FwReq → Bool
  | .reg w => wrOk w
  | .mctp msg => msgOk msg

/-- What starts a module reset. -/
def resetSrcOk : ResetSrc → Bool
  | .pin => true
  | .reg w => wrOk w

/-- A register write that may be absent. -/
def optWrOk : Option Wr → Bool
  | none => true
  | some w => wrOk w

/-- Whether a command is well formed. -/
def Instr.wellFormed (i : Instr) : Bool :=
  match i with
  | .coldReset _ => true
  | .strapSample _ => true
  | .strapChanged _ => true
  | .groupWrite w => wrOk w
  | .registerWrite _ w e => wrOk w && envOk e
  | .refusedAccess master _ _ => masterOk master
  | .stoppedDomainRead master _ => masterOk master
  | .stoppedDomainWrite _ w => wrOk w
  | .pageLock _ w => wrOk w
  | .evtPendClear _ w => wrOk w
  | .srcpndClear _ _ w => wrOk w
  | .evtEntryWrite _ w => wrOk w
  | .swset w => wrOk w
  | .msixUnmask _ _ => true
  | .msixEnable _ _ => true
  | .semClaim _ w => wrOk w
  | .semRelease _ w => wrOk w
  | .semForceRelease _ w => wrOk w
  | .semWait w => wrOk w
  | .chkStart _ w => wrOk w
  | .chkSelWrite _ w => wrOk w
  | .chkFeed _ _ w => wrOk w
  | .queueBlockEnable w e => wrOk w && envOk e
  | .queueBlockDisable w e => wrOk w && envOk e
  | .wqDoorbell _ _ _ _ e => envOk e
  | .crDoorbell _ _ _ _ e => envOk e
  | .crArm _ _ _ e => envOk e
  | .pushWrite _ _ _ _ e => envOk e
  | .shadowPoll _ e => envOk e
  | .wqeFetch _ e => envOk e
  | .wqeFetchReturn _ _ e => envOk e
  | .ciShadowWrite _ e => envOk e
  | .unassignedOpcode _ e => envOk e
  | .completionWrite _ e => envOk e
  | .crShadowReread _ e => envOk e
  | .crOverflowTimeout _ e => envOk e
  | .createWq e => envOk e
  | .destroyWq e => envOk e
  | .wqCloseDone e => envOk e
  | .modifyWq e => envOk e
  | .createCr e => envOk e
  | .destroyCr e => envOk e
  | .invalidateContext e => envOk e
  | .invalidateTlb e => envOk e
  | .invalidateTlbDone e => envOk e
  | .revokeRegion e => envOk e
  | .revokeDone e => envOk e
  | .setDomainKey e => envOk e
  | .clearDomain e => envOk e
  | .clearDomainDone e => envOk e
  | .createMc e => envOk e
  | .destroyMc e => envOk e
  | .createColl e => envOk e
  | .destroyColl e => envOk e
  | .collContextFree e => envOk e
  | .createMatch e => envOk e
  | .destroyMatch e => envOk e
  | .matchContextFree e => envOk e
  | .nop e => envOk e
  | .storeCreate e => envOk e
  | .storeAppend e => envOk e
  | .storeCommit e => envOk e
  | .storeCommitDone _ e => envOk e
  | .storeRead e => envOk e
  | .storeDelete e => envOk e
  | .storeList e => envOk e
  | .getAttestation _ e => envOk e
  | .requestMode e => envOk e
  | .hostLinkReset _ _ e => envOk e
  | .functionReset _ e => envOk e
  | .dtuEnable w => wrOk w
  | .walkReadReturn _ _ e => envOk e
  | .hostReadReturn _ e => envOk e
  | .put _ e => envOk e
  | .get _ e => envOk e
  | .atomic _ e => envOk e
  | .putSignal _ e => envOk e
  | .storePut _ e => envOk e
  | .storeSync _ e => envOk e
  | .packetSend _ e => envOk e
  | .probe _ e => envOk e
  | .challenge _ e => envOk e
  | .ack _ e => envOk e
  | .nack _ e => envOk e
  | .result _ e => envOk e
  | .trimNotice _ e => envOk e
  | .malformedPacket _ e => envOk e
  | .retransmitTimeout _ e => envOk e
  | .probeTimeout _ e => envOk e
  | .rnrRetransmit _ e => envOk e
  | .ackDelay _ e => envOk e
  | .ndWaitExpiry _ e => envOk e
  | .xptEnable w => wrOk w
  | .mgmtReq _ e => envOk e
  | .putPacket _ e => envOk e
  | .putSignalPacket _ e => envOk e
  | .getReq _ e => envOk e
  | .getRsp _ e => envOk e
  | .atomicReq _ e => envOk e
  | .atomicRsp _ e => envOk e
  | .storePutPacket _ e => envOk e
  | .storeSyncReq _ e => envOk e
  | .storeSyncRsp _ e => envOk e
  | .tsend _ e => envOk e
  | .trecv _ e => envOk e
  | .tprobe _ e => envOk e
  | .tcancel _ e => envOk e
  | .eager _ e => envOk e
  | .rts _ e => envOk e
  | .rdvGet _ e => envOk e
  | .rdvData _ e => envOk e
  | .rdvCancel _ e => envOk e
  | .coll _ e => envOk e
  | .ctrAdd _ e => envOk e
  | .trigList _ e => envOk e
  | .triggerFire _ e => envOk e
  | .up _ e => envOk e
  | .down _ e => envOk e
  | .downAck _ e => envOk e
  | .repair _ e => envOk e
  | .abort _ e => envOk e
  | .downRetainTimeout _ _ e => envOk e
  | .timeSet w e => wrOk w && envOk e
  | .synced e => envOk e
  | .syncLost e => envOk e
  | .packetStart _ e => envOk e
  | .bucketWrite _ w e => wrOk w && envOk e
  | .gateCommit _ w e => wrOk w && envOk e
  | .schedSwitch _ e => envOk e
  | .packetReceive _ _ pkt e => packetOk pkt && envOk e
  | .dwellTrim _ e => envOk e
  | .noticeDrop _ e => envOk e
  | .routeCommit w => wrOk w
  | .commitDone => true
  | .grtLoad w => wrOk w
  | .hlth w => wrOk w
  | .quarantineSet w e => wrOk w && envOk e
  | .quarantineClear w e => wrOk w && envOk e
  | .offer _ e => envOk e
  | .grant _ e => envOk e
  | .cellEject _ _ _ _ _ e => envOk e
  | .release _ e => envOk e
  | .grantTimeout _ e => envOk e
  | .tileWake _ e => envOk e
  | .nogate _ w => wrOk w
  | .link _ flit e => flitOk flit && envOk e
  | .replay _ flit e => flitOk flit && envOk e
  | .idle _ flit e => flitOk flit && envOk e
  | .badControlFlit _ flit e => flitOk flit && envOk e
  | .uncorrectableCodeword _ _ _ _ e => envOk e
  | .linkFlitTimer _ e => envOk e
  | .replayTimeout _ e => envOk e
  | .train _ flit e => flitOk flit && envOk e
  | .trainFlitTimer _ e => envOk e
  | .exchangeTimeout _ e => envOk e
  | .time _ flit e => flitOk flit && envOk e
  | .timeFlitTimer _ e => envOk e
  | .retrain _ w e => wrOk w && envOk e
  | .takeLinkDown _ w e => wrOk w && envOk e
  | .linkEnable _ w e => wrOk w && envOk e
  | .lockLossTimeout _ e => envOk e
  | .graceFlush _ e => envOk e
  | .widthGo _ w e => wrOk w && envOk e
  | .widthReq _ flit e => flitOk flit && envOk e
  | .widthAck _ flit e => flitOk flit && envOk e
  | .widthRefuse _ flit e => flitOk flit && envOk e
  | .widthYield _ flit e => flitOk flit && envOk e
  | .widthMark _ flit e => flitOk flit && envOk e
  | .widthPrep _ flit e => flitOk flit && envOk e
  | .widthReady _ flit e => flitOk flit && envOk e
  | .addedLaneTimeout _ e => envOk e
  | .spareRequest _ w e => wrOk w && envOk e
  | .spareReleaseWrite _ w e => wrOk w && envOk e
  | .spareReq _ flit e => flitOk flit && envOk e
  | .spareAck _ flit e => flitOk flit && envOk e
  | .spareReady _ flit e => flitOk flit && envOk e
  | .spareRelease _ flit e => flitOk flit && envOk e
  | .spareRefuse _ flit e => flitOk flit && envOk e
  | .bringupStageDone _ _ e => envOk e
  | .laneBringupComplete _ e => envOk e
  | .bringupFail _ e => envOk e
  | .lockLost _ e => envOk e
  | .degraded _ _ e => envOk e
  | .laneFailed _ e => envOk e
  | .savedStateCopy _ _ e => envOk e
  | .txeqCommit _ w => wrOk w
  | .laneModeWrite _ w e => wrOk w && envOk e
  | .scanStart _ w => wrOk w
  | .scanDone _ _ e => envOk e
  | .pchkSyncLost _ _ e => envOk e
  | .laneRepair _ w e => wrOk w && envOk e
  | .autoRepair _ e => envOk e
  | .unitProgram _ _ _ _ e => envOk e
  | .unitIdle _ _ e => envOk e
  | .nandProgramDone _ _ _ e => envOk e
  | .nandEraseDone _ _ _ e => envOk e
  | .codewordRead _ _ _ _ _ _ _ e => envOk e
  | .scrubPass _ _ e => envOk e
  | .dieAbsent _ e => envOk e
  | .dieReturn _ _ e => envOk e
  | .rebuildDone _ _ e => envOk e
  | .storeReplay _ _ e => envOk e
  | .replaySyncTimeout e => envOk e
  | .format w => wrOk w
  | .formatDone e => envOk e
  | .requestNoon w e => wrOk w && envOk e
  | .requestTwilight w e => wrOk w && envOk e
  | .requestDuskOff w e => wrOk w && envOk e
  | .requestDuskMaint w e => wrOk w && envOk e
  | .requestDawn w e => wrOk w && envOk e
  | .dawnComplete _ _ e => envOk e
  | .daylightEpoch _ e => envOk e
  | .drainComplete e => envOk e
  | .duskTimeout e => envOk e
  | .fatalEngineError _ e => envOk e
  | .hostLossTimeout e => envOk e
  | .powerOverTimeout _ e => envOk e
  | .causeClear w e => wrOk w && envOk e
  | .sensorLimit _ _ _ e => envOk e
  | .thermalCritical _ _ e => envOk e
  | .nightfall e => envOk e
  | .nightfallDone e => envOk e
  | .rampStart _ e => envOk e
  | .shortCheck _ e => envOk e
  | .rampCollapse _ e => envOk e
  | .inrushTimeout _ e => envOk e
  | .runTimeout _ e => envOk e
  | .fastOc _ e => envOk e
  | .fetOt _ e => envOk e
  | .senseMismatch _ e => envOk e
  | .pgRise _ e => envOk e
  | .pgDrop _ e => envOk e
  | .pwrEnLow _ e => envOk e
  | .pwrEnRise _ e => envOk e
  | .swOff w e => wrOk w && envOk e
  | .undervoltage _ e => envOk e
  | .overvoltage _ e => envOk e
  | .reverseCurrent _ e => envOk e
  | .coolEnd _ e => envOk e
  | .triesReset _ e => envOk e
  | .latchClear w e => wrOk w && envOk e
  | .auxLost _ e => envOk e
  | .fabricReset w e => wrOk w && envOk e
  | .moduleReset src e => resetSrcOk src && envOk e
  | .modResetRelease e => envOk e
  | .mmpReset w e => optWrOk w && envOk e
  | .tileReset _ w e => wrOk w && envOk e
  | .portReset _ w e => wrOk w && envOk e
  | .laneReset _ w e => wrOk w && envOk e
  | .fwOpen r e => fwReqOk r && envOk e
  | .fwWrite r e => fwReqOk r && envOk e
  | .fwVerify r e => fwReqOk r && envOk e
  | .fwActivate r e => fwReqOk r && envOk e
  | .fwConfirm r e => fwReqOk r && envOk e
  | .fwAdvance r e => fwReqOk r && envOk e
  | .getReport msg _ e => msgOk msg && envOk e
  | .getCert msg e => msgOk msg && envOk e
  | .setMgmtKey msg e => msgOk msg && envOk e
  | .regAccess msg e => msgOk msg && envOk e
  | .debugChallenge msg e => msgOk msg && envOk e
  | .debugUnlock msg e => msgOk msg && envOk e
  | .counterWrite _ _ w => wrOk w
  | .freeze w e => wrOk w && envOk e
  | .snapshot w e => wrOk w && envOk e
  | .sampleEnable w e => wrOk w && envOk e
  | .sampleDisable w e => wrOk w && envOk e
  | .nrefLost _ e => envOk e
  | .nrefGood _ e => envOk e
  | .nrefSelect w e => wrOk w && envOk e
  | .refLost _ e => envOk e
  | .hostLinkUp _ _ _ _ _ e => envOk e
  | .tapReset => true
  | .currentLimit _ _ e => envOk e
  | .sensorFail _ e => envOk e
  | .tapLimit _ e => envOk e
  | .strapAgreement => true
  | .inputRange _ e => envOk e
  | .dynamicAddressAssignment _ => true
  | .rstdaa => true
  | .consoleInput _ => true
  | .refclkReturn _ e => envOk e

end Sys2Proof
end

