-- ==== Sys2Proof/Safety.lean ====
section
/-! DEFINITION. What counts as a safe step and a safe run of the module, and the words the statements are made of: a command
answers a next state, it changes no more than it may, it reaches its register. -/

namespace Sys2Proof.Machine

/-- The outcome is a next state, and it satisfies `P`. -/
def Answers (o : Host.Outcome State Fault Refusal) (P : State → Prop) : Prop := ∃ t, o = .next t ∧ P t

/-- Every command that waits is one the outside world can send. -/
def State.QueueOk (s : State) : Prop := ∀ c ∈ s.pending, Instr.wellFormed c = true

/-- The register file is in canonical form: offsets strictly rising, and no entry equal to the reset value of its register. -/
def State.Canonical (s : State) : Prop := Sparse.wf resetWord s.regs = true

/-- The state with its module changed: everything else, the queue among it, stays. -/
def State.upd (s : State) (f : Module → Module) : State := { s with toModule := f s.toModule }

/-- A write of a master arrives at the register at an offset: the master reaches the register space (R710), the page exists
and the register's domain runs. -/
abbrev State.Arrives (s : State) (w : Wr) (a : Nat) : Prop :=
  s.masterReaches w.master.toNat = true ∧ s.reaches a = true

/-- Every register outside `P` holds what it held. -/
def RegsKept (P : Nat → Prop) (s t : State) : Prop := ∀ a, ¬ P a → t.word a = s.word a

/-- The parts of the state beside the queue of commands. -/
inductive Part where
  | regs | draws | reads | now | out | fuses | straps | msix | q | dtu | smp | x | mt | cl | st | n | y | timeOffset
  deriving DecidableEq, Repr

/-- A part is the same in two states. -/
def Part.same (s t : State) : Part → Prop
  | .regs => t.regs = s.regs
  | .draws => t.draws = s.draws
  | .reads => t.reads = s.reads
  | .now => t.now = s.now
  | .out => t.out = s.out
  | .fuses => t.fuses = s.fuses
  | .straps => t.straps = s.straps
  | .msix => t.msix = s.msix
  | .q => t.q = s.q
  | .dtu => t.dtu = s.dtu
  | .smp => t.smp = s.smp
  | .x => t.x = s.x
  | .mt => t.mt = s.mt
  | .cl => t.cl = s.cl
  | .st => t.st = s.st
  | .n => t.n = s.n
  | .y => t.y = s.y
  | .timeOffset => t.timeOffset = s.timeOffset

/-- Nothing but the parts of a list differs: the frame of a command. The queue of commands stays. -/
def Touches (l : List Part) (s t : State) : Prop := t.pending = s.pending ∧ ∀ p, p ∉ l → p.same s t

/-- Nothing but registers differs. -/
def OnlyRegs (s t : State) : Prop := Touches [.regs] s t

/-- Nothing but registers, the MSI-X functions and what is sent differs: the trace of a register effect and its events. -/
def OnlyRegsEvents (s t : State) : Prop := Touches [.regs, .msix, .out] s t

/-- Registers that an event of a page may change: its EVT_PEND, and the counter of MSI-X messages of a host link. -/
def EventRegs (page a : Nat) : Prop :=
  a = page * 0x1000 + 0x38 ∨ a = pgSample * 0x1000 + 0x38 ∨ ∃ i < 4, a = pgHost i * 0x1000 + 0x820

/-- A message of an event. -/
def Emit.isEvent : Emit → Bool
  | .msix _ _ _ _ => true
  | .mmpMsg _ => true
  | _ => false

/-- One thing is sent, beside messages of events: nothing else is added to what has been sent. -/
def Sends (s t : State) (x : Emit) : Prop :=
  ∃ a b, t.out = s.out ++ a ++ [x] ++ b ∧ (a ++ b).all Emit.isEvent = true

/-- Nothing is sent but messages of events. -/
def SendsEventsOnly (s t : State) : Prop := ∃ a, t.out = s.out ++ a ∧ a.all Emit.isEvent = true

/-- These things are sent, in this order, and beside them nothing but messages of events. -/
def SendsJust (s t : State) (l : List Emit) : Prop := ∃ a, t.out = s.out ++ a ∧ a.filter (fun x => !x.isEvent) = l

/-- A thing is sent before all else but messages of events. -/
def SendsFirst (s t : State) (x : Emit) : Prop := ∃ a b, t.out = s.out ++ a ++ [x] ++ b ∧ a.all Emit.isEvent = true

/-- An access of `n` bytes that lies in one page is translated by a slot a TLB holds, without fault, to `pa` (R170, R178). -/
def State.Translates (s : State) (r : XReq) (n pa : Nat) : Prop :=
  s.dtuOn = true ∧ r.va < 2 ^ 64 ∧ 0 < n ∧ r.va % 4096 + n ≤ 4096 ∧
  ∃ slot se, s.tlbHit r = some slot ∧ slotResult r slot = .done pa se

/-- An access of one page is translated and answered with these bytes. -/
def State.ReadsVirt (s : State) (e : Env) (link : Nat) (r : XReq) (bs : List Byte) : Prop :=
  ∃ pa, s.Translates r bs.length pa ∧ s.readBytes e link pa bs.length = some bs

/-- The parts that a translated access of host memory touches. -/
def busParts : List Part := [.regs, .msix, .out, .dtu, .reads, .now]

/-- A counter counts `k` more (R714, R715), unless counting is frozen (R719). -/
def Counts (s t : State) (page n k : Nat) : Prop :=
  t.get (F.ctrValue page n) =
    if s.flag F.sampleCtrFreeze then s.get (F.ctrValue page n) else (s.get (F.ctrValue page n) + k) % 2 ^ 48

/-- An operation has completed: its completion, and no other, joins those to be written. -/
def OpCompletes (s t : State) (id status length info detail : Nat) : Prop :=
  ∃ c : Completion, t.q.done = s.q.done ++ [c] ∧ c.owner = .op id ∧ c.status = status ∧ c.length = length ∧ c.info = info ∧
    c.detail = detail

/-- An operation has failed: its completion is the first to join those to be written, and its queue is in ERROR with cause LOCAL
(R127, R133). -/
def OpFails (s t : State) (id wq status detail : Nat) : Prop :=
  (∃ (c : Completion) (l : List Completion), t.q.done = s.q.done ++ c :: l ∧ c.owner = .op id ∧ c.status = status ∧
    c.detail = detail) ∧
  ∃ c, t.wq wq = some c ∧ c.state = .error

/-- A WQ is in ERROR with a cause (R133). -/
def WqErrs (t : State) (n cause : Nat) : Prop := ∃ c, t.wq n = some c ∧ c.state = .error ∧ c.errCause = cause

/-- The parts that an error of a queue touches. -/
def errParts : List Part := [.regs, .msix, .out, .q, .smp, .x, .cl, .dtu, .reads, .now]

/-- What the module knows of a WQ stands: its context is cached, its number lies outside the table, or the table's entry, as this
command shows it, is not valid (R99). -/
def State.WqKnown (s : State) (e : Env) (n : Nat) : Prop :=
  (s.wq n).isSome ∨ s.wqInTable n = false ∨
  ∃ ws, s.readWords e (s.get F.qctlWqtabLink) 16 (s.wqAddr n) = some ws ∧ (WqCtx.parse ws).2 = false

/-- What the module knows of a CR stands. -/
def State.CrKnown (s : State) (e : Env) (n : Nat) : Prop :=
  (s.cr n).isSome ∨ s.crInTable n = false ∨
  ∃ ws, s.readWords e (s.get F.qctlWqtabLink) 8 (s.crAddr n) = some ws ∧ (CrCtx.parse ws).2 = false

/-- A doorbell write is discarded: counted, with DB_DISCARD (R107), and without another effect on the queues. -/
def Discarded (s t : State) : Prop :=
  Counts s t pgQctl 3 1 ∧ t.get (F.cause pgQctl Ev.dbDiscard) = 1 ∧ t.q = s.q ∧ Touches [.regs, .msix, .out, .reads, .now] s t

/-- The admin command of operation `id` is the next to run, and has not completed. -/
def State.AdminNext (s : State) (opcode id : Nat) (o : Op) : Prop :=
  s.adminNext opcode = some (id, o) ∧ o.finished = false ∧ o.silent = false

/-- The admin command in progress. -/
def State.AdminRuns (s : State) (opcode : Nat) (a : AdminOp) : Prop :=
  s.q.admin = some a ∧ a.opcode = opcode ∧ ∃ o, s.op a.op = some o ∧ o.finished = false ∧ o.silent = false

/-- An admin command completes (R141, R142): one completion joins those to be written, with length 0 and the result in info; the queue
is free for the next command. -/
def AdminCompletes (s t : State) (id status info detail : Nat) : Prop :=
  (∃ c : Completion, t.q.done = s.q.done ++ [c] ∧ c.owner = .op id ∧ c.status = status ∧ c.length = 0 ∧ c.info = info ∧
    c.detail = detail) ∧
  t.q.admin = none ∧ t.get F.adminCurBusy = 0

/-- The admin command of operation `id` has started and goes on. -/
def AdminGoesOn (t : State) (opcode id : Nat) : Prop := ∃ a, t.q.admin = some a ∧ a.opcode = opcode ∧ a.op = id ∧ t.get F.adminCurBusy = 1

/-- The store is there and in RUN, and the next admin command to run is this one, about an object it has. -/
def State.StoreNext (s : State) (opcode id : Nat) (o : Op) (x : Obj) : Prop :=
  s.AdminNext opcode id o ∧ s.noStore = false ∧ s.storeRuns = true ∧ s.obj (wqeField o.wqe 0x10 8) = some x

/-- Bytes of an object hold a range, and its other bytes are those of before. -/
def Obj.holds (y x : Obj) (off : Nat) (bs : List Byte) : Prop :=
  y.bytes off bs.length = bs ∧ ∀ i, i < off ∨ off + bs.length ≤ i → Sparse.read (fun _ => 0) y.data i = Sparse.read (fun _ => 0) x.data i

/-- An access is recorded in DEV.ACCERR under R66: in the register while it is free, else by overrun beside the record that
stands; REG_ACCESS_ERROR is raised, and no other register changes. -/
def RecordedAccess (s t : State) (write size : Bool) (master addr : Nat) : Prop :=
  (s.flag F.devAccerrValid = true → t.get F.devAccerrOverrun = 1 ∧
    ∀ f ∈ [F.devAccerrValid, F.devAccerrWrite, F.devAccerrSize, F.devAccerrMaster, F.devAccerrDomain, F.devAccerrPage,
      F.devAccerrOffset], t.get f = s.get f) ∧
  (s.flag F.devAccerrValid = false → t.get F.devAccerrValid = 1 ∧ t.get F.devAccerrOverrun = s.get F.devAccerrOverrun ∧
    t.flag F.devAccerrWrite = write ∧ t.flag F.devAccerrSize = size ∧ t.get F.devAccerrMaster = master ∧
    t.get F.devAccerrDomain = (domOf (regAddr addr)).code ∧ t.get F.devAccerrPage = addr / 0x1000 ∧
    t.get F.devAccerrOffset = addr % 0x1000) ∧
  t.get (F.cause pgDev Ev.regAccess) = 1 ∧ RegsKept (fun a => a = 0x50 ∨ EventRegs pgDev a) s t ∧ OnlyRegsEvents s t

/-- A packet has been handed to the home port tile of a transport tile for its first hop (R422, R472): the queues, the transfers and
the inbox are what `originate` leaves of those of before, where nothing but the engines' own pages has changed meanwhile. -/
def Originates (s t : State) (tile : Nat) (p : Packet) : Prop :=
  ∃ m : Module, m.n = { s.n with inj := m.n.inj } ∧ m.x.inbox = s.x.inbox ∧ m.straps = s.straps ∧ m.draws = s.draws ∧ m.now = t.now ∧
    (∀ a, a / 0x1000 ∉ [pgHost 0, pgHost 1, pgHost 2, pgHost 3, pgXpt 0, pgXpt 1, pgXpt 2, pgXpt 3, pgDtu, pgQctl] → m.word a = s.word a) ∧
    (m.originate tile p).n = t.n ∧ (m.originate tile p).x.inbox = t.x.inbox

/-- A packet goes out from a tile, sealed under the key of its direction (R211, R213–R215). -/
def OriginatesSealed (s t : State) (tile : Nat) (key : Option (List Byte)) (p : Opened) : Prop :=
  ∃ k, key = some k ∧ Originates s t tile (sealPacket k false p)

/-- The state with a packet of the inbox taken out, at the time a command shows. -/
def State.took (s : State) (k : Nat) (e : Env) : State :=
  s.upd fun m => { m.at e with x := { m.x with inbox := m.x.inbox.eraseIdx k } }

/-- The parts that sending packets touches. -/
def sendParts : List Part := [.regs, .msix, .out, .x, .n, .draws, .now]

/-- The connection of a queue's ND to an operation's destination is cached. -/
def State.Reaches (s : State) (o : Op) (c : WqCtx) (cid : Nat) (k : Conn) : Prop :=
  (s.keyOf c.nd).isSome ∧ s.cidOf (wqeDest o.wqe) c.nd = some cid ∧ s.conn cid = some k

/-- The operation starts, and its message joins those of an open connection (R204, R243). -/
def StartsMsg (s t : State) (id : Nat) (o : Op) (cid : Nat) (k : Conn) (g : Msg) : Prop :=
  t.conn cid = some { k with msgs := k.msgs ++ [{ g with id := s.x.nextMsg, op := some id, ordered := wqeOrdered o.wqe }] } ∧
  t.op id = some { o with started := true } ∧ Touches [.q, .x, .smp, .now] s t

/-- Every list of the matching tiles lies on chip, and no receive direction has started over (R304, R312): nothing is owed to the lists
once a packet has been handled. -/
def State.Settled (s : State) : Prop :=
  (∀ q ∈ s.x.conns, q.2.anew = false) ∧ s.mt.pool = [] ∧ (∀ q ∈ s.mt.ctxs, ∀ r ∈ q.2.posted, r.spill = none) ∧
  ∀ u ∈ s.mt.unexp, u.spill = none

/-- Registers of the matching tiles that follow their lists (R286, R304). -/
def UseRegs (a : Nat) : Prop := a = (F.matchUseUnexp 0).reg ∨ a = (F.matchUseUnexp 1).reg

/-- A whole unicast packet of the inbox that R201 does not discard. -/
def State.Whole (s : State) (k : Nat) (p : Packet) : Prop :=
  s.x.inbox[k]? = some p ∧ malformed p = false ∧ p.trimmed = false ∧ p.mcast = false

/-- A data packet of the inbox, with what its key opens (R214). -/
def State.Inbox (s : State) (k : Nat) (p : Opened) : Prop := s.Whole k p.toPacket ∧ s.view p.toPacket = p

/-- A control packet of the inbox about a send direction that takes it: of its epoch and authentic (R214). -/
def State.Controls (s : State) (k : Nat) (p : Opened) (cid : Nat) (c : Conn) : Prop :=
  s.Whole k p.toPacket ∧ (s.keyOf p.nd).isSome ∧ s.cidOf p.src p.nd = some cid ∧ s.conn cid = some c ∧ c.sending = true ∧
  p.epoch = c.txEpoch ∧ s.openControl c p.toPacket = some p ∧ s.Settled

/-- A data packet of the inbox that an open receive direction may accept (R240): its context is cached, it is of the direction's
epoch, authentic, inside the window and not accepted before. No order-held message waits, and no direction has started over. -/
def State.Receives (s : State) (k : Nat) (p : Opened) (cid : Nat) (c : Conn) : Prop :=
  s.Inbox k p ∧ (s.keyOf p.nd).isSome ∧ s.cidOf p.src p.nd = some cid ∧ s.conn cid = some c ∧ c.rxState = .open ∧
  p.epoch = c.rxEpoch ∧ p.auth = true ∧ seqSub 24 p.psn c.rxBase < 1024 ∧ p.psn ∉ c.bitmap ∧ c.rxCsn ≤ 0xFFFFFF ∧
  s.mt.unexp = [] ∧ s.Settled

/-- A PSN is accepted: below the window, or marked in it. -/
def Conn.hasPsn (c : Conn) (psn : Nat) : Prop := 2 ^ 23 ≤ seqSub 24 psn c.rxBase ∨ psn ∈ c.bitmap

/-- A packet of the inbox has been accepted (R240). -/
def Accepts (t : State) (p : Opened) (cid : Nat) : Prop := ∃ c, t.conn cid = some c ∧ c.hasPsn p.psn

/-- The region a packet names is cached, and what it asks passes every check but the translation (R255). -/
def State.Grants (s : State) (nd : Nat) (a : Ask) (slot : Nat) (g : Region) : Prop :=
  ∃ key d, s.keyOf nd = some (slot, key) ∧ KMap.get s.x.dirs slot = some d ∧ keyIndex a.rkey < 2 ^ d.size ∧
    KMap.get s.x.regions (regionKey slot (keyIndex a.rkey)) = some g ∧ firstFail (s.entryChecks a g) = none

/-- Nothing but the connections depends on a connection: no collective context, no rendezvous, no delivery. -/
def State.Alone (s : State) : Prop :=
  s.cl.ctxs = [] ∧ s.mt.rdvs = [] ∧ s.mt.deliveries = [] ∧ s.mt.unexp = [] ∧ s.Settled

/-- A receive completes (R323): one completion joins those to be written, with the context's ring and the posting's tag. -/
def RecvCompletes (s t : State) (x : Nat) (g : Mctx) (q : Posted) (status length info peer : Nat) : Prop :=
  t.q.done = s.q.done ++ [{ owner := .mctx x, cr := g.cr, tag := q.wqeTag, wq := 0xFFFF, opcode := 0x12, status := status,
                            length := length, info := info, peerFa := peer, nd := g.nd, detail := 0, write := true }]

/-- The connection to a module in an ND is cached, and its ND has a key. -/
def State.Linked (s : State) (fa nd cid : Nat) (k : Conn) : Prop :=
  (s.keyOf nd).isSome ∧ s.cidOf fa nd = some cid ∧ s.conn cid = some k

/-- A message of the module itself joins those of a connection, and nothing else of it changes. -/
def Posts (s t : State) (cid : Nat) (k : Conn) (g : Msg) : Prop :=
  t.conn cid = some { k with msgs := k.msgs ++ [{ g with id := s.x.nextMsg }] }

/-- A message joins those of the connection a packet came by. -/
def PostsBack (s t : State) (cid : Nat) (k : Conn) (g : Msg) : Prop :=
  ∃ c, t.conn cid = some c ∧ c.msgs = k.msgs ++ [{ g with id := s.x.nextMsg }]

/-- A collective packet about context `x` and operation `k` arrives at an active context, whose nothing else waits for it. -/
def State.ForColl (s : State) (n : Nat) (p : Opened) (cid : Nat) (k : Conn) (x : Nat) (c : Coll) : Prop :=
  s.Receives n p cid k ∧ k.txState = .open ∧ k.canAnswer = true ∧ extBE p 0 2 = x ∧ s.coll x = some c ∧ c.nd = p.nd ∧
  c.state = .active ∧ c.slots = [] ∧ c.downs = [] ∧ c.got = [] ∧ c.rxMissed = [] ∧ s.slotsFull x c = false

/-- A port that is up stands at a packet boundary and owes nothing. -/
def State.Boundary (s : State) (e : Env) (p : Nat) : Prop :=
  s.isUp p = true ∧ (s.port p).owes = [] ∧ (s.port p).busy ≤ max s.now e.t * 1000

/-- A control flit of a type, with the flags of a LINK flit (R504). -/
def IsCtl (f : List Byte) (type flags : Nat) : Prop := ctlType f = some type ∧ flitBE f 19 1 = flags

/-- One control flit goes out, and what lanes and events send. -/
def SendsCtl (s t : State) (p type flags : Nat) : Prop :=
  ∃ f a, t.out = s.out ++ [.flit p f] ++ a ∧ IsCtl f type flags ∧
    ∀ x ∈ a, x.isEvent = true ∨ (∃ n what, x = .lane n what) ∨ ∃ n burst period, x = .inject n burst period

/-- A control flit of a type and op (a WIDTH or SPARE flit, R504) arrives at a port that is up and at a packet boundary. -/
def State.Flit (s : State) (e : Env) (p : Nat) (f : List Byte) (type op : Nat) : Prop :=
  s.Boundary e p ∧ (s.port p).hunting = false ∧ ctlType f = some type ∧ flitBE f 14 1 = op

/-- A port's spare stands in, and its lanes come up, for one position of a quad (R36, R541). -/
def SpareComesUp (t : State) (p pos : Nat) : Prop :=
  t.get (F.portLstsSpare p) = 1 ∧ t.get (F.portLstsSparePos p) = pos ∧ t.get (F.portSpareState p) = 2 ∧
  t.lstate (spareOf p) = lsStandin ∧ t.get (F.cause (pgPort p) Ev.spare) = 1 ∧
  ∀ i < 2, t.laneStage (60 + 2 * (p - 30) + 2 * pos + i) = lgOff ∧ t.laneStage (2 * spareOf p + i) = lgPower

/-- The control flits of some types and bodies that a port sends, and nothing else but messages of events. -/
def SendsFlits (s t : State) (p : Nat) (l : List (Nat × List Byte)) : Prop :=
  SendsJust s t (l.map fun b => .flit p (ctlFlit b.1 b.2))

/-- Why a mode request is refused (R617, R620, R621): a transition is in progress, no code, no transition from the current mode, or a
guard that does not hold. -/
def State.Refuses (s : State) (code r : Nat) : Prop :=
  (s.flag F.modeStsBusy = true ∧ r = 2) ∨ (s.flag F.modeStsBusy = false ∧
    (((code = 0 ∨ 5 < code) ∧ r = 4) ∨
      (r = 3 ∧ ((code = 1 ∧ s.mode ∉ [mNoon, mAfternoon, mTwilight]) ∨ (code = 2 ∧ s.mode ∉ [mNoon, mAfternoon]) ∨
        (code = 3 ∧ s.mode ∉ [mNoon, mAfternoon, mTwilight, mSmallHours]) ∨ (code = 4 ∧ s.mode ∉ [mNoon, mAfternoon, mTwilight]) ∨
        (code = 5 ∧ s.mode ∉ [mTwilight, mSmallHours, mMidnight]))) ∨
      (r = 1 ∧ ((code = 1 ∧ s.mode = mTwilight ∧ s.get F.modeCauseCause ≠ 0) ∨
        (code = 5 ∧ s.mode = mMidnight ∧ s.feState = feLatched)))))

/-- The module has changed its mode (R619). -/
def ModeChanges (s t : State) (k : Nat) : Prop :=
  t.mode = k ∧ t.get F.modeStsPrev = s.mode ∧ t.get (F.cause pgMode Ev.modeChange) = 1

/-- What serves connections, queues and contexts is empty, but for ND 0 (R629). -/
def EndpointStopped (t : State) : Prop :=
  t.get (F.pgEnable pgQctl) = 0 ∧ t.q.wqs = [] ∧ t.q.crs = [] ∧ t.q.ops = [] ∧ (∀ p ∈ t.x.conns, p.2.nd = 0) ∧ (∀ p ∈ t.x.keys, p.2.nd = 0) ∧
  t.mt.ctxs = [] ∧ t.cl.ctxs = [] ∧ t.x.dirs = [] ∧ t.x.regions = []

/-- Nothing of the engines is left: the CORE domain has stopped or was reset (R631, R684). -/
def EnginesGone (t : State) : Prop :=
  t.q.wqs = [] ∧ t.q.crs = [] ∧ t.q.ops = [] ∧ t.x.conns = [] ∧ t.x.keys = [] ∧ t.mt.ctxs = [] ∧ t.cl.ctxs = [] ∧ t.n.xfers = [] ∧
  t.dtu.tlb = []

/-- The state that a sample of the front end leaves before what follows from it (R660). -/
def State.sampled (s : State) (x : Meas) (e : Env) : State := s.upd fun m => (m.at e).feSample x

/-- A trip of the front end (R662, R665, R668, R669): the FET is off, power-good has fallen, the trip is counted and logged, and the
front end cools or has latched off. -/
def Trips (m t : State) (cause : Nat) : Prop :=
  let tries := min 8 (m.get F.pwrStsTries + 1)
  t.pg = false ∧ t.fetOn = false ∧ t.y.fe.fault = true ∧ t.y.fe.offBy = 3 ∧ t.get F.pwrStsTries = tries ∧
  t.get (F.cause pgPwr Ev.trip) = 1 ∧
  (m.pg = true → t.get (F.cause pgPwr Ev.pgFall) = 1) ∧
  (if tries ≤ bits m.y.fe.rampCfg 22 20 then t.feState = feCool ∧ t.y.fe.coolAt = some t.now
    else t.feState = feLatched ∧ t.get (F.cause pgPwr Ev.latchOff) = 1) ∧
  (m.get F.pwrFltlogValid = 0 → t.get F.pwrFltlogValid = 1 ∧ t.get F.pwrFltlogCause = cause ∧ t.get F.pwrFltlogTries = tries ∧
    t.get F.pwrFltlogAtMs = t.now / 1000000 % 2 ^ 32) ∧
  (m.get F.pwrFltlogValid = 1 → t.get F.pwrFltlogOverrun = 1 ∧ t.get F.pwrFltlogCause = m.get F.pwrFltlogCause) ∧
  Touches [.regs, .msix, .out, .y, .now] m t

/-- The FET has been turned off without a trip (R662, R664, R669). -/
def TurnsOff (m t : State) (by' : Nat) : Prop :=
  t.fetOn = false ∧ t.pg = false ∧ (m.fetOn = true → t.y.fe.offBy = by') ∧ (m.pg = true → t.get (F.cause pgPwr Ev.pgFall) = 1) ∧
  t.get F.pwrStsTries = m.get F.pwrStsTries ∧ t.mode = m.mode ∧ Touches [.regs, .msix, .out, .y, .now] m t

/-- The MMP has answered a message on the sideband (R707): its code and tag, a status, a zero byte and a body. -/
def Replies (s t : State) (msg : List Byte) (status : Nat) (body : List Byte) : Prop :=
  Sends s t (.mctp ([(msg[0]?).getD 0, (msg[1]?).getD 0, BitVec.ofNat 8 status, 0] ++ body))

/-- A request of the firmware update reaches the MMP and asks for operation `k` of FWCTL, 0 open to 5 advance, by a write or by a
message (R707, R712). -/
def State.FwAsks (s : State) (r : FwReq) (k : Nat) : Prop :=
  match r with
  | .reg w => s.Arrives w F.trustFwctlSlot.reg ∧ bit (writeOnes w) (63 - k) = true ∧ ∀ j < k, bit (writeOnes w) (63 - j) = false
  | .mctp msg => msgCode msg = 0x10 + k

/-- An operation of FWCTL has ended with a result (R712): FWCTL shows it, FW_DONE is raised, and a message is answered with the status of
R707. Of the management plane nothing but the boot flash changes. -/
def FwEnds (s t : State) (r : FwReq) (res : Nat) (body : List Byte) : Prop :=
  t.get F.trustFwctlResult = res ∧ t.get (F.cause (pgTrust 0) Ev.fwDone) = 1 ∧
  (match r with
    | .reg _ => SendsEventsOnly s t
    | .mctp msg => Replies s t msg (if res = 0 then 0 else if res = 1 then 2 else if res = 6 then 4 else 3) body) ∧
  t.y = { s.y with nor := t.y.nor } ∧ Touches [.regs, .msix, .out, .fuses, .y, .now] s t

/-- Every page of a buffer is known to the micro-TLB of the DTU's first engine, with the rights an access needs (R170, R178). -/
def State.Buffered (s : State) (f : Nat → XReq) (n : Nat) : Prop :=
  s.dtuOn = true ∧ ∀ i < n, ∃ slot, findSlot (KMap.getD s.dtu.micro (f i).engine []) (f i).asid ((f i).va / 4096) = some slot ∧
    leafFault (f i) slot.rights = none

/-- The bytes written to host memory between two states. -/
def Written (s t : State) : List Byte :=
  (t.out.drop s.out.length).flatMap fun
    | .hostWrite _ _ bs => bs
    | _ => []

end Sys2Proof.Machine
end

