-- ==== Sys2Proof/Certificates/Slice0/Obligations.lean ====
section
/-! DEFINITION. The statements for the provers, family by family of the table of commands. -/

open Sys2Proof Sys2Proof.Machine

/-- A step takes the command at the front of the queue; on an empty queue the module idles (log 10). -/
def Obligations.StepRunsFront : Prop :=
  (∀ (c : Instr) (l : List Instr) (s : State), step { s with pending := c :: l } = exec c { s with pending := l }) ∧
  ∀ s : State, s.pending = [] → step s = .next s

/-- Reset: the values the register tables give, in the mode R616 numbers 0 (R686, R688). The identity of a T16 in DEV.IDENT is the model's choice (log 1). -/
def Obligations.ResetState : Prop :=
  State.reset.mode = 0 ∧ State.reset.straps.sampled = none ∧ State.reset.groupValid = false ∧
  (∀ n < 256, State.reset.get (F.semLockOwner n) = 0) ∧
  (∀ g < 16, State.reset.get (F.semGmaskMask g) = 0x71E) ∧
  State.reset.get F.rstLastValid = 1 ∧ State.reset.get F.rstLastKind = 0 ∧ State.reset.get F.rstLastCount = 0 ∧
  State.reset.get F.modeCfgDuskTo = 100 ∧ State.reset.get F.modeCfgHostTo = 1000 ∧
  (∀ a, a ≠ 0x40 → State.reset.word a = resetWord a) ∧
  State.reset.Canonical ∧ State.reset.QueueOk ∧ State.reset.pending = []

/-- No command sends a command: the queue loses its front and nothing else, and the module never stops. -/
def Obligations.QueueOkKept : Prop :=
  ∀ s : State, s.QueueOk → Answers (step s) fun t => t.QueueOk ∧ t.pending = s.pending.tail

/-- The register file keeps its canonical form through every command of the table. -/
def Obligations.RegistersStayCanonical : Prop :=
  ∀ s : State, s.Canonical → Answers (step s) fun t => t.Canonical

/-- Every command of the table has an effect on every state: a run works off whatever waits. -/
def Obligations.QueueDrains : Prop :=
  ∀ (s : State) (l : List Instr), ∃ t, Host.Core.run Sys2Proof.core l.length { s with pending := l } = .next t ∧ t.pending = []

/-- R19 and R20: the first sample after a reset stands. The bits of HOST_MODE among the pins are the model's packing (R741). -/
def Obligations.StrapsAreTaken : Prop :=
  (∀ (pins : BitVec 10) (s : State), s.straps.due = true → s.mode ≠ mMidnight ∨ s.pg = false →
    Answers (exec (.strapSample pins) s) fun t =>
      t.straps.sampled = some pins.toNat ∧ t.straps.due = false ∧ t.straps.differs = false ∧ t.chassis = pins.toNat / 16 % 16 ∧ t.slot = pins.toNat % 16 ∧
      t.fa = s.get F.devFaddrGroup * 256 + pins.toNat % 256 ∧ t.hostMode = pins.toNat / 256 ∧
      (∀ k < 4, t.get (F.hostLstsArr k) = pins.toNat / 256) ∧
      RegsKept (fun a => a = 0x48 ∨ (∃ k < 4, a = (F.hostLstsArr k).reg) ∨ ∃ k < 4, a = (F.routePmapMap k).reg) s t ∧
      Touches [.regs, .straps] s t) ∧
  ∀ (pins : BitVec 10) (s : State), s.straps.due = false → exec (.strapSample pins) s = .next s

/-- R21: a difference is new once; the FA never follows the pins (R20). -/
def Obligations.StrapDifferenceIsReported : Prop :=
  (∀ (pins : BitVec 10) (s : State) (v : Nat), s.straps.sampled = some v → s.straps.due = false →
    pins.toNat ≠ v → s.straps.differs = false →
    Answers (exec (.strapChanged pins) s) fun t =>
      t.get F.devFaddrStrapChg = 1 ∧ t.get (F.cause pgDev Ev.strapChanged) = 1 ∧ t.fa = s.fa ∧ t.straps.sampled = some v ∧
      t.straps.differs = true ∧ RegsKept (fun a => a = 0x48 ∨ EventRegs pgDev a) s t ∧
      Touches [.regs, .msix, .out, .straps] s t) ∧
  (∀ (pins : BitVec 10) (s : State), s.straps.sampled = none ∨ s.straps.due = true ∨
      s.straps.sampled = some pins.toNat ∨ (s.straps.differs = true ∧ s.straps.lastDiff = some pins.toNat) → exec (.strapChanged pins) s = .next s) ∧
  ∀ s : State, exec .strapAgreement s =
    .next (s.upd fun m => { m with straps := { m.straps with differs := false } })

/-- R22 and R23. The write of the same group still applies the register's other fields. -/
def Obligations.GroupIsWrittenOnce : Prop :=
  (∀ (w : Wr) (s : State), s.Arrives w 0x48 → w.half ≠ .lo → s.groupValid = false →
    Answers (exec (.groupWrite w) s) fun t =>
      t.get F.devFaddrGroup = bits w.value 41 32 ∧ t.groupValid = true ∧
      t.fa = bits w.value 41 32 * 256 + s.fa % 256 ∧ RegsKept (· = 0x48) s t ∧ OnlyRegs s t) ∧
  (∀ (w : Wr) (s : State), s.Arrives w 0x48 → w.half ≠ .lo → s.groupValid = true → s.get F.devFaddrGroup ≠ bits w.value 41 32 →
    Answers (exec (.groupWrite w) s) fun t =>
      t.word 0x48 = s.word 0x48 ∧ t.get (F.cause pgDev Ev.faConflict) = 1 ∧ RegsKept (EventRegs pgDev) s t ∧ OnlyRegsEvents s t) ∧
  ∀ (w : Wr) (s : State), s.Arrives w 0x48 → w.half = .full → s.groupValid = true → s.get F.devFaddrGroup = bits w.value 41 32 →
    Answers (exec (.groupWrite w) s) fun t =>
      t.get F.devFaddrGroup = s.get F.devFaddrGroup ∧ t.groupValid = true ∧ t.fa = s.fa ∧ OnlyRegs s t

/-- R64 to R66 and R763: the record, or overrun beside the record that stands. -/
def Obligations.FailedAccessesAreRecorded : Prop :=
  (∀ (master : BitVec 4) (addr : BitVec 24) (write : Bool) (s : State), s.masterReaches master.toNat = true →
    Answers (exec (.refusedAccess master addr write) s) fun t => RecordedAccess s t write true master.toNat addr.toNat) ∧
  (∀ (master : BitVec 4) (addr : BitVec 24) (s : State), s.masterReaches master.toNat = true →
    s.absent (addr.toNat / 0x1000) = false → s.domStopped (addr.toNat / 0x1000) (domOf (regAddr addr.toNat)) = true →
    Answers (exec (.stoppedDomainRead master addr) s) fun t => RecordedAccess s t false false master.toNat addr.toNat) ∧
  ∀ (addr : BitVec 24) (w : Wr) (s : State), s.masterReaches w.master.toNat = true →
    s.absent (addr.toNat / 0x1000) = false → s.domStopped (addr.toNat / 0x1000) (domOf (regAddr addr.toNat)) = true →
    Answers (exec (.stoppedDomainWrite addr w) s) fun t => RecordedAccess s t true false w.master.toNat addr.toNat

/-- R13 and R766 on the blocks without a command of their own and on two more registers, and the lock of R52. -/
def Obligations.RegisterWriteByAccessType : Prop :=
  (∀ (addr : BitVec 24) (w : Wr) (e : Env) (s : State) (b : BlkInfo) (i : Nat) (r : RegD), s.Arrives w addr.toNat →
    wrAligned w addr.toNat = true →
    let a := regAddr addr.toNat
    let locked := s.flag (F.pgLock (a / 0x1000))
    let new := r.write locked w (s.word a)
    blockOf (a / 0x1000) = some (b, i) → b.blk ∈ [Blk.gov, .therm, .host, .qctl, .admin, .dtu, .match, .coll, .mesh, .stch] →
    0x40 ≤ a % 0x1000 → a % 0x1000 < 0x800 ∨ ctrCount b.blk = 0 → regAt a = some r →
    let ok := r.fields.all (fun f => f.inRange locked w (s.word a)) && s.writeOk a (s.word a) new
    (ok = true → Answers (exec (.registerWrite addr w e) s) fun t =>
      (∀ f ∈ r.fields, bits (t.word a) f.hi f.lo = match f.acc with
        | .rw => bits (mergeHalf w.half (s.word a) w.value) f.hi f.lo
        | .rwl => if locked then bits (s.word a) f.hi f.lo else bits (mergeHalf w.half (s.word a) w.value) f.hi f.lo
        | .w1c => bits (s.word a &&& ~~~ writeOnes w) f.hi f.lo
        | .w1s => bits (s.word a ||| writeOnes w) f.hi f.lo
        | .ro | .wo | .rc | .own => bits (s.word a) f.hi f.lo) ∧
      (∀ k < 64, (∀ f ∈ r.fields, k < f.lo ∨ f.hi < k) → bit (t.word a) k = bit (s.word a) k) ∧ RegsKept (· = a) s t ∧
      Touches [.regs, .now] s t) ∧
    (ok = false → Answers (exec (.registerWrite addr w e) s) fun t => (∀ a, t.word a = s.word a) ∧ Touches [.regs, .now] s t)) ∧
  (∀ (w : Wr) (e : Env) (s : State), s.Arrives w 0x1050 → w.half = .full →
    1 ≤ bits w.value 31 16 → bits w.value 31 16 ≤ 60000 →
    Answers (exec (.registerWrite 0x1050 w e) s) fun t =>
      t.get F.modeCfgDuskTo = bits w.value 31 16 ∧ t.get F.modeCfgHostTo = bits w.value 15 0 ∧
      t.now = max s.now e.t ∧ RegsKept (· = 0x1050) s t ∧ Touches [.regs, .now] s t) ∧
  (∀ (w : Wr) (e : Env) (s : State), s.Arrives w 0x1050 → w.half = .full →
    bits w.value 31 16 = 0 ∨ 60000 < bits w.value 31 16 →
    Answers (exec (.registerWrite 0x1050 w e) s) fun t => Touches [.regs, .now] s t ∧ ∀ a, t.word a = s.word a) ∧
  (∀ (g : Fin 16) (w : Wr) (e : Env) (s : State), s.Arrives w (F.semGmaskMask g).reg → w.half = .full →
    Answers (exec (.registerWrite (BitVec.ofNat 24 (F.semGmaskMask g).reg) w e) s) fun t =>
      t.get (F.semGmaskMask g) = (if s.flag (F.pgLock pgSem) then s.get (F.semGmaskMask g) else bits w.value 15 0)) ∧
  ∀ (page : BitVec 12) (w : Wr) (s : State), s.Arrives w (page.toNat * 0x1000 + 0x18) → isMsixPage page.toNat = false →
    w.half ≠ .hi →
    Answers (exec (.pageLock page w) s) fun t =>
      t.get (F.pgLock page.toNat) = (if bit w.value 1 then 1 else s.get (F.pgLock page.toNat)) ∧
      t.get (F.pgLocked page.toNat) = (if bit w.value 1 then 1 else s.get (F.pgLocked page.toNat)) ∧
      t.get (F.pgEnable page.toNat) = (if ownEnable page.toNat then s.get (F.pgEnable page.toNat) else bits w.value 0 0) ∧
      RegsKept (fun a => a = page.toNat * 0x1000 + 0x18 ∨ a = page.toNat * 0x1000 + 0x20) s t ∧ OnlyRegs s t

/-- R82 and R83, every case of a nonzero owner. -/
def Obligations.SemaphoreIsClaimed : Prop :=
  ∀ (n : BitVec 8) (w : Wr) (s : State), s.Arrives w (F.semLockOwner n.toNat).reg → w.half ≠ .hi → bits w.value 3 0 ≠ 0 →
    (s.semAllowed n.toNat w.master.toNat = true → bits w.value 3 0 = w.master.toNat → s.get (F.semLockOwner n.toNat) = 0 →
      Answers (exec (.semClaim n w) s) fun t => t.get (F.semLockOwner n.toNat) = w.master.toNat ∧
        t = s.upd fun m => m.put (F.semLockOwner n.toNat) w.master.toNat) ∧
    (s.semAllowed n.toNat w.master.toNat = true → bits w.value 3 0 ≠ w.master.toNat ∨ s.get (F.semLockOwner n.toNat) ≠ 0 →
      exec (.semClaim n w) s = .next s) ∧
    (s.semAllowed n.toNat w.master.toNat = false →
      Answers (exec (.semClaim n w) s) fun t => t.get (F.cause pgSem Ev.denied) = 1 ∧ RegsKept (EventRegs pgSem) s t ∧
        OnlyRegsEvents s t)

/-- R84 to R88. The waking of the masters that wait is R87. -/
def Obligations.SemaphoreIsReleased : Prop :=
  (∀ (n : BitVec 8) (w : Wr) (s : State), s.Arrives w (F.semLockOwner n.toNat).reg → w.half ≠ .hi → bits w.value 3 0 = 0 →
    s.get (F.semLockOwner n.toNat) = w.master.toNat → w.master.toNat ≠ 0 →
    Answers (exec (.semRelease n w) s) fun t => t.get (F.semLockOwner n.toNat) = 0 ∧ t.get (F.semLockBroken n.toNat) = 0 ∧
      t.get (F.semLockWaiters n.toNat) = 0 ∧
      (∀ i < 16, nbit (s.get (F.semLockWaiters n.toNat)) i = true →
        t.get ⟨(F.semWkpndPend (4 * i + n.toNat / 64)).reg, n.toNat % 64, n.toNat % 64⟩ = 1) ∧ OnlyRegsEvents s t) ∧
  (∀ (n : BitVec 8) (w : Wr) (s : State), s.Arrives w (F.semLockOwner n.toNat).reg → w.half ≠ .hi → bits w.value 3 0 = 0 →
    s.get (F.semLockOwner n.toNat) ≠ 0 → s.get (F.semLockOwner n.toNat) ≠ w.master.toNat →
    (w.master.toNat = 8 → Answers (exec (.semForceRelease n w) s) fun t =>
      t.get (F.semLockOwner n.toNat) = 0 ∧ t.get (F.semLockBroken n.toNat) = 1 ∧ t.get (F.semLockWaiters n.toNat) = 0 ∧
      OnlyRegsEvents s t) ∧
    (w.master.toNat ≠ 8 → exec (.semForceRelease n w) s = .next s) ∧ exec (.semRelease n w) s = .next s) ∧
  (∀ (w : Wr) (s : State) (n : Nat), s.Arrives w F.semWaitN.reg → w.half ≠ .hi → bits w.value 7 0 = n →
    s.semAllowed n w.master.toNat = true →
    (s.get (F.semLockOwner n) = 0 → w.master.toNat ≠ 0 → Answers (exec (.semWait w) s) fun t =>
      t.get ⟨(F.semWkpndPend (4 * w.master.toNat + n / 64)).reg, n % 64, n % 64⟩ = 1 ∧
      t.get (F.srcPend (0x240 + w.master.toNat)) = 1 ∧ t.word (F.semLockOwner n).reg = s.word (F.semLockOwner n).reg ∧
      OnlyRegsEvents s t) ∧
    (s.get (F.semLockOwner n) ≠ 0 → s.get (F.semLockOwner n) ≠ w.master.toNat → Answers (exec (.semWait w) s) fun t =>
      nbit (t.get (F.semLockWaiters n)) w.master.toNat = true ∧ RegsKept (· = (F.semLockOwner n).reg) s t ∧ OnlyRegs s t) ∧
    (s.get (F.semLockOwner n) ≠ 0 → s.get (F.semLockOwner n) = w.master.toNat → exec (.semWait w) s = .next s)) ∧
  ∀ s : State, Answers (exec .tapReset s) fun t => OnlyRegsEvents s t ∧ ∀ n < 256,
    nbit (t.get (F.semLockWaiters n)) 9 = false ∧
    (s.get (F.semLockOwner n) = 9 → t.get (F.semLockOwner n) = 0 ∧ t.get (F.semLockBroken n) = 1 ∧ t.get (F.semLockWaiters n) = 0) ∧
    (s.get (F.semLockOwner n) ≠ 9 → t.get (F.semLockOwner n) = s.get (F.semLockOwner n) ∧
      t.get (F.semLockBroken n) = s.get (F.semLockBroken n))

/-- R90 to R94. -/
def Obligations.CheckUnitsComputeTheirCrc : Prop :=
  (∀ (u : Fin 8) (w : Wr) (s : State), s.Arrives w (F.chkCtlSel u).reg → w.half ≠ .hi → bit w.value 2 = true →
    Answers (exec (.chkStart u w) s) fun t => t.get (F.chkCtlSel u) = bits w.value 1 0 ∧
      t.get (F.chkValVal u) = (crcKind (bits w.value 1 0)).init ∧ t.get (F.chkBytesBytes u) = 0 ∧
      t.shown (F.chkResultResult u).reg = 0 ∧
      RegsKept (fun a => a = (F.chkCtlSel u).reg ∨ a = (F.chkValVal u).reg ∨ a = (F.chkBytesBytes u).reg) s t ∧ OnlyRegs s t) ∧
  (∀ (u : Fin 8) (w : Wr) (s : State), s.Arrives w (F.chkCtlSel u).reg → w.half ≠ .hi → bit w.value 2 = false →
    Answers (exec (.chkSelWrite u w) s) fun t => t.get (F.chkCtlSel u) = bits w.value 1 0 ∧
      RegsKept (· = (F.chkCtlSel u).reg) s t ∧ OnlyRegs s t) ∧
  ∀ (u : Fin 8) (width : FeedWidth) (w : Wr) (s : State), s.Arrives w (feedReg u width).1.reg → w.half ≠ .hi →
    Answers (exec (.chkFeed u width w) s) fun t =>
      t.get (F.chkValVal u) =
        (crcKind (s.get (F.chkCtlSel u))).feed (s.get (F.chkValVal u)) (leBytes (feedReg u width).2 w.value.toNat) % 2 ^ 64 ∧
      t.get (F.chkBytesBytes u) = (s.get (F.chkBytesBytes u) + (feedReg u width).2) % 2 ^ 48 ∧
      RegsKept (fun a => a = (F.chkValVal u).reg ∨ a = (F.chkBytesBytes u).reg) s t ∧ OnlyRegs s t

/-- R89, with the check values of its table, and R91. -/
def Obligations.CrcFeedsCompose : Prop :=
  (∀ (sel v : Nat) (a b : List Byte), (crcKind sel).feed v (a ++ b) = (crcKind sel).feed ((crcKind sel).feed v a) b) ∧
  (∀ sel < 4, (crcKind sel).feed (crcKind sel).init (leBytes 9 0x393837363534333231) ^^^ (crcKind sel).xor =
    [0xCBF43926, 0xE3069283, 0x6C40DF5F0B497347, 0xD0DB][sel]!)

/-- R73 to R77: when a message is sent, to the MMP for the entries routed there. -/
def Obligations.EventMessages : Prop :=
  (∀ (w : Wr) (s : State) (n : Nat), s.Arrives w F.evtSwsetN.reg → w.half ≠ .hi → bits w.value 9 0 = n → 0x250 ≤ n →
    Answers (exec (.swset w) s) fun t => t.asserted n = true ∧ RegsKept (fun a => a = (F.srcPend n).reg ∨ EventRegs 0x10 a) s t ∧
      OnlyRegsEvents s t ∧
      (s.asserted n = true → t.out = s.out ∧ t.msix = s.msix) ∧
      (s.asserted n = false → s.mainOff = false → s.get (F.evtEnt n 63 63) = 1 → s.get (F.evtEnt n 62 62) = 1 →
        t.out = s.out ++ [.mmpMsg n] ∧ t.msix = s.msix)) ∧
  (∀ (k j : Fin 4) (w : Wr) (s : State), s.Arrives w (F.evtSrcpndPend k j).reg → w.half = .full →
    Answers (exec (.srcpndClear k j w) s) fun t => OnlyRegs s t ∧ RegsKept (· = (F.evtSrcpndPend k j).reg) s t ∧ ∀ i < 64,
      0x240 ≤ 256 * k.val + 64 * j.val + i → t.asserted (256 * k.val + 64 * j.val + i) =
        (s.asserted (256 * k.val + 64 * j.val + i) && !bit w.value i)) ∧
  (∀ (n : BitVec 10) (w : Wr) (s : State), s.Arrives w (F.evtEnt n.toNat 63 63).reg → w.half = .full →
    Answers (exec (.evtEntryWrite n w) s) fun t => t.get (F.evtEnt n.toNat 63 61) = bits w.value 63 61 ∧
      t.get (F.evtEnt n.toNat 57 56) = bits w.value 57 56 ∧ t.get (F.evtEnt n.toNat 42 32) = bits w.value 42 32 ∧
      OnlyRegsEvents s t ∧
      (s.get (F.evtEnt n.toNat 63 63) = 0 → bits w.value 63 62 = 3 → s.mainOff = false → s.asserted n.toNat = true →
        t.out = s.out ++ [.mmpMsg n.toNat]) ∧
      (s.get (F.evtEnt n.toNat 63 63) = 1 ∨ bit w.value 63 = false ∨ s.asserted n.toNat = false → t.out = s.out)) ∧
  ∀ (page : BitVec 12) (w : Wr) (s : State), s.Arrives w (page.toNat * 0x1000 + 0x38) → page.toNat < 0x240 → w.half = .full →
    Answers (exec (.evtPendClear page w) s) fun t =>
      t.word (page.toNat * 0x1000 + 0x38) = s.word (page.toNat * 0x1000 + 0x38) &&& ~~~w.value ∧ OnlyRegsEvents s t ∧
      (s.asserted page.toNat = false → t.out = s.out) ∧
      (s.asserted page.toNat = true → t.asserted page.toNat = true → s.word (page.toNat * 0x1000 + 0x38) &&& w.value ≠ 0 →
        s.mainOff = false → s.get (F.evtEnt page.toNat 63 63) = 1 → s.get (F.evtEnt page.toNat 62 62) = 1 →
        t.out = s.out ++ [.mmpMsg page.toNat])

/-- R79 and R81. -/
def Obligations.MsixVectors : Prop :=
  (∀ (link : Fin 4) (mask : Bool) (s : State),
    (s.linkUp link = true → Answers (exec (.msixEnable link mask) s) fun t =>
      (t.msixFn link).enable = true ∧ (t.msixFn link).funcMask = mask ∧ OnlyRegsEvents s t ∧
      (∀ n < 1024, (s.msixFn link).enable = false → mask = false → s.mainOff = false → s.asserted n = true →
        s.get (F.evtEnt n 63 62) = 2 → s.get (F.evtEnt n 57 56) = link.val →
        bit ((s.msixFn link).word (16 * s.get (F.evtEnt n 42 32) + 8)) 32 = false →
        (s.msixFn link).msg link (s.get (F.evtEnt n 42 32)) ∈ t.out.drop s.out.length) ∧
      (s.get (F.ctrValue (pgHost link) 4) + 1024 + (s.msixFn link).pend.length < 2 ^ 48 → ∀ j < 4, j ≠ link.val → t.msixFn j = s.msixFn j)) ∧
    (s.linkUp link = false → exec (.msixEnable link mask) s = .next s)) ∧
  ∀ (link : Fin 4) (v : BitVec 11) (s : State), Answers (exec (.msixUnmask link v) s) fun t =>
    bit ((t.msixFn link).word (16 * v.toNat + 8)) 32 = false ∧ OnlyRegsEvents s t ∧
    (s.wraps (pgHost link) 4 1 = false →
      ((s.msixFn link).funcMask = false → v.toNat ∉ (t.msixFn link).pend) ∧
      (∀ u, u ≠ v.toNat → (u ∈ (t.msixFn link).pend ↔ u ∈ (s.msixFn link).pend)) ∧
      (∀ j < 4, j ≠ link.val → t.msixFn j = s.msixFn j) ∧
      ((s.msixFn link).funcMask = false → v.toNat ∈ (s.msixFn link).pend →
        v.toNat ∈ (s.msixFn link).crPend ∨ (∃ n < 1024, s.asserted n = true ∧ s.get (F.evtEnt n 63 62) = 2 ∧
          s.get (F.evtEnt n 57 56) = link.val ∧ s.get (F.evtEnt n 42 32) = v.toNat) →
        t.out = s.out ++ [(s.msixFn link).msg link v.toNat]))

/-- R716 and R717, on the counters of a port. -/
def Obligations.CountersAreSetByWrites : Prop :=
  (∀ (p : Fin 48) (n : Fin 12) (w : Wr) (s : State), s.Arrives w (F.ctrValue (pgPort p) n).reg → w.half = .full →
    Answers (exec (.counterWrite (BitVec.ofNat 12 (pgPort p)) (BitVec.ofNat 8 n) w) s) fun t =>
      t.get (F.ctrValue (pgPort p) n) = bits w.value 47 0 ∧ t.get (F.ctrOvf (pgPort p) n) = bits w.value 63 63 ∧
      RegsKept (· = (F.ctrValue (pgPort p) n).reg) s t ∧ OnlyRegs s t) ∧
  ∀ (p : Fin 48) (n : BitVec 8) (w : Wr) (s : State), 12 ≤ n.toNat → s.Arrives w (F.ctrValue (pgPort p) n.toNat).reg →
    exec (.counterWrite (BitVec.ofNat 12 (pgPort p)) n w) s = .next s

/-- R100, R101 and R764. -/
def Obligations.QueueBlockStartsAndStops : Prop :=
  (∀ (w : Wr) (e : Env) (s : State) (ws cs : List Word), s.Arrives w 0x28018 → w.half ≠ .hi → bit w.value 0 = true →
    s.get (F.pgEnable pgQctl) = 0 → 4 ≤ s.get F.qctlWqtabSize → s.get F.qctlWqtabSize ≤ 16 →
    4 ≤ s.get F.qctlCrtabSize → s.get F.qctlCrtabSize ≤ 16 →
    s.readWords e (s.get F.qctlWqtabLink) 16 (s.wqAddr 0) = some ws →
    s.readWords e (s.get F.qctlWqtabLink) 8 (s.crAddr 0) = some cs →
    contextsOk (WqCtx.parse ws).2 (CrCtx.parse cs).2 (WqCtx.parse ws).1 (CrCtx.parse cs).1 = true →
    Answers (exec (.queueBlockEnable w e) s) fun t => t.running = true ∧ t.get (F.pgEnable pgQctl) = 1 ∧
      t.get (F.pgBlock pgQctl 1 1) = 0 ∧
      t.q.wqs = [(0, { (WqCtx.parse ws).1 with state := .active, errCause := 0, errIdx := 0, outstanding := 0 })] ∧
      t.q.crs = [(0, { (CrCtx.parse cs).1 with state := .active, binds := 1, ovf := false })] ∧ t.q.ops = [] ∧
      ((∀ q ∈ s.x.conns, q.2.txState ≠ .failing) → t.x.conns = s.x.conns) ∧ Touches [.regs, .q, .smp, .x, .reads, .now] s t) ∧
  (∀ (w : Wr) (e : Env) (s : State), s.Arrives w 0x28018 → w.half ≠ .hi → bit w.value 0 = true →
    s.get (F.pgEnable pgQctl) = 0 →
    (s.get F.qctlWqtabSize < 4 ∨ 16 < s.get F.qctlWqtabSize ∨ s.get F.qctlCrtabSize < 4 ∨ 16 < s.get F.qctlCrtabSize) →
    Answers (exec (.queueBlockEnable w e) s) fun t => t.running = false ∧ t.get (F.pgEnable pgQctl) = 0 ∧
      t.get (F.pgBlock pgQctl 1 1) = 1 ∧ t.get (F.cause pgQctl Ev.tableErr) = 1 ∧ t.q.wqs = []) ∧
  (∀ (w : Wr) (e : Env) (s : State), s.Arrives w 0x28018 → w.half ≠ .hi → bit w.value 0 = false →
    s.get (F.pgEnable pgQctl) = 1 →
    Answers (exec (.queueBlockDisable w e) s) fun t => t.running = false ∧ t.get (F.pgEnable pgQctl) = 0 ∧
      t.q = { Queues.init with nextOp := s.q.nextOp } ∧ ((∀ q ∈ s.x.conns, q.2.txState ≠ .failing) → t.x.conns = s.x.conns) ∧
      Touches [.regs, .q, .smp, .x, .now] s t) ∧
  ∀ (w : Wr) (s : State), s.Arrives w 0x2A018 → w.half ≠ .hi → bits w.value 0 0 ≠ s.get (F.pgEnable pgDtu) →
    Answers (exec (.dtuEnable w) s) fun t => t.get (F.pgEnable pgDtu) = bits w.value 0 0 ∧ t.dtu = Dtu.init ∧
      Touches [.regs, .dtu, .q] s t

/-- R104, R105, R107, R108 and R131. -/
def Obligations.DoorbellsMoveIndices : Prop :=
  (∀ (n : BitVec 16) (link : Fin 4) (half : Half) (v : Word) (e : Env) (s : State) (c : WqCtx), s.wq n.toNat = some c →
    half ≠ .hi → s.wqTakes n.toNat link = true →
    let new := seqSub 32 (bits v 31 0) c.ci
    let old := seqSub 32 c.piKnown c.ci
    (old < new → new ≤ 2 ^ c.size →
      exec (.wqDoorbell n link half v e) s = .next (s.upd fun m => (m.at e).setWq n.toNat { c with piKnown := bits v 31 0 })) ∧
    (new = old → exec (.wqDoorbell n link half v e) s = .next (s.upd fun m => m.at e)) ∧
    (new < old → Answers (exec (.wqDoorbell n link half v e) s) fun t => Counts s t pgQctl 2 1 ∧ t.q = s.q ∧
      Touches [.regs, .msix, .out, .now] s t) ∧
    (old < new → 2 ^ c.size < new → Answers (exec (.wqDoorbell n link half v e) s) fun t => WqErrs t n.toNat ecDbOverrun ∧
      Touches errParts s t)) ∧
  (∀ (n : BitVec 16) (link : Fin 4) (half : Half) (v : Word) (off : BitVec 6) (data : List Byte) (e : Env) (s : State),
    (s.WqKnown e n.toNat → half = .hi ∨ s.wqTakes n.toNat link = false →
      Answers (exec (.wqDoorbell n link half v e) s) (Discarded s)) ∧
    (s.WqKnown e n.toNat → s.wqTakes n.toNat link = false → Answers (exec (.pushWrite n link off data e) s) (Discarded s)) ∧
    (s.CrKnown e n.toNat → s.crTakes n.toNat link = false → Answers (exec (.crDoorbell n link half v e) s) (Discarded s))) ∧
  (∀ (n : BitVec 16) (link : Fin 4) (v : Word) (e : Env) (s : State) (c : CrCtx), s.cr n.toNat = some c →
    s.crTakes n.toNat link = true → (s.crRt n.toNat).held = [] →
    (seqSub 32 (bits v 31 0) c.ciKnown ≤ c.used →
      exec (.crDoorbell n link .lo v e) s = .next (s.upd fun m => (m.at e).setCr n.toNat { c with ciKnown := bits v 31 0 })) ∧
    (c.used < seqSub 32 (bits v 31 0) c.ciKnown → Answers (exec (.crDoorbell n link .lo v e) s) fun t =>
      t.get (F.cause pgQctl Ev.ciInvalid) = 1 ∧ t.q = s.q ∧ Touches [.regs, .msix, .out, .now] s t)) ∧
  ∀ (n : BitVec 16) (link : Fin 4) (v : BitVec 32) (e : Env) (s : State) (c : CrCtx), s.cr n.toNat = some c →
    s.crTakes n.toNat link = true → v.toNat % 2 = 1 →
    (c.pi = c.ciKnown → exec (.crArm n link v e) s = .next (s.upd fun m => (m.at e).setCr n.toNat { c with armed := true })) ∧
    (c.pi ≠ c.ciKnown → Answers (exec (.crArm n link v e) s) fun t => t.cr n.toNat = some { c with armed := false } ∧
      Touches [.regs, .msix, .out, .q, .now] s t ∧
      (s.canTake c.link = true → (s.msixFn c.link).masked c.vector = false → s.wraps (pgHost c.link) 4 1 = false →
        t.out = s.out ++ [(s.msixFn c.link).msg c.link c.vector]) ∧
      (s.canTake c.link = false → t.out = s.out ∧ t.msix = s.msix))

/-- R110, R112, R114 and R121. -/
def Obligations.PushesPollsAndShadows : Prop :=
  (∀ (n : BitVec 16) (link : Fin 4) (off : BitVec 6) (data : List Byte) (e : Env) (s : State) (c : WqCtx),
    s.wq n.toNat = some c → s.wqTakes n.toNat link = true →
    (pushBytes off.toNat data).any (fun p => (KMap.get (s.wqRt n.toNat).push p.1).isSome) = false →
    let asm := (pushBytes off.toNat data).foldl (fun l p => KMap.put l p.1 p.2) (s.wqRt n.toNat).push
    (asm.length ≠ 64 → Answers (exec (.pushWrite n link off data e) s) fun t =>
      t.wqRt n.toNat = { s.wqRt n.toNat with push := asm } ∧ t.wq n.toNat = some c ∧ Touches [.q, .now] s t) ∧
    (asm.length = 64 → seqSub 32 c.piKnown c.ci < 2 ^ c.size → c.size ≤ 20 →
      Answers (exec (.pushWrite n link off data e) s) fun t => (t.wqRt n.toNat).push = [] ∧
        (∃ c', t.wq n.toNat = some c' ∧ c'.piKnown = (c.piKnown + 1) % 2 ^ 32) ∧ Touches (.draws :: errParts) s t ∧
        ((s.wqRt n.toNat).ciSince < 15 → Touches [.regs, .msix, .out, .q, .smp, .draws, .now] s t))) ∧
  (∀ (n : BitVec 16) (e : Env) (s : State) (c : WqCtx) (bs : List Byte), s.wq n.toNat = some c → c.poll = true →
    c.state = .active → bs.length = 4 →
    s.ReadsVirt e c.link { asid := c.asid, va := c.piShadow, acc := .shadowRead, user := c.user, allowSe := true, engine := 0,
                           source := 0, object := n.toNat } bs →
    seqSub 32 c.piKnown c.ci < seqSub 32 (leNat bs) c.ci → seqSub 32 (leNat bs) c.ci ≤ 2 ^ c.size →
    let took (t : State) : Prop := t.wq n.toNat = some { c with piKnown := leNat bs } ∧ Counts s t pgQctl 5 1 ∧ SendsEventsOnly s t ∧
      Touches (.q :: busParts) s t
    Answers (exec (.shadowPoll n e) s) took ∧ Answers (exec (.hostReadReturn (.pi n.toNat) e) s) took) ∧
  ∀ (n : BitVec 16) (e : Env) (s : State) (c : WqCtx) (pa : Nat), s.wq n.toNat = some c → (s.wqRt n.toNat).ciSince ≠ 0 →
    s.Translates { asid := c.asid, va := c.ciShadow, acc := .shadowWrite, user := c.user, allowSe := true, engine := 0,
                   source := 0, object := n.toNat } 4 pa →
    Answers (exec (.ciShadowWrite n e) s) fun t => Sends s t (.hostWrite c.link pa (leBytes 4 c.ci)) ∧
      (t.wqRt n.toNat).ciSince = 0 ∧ t.wq n.toNat = some c ∧ Touches (.q :: busParts) s t

/-- R117 to R121, R175 and R765. -/
def Obligations.WqesComeOnChip : Prop :=
  (∀ (n : BitVec 16) (e : Env) (s : State) (c : WqCtx) (slot : TlbSlot) (pa : Nat) (se : Bool), s.wq n.toNat = some c →
    KMap.get (s.wqRt n.toNat).pushed c.ci = none → s.mayFetch n.toNat = true → (s.wqRt n.toNat).fetch = none →
    s.fetchCount n.toNat c ≠ 0 → s.dtuOn = true → s.tlbHit (fetchReq n.toNat c c.ci) = some slot →
    slotResult (fetchReq n.toNat c c.ci) slot = .done pa se →
    Answers (exec (.wqeFetch n e) s) fun t =>
      (t.wqRt n.toNat).fetch =
        some { idx := c.ci, n := if se then 1 else s.fetchCount n.toNat c, addr := pa, walk := none, stale := false } ∧
      t.q.pool = s.q.pool + (if se then 1 else s.fetchCount n.toNat c) ∧ t.wq n.toNat = some c ∧ SendsEventsOnly s t ∧
      Touches [.regs, .msix, .out, .q, .dtu, .now] s t) ∧
  (∀ (n : BitVec 16) (e : Env) (s : State) (c : WqCtx) (f : Fetch), s.wq n.toNat = some c →
    (s.wqRt n.toNat).fetch = some f → f.walk = none →
    (∀ ws,
      let arrive (t : State) : Prop :=
        t.wq n.toNat = some { c with ci := (f.idx + f.n) % 2 ^ 32, outstanding := c.outstanding + f.n } ∧
        (t.wqRt n.toNat).fetch = none ∧ t.q.nextOp = s.q.nextOp + f.n ∧
        ∀ k < f.n, ∃ o, t.op (s.q.nextOp + k) = some o ∧ o.wq = n.toNat ∧ o.idx = (f.idx + k) % 2 ^ 32 ∧
          o.wqe = (ws.drop (8 * k)).take 8 ∧ o.started = false
      ((s.wqRt n.toNat).ciSince + f.n ≤ 8 → Answers (exec (.wqeFetchReturn n (some ws) e) s) fun t => arrive t ∧
        (t.wqRt n.toNat).ciSince = (s.wqRt n.toNat).ciSince + f.n ∧ Touches [.regs, .msix, .out, .q, .smp, .draws, .now] s t) ∧
      (∀ pa, 8 < (s.wqRt n.toNat).ciSince + f.n →
        s.Translates { asid := c.asid, va := c.ciShadow, acc := .shadowWrite, user := c.user, allowSe := true, engine := 0, source := 0,
                       object := n.toNat } 4 pa →
        Answers (exec (.wqeFetchReturn n (some ws) e) s) fun t => arrive t ∧ (t.wqRt n.toNat).ciSince = 0 ∧
          Sends s t (.hostWrite c.link pa (leBytes 4 ((f.idx + f.n) % 2 ^ 32))) ∧
          Touches [.regs, .msix, .out, .q, .smp, .draws, .dtu, .reads, .now] s t)) ∧
    (c.state = .active → Answers (exec (.wqeFetchReturn n none e) s) fun t => WqErrs t n.toNat ecFetchFault ∧
      t.get (F.cause pgDtu Ev.dtuFault) = 1 ∧ Touches errParts s t)) ∧
  ∀ (n : BitVec 16) (e : Env) (s : State) (c : WqCtx) (f : Fetch) (w : Walk), s.wq n.toNat = some c →
    (s.wqRt n.toNat).fetch = some f → f.walk = some w →
    (∀ (d : Word) (l : List Word) (pa : Nat) (se : Bool), s.dtuOn = true → w.level = 1 → bit d 0 = true → bits d 11 8 = 0 → bits d 63 57 = 0 →
      bits d 7 6 ≠ 3 → slotResult w.req (leafSlot w.req.asid w.req.va d).1 = .done pa se →
      Answers (exec (.walkReadReturn n (some (d :: l)) e) s) fun t =>
        (t.wqRt n.toNat).fetch = some { f with walk := none, addr := pa, n := if se then 1 else f.n } ∧ t.wq n.toNat = some c ∧
        Touches [.regs, .msix, .out, .q, .dtu, .now] s t) ∧
    (c.state = .active → Answers (exec (.walkReadReturn n none e) s) fun t => WqErrs t n.toNat ecFetchFault ∧
      t.get (F.cause pgDtu Ev.dtuFault) = 1 ∧ Touches errParts s t)

/-- R117 to R119: R118 whole, and the bounds of its neighbours on the read. -/
def Obligations.FetchesStayInBounds : Prop :=
  ∀ (n : BitVec 16) (e : Env) (s t : State) (f : Fetch), (s.wqRt n.toNat).fetch = none →
    exec (.wqeFetch n e) s = .next t → (t.wqRt n.toNat).fetch = some f →
    (∃ c, t.wq n.toNat = some c ∧ f.idx = c.ci ∧ 1 ≤ f.n ∧ f.n ≤ 8 ∧ f.n ≤ seqSub 32 c.piKnown c.ci ∧
      c.ci % 2 ^ c.size + f.n ≤ 2 ^ c.size ∧ c.outstanding + f.n ≤ 256) ∧ t.q.pool ≤ 16384

/-- R125, R126, R129, R135, R136, R138 and R139. -/
def Obligations.CompletionsReachTheirRing : Prop :=
  (∀ (k id : Nat) (e : Env) (s : State) (c : Completion) (o : Op) (w : WqCtx), s.q.done[k]? = some c → c.owner = .op id →
    s.op id = some o → o.trig = none → s.wq o.wq = some w → s.smp.tagged = [] →
    (c.write = false → Answers (exec (.completionWrite k e) s) fun t => t.op id = none ∧ t.q.done = s.q.done.eraseIdx k ∧
      t.q.pool = s.q.pool - 1 ∧ t.wq o.wq = some { w with outstanding := w.outstanding - 1 } ∧
      t.x = { s.x with conns := s.x.conns.map fun q => (q.1, if q.2.failOps.contains id then q.2.opOver id else q.2) } ∧
      Touches [.q, .x, .now] s t) ∧
    (∀ (r : CrCtx) (pa : Nat), c.write = true → s.cr w.cr = some r → r.state = .active → (s.crRt w.cr).held = [] →
      r.full = false →
      s.Translates (crReq w.cr r ((r.ringVa + 32 * (r.pi % 2 ^ r.size)) % 2 ^ 64) .shadowWrite) 32 pa →
      Answers (exec (.completionWrite k e) s) fun t =>
        SendsFirst s t (.hostWrite r.link pa ({ c with nd := w.nd } : Completion).bytes) ∧
        (∃ r', t.cr w.cr = some r' ∧ r'.pi = (r.pi + 1) % 2 ^ 32) ∧ t.q.done = s.q.done.eraseIdx k ++ t.q.done.drop (s.q.done.eraseIdx k).length ∧
        t.op id = none) ∧
    (∀ (r : CrCtx), c.write = true → s.cr w.cr = some r → r.state = .active →
      (s.crRt w.cr).held ≠ [] ∨ (r.full = true ∧ r.ciShadow = 0) →
      Answers (exec (.completionWrite k e) s) fun t =>
        (t.crRt w.cr).held = (s.crRt w.cr).held ++ [{ c with cr := w.cr, nd := w.nd }] ∧ t.cr w.cr = some { r with ovf := true } ∧
        t.get (F.cause pgQctl Ev.crOverflow) = 1 ∧ t.q.done = s.q.done.eraseIdx k ∧ t.op id = some o ∧
        (w.state = .active → ∃ w', t.wq o.wq = some w' ∧ w'.state = .stopped) ∧ SendsEventsOnly s t ∧
        Touches [.regs, .msix, .out, .q, .now] s t)) ∧
  (∀ (n : BitVec 16) (e : Env) (s : State) (r : CrCtx) (bs : List Byte), s.cr n.toNat = some r → r.state = .active →
    r.ciShadow ≠ 0 → (s.crRt n.toNat).held ≠ [] → bs.length = 4 → s.ReadsVirt e r.link (crReq n.toNat r r.ciShadow .shadowRead) bs →
    seqSub 32 (leNat bs) r.ciKnown ≤ r.used →
    Answers (exec (.crShadowReread n e) s) fun t => ∃ r', t.cr n.toNat = some r' ∧ r'.ciKnown = leNat bs) ∧
  (∀ (n : BitVec 16) (e : Env) (s : State), (s.crRt n.toNat).held ≠ [] → s.get F.qctlCrovtoTimeout ≠ 0 → s.q.awayWq = [] →
    ((s.crRt n.toNat).heldAt + s.get F.qctlCrovtoTimeout * 1000 ≤ max s.now e.t → Answers (exec (.crOverflowTimeout n e) s) fun t => Touches errParts s t ∧ (t.crRt n.toNat).held = (s.crRt n.toNat).held ∧
      ∀ q c, s.wq q = some c → c.cr = n.toNat → c.state = .active ∨ c.state = .stopped → WqErrs t q ecCrOverflow) ∧
    (max s.now e.t < (s.crRt n.toNat).heldAt + s.get F.qctlCrovtoTimeout * 1000 →
      exec (.crOverflowTimeout n e) s = .next (s.upd fun m => m.at e))) ∧
  ∀ (id : Nat) (e : Env) (s : State) (o : Op) (c : WqCtx), s.op id = some o → s.wq o.wq = some c →
    c.state = .active ∨ c.state = .stopped → o.finished = false → o.silent = false → s.mayStart id o = true → opInvalid c o = true →
    Answers (exec (.unassignedOpcode id e) s) fun t =>
      OpFails s t id o.wq stInvalidWqe (if wqeBits o.wqe 8 63 21 ≠ 0 then 8 else 0) ∧ WqErrs t o.wq ecLocal ∧ Touches errParts s t

/-- R144, R147 and R773, under R141 and R142. -/
def Obligations.AdminCreatesAndChangesQueues : Prop :=
  (∀ (id : Nat) (o : Op) (e : Env) (s : State), s.AdminNext 0x80 id o → s.WqKnown e (wqeField o.wqe 0x10 2) →
    (s.cr (wqeField o.wqe 0x12 2)).isSome ∨ s.crInTable (wqeField o.wqe 0x12 2) = false →
    (∀ r, s.wq (wqeField o.wqe 0x10 2) = none → s.cr (wqeField o.wqe 0x12 2) = some r →
      firstFail (s.createWqChecks o.wqe) = none →
      Answers (exec (.createWq e) s) fun t => AdminCompletes s t id stSuccess 0 0 ∧
        t.wq (wqeField o.wqe 0x10 2) = some { createWqCtx o.wqe with
          state := if (s.crRt (wqeField o.wqe 0x12 2)).held.isEmpty then .active else .stopped } ∧
        t.cr (wqeField o.wqe 0x12 2) = some { r with binds := r.binds + 1 } ∧ Touches [.regs, .msix, .out, .q, .reads, .now] s t) ∧
    (∀ st d, firstFail (s.createWqChecks o.wqe) = some (st, d) →
      Answers (exec (.createWq e) s) fun t => AdminCompletes s t id st 0 d ∧ t.q.wqs = s.q.wqs ∧ t.q.crs = s.q.crs ∧
        Touches [.regs, .q, .reads, .now] s t)) ∧
  (∀ (id : Nat) (o : Op) (e : Env) (s : State), s.AdminNext 0x83 id o → s.CrKnown e (wqeField o.wqe 0x10 2) →
    s.cr (wqeField o.wqe 0x10 2) = none → firstFail (s.createCrChecks o.wqe) = none →
    Answers (exec (.createCr e) s) fun t => AdminCompletes s t id stSuccess 0 0 ∧
      t.cr (wqeField o.wqe 0x10 2) = some (createCrCtx o.wqe) ∧ Touches [.regs, .msix, .out, .q, .reads, .now] s t) ∧
  ∀ (id : Nat) (o : Op) (e : Env) (s : State) (c : WqCtx), s.AdminNext 0x82 id o → s.wq (wqeField o.wqe 0x10 2) = some c →
    (s.cr c.cr).isSome → firstFail (s.modifyChecks o.wqe) = none → sizeOk c.size = true →
    Answers (exec (.modifyWq e) s) fun t => AdminCompletes s t id stSuccess 0 0 ∧ Touches [.regs, .msix, .out, .q, .now] s t ∧
      (∃ c', t.wq (wqeField o.wqe 0x10 2) = some c' ∧
        Sends s t (.hostWrite (s.get F.qctlWqtabLink) (s.wqAddr (wqeField o.wqe 0x10 2)) (c'.staticBytes true))) ∧
      (wqeField o.wqe 0x12 2 = 1 → t.wq (wqeField o.wqe 0x10 2) =
        some { c with
          ci := wqeField o.wqe 0x18 4
          piKnown := wqeField o.wqe 0x18 4
          state := (if (s.crRt c.cr).held.isEmpty then .active else .stopped) }) ∧
      (wqeField o.wqe 0x12 2 = 2 → t.wq (wqeField o.wqe 0x10 2) = some { c with tcMask := wqeField o.wqe 0x20 1 }) ∧
      (wqeField o.wqe 0x12 2 = 4 → t.wq (wqeField o.wqe 0x10 2) =
        some { c with poll := decide (wqeField o.wqe 0x21 1 = 1), pollIvl := wqeField o.wqe 0x22 2 })

/-- R133, R146 and R147. -/
def Obligations.AdminDestroysQueues : Prop :=
  (∀ (id : Nat) (o : Op) (e : Env) (s : State) (c : WqCtx), s.AdminNext 0x81 id o → s.wqInTable (wqeField o.wqe 0x10 2) = true →
    s.wq (wqeField o.wqe 0x10 2) = some c → c.state ≠ .free → wqeField o.wqe 0x10 2 ≠ 0 → (s.cr c.cr).isSome →
    Answers (exec (.destroyWq e) s) fun t => (∃ c', t.wq (wqeField o.wqe 0x10 2) = some c' ∧ c'.state = .closing) ∧
      (∀ link, t.wqTakes (wqeField o.wqe 0x10 2) link = false) ∧ (∃ a, t.q.admin = some a ∧ a.opcode = 0x81 ∧ a.op = id) ∧
      t.get F.adminCurBusy = 1 ∧ Touches errParts s t) ∧
  (∀ (a : AdminOp) (e : Env) (s : State) (c : WqCtx), s.AdminRuns 0x81 a → s.wq (wqeField a.wqe 0x10 2) = some c →
    (∀ r, c.state = .closing → c.outstanding = 0 → (∀ p ∈ s.q.ops, p.2.wq ≠ wqeField a.wqe 0x10 2) → s.cr c.cr = some r →
      Answers (exec (.wqCloseDone e) s) fun t => t.wq (wqeField a.wqe 0x10 2) = none ∧
        t.cr c.cr = some { r with binds := r.binds - 1 } ∧
        AdminCompletes s t a.op stSuccess (s.wqRt (wqeField a.wqe 0x10 2)).flushed 0 ∧ Touches [.regs, .msix, .out, .q, .now] s t) ∧
    (c.state ≠ .closing ∨ c.outstanding ≠ 0 ∨ (∃ p ∈ s.q.ops, p.2.wq = wqeField a.wqe 0x10 2) →
      exec (.wqCloseDone e) s = .next (s.upd fun m => m.at e))) ∧
  ∀ (id : Nat) (o : Op) (e : Env) (s : State) (c : CrCtx), s.AdminNext 0x84 id o → s.crInTable (wqeField o.wqe 0x10 2) = true →
    s.cr (wqeField o.wqe 0x10 2) = some c → c.state ≠ .free → wqeField o.wqe 0x10 2 ≠ 0 → c.binds = 0 →
    (c.state = .active → (s.crRt (wqeField o.wqe 0x10 2)).held = []) →
    (∀ k ∈ (s.crRt (wqeField o.wqe 0x10 2)).held, k.owner ≠ .op id) →
    Answers (exec (.destroyCr e) s) fun t => t.cr (wqeField o.wqe 0x10 2) = none ∧ AdminCompletes s t id stSuccess 0 0 ∧
      Touches [.regs, .msix, .out, .q, .x, .smp, .now] s t

/-- R143, R151, R187 to R191 and R277. -/
def Obligations.AdminDropsWhatIsCached : Prop :=
  (∀ (id : Nat) (o : Op) (e : Env) (s : State), s.AdminNext 0x85 id o → wqeField o.wqe 0x10 1 = 2 →
    (s.named 2 (wqeField o.wqe 0x12 2)).1.any (fun q => (s.wqRt q).fetch.isSome) = false →
    Answers (exec (.invalidateContext e) s) fun t => (∀ n c, t.wq n = some c → c.state = .free) ∧
      (∀ n c, t.cr n = some c → c.state = .free) ∧
      AdminCompletes s t id stSuccess ((s.named 2 (wqeField o.wqe 0x12 2)).1.length + (s.named 2 (wqeField o.wqe 0x12 2)).2.length) 0 ∧
      Touches [.regs, .msix, .out, .q, .now] s t) ∧
  (∀ (id : Nat) (o : Op) (e : Env) (s : State), s.AdminNext 0x86 id o → wqeField o.wqe 0x12 2 < 4 →
    (wqeField o.wqe 0x12 2 % 2 = 1 ∨ wqeField o.wqe 0x10 2 < 2 ^ s.get F.dtuAstabSize) →
    (wqeField o.wqe 0x12 2 ≠ 0 ∨ (wqeField o.wqe 0x18 8 % 4096 = 0 ∧ wqeField o.wqe 0x20 4 ≠ 0)) →
    Answers (exec (.invalidateTlb e) s) fun t =>
      t.dtu.tlb = s.dtu.tlb.filter (fun x => !(tlbSel o.wqe).hits x) ∧
      (∀ p ∈ t.dtu.micro, ∀ x ∈ p.2, (tlbSel o.wqe).hits x = false) ∧
      t.dtu.walkCache = s.dtu.walkCache.filter (fun x => !(tlbSel o.wqe).walkHit x.asid) ∧
      t.dtu.asidCache = s.dtu.asidCache.filter (fun p => !(tlbSel o.wqe).asidHit p.1) ∧
      (∀ n f, (t.wqRt n).fetch = some f → f.stale = true) ∧ (∃ a, t.q.admin = some a ∧ a.opcode = 0x86 ∧ a.op = id) ∧
      Touches [.regs, .q, .dtu, .now] s t) ∧
  (∀ (id : Nat) (o : Op) (e : Env) (s : State), s.AdminNext 0x86 id o → wqeField o.wqe 0x12 2 = 0 → wqeField o.wqe 0x20 4 = 0 →
    wqeField o.wqe 0x10 2 < 2 ^ s.get F.dtuAstabSize → wqeField o.wqe 0x18 8 % 4096 = 0 →
    Answers (exec (.invalidateTlb e) s) fun t => AdminCompletes s t id stSuccess 0 0 ∧ Touches [.regs, .q, .now] s t) ∧
  (∀ (a : AdminOp) (e : Env) (s : State), s.AdminRuns 0x86 a →
    ((∀ p ∈ s.q.wqRt, ∀ f, p.2.fetch = some f → f.stale = false) → Answers (exec (.invalidateTlbDone e) s) fun t =>
      AdminCompletes s t a.op stSuccess 0 0 ∧ Touches [.regs, .q, .now] s t) ∧
    ((∃ p ∈ s.q.wqRt, ∃ f, p.2.fetch = some f ∧ f.stale = true) →
      exec (.invalidateTlbDone e) s = .next (s.upd fun m => m.at e))) ∧
  (∀ (id : Nat) (o : Op) (e : Env) (s : State) (slot key : Nat) (d : RgnDir) (ws : List Word), s.AdminNext 0x87 id o →
    s.keyOf (revokeFields o.wqe).1 = some (slot, key) → KMap.get s.x.dirs slot = some d →
    (revokeFields o.wqe).2.1 < 2 ^ d.size → s.readWords e d.link 8 (d.entry (revokeFields o.wqe).2.1) = some ws →
    (Region.parse ws).2 = true → (Region.parse ws).1.generation = (revokeFields o.wqe).2.2 →
    Answers (exec (.revokeRegion e) s) fun t =>
      (∃ g, KMap.get t.x.regions (regionKey slot (revokeFields o.wqe).2.1) = some g ∧ g.revoking = true ∧
        g = { (KMap.get s.x.regions (regionKey slot (revokeFields o.wqe).2.1)).getD (Region.parse ws).1 with revoking := true }) ∧
      (∃ a, t.q.admin = some a ∧ a.opcode = 0x87 ∧ a.op = id) ∧ Touches [.regs, .q, .x, .reads, .now] s t) ∧
  (∀ (a : AdminOp) (e : Env) (s : State) (slot key : Nat) (d : RgnDir) (g : Region), s.AdminRuns 0x87 a →
    s.keyOf (revokeFields a.wqe).1 = some (slot, key) → KMap.get s.x.dirs slot = some d →
    KMap.get s.x.regions (regionKey slot (revokeFields a.wqe).2.1) = some g →
    Answers (exec (.revokeDone e) s) fun t => KMap.get t.x.regions (regionKey slot (revokeFields a.wqe).2.1) = none ∧
      Sends s t (.hostWrite d.link (d.entry (revokeFields a.wqe).2.1)
        (leBytes 8 (2 * b2n g.storeTarget + 256 * g.generation + 2 ^ 32 * g.tag))) ∧
      AdminCompletes s t a.op stSuccess 0 0 ∧ Touches [.regs, .msix, .out, .q, .x, .now] s t) ∧
  ∀ (id : Nat) (o : Op) (e : Env) (s : State), s.AdminNext 0x90 id o →
    Answers (exec (.nop e) s) fun t => AdminCompletes s t id stSuccess 0 0 ∧ Touches [.regs, .q, .now] s t

/-- R41, R149, R150 and R708. -/
def Obligations.DomainKeysComeAndGo : Prop :=
  (∀ (id : Nat) (o : Op) (e : Env) (s : State), s.AdminNext 0x88 id o →
    let nd := wqeField o.wqe 0x10 2
    (∀ k, nd ≠ 0 → nd ≠ 0xFFFF → s.keyOf nd = none → 1 ≤ k → k ≤ 63 → KMap.get s.x.keys k = none →
      (∀ j, 1 ≤ j → j < k → (KMap.get s.x.keys j).isSome) →
      Answers (exec (.setDomainKey e) s) fun t => KMap.get t.x.keys k = some { nd := nd, key := wqeKey o.wqe 0x18 } ∧
        (∀ j, j ≠ k → KMap.get t.x.keys j = KMap.get s.x.keys j) ∧ t.get (F.trustKslotUsed k) = 1 ∧
        t.get (F.trustKslotNd k) = nd ∧ AdminCompletes s t id stSuccess k 0) ∧
    (nd = 0 ∨ nd = 0xFFFF → Answers (exec (.setDomainKey e) s) fun t => AdminCompletes s t id stAdminInvalid 0 0x10 ∧ t.x = s.x) ∧
    (nd ≠ 0 → nd ≠ 0xFFFF → (s.keyOf nd).isSome →
      Answers (exec (.setDomainKey e) s) fun t => AdminCompletes s t id stAdminState 0 0x10 ∧ t.x = s.x) ∧
    (nd ≠ 0 → nd ≠ 0xFFFF → s.keyOf nd = none → (∀ j, 1 ≤ j → j ≤ 63 → (KMap.get s.x.keys j).isSome) →
      Answers (exec (.setDomainKey e) s) fun t => AdminCompletes s t id stAdminNoResource 0 0x10 ∧ t.x = s.x)) ∧
  (∀ (id : Nat) (o : Op) (e : Env) (s : State) (k key : Nat), s.AdminNext 0x89 id o →
    let nd := wqeField o.wqe 0x10 2
    nd ≠ 0 → nd ≠ 0xFFFF → s.keyOf nd = some (k, key) → s.connsOf (fun d => decide (d = nd)) = [] →
    s.x.waiting.filter (fun w => decide (w.2.1 = nd)) = [] → s.q.awayWq = [] →
    Answers (exec (.clearDomain e) s) fun t => KMap.get t.x.keys k = none ∧ t.get (F.trustKslotUsed k) = 0 ∧
      (∀ p ∈ t.x.regions, p.1 / 2 ^ 24 ≠ k) ∧
      (∀ n c, s.wq n = some c → c.nd = nd → c.state = .active ∨ c.state = .stopped ∨ c.state = .error →
        WqErrs t n ecDomainCleared) ∧
      (∃ a, t.q.admin = some a ∧ a.opcode = 0x89 ∧ a.op = id ∧ a.count = 0)) ∧
  ∀ (a : AdminOp) (e : Env) (s : State), s.AdminRuns 0x89 a → (∀ p ∈ s.q.ops, (s.wq p.2.wq).isSome) →
    (s.ndBusy (wqeField a.wqe 0x10 2) a.op = false → Answers (exec (.clearDomainDone e) s) fun t =>
      AdminCompletes s t a.op stSuccess a.count 0 ∧ Touches [.regs, .q, .now] s t) ∧
    (s.ndBusy (wqeField a.wqe 0x10 2) a.op = true → exec (.clearDomainDone e) s = .next (s.upd fun m => m.at e))

/-- R147, R285, R288, R328, R334, R335, R337, R343 and R393. -/
def Obligations.GroupsAndContextsAreAdministered : Prop :=
  (∀ (id : Nat) (o : Op) (e : Env) (s : State) (c : WqCtx) (bs : List Byte), s.AdminNext 0x8A id o →
    wqeField o.wqe 0x10 2 < 1024 → KMap.get s.cl.groups (wqeField o.wqe 0x10 2) = none → wqeField o.wqe 0x12 2 ≠ 0xFFFF → 1 ≤ wqeField o.wqe 0x14 2 →
    wqeField o.wqe 0x14 2 ≤ 15 → s.wq 0 = some c → bs.length = 4 * wqeField o.wqe 0x14 2 →
    s.ReadsVirt e c.link (adminReq c.asid (wqeField o.wqe 0x18 8) .localRead 0) bs →
    let l := elems 4 (wqeField o.wqe 0x14 2) bs
    (∀ a ∈ l, a < 2 ^ 18 ∧ a ≠ s.fa) → l.Nodup → (l.all (sameRow s.fa) = true ∨ l.all (sameColumn s.fa) = true) →
    Answers (exec (.createMc e) s) fun t =>
      KMap.get t.cl.groups (wqeField o.wqe 0x10 2) = some { nd := wqeField o.wqe 0x12 2, members := l } ∧
      AdminCompletes s t id stSuccess 0 0 ∧ Touches (.q :: .cl :: busParts) s t) ∧
  (∀ (id : Nat) (o : Op) (e : Env) (s : State), s.AdminNext 0x8A id o → wqeField o.wqe 0x10 2 < 1024 →
    KMap.get s.cl.groups (wqeField o.wqe 0x10 2) = none → wqeField o.wqe 0x12 2 = 0xFFFF →
    Answers (exec (.createMc e) s) fun t => AdminCompletes s t id stAdminInvalid 0 0x12 ∧ t.cl = s.cl) ∧
  (∀ (id : Nat) (o : Op) (e : Env) (s : State), s.AdminNext 0x8B id o → wqeField o.wqe 0x10 2 < 1024 →
    (KMap.get s.cl.groups (wqeField o.wqe 0x10 2)).isSome →
    (∀ p ∈ s.cl.ctxs, p.2.mcRow ≠ wqeField o.wqe 0x10 2 ∧ p.2.mcCol ≠ wqeField o.wqe 0x10 2) →
    Answers (exec (.destroyMc e) s) fun t => KMap.get t.cl.groups (wqeField o.wqe 0x10 2) = none ∧
      AdminCompletes s t id stSuccess 0 0 ∧ Touches [.regs, .q, .cl, .now] s t) ∧
  (∀ (id : Nat) (o : Op) (e : Env) (s : State) (r : CrCtx) (tree : Tree) (m1 : Module), s.AdminNext 0x8C id o →
    let x := wqeField o.wqe 0x10 2
    let nd := wqeField o.wqe 0x12 2
    let cr := wqeField o.wqe 0x14 2
    x < 1024 → s.coll x = none → nd ≠ 0 → s.hasKey nd = true → s.crInTable cr = true → s.cr cr = some r → r.state = .active →
    wqeField o.wqe 0x18 8 % 8 = 0 →
    ((s.toModule.at e).adminBegin id o).readTree e x (wqeField o.wqe 0x18 8) r = (some tree, m1) →
    firstFail (m1.treeChecks nd (collTile x) tree) = none →
    Answers (exec (.createColl e) s) fun t => t.coll x = some (tree.ctx nd cr) ∧
      t.cr cr = some { r with binds := r.binds + 1 } ∧ AdminCompletes s t id stSuccess 0 0) ∧
  (∀ (id : Nat) (o : Op) (e : Env) (s : State) (c : Coll), s.AdminNext 0x8D id o → wqeField o.wqe 0x10 2 < 1024 →
    s.coll (wqeField o.wqe 0x10 2) = some c → c.state ≠ .closing → (s.cr c.cr).isSome →
    Answers (exec (.destroyColl e) s) fun t => (∃ c', t.coll (wqeField o.wqe 0x10 2) = some c' ∧ c'.state = .closing ∧ c'.ops = [] ∧
        c'.slots = [] ∧ c'.kept = []) ∧
      (∀ p ∈ t.cl.lists, p.2.coll ≠ wqeField o.wqe 0x10 2) ∧ (∃ a, t.q.admin = some a ∧ a.opcode = 0x8D ∧ a.op = id) ∧
      Touches [.regs, .msix, .out, .q, .x, .cl, .smp, .now] s t) ∧
  (∀ (a : AdminOp) (e : Env) (s : State) (c : Coll) (r : CrCtx), s.AdminRuns 0x8D a → s.coll (wqeField a.wqe 0x10 2) = some c →
    c.state = .closing → s.owes (.coll (wqeField a.wqe 0x10 2)) = false → s.collOwes (wqeField a.wqe 0x10 2) = false →
    s.cr c.cr = some r →
    Answers (exec (.collContextFree e) s) fun t => t.coll (wqeField a.wqe 0x10 2) = none ∧
      t.cr c.cr = some { r with binds := r.binds - 1 } ∧ AdminCompletes s t a.op stSuccess 0 0 ∧ Touches [.regs, .q, .cl, .now] s t) ∧
  (∀ (id : Nat) (o : Op) (e : Env) (s : State) (r : CrCtx), s.AdminNext 0x8E id o → s.cr (wqeField o.wqe 0x14 2) = some r →
    firstFail (s.createMatchChecks o.wqe) = none →
    Answers (exec (.createMatch e) s) fun t => (∃ c, t.mctx (wqeField o.wqe 0x10 2) = some c ∧ c.state = .active ∧
        c.nd = wqeField o.wqe 0x12 2 ∧ c.cr = wqeField o.wqe 0x14 2 ∧ c.eagerLimit = wqeField o.wqe 0x18 4 ∧
        c.bounceSize = wqeField o.wqe 0x1C 4 ∧ c.bounceVa = wqeField o.wqe 0x20 8 ∧ c.bounceCount = wqeField o.wqe 0x28 4 ∧
        c.posted = [] ∧ c.bounces = []) ∧
      t.cr (wqeField o.wqe 0x14 2) = some { r with binds := r.binds + 1 } ∧ AdminCompletes s t id stSuccess 0 0 ∧
      Touches [.regs, .msix, .out, .q, .mt, .now] s t) ∧
  (∀ (id : Nat) (o : Op) (e : Env) (s : State) (c : Mctx), s.AdminNext 0x8F id o → wqeField o.wqe 0x10 2 < 4096 →
    s.mctx (wqeField o.wqe 0x10 2) = some c → c.state ≠ .closing → (s.cr c.cr).isSome → (∀ q ∈ s.x.conns, q.2.anew = false) →
    Answers (exec (.destroyMatch e) s) fun t => (∃ c', t.mctx (wqeField o.wqe 0x10 2) = some c' ∧ c'.state = .closing ∧ c'.posted = [] ∧
        c'.released = c.posted.length) ∧ ∃ a, t.q.admin = some a ∧ a.opcode = 0x8F ∧ a.op = id) ∧
  ∀ (a : AdminOp) (e : Env) (s : State) (c : Mctx) (r : CrCtx), s.AdminRuns 0x8F a → s.mctx (wqeField a.wqe 0x10 2) = some c →
    c.state = .closing → (∀ d ∈ s.mt.deliveries, d.mctx ≠ wqeField a.wqe 0x10 2) →
    s.owes (.mctx (wqeField a.wqe 0x10 2)) = false → s.cr c.cr = some r →
    Answers (exec (.matchContextFree e) s) fun t => t.mctx (wqeField a.wqe 0x10 2) = none ∧
      t.cr c.cr = some { r with binds := r.binds - 1 } ∧ AdminCompletes s t a.op stSuccess c.released 0

/-- R259 to R272 at the initiator, with R204, R237 and R243. -/
def Obligations.OperationsBecomeMessages : Prop :=
  (∀ (id : Nat) (e : Env) (s : State) (o : Op) (c : WqCtx) (cid : Nat) (k : Conn), s.Reaches o c cid k → k.txState = .open →
    (s.startable id 0x01 = some (o, c) → Answers (exec (.put id e) s) fun t =>
      StartsMsg s t id o cid k { Msg.new .put 0x10 (wqeTc o.wqe) (wLength o.wqe) (putSrc o c) with ext := putExt o.wqe }) ∧
    (s.startable id 0x02 = some (o, c) → Answers (exec (.get id e) s) fun t =>
      StartsMsg s t id o cid k { Msg.new .get 0x12 (wqeTc o.wqe) 0 (.inline []) with
        ext := putExt o.wqe ++ beBytes 4 (wLength o.wqe) ++ beBytes 4 0 }) ∧
    (s.startable id 0x03 = some (o, c) → wqeField o.wqe 0x18 1 ≤ 4 → wqeField o.wqe 0x19 1 ≤ 2 →
      Answers (exec (.atomic id e) s) fun t =>
        StartsMsg s t id o cid k { Msg.new .atomic 0x14 (wqeTc o.wqe) 0 (.inline []) with
          ext := putExt o.wqe ++ beBytes 8 (wqeField o.wqe 0x30 8) ++ beBytes 8 (wqeField o.wqe 0x38 8)
          xdata := wqeField o.wqe 0x18 1 + 16 * wqeField o.wqe 0x19 1 }) ∧
    (s.startable id 0x04 = some (o, c) → wqeField o.wqe 0x1C 1 ≤ 1 → Answers (exec (.putSignal id e) s) fun t =>
      StartsMsg s t id o cid k { Msg.new .put 0x11 (wqeTc o.wqe) (wLength o.wqe) (putSrc o c) with
        ext := putExt o.wqe ++ beBytes 8 (wqeField o.wqe 0x30 8) ++ beBytes 8 (wqeField o.wqe 0x38 8)
        xdata := wqeField o.wqe 0x1C 1 }) ∧
    (s.startable id 0x05 = some (o, c) → wqeDest o.wqe ≠ s.fa → Answers (exec (.storePut id e) s) fun t =>
      StartsMsg s t id o cid k { Msg.new .storePut 0x60 (wqeTc o.wqe) (wLength o.wqe) (putSrc o c) with ext := putExt o.wqe }) ∧
    (s.startable id 0x06 = some (o, c) → wqeDest o.wqe ≠ s.fa → Answers (exec (.storeSync id e) s) fun t =>
      StartsMsg s t id o cid k { Msg.new .syncReq 0x61 (wqeTc o.wqe) 0 (.inline []) with
        ext := beBytes 8 (wRkey o.wqe) ++ beBytes 8 0 })) ∧
  (∀ (id : Nat) (e : Env) (s : State) (o : Op) (c : WqCtx) (cid : Nat) (k : Conn), s.Reaches o c cid k → k.txState = .idle →
    s.startable id 0x01 = some (o, c) → Answers (exec (.put id e) s) fun t =>
      (∃ k', t.conn cid = some k' ∧ k'.txState = .probing ∧ k'.probes = k.probes + 1 ∧ k'.msgs.length = k.msgs.length + 1) ∧
      Originates s t (tileOfCid cid)
        (barePacket (s.control k.remote k.nd (wqeTc o.wqe) wProbe (if k.greeted then (k.txEpoch + 1) % 2 ^ 32 else 0) 0
          (BitVec.ofNat 64 ((if k.greeted then (k.txEpoch + 1) % 2 ^ 32 else 0) * 2 ^ 32)) [])) ∧
      Touches (.q :: .smp :: sendParts) s t) ∧
  (∀ (id : Nat) (e : Env) (s : State) (o : Op) (c : WqCtx), s.keyOf c.nd = none → o.finished = false → o.silent = false →
    (s.startable id 0x01 = some (o, c) → Answers (exec (.put id e) s) fun t => OpCompletes s t id stNoDomain 0 0 0 ∧
      Touches [.q, .x, .smp, .now] s t) ∧
    (s.startable id 0x02 = some (o, c) → Answers (exec (.get id e) s) fun t => OpCompletes s t id stNoDomain 0 0 0 ∧
      Touches [.q, .x, .smp, .now] s t)) ∧
  ∀ (id : Nat) (e : Env) (s : State) (o : Op) (c : WqCtx), c.state = .active → o.finished = false → o.silent = false →
    (s.startable id 0x03 = some (o, c) → 4 < wqeField o.wqe 0x18 1 ∨ 2 < wqeField o.wqe 0x19 1 →
      Answers (exec (.atomic id e) s) fun t => OpFails s t id o.wq stInvalidWqe 0) ∧
    (s.startable id 0x04 = some (o, c) → 1 < wqeField o.wqe 0x1C 1 →
      Answers (exec (.putSignal id e) s) fun t => OpFails s t id o.wq stInvalidWqe 0)

/-- R194 to R199, R208, R223, R227, R229, R230 and R411 at the sender. -/
def Obligations.PacketsGoOut : Prop :=
  (∀ (cid : Nat) (e : Env) (s : State) (c : Conn) (g : Msg) (bs key : List Byte), s.conn cid = some c →
    s.sendKey c c.peerNonce c.txEpoch = some key → s.Settled → (∀ h ∈ c.msgs, s.msgComplete c h = false) → (∀ d ∈ c.tx, d.held = false) →
    c.msgs.find? (fun g => !g.segmented) = some g → c.txState = .open → seqSub 24 c.txNext c.txBase < 1024 →
    (g.msn = none → c.outstanding < 512) → s.descriptors (tileOfCid cid) < 32768 →
    (s.toModule.at e).shaperAdmits (tileOfCid cid) c.slot g.tc = true → s.opDead g = false → g.src = .inline bs → s.x.waiting = [] → s.x.opening = [] →
    Answers (exec (.packetSend cid e) s) fun t => ∃ k d, t.conn cid = some k ∧ k.tx = c.tx ++ [d] ∧ d.acked = false ∧
      d.psn = c.txNext ∧ d.epoch = c.txEpoch ∧ d.off = g.sent ∧ k.txNext = (c.txNext + 1) % 2 ^ 24 ∧ k.txBase = c.txBase ∧
      d.pkt.psn = c.txNext ∧ d.pkt.attempt = 0 ∧ d.pkt.opcode = g.opcode ∧ d.pkt.ext = g.ext ∧ d.pkt.src = s.fa ∧ d.pkt.dst = c.remote ∧
      d.pkt.payload = (bs.drop g.sent).take (min (if g.msn.isNone then s.mtuBytes else g.mtu) (g.len - g.sent)) ∧
      d.pkt.flits = flitsOf g.ext.length d.pkt.payload.length ∧ d.pkt.epoch = c.txEpoch ∧ d.pkt.nd = c.nd ∧
      d.pkt.msn = g.msn.getD c.txMsn ∧ (k.txState = .rolling ↔ c.txNext = 0xFFFFFF) ∧
      Originates s t (tileOfCid cid) (sealPacket key false d.pkt) ∧
      Touches (.smp :: sendParts) s t) ∧
  (∀ (cid : Nat) (e : Env) (s : State) (c : Conn) (d : TxPkt) (key : List Byte), s.conn cid = some c → c.sending = true → c.tx = [d] →
    d.acked = false → d.held = false → d.reread = false → d.pkt.attempt < 254 → s.Settled → (∀ h ∈ c.msgs, s.msgComplete c h = false) →
    s.sendKey c c.peerNonce d.pkt.epoch = some key → (s.toModule.at e).shaperAdmits (tileOfCid cid) c.slot d.pkt.tc = true →
    let p := { d.pkt with attempt := d.pkt.attempt + 1, flits := flitsOf d.pkt.ext.length d.pkt.payload.length }
    let again (t : State) : Prop := (∃ k x, t.conn cid = some k ∧ k.tx = [x] ∧ x.pkt = p ∧ x.psn = d.psn ∧ x.rnr = none ∧ x.held = false) ∧
      Originates s t (tileOfCid cid) (sealPacket key false p)
    (d.rnr = none → d.sentAt + c.rto ≤ max s.now e.t → Answers (exec (.retransmitTimeout cid e) s) fun t => again t ∧
      (t.conn cid).map (·.rto) = some (min (2 * c.rto) s.rtoMax) ∧ Counts s t (pgXpt (tileOfCid cid)) 2 1 ∧
      Touches (.smp :: sendParts) s t) ∧
    (∀ due, d.rnr = some due → due ≤ max s.now e.t →
      Answers (exec (.rnrRetransmit cid e) s) fun t => again t ∧ Touches (.smp :: sendParts) s t) ∧
    (d.rnr = none → max s.now e.t < d.sentAt + c.rto → exec (.retransmitTimeout cid e) s = .next (s.upd fun m => m.at e))) ∧
  (∀ (cid : Nat) (e : Env) (s : State) (c : Conn) (d : TxPkt), s.conn cid = some c → c.sending = true → c.tx = [d] → d.acked = false →
    d.held = false → d.rnr = none → d.pkt.attempt = 254 → d.sentAt + c.rto ≤ max s.now e.t → s.Alone → c.nd ≠ 0 →
    Answers (exec (.retransmitTimeout cid e) s) fun t => t.get (F.cause (pgXpt (tileOfCid cid)) Ev.connFailed) = 1 ∧
      (∃ k, t.conn cid = some k ∧ (k.txState = .idle ∨ k.txState = .failing) ∧ k.msgs = [] ∧ k.tx = []) ∧
      ∀ g id o, c.msgs = [g] → g.kind = .put → g.op = some id → s.op id = some o → o.finished = false → o.silent = false →
        OpCompletes s t id stConnFailed 0 0 1 ∧ ∃ k, t.conn cid = some k ∧ k.txState = .failing ∧ k.failOps = [id]) ∧
  ∀ (cid : Nat) (e : Env) (s : State) (c : Conn), s.conn cid = some c → c.txState = .probing → c.probes < 255 →
    (max s.now e.t < c.probeDue → exec (.probeTimeout cid e) s = .next (s.upd fun m => m.at e)) ∧
    (c.probeDue ≤ max s.now e.t → Answers (exec (.probeTimeout cid e) s) fun t =>
      t.conn cid = some { c with
        probes := c.probes + 1
        rto := min (2 * c.rto) s.rtoMax
        probeDue := max s.now e.t + min (2 * c.rto) s.rtoMax
        probeRnr := none } ∧
      Originates s t (tileOfCid cid)
        (barePacket (s.control c.remote c.nd ((c.msgs.head?.map (·.tc)).getD 0) wProbe (if c.greeted then (c.txEpoch + 1) % 2 ^ 32 else 0) 0
          (BitVec.ofNat 64 ((if c.greeted then (c.txEpoch + 1) % 2 ^ 32 else 0) * 2 ^ 32)) [])) ∧ Touches sendParts s t)

/-- R214, R220, R224, R226 to R228, R232 and R233. -/
def Obligations.ControlPacketsSteerTheSender : Prop :=
  (∀ (k : Nat) (e : Env) (s : State) (p : Opened) (cid : Nat) (c : Conn), s.Controls k p cid c → p.opcode = wAck →
    let c1 := c.takeAck (s.toModule.at e) (bits p.opw 63 40) (bits p.opw 39 16) p.ext
    ((∀ g ∈ c1.msgs, s.msgComplete c1 g = false) → Answers (exec (.ack k e) s) fun t => t.conn cid = some c1 ∧
      t.x.inbox = s.x.inbox.eraseIdx k ∧ RegsKept UseRegs s t ∧ Touches [.regs, .smp, .x, .now] s t) ∧
    (∀ g id o, c1.msgs = [g] → s.msgComplete c1 g = true → g.kind = .put → g.op = some id → s.op id = some o → o.finished = false →
      o.silent = false → g.aborted = none → g.result = none →
      Answers (exec (.ack k e) s) fun t => t.conn cid = some { c1 with msgs := [] } ∧
        OpCompletes s t id stSuccess (wLength o.wqe) 0 0 ∧ RegsKept UseRegs s t ∧ Touches [.regs, .q, .smp, .x, .now] s t)) ∧
  (∀ (k : Nat) (e : Env) (s : State) (p : Packet) (cid : Nat) (c : Conn), s.Whole k p → s.cidOf p.src p.nd = some cid →
    s.conn cid = some c → p.epoch ≠ c.txEpoch ∨ s.openControl c p = none →
    (p.opcode = wAck → exec (.ack k e) s = .next (s.took k e)) ∧
    (p.opcode = wNack → untagged p = false → (s.keyOf p.nd).isSome → Answers (exec (.nack k e) s) fun t => t.x = (s.took k e).x ∧
      Counts s t (pgXpt (tileOfCid cid)) 11 1 ∧ Touches [.regs, .msix, .out, .x, .now] s t)) ∧
  (∀ (k : Nat) (e : Env) (s : State) (p : Opened) (cid : Nat) (c : Conn) (d : TxPkt), s.Controls k p cid c → p.opcode = wNack →
    untagged p.toPacket = false → (∀ g ∈ c.msgs, s.msgComplete c g = false) →
    c.tx.find? (fun d => d.psn = bits p.opw 63 40 && d.epoch = c.txEpoch && !d.acked) = some d →
    (1 ≤ bits p.opw 31 24 → bits p.opw 31 24 ≤ 4 → Answers (exec (.nack k e) s) fun t =>
      t.conn cid = some { c with
        rnrDelay := s.rnrNext c
        tx := c.tx.map fun q => if q.psn = bits p.opw 63 40 && !q.acked
          then { q with rnr := some (max s.now e.t + s.rnrNext c), held := false } else q } ∧
      Counts s t (pgXpt (tileOfCid cid)) 11 1 ∧ Touches [.regs, .msix, .out, .x, .now] s t) ∧
    (bits p.opw 31 24 = nkTrimmed → d.pkt.attempt = bits p.opw 39 32 → d.pkt.attempt < 254 → d.reread = false →
      (s.toModule.at e).shaperAdmits (tileOfCid cid) c.slot d.pkt.tc = true → Answers (exec (.nack k e) s) fun t =>
        OriginatesSealed (s.took k e) t (tileOfCid cid) (s.sendKey c c.peerNonce d.pkt.epoch)
          { d.pkt with
            attempt := d.pkt.attempt + 1
            flits := flitsOf d.pkt.ext.length d.pkt.payload.length } ∧
        Touches (.smp :: sendParts) s t)) ∧
  (∀ (k : Nat) (e : Env) (s : State) (p : Opened) (cid : Nat) (c : Conn), s.Whole k p.toPacket → (s.keyOf p.nd).isSome → s.Settled →
    p.opcode = wChallenge → s.cidOf p.src p.nd = some cid → s.conn cid = some c → c.txState = .probing → p.epoch = bits p.opw 63 32 →
    s.openChallenged c p.toPacket = some p → c.greeted = false → c.nd ≠ 0 → (∀ g ∈ c.msgs, g.msn = none) →
    Answers (exec (.challenge k e) s) fun t => (∃ c1, t.conn cid = some c1 ∧ c1.txState = .open ∧ c1.peerNonce = extBE p 0 8 ∧
        c1.txEpoch = bits p.opw 63 32 ∧ c1.txNext = 0 ∧ c1.txBase = 0 ∧ c1.txMsn = 0 ∧ c1.greeted = true ∧ c1.msgs = c.msgs ∧
        c1.rxState = c.rxState ∧ c1.rxBase = c.rxBase) ∧ RegsKept UseRegs s t ∧ Touches [.regs, .smp, .x, .now] s t) ∧
  ∀ (k : Nat) (e : Env) (s : State) (p : Opened) (cid : Nat) (c : Conn), s.Receives k p cid c → p.opcode = wResult → c.sending = true →
    ((∀ g ∈ c.msgs, c.covered g = false) → Answers (exec (.result k e) s) fun t => Accepts t p cid ∧
      (∃ c1, t.conn cid = some c1 ∧ ∀ g ∈ c1.msgs, g.msn = some (fieldLE p.payload 6 2 % 1024) → g.result.isSome)) ∧
    (∀ g id o n, c.msgs = [g] → g.kind = .put → g.msn = some (fieldLE p.payload 6 2 % 1024) → g.op = some id → s.op id = some o →
      o.finished = false → o.silent = false → c.covered g = true → g.needRsn = some n → g.result = none → g.aborted = none →
      fieldLE p.payload 0 3 = c.rsnRcvd → c.rsnAhead = [] → seqSub 24 ((c.rsnRcvd + 1) % 2 ^ 24) n < 2 ^ 23 →
      Answers (exec (.result k e) s) fun t => Accepts t p cid ∧
        OpCompletes s t id (fieldLE p.payload 3 1) (fieldLE p.payload 8 8) 0 (fieldLE p.payload 4 2))

/-- R201, R209, R210, R215, R218, R219, R224 to R226, R237, R242 and R456. The nonce drawn is a free value (log 3). -/
def Obligations.ReceiversAnswer : Prop :=
  (∀ (k : Nat) (e : Env) (s : State) (p : Packet), s.Whole k p → p.opcode = wProbe →
    (s.keyOf p.nd = none → s.ctlFull 0 = false → Answers (exec (.probe k e) s) fun t => Counts s t (pgXpt 0) 10 1 ∧
      Originates (s.took k e) t 0 (barePacket (s.control p.src p.nd p.tc wNack p.epoch 0
        (BitVec.ofNat 64 (p.psn * 2 ^ 40 + p.attempt * 2 ^ 32 + nkNoDomain * 2 ^ 24)) [])) ∧ Touches sendParts s t) ∧
    (∀ cid c key, let ep := bits (clearPacket p).opw 63 32
      (s.keyOf p.nd).isSome → s.cidOf p.src p.nd = some cid → s.conn cid = some c → c.rxState = .none →
      c.chalFree ≤ max s.now e.t → s.recvKey c.nd c.remote ep = some key → s.Settled →
      Answers (exec (.probe k e) s) fun t => Counts s t (pgXpt (tileOfCid cid)) 13 1 ∧
        (∃ c1, t.conn cid = some c1 ∧ c1.rxState = .challenged ∧ c1.rxEpoch = ep ∧ c1.rxBase = 0 ∧ c1.bitmap = [] ∧
          c1.rxCsn = 1 ∧ c1.lastChal = (s.toModule.at e).fabricNow % 2 ^ 32 ∧
          c1.chalFree = max s.now e.t + s.get F.xptCfgChalGap * 1000 ∧ c1.txState = c.txState ∧ c1.tx = c.tx) ∧
        Originates (s.took k e) t (tileOfCid cid) (sealChallenge key (s.control c.remote c.nd p.tc wChallenge ep 0
          (BitVec.ofNat 64 (ep * 2 ^ 32)) (beBytes 8 s.nonce ++ beBytes 3 0 ++ beBytes 1 p.attempt ++ beBytes 4 0))) ∧
        Touches sendParts s t)) ∧
  (∀ (k : Nat) (e : Env) (s : State) (p : Packet) (cid : Nat) (c : Conn), s.x.inbox[k]? = some p → p.trimmed = true →
    malformed p = false → s.cidOf p.src p.nd = some cid → s.conn cid = some c → s.Settled →
    ((s.keyOf p.nd).isSome → (s.recvKey c.nd c.remote c.rxEpoch).isSome → s.ctlFull (tileOfCid cid) = false →
      isControl p.opcode = false → c.rxState ≠ .none → p.epoch = c.rxEpoch → seqSub 24 p.psn c.rxBase < 1024 → p.psn ∉ c.bitmap →
      (p.psn, p.attempt) ∉ c.trims → c.rxCsn ≤ 0xFFFFFF → Answers (exec (.trimNotice k e) s) fun t =>
        t.conn cid = some { c with trims := c.trims ++ [(p.psn, p.attempt)], rxCsn := c.rxCsn + 1 } ∧
        OriginatesSealed (s.took k e) t (tileOfCid cid) (s.recvKey c.nd c.remote c.rxEpoch)
          (s.control c.remote c.nd p.tc wNack c.rxEpoch c.rxCsn
            (BitVec.ofNat 64 (p.psn * 2 ^ 40 + p.attempt * 2 ^ 32 + nkTrimmed * 2 ^ 24)) []) ∧
        Counts s t (pgXpt (tileOfCid cid)) 10 1 ∧
        Touches sendParts s t) ∧
    (isControl p.opcode = true ∨ c.rxState = .none ∨ p.epoch ≠ c.rxEpoch ∨ 1024 ≤ seqSub 24 p.psn c.rxBase ∨ p.psn ∈ c.bitmap ∨
      (p.psn, p.attempt) ∈ c.trims → Answers (exec (.trimNotice k e) s) fun t => t.x = (s.took k e).x ∧
        Counts s t (pgXpt (tileOfCid cid)) 14 1 ∧ Touches [.regs, .msix, .out, .x, .now] s t)) ∧
  (∀ (cid : Nat) (e : Env) (s : State) (c : Conn), s.conn cid = some c → c.ackPend ≠ 0 → c.rxCsn ≤ 0xFFFFFF →
    (max s.now e.t < c.ackDue → exec (.ackDelay cid e) s = .next (s.upd fun m => m.at e)) ∧
    (c.ackDue ≤ max s.now e.t → s.Settled → s.ctlFull (tileOfCid cid) = false → (s.recvKey c.nd c.remote c.rxEpoch).isSome →
      Answers (exec (.ackDelay cid e) s) fun t =>
        t.conn cid = some { c with ackPend := 0, ackTc := 0, ackQuiet := max s.now e.t + s.ackDelay, rxCsn := c.rxCsn + 1 } ∧
        OriginatesSealed s t (tileOfCid cid) (s.recvKey c.nd c.remote c.rxEpoch) (s.control c.remote c.nd c.ackTc wAck c.rxEpoch c.rxCsn
          (BitVec.ofNat 64 (c.rxBase * 2 ^ 40 + c.rsnSent * 2 ^ 16)) c.sack) ∧ Touches sendParts s t)) ∧
  (∀ (k : Nat) (e : Env) (s : State) (p : Packet), s.x.inbox[k]? = some p → malformed p = true →
    Answers (exec (.malformedPacket k e) s) fun t => t.x = (s.took k e).x ∧ Counts s t (pgXpt (s.tileFor p)) 9 1 ∧
      Touches [.regs, .msix, .out, .x, .now] s t) ∧
  (∀ (cid : Nat) (e : Env) (s : State) (c : Conn) (n : Nat), s.conn cid = some c → c.ndRun = some n →
    (n ≤ max s.now e.t → s.Settled →
      ∀ g id o, c.msgs = [g] → g.kind = .put → g.op = some id → s.op id = some o → o.finished = false → o.silent = false →
        Answers (exec (.ndWaitExpiry cid e) s) fun t => OpCompletes s t id stNoDomain 0 0 0 ∧ t.conn cid = some c.rest ∧
          Touches [.regs, .q, .x, .now] s t) ∧
    (max s.now e.t < n → exec (.ndWaitExpiry cid e) s = .next (s.upd fun m => m.at e))) ∧
  ∀ (w : Wr) (s : State), s.Arrives w (pgXpt 0 * 0x1000 + 0x18) → w.half ≠ .hi → s.get (F.pgEnable (pgXpt 0)) ≠ bits w.value 0 0 →
    Answers (exec (.xptEnable w) s) fun t => t.get (F.pgEnable (pgXpt 0)) = bits w.value 0 0 ∧
      t.get F.xptNonceNonce = Config.draw s.draws % 2 ^ 64 ∧ t.draws = s.draws + 1 ∧ t.x.conns = [] ∧ t.x.evicted = [] ∧
      t.x.waiting = [] ∧ t.x.keys = s.x.keys ∧ (bits w.value 0 0 = 1 → t.x.tableLost = false)

/-- R240, R255 to R258, R263, R264, R266, R268, R270 and R271; what waits for earlier bytes goes back (log 136). -/
def Obligations.RemoteAccessesAreMade : Prop :=
  (∀ (k : Nat) (e : Env) (s : State) (p : Opened) (cid : Nat) (c : Conn) (slot pa : Nat) (g : Region), s.Receives k p cid c →
    (c.rxMsg p.msn).failed = none → (c.rxMsg p.msn).aborted = none → pAbort p = false → p.payload.length = pPlen p →
    s.Grants p.nd (putAsk p .put) slot g →
    let q := regionReq g (tileOfCid cid) (keyIndex (pRkey p)) (pRoffset p + pOff p) .remoteWrite
    s.Translates q (pPlen p) pa → (s.took k e).tooEarly e (c.rxMsg p.msn).landing (pOff p) q (pPlen p) = false →
    (p.opcode = wPut → Answers (exec (.putPacket k e) s) fun t => Sends s t (.hostWrite g.link pa p.payload) ∧ Accepts t p cid ∧
      t.q = s.q) ∧
    (p.opcode = wPutSignal → pLast p = true → pOff p = 0 → (c.rxMsg p.msn).bytes = 0 → (c.rxMsg p.msn).total = none →
      bit p.opw 32 = false →
      ∀ pb, let r := regionReq g (tileOfCid cid) (keyIndex (pRkey p)) (extBE p 16 8) .remoteWrite
        s.Translates r 8 pb →
        s.tlbHit r = s.tlbHit q →
        Answers (exec (.putSignalPacket k e) s) fun t => Accepts t p cid ∧ ∃ a b d : List Emit,
          t.out = s.out ++ a ++ [.hostWrite g.link pa p.payload] ++ b ++ [.hostWrite g.link pb (leBytes 8 (extBE p 24 8))] ++ d ∧
          (a ++ b ++ d).all Emit.isEvent = true)) ∧
  (∀ (k : Nat) (e : Env) (s : State) (p : Opened) (cid : Nat) (c : Conn) (slot : Nat) (g : Region), s.Receives k p cid c →
    p.opcode = wPut → (c.rxMsg p.msn).failed = none → (c.rxMsg p.msn).aborted = none → pAbort p = false →
    s.Grants p.nd (putAsk p .put) slot g →
    (s.took k e).tooEarly e (c.rxMsg p.msn).landing (pOff p)
      (regionReq g (tileOfCid cid) (keyIndex (pRkey p)) (pRoffset p + pOff p) .remoteWrite) (pPlen p) = true →
    Answers (exec (.putPacket k e) s) fun t => t.x.inbox = s.x.inbox.eraseIdx k ++ [p.toPacket] ∧ t.conn cid = some c ∧
      SendsEventsOnly s t) ∧
  (∀ (k : Nat) (e : Env) (s : State) (p : Opened) (cid : Nat) (c : Conn), s.Receives k p cid c → p.opcode = wGetReq →
    c.canAnswer = true →
    let a : Ask := ⟨.get, pRkey p, pRoffset p, extBE p 16 4, none, 0, 0⟩
    (∀ slot g, s.Grants p.nd a slot g → extBE p 16 4 ≠ 0 → Answers (exec (.getReq k e) s) fun t => SendsEventsOnly s t ∧
      Accepts t p cid ∧ ∃ c1, t.conn cid = some c1 ∧ c1.msgs = c.msgs ++
        [{ Msg.new .getRsp wGetRsp p.tc (extBE p 16 4)
             (.region slot (keyIndex a.rkey) g.link g.asid ((g.baseVa + a.roffset) % 2 ^ 64) g.allowSe) with
           id := s.x.nextMsg
           xdata := p.msn
           ref := p.msn }]) ∧
    (∀ slot key d g st dt, s.keyOf p.nd = some (slot, key) → KMap.get s.x.dirs slot = some d → keyIndex a.rkey < 2 ^ d.size →
      KMap.get s.x.regions (regionKey slot (keyIndex a.rkey)) = some g → firstFail (s.entryChecks a g) = some (st, dt) →
      c.rxMsgs = [] → pLast p = true → pOff p = 0 → pPlen p = 0 → Answers (exec (.getReq k e) s) fun t => SendsEventsOnly s t ∧
        Accepts t p cid ∧ ∃ c1 m, t.conn cid = some c1 ∧ c1.msgs = c.msgs ++ [m] ∧ m.kind = .result ∧ m.opcode = wResult ∧ m.len = 16 ∧
          m.src = .inline (leBytes 3 c.rsnSent ++ leBytes 1 st ++ leBytes 2 dt ++ leBytes 2 p.msn ++ leBytes 8 0))) ∧
  (∀ (k : Nat) (e : Env) (s : State) (p : Opened) (cid : Nat) (c : Conn) (slot pa : Nat) (g : Region) (bs : List Byte),
    s.Receives k p cid c → p.opcode = wAtomicReq → c.canAnswer = true → g.pcieAtomic = false →
    s.Grants p.nd ⟨.atomic, pRkey p, pRoffset p, 8, none, pXdata p % 16, pXdata p / 16 % 4⟩ slot g →
    s.Translates (regionReq g (tileOfCid cid) (keyIndex (pRkey p)) (pRoffset p) .remoteAtomic) 8 pa →
    s.readBytes e g.link pa 8 = some bs →
    Answers (exec (.atomicReq k e) s) fun t => Accepts t p cid ∧
      Sends s t (.hostWrite g.link pa
        (leBytes 8 (atomicNew (pXdata p % 16) (pXdata p / 16 % 4) (leNat bs) (extBE p 16 8) (extBE p 24 8)))) ∧
      ∃ c1, t.conn cid = some c1 ∧ c1.msgs = c.msgs ++
        [{ Msg.new .atomicRsp wAtomicRsp p.tc 8 (.inline (leBytes 8 (leNat bs))) with
           id := s.x.nextMsg
           xdata := p.msn
           ref := p.msn }]) ∧
  ∀ (k : Nat) (e : Env) (s : State) (p : Opened) (cid : Nat) (c : Conn) (g : Msg) (id : Nat) (o : Op) (q : WqCtx),
    s.Receives k p cid c → c.msgs = [g] → g.msn = some (pXdata p % 1024) → s.opTakes (some id) = some (id, o, q) → g.op = some id → o.silent = false →
    (∀ pa, p.opcode = wGetRsp → g.kind = .get → c.covered g = false → p.payload.length = pPlen p →
      let r := localReq o q (1 + tileOfCid cid) ((wLocal o.wqe + pOff p) % 2 ^ 64) .localWrite
      s.Translates r (pPlen p) pa → (s.took k e).tooEarly e g.landing (pOff p) r (pPlen p) = false →
      Answers (exec (.getRsp k e) s) fun t => Accepts t p cid ∧ Sends s t (.hostWrite q.link pa p.payload) ∧
        ∃ c1, t.conn cid = some c1 ∧
          c1.msgs = [{ g with got := g.got + pPlen p, landing := g.landing.take (pOff p) (pPlen p) }]) ∧
    (∀ n, p.opcode = wAtomicRsp → g.kind = .atomic → c.covered g = true → g.needRsn = some n → seqSub 24 c.rsnRcvd n < 2 ^ 23 →
      g.result = none → g.aborted = none → wqeField o.wqe 0x10 8 = 0 →
      Answers (exec (.atomicRsp k e) s) fun t => Accepts t p cid ∧ SendsEventsOnly s t ∧
        OpCompletes s t id stSuccess (leNat p.payload) 0 0)

/-- R241: the receiving end performs each PSN of an epoch at most once; none of the copies touches memory. -/
def Obligations.CopiesActOnce : Prop :=
  ∀ (k : Nat) (e : Env) (s : State) (p : Packet) (cid : Nat) (c : Conn) (i : Instr), s.Whole k p → (s.keyOf p.nd).isSome →
    s.cidOf p.src p.nd = some cid → s.conn cid = some c → c.rxState ≠ .none → p.epoch = c.rxEpoch → c.hasPsn p.psn →
    c.rxCsn ≤ 0xFFFFFF → s.Settled →
    i ∈ [Instr.putPacket k e, .putSignalPacket k e, .getReq k e, .atomicReq k e, .storePutPacket k e, .storeSyncReq k e, .mgmtReq k e] →
    Answers (exec i s) fun t => SendsEventsOnly s t ∧ Touches sendParts s t ∧
      ∃ c1, t.conn cid = some c1 ∧ c1.msgs = c.msgs ∧ c1.rxMsgs = c.rxMsgs ∧ c1.rsnSent = c.rsnSent

/-- R277: a check after the mark fails with REVOKED (steps 2 to 6 of R255), and R256: a packet that fails a step makes none of its accesses. -/
def Obligations.RevokedRegionsRefuse : Prop :=
  ∀ (k : Nat) (e : Env) (s : State) (p : Opened) (cid : Nat) (c : Conn) (slot key : Nat) (d : RgnDir) (g : Region) (i : Instr),
    s.Receives k p cid c → s.keyOf p.nd = some (slot, key) → KMap.get s.x.dirs slot = some d →
    KMap.get s.x.regions (regionKey slot (keyIndex (pRkey p))) = some g → g.revoking = true →
    i ∈ [Instr.putPacket k e, .putSignalPacket k e, .getReq k e, .atomicReq k e] →
    Answers (exec i s) fun t => SendsEventsOnly s t ∧ Touches sendParts s t ∧
      ∃ c1, t.conn cid = some c1 ∧ ∀ m ∈ c1.msgs, m ∈ c.msgs ∨ m.kind = .result

/-- R289 to R302, R318 and R323 at the matching tiles. -/
def Obligations.TaggedOperationsPostAndClaim : Prop :=
  (∀ (id : Nat) (e : Env) (s : State) (o : Op) (c : WqCtx) (cid : Nat) (k : Conn), s.Reaches o c cid k → k.txState = .open →
    s.startable id 0x10 = some (o, c) → c.nd ≠ 0xFFFF →
    s.behind id o (fun v => wqeOpcode v = 0x10 && wqeDest v = wqeDest o.wqe) = false →
    wqeField o.wqe 0x1C 2 < 4096 → wqeField o.wqe 0x28 4 ≠ 0xFFFFFFFF →
    (wqeField o.wqe 0x18 4 ≤ s.get F.matchSndcfgSendLimit → Answers (exec (.tsend id e) s) fun t =>
      StartsMsg s t id o cid k { Msg.new .eager 0x30 (wqeTc o.wqe) (wqeField o.wqe 0x18 4)
          (if wqeField o.wqe 0x18 4 = 0 then .inline [] else bufferSrc o c (wqeField o.wqe 0x10 8)) with ext := tsendExt o.wqe 0 }) ∧
    (∀ i, s.get F.matchSndcfgSendLimit < wqeField o.wqe 0x18 4 → s.rdvFree = some i →
      Answers (exec (.tsend id e) s) fun t => t.conn cid = some { k with
          msgs := k.msgs ++ [{ Msg.new .rts 0x31 (wqeTc o.wqe) 0 (.inline []) with
            ext := tsendExt o.wqe (KMap.getD s.mt.gens i 0 * 8192 + i)
            ref := i
            ref2 := KMap.getD s.mt.gens i 0
            id := s.x.nextMsg
            op := some id
            ordered := wqeOrdered o.wqe }] } ∧
        (∃ r, KMap.get t.mt.rdvs i = some r ∧ r.op = id ∧ r.length = wqeField o.wqe 0x18 4 ∧ r.gen = KMap.getD s.mt.gens i 0 ∧
          r.fa = wqeDest o.wqe ∧ r.nd = c.nd ∧ r.asked = none ∧ r.rtsDone = false ∧ r.dataDone = false) ∧
        t.op id = some { o with started := true } ∧ Touches [.q, .x, .smp, .mt, .now] s t)) ∧
  (∀ (id : Nat) (e : Env) (s : State) (o : Op) (c : WqCtx) (k : Mctx), s.postable c (wqeField o.wqe 0x1C 2) = some k →
    (s.cr k.cr).isSome → s.postingBehind id o = false → o.finished = false → o.silent = false → s.Settled →
    let x := wqeField o.wqe 0x1C 2
    let hit (u : Unexp) : Bool := tagHit u.tag u.rank (wqeField o.wqe 0x20 8) (wqeField o.wqe 0x28 8) (wqeField o.wqe 0x30 4)
    (s.startable id 0x12 = some (o, c) → s.q.pool < 16384 → s.mt.unexp = [] → (∀ q ∈ k.posted, q.spill = none) →
      s.postedOnChip (mtTile x) < 32768 → Answers (exec (.trecv id e) s) fun t => OpCompletes s t id stSuccess 0 0 0 ∧
        (∃ k' q, t.mctx x = some k' ∧ k'.posted = k.posted ++ [q] ∧ q.tag = wqeField o.wqe 0x20 8 ∧ q.ignore = wqeField o.wqe 0x28 8 ∧
          q.rank = wqeField o.wqe 0x30 4 ∧ q.wq = o.wq ∧ q.bufVa = wqeField o.wqe 0x10 8 ∧ q.length = wqeField o.wqe 0x18 4 ∧
          q.statusVa = wqeField o.wqe 0x38 8 ∧ q.asid = c.asid ∧ q.link = c.link ∧ k'.arrSeq = k.arrSeq ∧ k'.state = k.state) ∧
        Touches [.regs, .q, .smp, .mt, .now] s t) ∧
    (∀ u, s.startable id 0x12 = some (o, c) → s.q.pool < 16384 → s.mt.unexp = [u] → u.mctx = x → u.held = false → u.spill = none →
      hit u = true → u.rts = false → u.msgLen = 0 → u.bounce = none → wqeField o.wqe 0x38 8 = 0 →
      Answers (exec (.trecv id e) s) fun t => t.mt.unexp = [] ∧ t.q.pool = s.q.pool + 1 ∧ ∃ r q, t.q.done = s.q.done ++ [r, q] ∧
        r.owner = .mctx x ∧ r.status = stSuccess ∧ r.length = 0 ∧ r.info = u.tag ∧ r.peerFa = u.srcFa ∧ r.tag = wqeTag o.wqe ∧
        q.owner = .op id ∧ q.status = stSuccess ∧ q.info = 1) ∧
    (s.startable id 0x13 = some (o, c) → s.mt.unexp = [] → Answers (exec (.tprobe id e) s) fun t =>
      OpCompletes s t id stNoMatch 0 0 0 ∧ Touches [.q, .smp, .now] s t) ∧
    (∀ u, s.startable id 0x13 = some (o, c) → s.mt.unexp = [u] → u.mctx = x → u.held = false → u.spill = none → hit u = true →
      wqeField o.wqe 0x38 8 = 0 → Answers (exec (.tprobe id e) s) fun t => OpCompletes s t id stSuccess u.msgLen u.tag 0 ∧
        Touches [.regs, .msix, .out, .q, .smp, .now] s t) ∧
    (s.startable id 0x14 = some (o, c) → k.posted = [] → Answers (exec (.tcancel id e) s) fun t =>
      OpCompletes s t id stNoMatch 0 0 0 ∧ Touches [.q, .smp, .now] s t) ∧
    (∀ q, s.startable id 0x14 = some (o, c) → k.posted = [q] → q.spill = none → q.wqeTag = wqeField o.wqe 0x18 4 → q.wq = o.wq →
      s.mt.ctxs = [(x, k)] → Answers (exec (.tcancel id e) s) fun t => OpCompletes s t id stSuccess 0 0 0 ∧
        t.mctx x = some { k with posted := [] } ∧ Touches [.regs, .q, .smp, .mt, .now] s t)) ∧
  ∀ (id : Nat) (e : Env) (s : State) (o : Op) (c : WqCtx), s.mctx (wqeField o.wqe 0x1C 2) = none → s.postingBehind id o = false →
    o.finished = false → o.silent = false →
    (s.startable id 0x12 = some (o, c) → s.q.pool < 16384 → Answers (exec (.trecv id e) s) fun t =>
      OpCompletes s t id stMatchContext 0 0 0 ∧ Touches [.q, .smp, .now] s t) ∧
    (s.startable id 0x13 = some (o, c) → Answers (exec (.tprobe id e) s) fun t =>
      OpCompletes s t id stMatchContext 0 0 0 ∧ Touches [.q, .smp, .now] s t) ∧
    (s.startable id 0x14 = some (o, c) → Answers (exec (.tcancel id e) s) fun t =>
      OpCompletes s t id stMatchContext 0 0 0 ∧ Touches [.q, .smp, .now] s t)

/-- R296, R308, R310, R311, R313 to R315, R318 to R321 and R323. -/
def Obligations.TaggedPacketsAreMatched : Prop :=
  (∀ (k : Nat) (e : Env) (s : State) (p : Opened) (cid : Nat) (c : Conn) (g : Mctx), s.Receives k p cid c → c.rxMsgs = [] →
    s.mt.deliveries = [] → p.msn ∉ c.seen → seqSub 10 p.msn c.rxMsn < 512 → s.mt.ctxs = [(extBE p 12 2, g)] → g.state = .active →
    g.nd = p.nd → (s.cr g.cr).isSome → s.crRefuses g.cr = false →
    let x := extBE p 12 2
    (∀ q pa, p.opcode = wEager → c.rxMsn = p.msn → g.posted = [q] → q.spill = none → tagHit (extBE p 0 8) (extBE p 8 4) q.tag q.ignore q.rank = true →
      pOff p = 0 → extBE p 16 4 = pPlen p → p.payload.length = pPlen p → pPlen p ≤ q.length → q.statusVa = 0 →
      s.Translates { asid := q.asid, va := q.bufVa % 2 ^ 64, acc := .localWrite, user := q.user, allowSe := true,
                     engine := 5 + mtTile x, source := 4, object := x } (pPlen p) pa →
      Answers (exec (.eager k e) s) fun t => Accepts t p cid ∧ Sends s t (.hostWrite q.link pa p.payload) ∧
        RecvCompletes s t x g q stSuccess (pPlen p) (extBE p 0 8) p.src ∧ t.mctx x = some { g with posted := [] } ∧
        t.mt.deliveries = []) ∧
    (p.opcode = wEager → c.rxMsn = p.msn → g.posted = [] → extBE p 16 4 = 0 → pPlen p = 0 →
      Answers (exec (.eager k e) s) fun t => Accepts t p cid ∧ SendsEventsOnly s t ∧ t.q.done = s.q.done ∧
        t.mt.unexp = [{ freshMsg p cid with arrSeq := g.arrSeq }] ∧ t.mctx x = some { g with arrSeq := (g.arrSeq + 1) % 2 ^ 32 }) ∧
    (p.opcode = wEager → c.rxMsn ≠ p.msn → pPlen p = 0 → Answers (exec (.eager k e) s) fun t => Accepts t p cid ∧
      t.mt.unexp = [{ freshMsg p cid with held := true }] ∧ t.mt.ctxs = s.mt.ctxs) ∧
    (p.opcode = wRts → c.rxMsn = p.msn → g.posted = [] → pPlen p = 0 → Answers (exec (.rts k e) s) fun t => Accepts t p cid ∧
      SendsEventsOnly s t ∧ t.mt.unexp = [{ freshMsg p cid with arrSeq := g.arrSeq }]) ∧
    (∀ q, p.opcode = wRts → c.rxMsn = p.msn → g.posted = [q] → q.spill = none → c.canAnswer = true →
      tagHit (extBE p 0 8) (extBE p 8 4) q.tag q.ignore q.rank = true → pPlen p = 0 → Answers (exec (.rts k e) s) fun t =>
        Accepts t p cid ∧ t.mctx x = some { g with posted := [] } ∧ t.mt.unexp = [] ∧
        (∃ c1 m, t.conn cid = some c1 ∧ c1.msgs = c.msgs ++ [m] ∧ m.kind = .rdvGet ∧ m.opcode = wRdvGet ∧
          m.ext = beBytes 4 (extBE p 20 4) ++ beBytes 4 (min (extBE p 16 4) q.length) ++ beBytes 8 0) ∧
        ∃ d, t.mt.deliveries = [d] ∧ d.recv = q ∧ d.rts = true ∧ d.expect = min (extBE p 16 4) q.length ∧ d.landed = 0)) ∧
  (∀ (k : Nat) (e : Env) (s : State) (p : Opened) (cid : Nat) (c : Conn), s.Receives k p cid c → p.opcode = wRdvGet →
    c.canAnswer = true →
    (∀ r, KMap.get s.mt.rdvs (extBE p 0 4 % 8192) = some r → r.gen = extBE p 0 4 / 8192 → r.fa = p.src → r.nd = p.nd →
      r.asked = none → Answers (exec (.rdvGet k e) s) fun t => Accepts t p cid ∧
        KMap.get t.mt.rdvs (extBE p 0 4 % 8192) = some { r with asked := some (min (extBE p 4 4) r.length) } ∧
        ∃ c1 m, t.conn cid = some c1 ∧ c1.msgs = c.msgs ++ [m] ∧ m.kind = .rdvData ∧ m.opcode = wRdvData ∧ m.op = some r.op ∧
          m.len = min (extBE p 4 4) r.length ∧ m.xdata = p.msn) ∧
    (KMap.get s.mt.rdvs (extBE p 0 4 % 8192) = none → c.rxMsgs = [] → pPlen p = 0 → Answers (exec (.rdvGet k e) s) fun t =>
      Accepts t p cid ∧ ∃ c1 m, t.conn cid = some c1 ∧ c1.msgs = c.msgs ++ [m] ∧ m.kind = .result ∧
        m.src = .inline (leBytes 3 c.rsnSent ++ leBytes 1 stRdvHandle ++ leBytes 2 0 ++ leBytes 2 p.msn ++ leBytes 8 0))) ∧
  (∀ (k : Nat) (e : Env) (s : State) (p : Opened) (cid : Nat) (c : Conn) (d : Delivery) (g : Mctx) (pa : Nat), s.Receives k p cid c →
    p.opcode = wRdvData → s.mt.deliveries = [d] → d.rts = true → d.conn = some cid → d.getMsn = some (pXdata p % 1024) →
    c.rxMsgs = [] → pAbort p = false → p.payload.length = pPlen p → d.expect ≤ d.landed + pPlen p →
    pOff p + pPlen p ≤ d.recv.length → d.recv.statusVa = 0 → d.bounce = none → s.mctx d.mctx = some g → d.msgLen ≤ d.recv.length →
    s.Translates { asid := d.recv.asid, va := (d.recv.bufVa + pOff p) % 2 ^ 64, acc := .localWrite, user := d.recv.user,
                   allowSe := true, engine := 5 + mtTile d.mctx, source := 4, object := d.mctx } (pPlen p) pa → (s.took k e).deliverEarly e d p = false →
    Answers (exec (.rdvData k e) s) fun t => Accepts t p cid ∧ Sends s t (.hostWrite d.recv.link pa p.payload) ∧
      RecvCompletes s t d.mctx g d.recv stSuccess d.msgLen d.tag d.srcFa ∧ t.mt.deliveries = []) ∧
  ∀ (k : Nat) (e : Env) (s : State) (p : Opened) (cid : Nat) (c : Conn) (r : Rdv) (o : Op), s.Receives k p cid c →
    p.opcode = wRdvCancel → KMap.get s.mt.rdvs (extBE p 0 4 % 8192) = some r → r.gen = extBE p 0 4 / 8192 → r.fa = p.src →
    r.nd = p.nd → s.op r.op = some o → o.finished = false → o.silent = false → Answers (exec (.rdvCancel k e) s) fun t => Accepts t p cid ∧
      OpCompletes s t r.op (extBE p 4 1) 0 0 0 ∧ KMap.get t.mt.rdvs (extBE p 0 4 % 8192) = none ∧
      KMap.getD t.mt.gens (extBE p 0 4 % 8192) 0 = (r.gen + 1) % 2 ^ 19

/-- R335, R344 to R357, R371 and R389 to R391, on a barrier between a root and one leaf. -/
def Obligations.CollectivesClimbAndDescend : Prop :=
  (∀ (id : Nat) (e : Env) (s : State) (o : Op) (q : WqCtx), s.startable id 0x20 = some (o, q) → o.finished = false → o.silent = false →
    let x := wqeBits o.wqe 0x20 47 32
    let w := collOpOf id o.wqe
    (s.coll x = none → Answers (exec (.coll id e) s) fun t => OpCompletes s t id stCollContext 0 w.seq 0 ∧ Touches [.q, .smp, .now] s t) ∧
    ∀ c, s.collFor x q = some c → (s.cr c.cr).isSome →
      (collInvalid c w = true → Answers (exec (.coll id e) s) fun t => OpCompletes s t id stCollInvalid 0 w.seq 0 ∧ t.cl = s.cl ∧
        Touches [.q, .smp, .now] s t) ∧
      (collInvalid c w = false → w.seq ≠ c.nextSeq → Answers (exec (.coll id e) s) fun t => OpCompletes s t id stCollSequence 0 w.seq 0 ∧ t.cl = s.cl ∧
        Touches [.q, .smp, .now] s t) ∧
      (collInvalid c w = false → w.seq = c.nextSeq → c.ops = [] → c.slots = [] → c.kept = [] → w.hdr.climbs = true →
        (c.children ≠ [] → Answers (exec (.coll id e) s) fun t =>
          t.coll x = some { c with nextSeq := (c.nextSeq + 1) % 2 ^ 32, ops := [w] } ∧ t.op id = some { o with started := true } ∧
          Touches [.q, .smp, .cl, .now] s t) ∧
        (∀ cid k, c.children = [] → c.root = false → 1 ≤ c.depth → w.hdr.count = 0 → s.slotsFull x c = false →
          s.Linked c.parent c.nd cid k → k.txState = .open →
          Answers (exec (.coll id e) s) fun t =>
            t.coll x = some { c with nextSeq := (c.nextSeq + 1) % 2 ^ 32, ops := [{ w with next := 1 }] } ∧
            Posts s t cid k { Msg.new .up wUp c.tc 0 (.inline []) with
              ext := collExt x w.hdr w.seq 0 0
              ref := x
              ref2 := w.seq * 2 ^ 32
              op := some id } ∧
            Counts s t (pgColl (collTile x)) 0 1 ∧ Touches [.regs, .msix, .out, .q, .smp, .x, .cl, .now] s t))) ∧
  (∀ (n : Nat) (e : Env) (s : State) (p : Opened) (cid : Nat) (k : Conn) (x : Nat) (c : Coll) (w : CollOp) (o : Op),
    s.ForColl n p cid k x c → c.ops = [w] → s.op w.id = some o → o.finished = false → o.silent = false → w.hdr.kind = 3 → w.hdr.count = 0 →
    w.wrote = [] → w.fault = none → w.doneCtr = 0xFFFF → c.ctrCount ≤ 0xFFFF → c.kept = [] → 1 ≤ c.depth →
    pColl p = (w.hdr, w.seq, 0, 0) → p.payload = [] →
    (p.opcode = wUp → c.root = true → c.children = [(p.src, 0)] → w.next = 0 → Answers (exec (.up n e) s) fun t =>
      Accepts t p cid ∧ OpCompletes s t w.id stSuccess w.bytes w.seq 0 ∧
      t.coll x = some { c with
        ops := []
        kept := [⟨w.seq, 0, w.hdr, [], [(0, t.now)], false, []⟩] } ∧
      PostsBack s t cid k { Msg.new .down wDown c.tc 0 (.inline []) with
        ext := collExt x w.hdr w.seq 0 0
        ref := x
        ref2 := w.seq * 2 ^ 32 }) ∧
    (p.opcode = wDown → c.root = false → c.children = [] → c.parent = p.src → w.next = 1 → Answers (exec (.down n e) s) fun t =>
      Accepts t p cid ∧ OpCompletes s t w.id stSuccess w.bytes w.seq 0 ∧ t.coll x = some { c with ops := [] } ∧
      PostsBack s t cid k { Msg.new .downAck wDownAck c.tc 0 (.inline []) with
        ext := beBytes 2 x ++ beBytes 2 0 ++ beBytes 4 w.seq ++ beBytes 4 1 ++ beBytes 4 0 })) ∧
  (∀ (n : Nat) (e : Env) (s : State) (p : Opened) (cid : Nat) (k : Conn) (x : Nat) (c : Coll) (r : Retained) (i v a : Nat),
    s.ForColl n p cid k x c → c.ops = [] → c.kept = [r] → c.childOf p.src = some i → c.children[i]? = some (p.src, v) →
    (p.opcode = wDownAck → r.waiting = [(i, a)] → r.here = false → r.seq = extBE p 4 4 → r.seg < extBE p 8 4 →
      Answers (exec (.downAck n e) s) fun t => Accepts t p cid ∧ t.coll x = some { c with kept := [] } ∧ t.q = s.q) ∧
    (p.opcode = wRepair → extBE p 2 1 % 2 = 0 → r.seq = extBE p 4 4 → r.seg = extBE p 8 4 →
      Answers (exec (.repair n e) s) fun t => Accepts t p cid ∧
        t.coll x = some { c with kept := [{ r with waiting := r.waiting.map fun w => if w.1 = i then (i, t.now) else w }] } ∧
        Counts s t (pgColl (collTile x)) 4 1 ∧
        PostsBack s t cid k { Msg.new .down wDown c.tc r.bytes.length (.inline r.bytes) with
          ext := collExt x r.hdr r.seq r.seg r.bytes.length
          ref := x
          ref2 := r.seq * 2 ^ 32 + r.seg })) ∧
  (∀ (n : Nat) (e : Env) (s : State) (p : Opened) (cid : Nat) (k : Conn) (x : Nat) (c : Coll) (w : CollOp) (o : Op),
    s.ForColl n p cid k x c → p.opcode = wAbort → (s.cr c.cr).isSome → s.crRefuses c.cr = false → c.neighbours = [p.src] → c.ops = [w] → w.fault = none → s.op w.id = some o →
    o.finished = false → o.silent = false → Answers (exec (.abort n e) s) fun t => Accepts t p cid ∧ t.get (F.cause (pgColl (collTile x)) Ev.cContextError) = 1 ∧
      (∃ c', t.coll x = some c' ∧ c'.state = .error ∧ c'.ops = [] ∧ c'.nextSeq = c.nextSeq) ∧
      ∃ a b, t.q.done = s.q.done ++ [a, b] ∧ a.owner = .op w.id ∧ a.status = stCollAborted ∧ b.owner = .coll x ∧ b.cr = c.cr ∧
        b.tag = c.inst ∧ b.status = stCollAborted ∧ b.info = w.seq ∧ b.peerFa = extBE p 8 4 % 2 ^ 18 ∧ b.detail = extBE p 2 1) ∧
  ∀ (x i : Nat) (e : Env) (s : State) (c : Coll) (r : Retained) (fa v cid : Nat) (k : Conn), s.coll x = some c → c.state = .active →
    c.children[i]? = some (fa, v) → c.kept = [r] → s.Linked fa c.nd cid k → k.txState = .open →
    ((∃ a, (i, a) ∈ r.waiting ∧ a + k.rto ≤ max s.now e.t) → Answers (exec (.downRetainTimeout x i e) s) fun t =>
      t.coll x = some { c with kept := [{ r with waiting := r.waiting.map fun w => if w.1 = i then (i, max s.now e.t) else w }] } ∧ Counts s t (pgColl (collTile x)) 4 1 ∧
      Posts s t cid k { Msg.new .down wDown c.tc r.bytes.length (.inline r.bytes) with
        ext := collExt x r.hdr r.seq r.seg r.bytes.length
        ref := x
        ref2 := r.seq * 2 ^ 32 + r.seg } ∧ Touches [.regs, .msix, .out, .x, .cl, .now] s t) ∧
    ((∀ w ∈ r.waiting, w.1 = i → max s.now e.t < w.2 + k.rto) → exec (.downRetainTimeout x i e) s = .next (s.upd fun m => m.at e))

/-- R373 to R381 on counters and triggered lists, and R384 to R388 on fabric time. -/
def Obligations.CountersListsAndTime : Prop :=
  (∀ (id : Nat) (e : Env) (s : State) (o : Op) (q : WqCtx) (x : Nat) (c : Coll), o.finished = false → o.silent = false → s.collFor x q = some c →
    (s.cr c.cr).isSome →
    (s.startable id 0x21 = some (o, q) → x = wqeField o.wqe 0x10 2 →
      let i := c.ctrBase + wqeField o.wqe 0x12 2
      let v := (s.ctr i + wqeField o.wqe 0x18 8) % 2 ^ 64
      (wqeField o.wqe 0x12 2 < c.ctrCount → Answers (exec (.ctrAdd id e) s) fun t => t.ctr i = v ∧ (∀ j, j ≠ i → t.ctr j = s.ctr j) ∧
        t.cl = { s.cl with ctrs := t.cl.ctrs } ∧ OpCompletes s t id stSuccess v 0 0 ∧ Touches [.q, .smp, .cl, .now] s t) ∧
      (c.ctrCount ≤ wqeField o.wqe 0x12 2 → Answers (exec (.ctrAdd id e) s) fun t =>
        OpCompletes s t id stCollInvalid 0 0 0 ∧ Touches [.q, .smp, .now] s t)) ∧
    (s.startable id 0x22 = some (o, q) → x = wqeField o.wqe 0x1C 2 →
      let va := wqeField o.wqe 0x10 8
      let n := wqeField o.wqe 0x18 4
      (va % 128 ≠ 0 → Answers (exec (.trigList id e) s) fun t => OpCompletes s t id stCollInvalid 0 0 0 ∧
        Touches [.q, .smp, .now] s t) ∧
      (va % 128 = 0 → n = 0 → Answers (exec (.trigList id e) s) fun t => OpCompletes s t id stSuccess 0 0 0 ∧
        Touches [.q, .smp, .now] s t) ∧
      (∀ bs, va % 128 = 0 → 0 < n → s.get (F.collUseLists (collTile x)) < 8192 →
        s.get (F.collUseEntries (collTile x)) + n ≤ 131072 → bs.length = 128 → KMap.get s.cl.lists s.cl.nextList = none →
        s.ReadsVirt e q.link { asid := q.asid, va := va, acc := .fetch, user := q.user, allowSe := true, engine := 7 + collTile x,
                               source := 5, object := x } bs →
        Answers (exec (.trigList id e) s) fun t => OpCompletes s t id stSuccess 0 0 0 ∧ t.cl.nextList = s.cl.nextList + 1 ∧
          (∃ l, KMap.get t.cl.lists s.cl.nextList = some ⟨o.wq, x, va, n, 0, l, []⟩ ∧
            KMap.get l 0 = some ((elems 8 16 bs).map (BitVec.ofNat 64)) ∧ (n = 1 → l.length = 1)) ∧
          t.cl.ctxs = s.cl.ctxs ∧ t.cl.ctrs = s.cl.ctrs ∧ Touches (.q :: .smp :: .cl :: busParts) s t))) ∧
  (∀ (n : Nat) (e : Env) (s : State) (l : TrigList) (ent : List Word) (c : Coll), KMap.get s.cl.lists n = some l →
    KMap.get l.loaded l.head = some ent → s.coll l.coll = some c → bits (ent.getD 8 0) 16 16 = 0 →
    bits (ent.getD 8 0) 15 0 < c.ctrCount →
    let v := s.ctr (c.ctrBase + bits (ent.getD 8 0) 15 0)
    (bits (ent.getD 9 0) 63 0 ≤ v → wqeFence ent = false → s.q.pool < 16384 → l.count = l.head + 1 → s.smp.on = false →
      Answers (exec (.triggerFire n e) s) fun t => t.q.nextOp = s.q.nextOp + 1 ∧ t.q.pool = s.q.pool + 1 ∧ t.q.done = s.q.done ∧
        t.op s.q.nextOp = some { wq := l.wq, idx := 0, wqe := ent.take 8, started := false, silent := false, finished := false, dead := false, trig := some { list := n, coll := l.coll, inst := c.inst, done := bits (ent.getD 10 0) 15 0 } } ∧
        KMap.get t.cl.lists n = some { l with
          head := l.head + 1
          loaded := KMap.erase l.loaded l.head
          live := l.live ++ [s.q.nextOp] } ∧
        Counts s t (pgColl (collTile l.coll)) 5 1 ∧ Touches [.regs, .msix, .out, .q, .cl, .now] s t) ∧
    (bits (ent.getD 9 0) 63 0 ≤ v → wqeFence ent = false → s.q.pool < 16384 → (KMap.get l.loaded (l.head + 1)).isSome → s.smp.on = false →
      Answers (exec (.triggerFire n e) s) fun t => t.q.nextOp = s.q.nextOp + 1 ∧ t.q.pool = s.q.pool + 1 ∧ t.q.done = s.q.done ∧
        (∃ o, t.op s.q.nextOp = some o ∧ o.wq = l.wq ∧ o.wqe = ent.take 8 ∧ o.started = false) ∧
        (∃ l', KMap.get t.cl.lists n = some l' ∧ l'.head = l.head + 1 ∧ l'.live = l.live ++ [s.q.nextOp] ∧
          KMap.get l'.loaded (l.head + 1) = KMap.get l.loaded (l.head + 1)) ∧ Touches (.q :: .cl :: busParts) s t) ∧
    (v < bits (ent.getD 9 0) 63 0 → exec (.triggerFire n e) s = .next (s.upd fun m => m.at e))) ∧
  (∀ (w : Wr) (e : Env) (s : State), s.Arrives w F.timeSetNs.reg →
    (s.get F.timeCfgGm = 1 → Answers (exec (.timeSet w e) s) fun t => t.fabricNow = (writeOnes w).toNat ∧ t.n.nearAt = none ∧
      t.get (F.cause pgTime Ev.timeStep) = 1 ∧ Touches [.regs, .msix, .out, .smp, .n, .timeOffset, .now] s t) ∧
    (s.get F.timeCfgGm = 0 → exec (.timeSet w e) s = .next (s.upd fun m => m.at e))) ∧
  (∀ (e : Env) (s : State) (b : Nat), s.n.nearAt = some b → s.get F.timeStsSynced = 0 → s.timeSource.isSome →
    (b + 1000000 ≤ max s.now e.t → s.st.judge = none → Answers (exec (.synced e) s) fun t => t.get F.timeStsSynced = 1 ∧
      t.get (F.cause pgTime Ev.synced) = 1 ∧ Touches [.regs, .msix, .out, .now] s t) ∧
    (max s.now e.t < b + 1000000 → exec (.synced e) s = .next (s.upd fun m => m.at e))) ∧
  ∀ (e : Env) (s : State), s.timeSource = none → s.get F.timeCfgGm = 0 →
    (s.get F.timeStsSynced = 1 → Answers (exec (.syncLost e) s) fun t => t.get F.timeStsSynced = 0 ∧ t.get F.timeStsHoldover = 1 ∧
      t.get (F.cause pgTime Ev.syncLost) = 1 ∧ t.n.nearAt = none ∧ Touches [.regs, .msix, .out, .n, .timeOffset, .now] s t) ∧
    (s.get F.timeStsSynced = 0 → exec (.syncLost e) s = .next (s.upd fun m => m.at e))

/-- R396 to R418, R424, R445 to R450 and R508 to R513 at one port. -/
def Obligations.PortsScheduleAndAccept : Prop :=
  (∀ (p : Fin 48) (e : Env) (s : State) (d : QPkt), s.isUp p = true → (s.port p).busy ≤ max s.now e.t * 1000 → (s.port p).again = [] →
    (s.port p).owes = [] → (s.port p).replay = [] → d.pkt.trimmed = false → d.pkt.flits ≤ 33 →
    let c := d.pkt.tc
    let q := s.port p
    (q.head c = some d → c = 7 ∨ (c < 7 ∧ q.queue = [d] ∧ q.sched = none ∧ s.qcause p = 0) → s.staged d.id = true →
      d.pkt.flits ≤ q.credReg → 0 < ((s.upd fun m => m.at e).bucket p c).peak → Answers (exec (.packetStart p e) s) fun t =>
        let seq := s.get (F.portLstsTxSeq p)
        let out := { d.pkt with hops := (d.pkt.hops + 1) % 32 }
        SendsJust s t [.packet p seq (packetBytes out)] ∧ (t.port p).queue.map (·.id) = (q.queue.filter fun x => x.id ≠ d.id).map (·.id) ∧
        (t.port p).replay = [⟨seq, out, t.now + s.get (F.portLcfgRplTo p) * 100, false⟩] ∧ (t.port p).credReg = q.credReg - d.pkt.flits ∧
        (t.port p).credStub = q.credStub ∧ (t.port p).busy = t.now * 1000 + d.pkt.flits * s.tflit p ∧
        KMap.get (t.port p).buckets c = some (((s.upd fun m => m.at e).bucket p c).take d.pkt.flits) ∧
        t.get (F.portLstsTxSeq p) = (seq + 1) % 4096 ∧ Counts s t (pgPsch p) c d.pkt.flits ∧ Counts s t (pgPort p) 2 1 ∧
        t.n.rels = s.n.rels ++ [⟨d.id, d.inTile, d.inPort, d.pkt.flits, false, d.ownStub⟩] ∧
        Touches [.regs, .msix, .out, .smp, .n, .now] s t) ∧
    (q.queue = [d] → q.credReg < d.pkt.flits → Answers (exec (.packetStart p e) s) fun t => SendsEventsOnly s t ∧
      (t.port p).queue.map (·.id) = [d.id] ∧ (t.port p).replay = [] ∧ t.get (F.portLstsTxSeq p) = s.get (F.portLstsTxSeq p) ∧
      Touches [.regs, .msix, .out, .n, .now] s t)) ∧
  (∀ (p : Fin 48) (seq : BitVec 12) (d : Packet) (e : Env) (s : State), s.isUp p = true → (s.port p).hunting = false → 1 ≤ d.flits →
    d.flits ≤ 33 →
    let n := seqSub 12 (s.get (F.portLstsRxSeq p)) seq.toNat
    (n = 0 → s.routes = true → s.groupValid = true → d.dst = s.fa → d.trimmed = false → Answers (exec (.packetReceive p seq d e) s) fun t =>
      t.get (F.portLstsRxSeq p) = (s.get (F.portLstsRxSeq p) + 1) % 4096 ∧ t.x = { s.x with inbox := s.x.inbox ++ [d] } ∧
      (t.port p).freedReg = (s.port p).freedReg + d.flits ∧ (t.port p).rxReg = (s.port p).rxReg ∧ (t.port p).rplSent = none ∧
      Counts s t (pgPort p) 3 1 ∧ Counts s t (pgPort p) 1 d.flits ∧ Touches [.regs, .msix, .out, .x, .n, .now] s t) ∧
    (0 < n → n ≤ 2048 → Answers (exec (.packetReceive p seq d e) s) fun t => Counts s t (pgPort p) 6 1 ∧
      Counts s t (pgPort p) 1 d.flits ∧ t.get (F.portLstsRxSeq p) = s.get (F.portLstsRxSeq p) ∧ Touches [.regs, .msix, .out, .now] s t) ∧
    (2048 < n → (s.port p).rplSent = none → (s.port p).owes = [] → (s.port p).busy ≤ max s.now e.t * 1000 →
      Answers (exec (.packetReceive p seq d e) s) fun t => Counts s t (pgPort p) 7 1 ∧ Counts s t (pgPort p) 5 1 ∧
        SendsFlits s t p [(2, beBytes 2 (s.get (F.portLstsRxSeq p)) ++ [1])] ∧
        (t.port p).rplSent = some (s.get (F.portLstsRxSeq p), t.now + s.get (F.portLcfgRplTo p) * 50) ∧ Touches [.regs, .msix, .out, .n, .now] s t)) ∧
  (∀ (a : BitVec 24) (w : Wr) (e : Env) (s : State) (k : Nat), s.Arrives w (regAddr a.toNat) → k < 8 →
    (∀ p < 48, regAddr a.toNat = bktReg p k → Answers (exec (.bucketWrite a w e) s) fun t =>
      t.bucket p k = fullBucket (t.word (bktReg p k)) k t.now ∧
      (w.half = .full → t.word (bktReg p k) = w.value) ∧ Touches [.regs, .n, .now] s t) ∧
    (∀ q < 16, regAddr a.toNat = injReg q k → Answers (exec (.bucketWrite a w e) s) fun t =>
      (∀ tile, t.injBucket tile q k = fullBucket (t.word (injReg q k)) k t.now) ∧
      (w.half = .full → t.word (injReg q k) = w.value) ∧ Touches [.regs, .n, .now] s t)) ∧
  (∀ (p : Fin 48) (w : Wr) (e : Env) (s : State), s.Arrives w (F.pschGctlEn p).reg → w.half = .full → bit w.value 63 = true →
    let n := bits w.value 20 16
    let l := (List.range (min 16 n)).map fun i => (s.get (F.pschGentOpen p i), s.get (F.pschGentDur p i))
    let g : Sched := ⟨bit w.value 62, s.get (F.pschGbaseBase p), l⟩
    (bit w.value 62 = false → Answers (exec (.gateCommit p w e) s) fun t => t.get (F.pschGctlResult p) = 0 ∧
      (t.port p).next = some (g.startAt t.fabricNow, g) ∧ t.get (F.pschGstsPending p) = 1 ∧ (t.port p).sched = (s.port p).sched ∧
      Touches [.regs, .n, .now] s t) ∧
    (∀ r, (n < 1 ∨ 16 < n) ∧ r = 1 ∨ (1 ≤ n ∧ n ≤ 16 ∧ (∃ x ∈ l, x.2 = 0) ∧ r = 2) → bit w.value 62 = true →
      Answers (exec (.gateCommit p w e) s) fun t => t.get (F.pschGctlResult p) = r ∧ t.n = s.n ∧
        t.get (F.cause (pgPsch p) Ev.gateReject) = 1 ∧ Touches [.regs, .msix, .out, .now] s t)) ∧
  (∀ (p : Fin 48) (e : Env) (s : State) (b : Nat) (g : Sched), (s.port p).next = some (b, g) →
    (b ≤ (s.upd fun m => m.at e).fabricNow → Answers (exec (.schedSwitch p e) s) fun t =>
      t.port p = { s.port p with
        sched := some g
        next := none } ∧
      t.get (F.pschGstsActive p) = b2n g.en ∧ t.get (F.pschGstsPending p) = 0 ∧
      t.get (F.cause (pgPsch p) Ev.schedSwitch) = 1 ∧ Touches [.regs, .msix, .out, .n, .now] s t) ∧
    ((s.upd fun m => m.at e).fabricNow < b → exec (.schedSwitch p e) s = .next (s.upd fun m => m.at e))) ∧
  ∀ (id p a : Nat) (e : Env) (s : State) (d : QPkt), s.queued id = some (p, d) → d.inPort = some a → d.id = id →
    (max s.now e.t < d.enq + d.dwell → exec (.dwellTrim id e) s = .next (s.upd fun m => m.at e) ∧
      exec (.noticeDrop id e) s = .next (s.upd fun m => m.at e)) ∧
    (d.enq + d.dwell ≤ max s.now e.t →
      (d.pkt.trimmed = true → Answers (exec (.noticeDrop id e) s) fun t => Counts s t pgRoute 2 1 ∧
        (t.port p).queue = (s.port p).queue.filter (fun x => x.id ≠ id) ∧ Touches [.regs, .msix, .out, .n, .now] s t) ∧
      (d.pkt.trimmed = false → 8 ≤ (s.port a).rxOwn → Answers (exec (.dwellTrim id e) s) fun t => Counts s t pgRoute 0 1 ∧
        Counts s t pgRoute 1 1 ∧ (t.port p).queue = (s.port p).queue.filter (fun x => x.id ≠ id) ∧ Touches [.regs, .msix, .out, .n, .now] s t) ∧
      (∀ o, d.pkt.trimmed = false → (s.port a).rxOwn < 8 → s.groupValid = true → d.pkt.mcast = false → d.pkt.ordered = true →
        d.pkt.rmode = 0 → d.pkt.hops < s.get F.routeCfgHopMax → s.get F.routeEpochSpread = 0 → portKind a = 1 →
        faGroup d.pkt.dst = faGroup s.fa → faChassis d.pkt.dst = s.chassis → faSlot d.pkt.dst ≠ s.slot → d.pkt.dst ≠ s.fa →
        s.xPort (faSlot d.pkt.dst) = some o → s.candidate o d.pkt.tc = true → o ≠ p →
        Answers (exec (.dwellTrim id e) s) fun t => Counts s t pgRoute 0 1 ∧ Touches [.regs, .msix, .out, .n, .now] s t ∧
          (t.port p).queue.map (·.id) = ((s.port p).queue.filter (fun x => x.id ≠ id)).map (·.id) ∧
          ∃ x ∈ (t.port o).queue, x.id = s.n.nextPkt ∧ x.ownStub = true ∧ x.inPort = some a ∧ x.pkt.trimmed = true ∧ x.pkt.flits = 1 ∧
            x.pkt.body = d.pkt.body.take 8 ∧ x.pkt.dst = d.pkt.dst ∧ x.pkt.psn = d.pkt.psn ∧ x.pkt.attempt = d.pkt.attempt))

/-- R459 to R468: the group route table and quarantine by a master. -/
def Obligations.RoutesAreCommitted : Prop :=
  (∀ (w : Wr) (s : State), s.Arrives w F.routeRcmdGo.reg →
    (s.get F.routeRcmdGo = 1 → exec (.routeCommit w) s = .next s ∧ exec (.grtLoad w) s = .next s) ∧
    (s.get F.routeRcmdGo = 0 → w.half = .full →
      let d := seqSub 16 (bits w.value 15 0) (s.get F.routeEpochEpoch)
      (bit w.value 63 = true → bit w.value 62 = false → 1 ≤ d → d ≤ 32767 → Answers (exec (.routeCommit w) s) fun t =>
        t.n = { s.n with
          grtOld := s.n.grt
          grt := s.n.grtStage
          grtNew := []
          grtGot := []
          cells := s.n.cells ++ spreadCells } ∧ t.get F.routeEpochSpread = 1 ∧
        t.get F.routeRcmdGo = 1 ∧ t.get F.routeRcmdResult = 0 ∧ t.get F.routeRcmdNewEpoch = bits w.value 15 0 ∧
        t.get F.routeEpochEpoch = s.get F.routeEpochEpoch ∧ Touches [.regs, .n] s t) ∧
      (bit w.value 63 = true → bit w.value 62 = false → d = 0 ∨ 32767 < d → Answers (exec (.routeCommit w) s) fun t => t.n = s.n ∧
        t.get F.routeRcmdResult = 1 ∧ t.get F.routeRcmdGo = 0 ∧ t.get F.routeEpochSpread = s.get F.routeEpochSpread ∧
        t.get (F.cause pgRoute Ev.commitReject) = 1 ∧ OnlyRegsEvents s t) ∧
      (bit w.value 63 = false → bit w.value 62 = true → Answers (exec (.grtLoad w) s) fun t =>
        t.n = { s.n with grtStage := s.n.grt } ∧ t.get F.routeRcmdGo = 0 ∧ Touches [.regs, .n] s t))) ∧
  (∀ s : State, (s.get F.routeEpochSpread = 1 → s.spreadOver = true → Answers (exec .commitDone s) fun t =>
      t.n = { s.n with grtOld := [], grtNew := [], grtGot := [], cells := s.n.cells.filter fun c => !c.table } ∧ t.get F.routeEpochSpread = 0 ∧ t.get F.routeRcmdGo = 0 ∧
      t.get F.routeEpochEpoch = s.get F.routeRcmdNewEpoch ∧ t.get (F.cause pgRoute Ev.commitDone) = 1 ∧
      Touches [.regs, .msix, .out, .n] s t) ∧
    (s.get F.routeEpochSpread = 0 → exec .commitDone s = .next s)) ∧
  (∀ (w : Wr) (s : State), s.Arrives w F.routeHlthUp.reg → w.half ≠ .hi → Answers (exec (.hlth w) s) fun t =>
    let g := bits w.value 9 0
    let b := 16 * bits w.value 17 16 + 14
    let new (l : List (Nat × Word)) : Word := setBits (grtWord l g) b b (bits w.value 31 31)
    grtWord t.n.grt g = new s.n.grt ∧ grtWord t.n.grtStage g = new s.n.grtStage ∧
    (∀ k, k ≠ g → grtWord t.n.grt k = grtWord s.n.grt k ∧ grtWord t.n.grtStage k = grtWord s.n.grtStage k) ∧
    (s.get F.routeEpochSpread = 1 → grtWord t.n.grtOld g = new s.n.grtOld ∧
      ∀ k, k ≠ g → grtWord t.n.grtOld k = grtWord s.n.grtOld k) ∧ t.n.grtNew = s.n.grtNew ∧ Touches [.n] s t) ∧
  ∀ (w : Wr) (e : Env) (s : State) (p : Nat), s.Arrives w F.routeQctlSet.reg → w.half ≠ .hi → leadDuo (bits w.value 5 0) = p → isPort p = true →
    (bit w.value 9 = true → bit w.value 8 = false → Answers (exec (.quarantineSet w e) s) fun t => t.qcause p = 4 ∧
      t.get (F.portLstsQuar p) = 1 ∧ t.port p = { s.port p with qmaster := true } ∧
      t.get (F.cause pgRoute Ev.quarantine) = 1 ∧ (∀ k, isPort k = true → k ≠ p → t.qcause k = s.qcause k ∧ t.port k = s.port k) ∧
      Touches [.regs, .msix, .out, .n, .now] s t) ∧
    (bit w.value 9 = false → bit w.value 8 = true → s.isUp p = true → (s.port p).owes = [] → (s.port p).busy ≤ max s.now e.t * 1000 →
      Answers (exec (.quarantineClear w e) s) fun t => t.qcause p = 0 ∧ t.get (F.portLstsQuar p) = 0 ∧ (t.port p).qmaster = false ∧
        (∃ f, SendsJust s t [.flit p f] ∧ ctlType f = some 1 ∧ nbit (flitBE f 19 1) 0 = true) ∧
        (∀ k, isPort k = true → k ≠ p → t.qcause k = s.qcause k ∧ t.port k = s.port k) ∧ Touches [.regs, .msix, .out, .n, .now] s t) ∧
    (bit w.value 9 = bit w.value 8 → exec (.quarantineSet w e) s = .next (s.upd fun m => m.at e) ∧
      exec (.quarantineClear w e) s = .next (s.upd fun m => m.at e))

/-- R474 to R487 and R495 to R497. Which intermediate tile is drawn is a free value (log 3); a cell's cycles run when it is asked for (log 144). -/
def Obligations.TheMeshCarriesTransfers : Prop :=
  (∀ (id : Nat) (e : Env) (s : State) (x : Xfer), s.n.xfers = [x] → x.id = id → x.stage = .offered → x.cells ≤ 33 →
    (s.tileState x.dst = tsRun → Answers (exec (.offer (.packet id) e) s) fun t =>
      t.n = { s.n with xfers := [{ x with stage := .granting, grantedAt := t.now }] } ∧ Touches [.n, .now] s t) ∧
    (x.dst < 64 → s.tileGated x.dst = true → Answers (exec (.offer (.packet id) e) s) fun t =>
      t.n = { s.n with xfers := [{ x with stage := .queued }] } ∧ t.tileState x.dst = tsWaking ∧ Touches [.regs, .n, .now] s t)) ∧
  (∀ (a b : Fin 64) (n : Nat) (e : Env) (s : State), a ≠ b → 1 ≤ n → n ≤ 33 → s.n.xfers = [] → s.tileState b = tsRun →
    Answers (exec (.offer (.engine a b n) e) s) fun t => t.n = { s.n with
      nextPkt := s.n.nextPkt + 1
      xfers := [⟨s.n.nextPkt, a, b, n, none, 0, .granting, t.now, []⟩] } ∧ Touches [.n, .now] s t) ∧
  (∀ (id : Nat) (e : Env) (s : State) (x : Xfer), s.xfer id = some x → x.stage = .granting → x.group = 0 → x.src < 64 → x.dst < 64 →
    Answers (exec (.grant id e) s) fun t => (∃ l, t.n.cells = s.n.cells ++ l ∧ l.map (·.index) = List.range x.cells ∧
        ∀ c ∈ l, c.xfer = id ∧ c.src = x.src ∧ c.dst = x.dst ∧ c.kind = 0 ∧ c.age = 0 ∧ c.place = .waiting ∧
          c.mid ∈ rectangle x.src x.dst ∧ (s.get F.meshCfgMidEn = 0 → c.mid = x.src)) ∧
      t.xfer id = some { x with stage := .granted } ∧ t.n.ports = s.n.ports ∧ Touches [.regs, .msix, .out, .n, .draws, .now] s t) ∧
  (∀ (id i after singles : Nat) (ecc : Ecc) (e : Env) (s : State) (c : Cell) (x : Xfer),
    s.cellOf id i = some c → c.place = .sunk → s.xfer id = some x → x.out.isSome →
    Answers (exec (.cellEject id i ecc after singles e) s) fun t => t.n.cells = s.n.cells.filter (fun y => y ≠ c) ∧
      Counts s t pgMesh (4 + i % 2) (singles + b2n (decide (ecc = .corrected))) ∧
      Counts s t pgMesh (6 + i % 2) (b2n (decide (ecc = .bad))) ∧
      (ecc ≠ .bad → t.xfer id = some { x with placed := addNum x.placed i }) ∧
      (ecc = .bad → t.xfer id = some x ∧ t.get (F.cause pgMesh Ev.meshEcc) = 1) ∧ t.n.ports = s.n.ports ∧
      Touches [.regs, .msix, .out, .n, .now] s t) ∧
  (∀ (id i : Nat) (e : Env) (s : State) (c : Cell) (x : Xfer), s.n.cells = [c] → c.xfer = id → c.index = i → c.kind = 0 →
    c.table = false → c.place = .waiting → c.phase = true → c.src < 64 → c.dst < 64 → c.dst ≠ c.src → s.xfer id = some x → x.out.isSome →
    s.get (F.tileStateThrottled c.src) = 0 → Answers (exec (.cellEject id i .good 0 0 e) s) fun t => t.n.cells = [] ∧
      t.xfer id = some { x with placed := addNum x.placed i } ∧ t.n.meshTime = s.n.meshTime + 2 * tileHops c.src c.dst + 1 ∧
      Counts s t pgMesh (i % 2) 1 ∧ Counts s t pgMesh (2 + i % 2) 0 ∧ Touches [.regs, .msix, .out, .n, .now] s t) ∧
  (∀ (s : State) (a b : Cell) (t d : Nat), s.n.cells = [a, b] → t < 64 → a.place = .link t 0 → b.place = .link t 0 →
    a.index % 2 = b.index % 2 → a.kind = 0 → b.kind = 0 → a.phase = true → b.phase = true → a.dst < 64 → a.dst ≠ t → b.dst ≠ t →
    b.age < a.age → (productive t a.dst).head? = some d → productive t b.dst = [d] →
    let n := (s.upd fun m => m.meshCycle false).n
    (∃ x ∈ n.cells, x.xfer = a.xfer ∧ x.index = a.index ∧ x.place = .link (nextTile t d) 1) ∧
    ∃ y ∈ n.cells, y.xfer = b.xfer ∧ y.index = b.index ∧ ∃ k ∈ outputsOf t, k ≠ d ∧ y.place = .link (nextTile t k) 1) ∧
  (∀ (id a : Nat) (e : Env) (s : State) (r : Rel), s.n.rels = [r] → r.id = id → r.inPort = some a → r.ownStub = false →
    Answers (exec (.release id e) s) fun t => t.n.rels = [] ∧ Touches [.n, .now] s t ∧
      t.port a = { s.port a with
        rxReg := if r.notice then (s.port a).rxReg else (s.port a).rxReg - r.flits
        freedReg := if r.notice then (s.port a).freedReg else (s.port a).freedReg + r.flits
        rxStub := if r.notice then (s.port a).rxStub - 1 else (s.port a).rxStub
        freedStub := if r.notice then (s.port a).freedStub + 1 else (s.port a).freedStub
        unreported := some ((s.port a).unreported.getD t.now) }) ∧
  (∀ (id p : Nat) (e : Env) (s : State) (x : Xfer) (d : QPkt), s.xfer id = some x → x.stage = .granted → x.placed.length < x.cells →
    s.queued id = some (p, d) → d.id = id → d.inPort = none →
    (x.grantedAt + 1000 ≤ max s.now e.t →
      (∀ n, d.pkt.trimmed = true ∧ n = 2 ∨ (d.pkt.trimmed = false ∧ d.pkt.mcast = false ∧ isControl d.pkt.opcode = true ∧ n = 0) →
        Answers (exec (.grantTimeout id e) s) fun t => t.get (F.cause pgMesh Ev.grantTimeout) = 1 ∧ Counts s t pgRoute n 1 ∧
          (t.port p).queue = (s.port p).queue.filter (fun y => y.id ≠ id) ∧ t.xfer id = none ∧
          Touches [.regs, .msix, .out, .n, .now] s t)) ∧
    (max s.now e.t < x.grantedAt + 1000 → exec (.grantTimeout id e) s = .next (s.upd fun m => m.at e))) ∧
  (∀ (n : Fin 64) (e : Env) (s : State), (s.tileState n = tsWaking → (∀ x, s.n.xfers = [x] → x.dst = n → x.stage = .queued → x.out = none →
      Answers (exec (.tileWake n e) s) fun t => t.tileState n = tsRun ∧
        t.n.xfers = [{ x with stage := .granting, grantedAt := t.now }] ∧
        (∀ p, tileKind n = (1, p) → n.val ∈ t.n.grtNew ∧ (t.port (leadDuo p)).hint = none) ∧ Touches [.regs, .n, .now] s t)) ∧
    (s.tileState n ≠ tsWaking → exec (.tileWake n e) s = .next (s.upd fun m => m.at e))) ∧
  ∀ (n : Fin 64) (w : Wr) (s : State), s.Arrives w (F.tileHoldNogate n).reg → w.half ≠ .hi → bit w.value 0 = true →
    Answers (exec (.nogate n w) s) fun t => t.get (F.tileHoldNogate n) = 1 ∧
      t.tileState n = (if s.tileGated n then tsWaking else s.tileState n) ∧ OnlyRegs s t

/-- R501 to R516 at a running link, and R383, R539 and R540 for its time blocks. The fractions of the model's own stamps are 0 (log 21). -/
def Obligations.RunningLinksExchangeControl : Prop :=
  (∀ (p : Fin 48) (f : List Byte) (e : Env) (s : State), s.isUp p = true → (s.port p).hunting = false → ctlType f = some 1 →
    let q := s.port p
    (flitBE f 19 1 = 0 ∨ flitBE f 19 1 = 1 → Answers (exec (.link p f e) s) fun t =>
      (t.port p).replay = q.replay.filter (fun r => decide (2048 ≤ seqSub 12 (flitBE f 14 2 % 4096) r.seq)) ∧
      (t.port p).credReg = q.credReg + flitBE f 16 2 % 8192 ∧ (t.port p).credStub = q.credStub + flitBE f 18 1 % 16 ∧
      (t.port p).queue = q.queue ∧ t.get (F.portWinEff p) = ((t.port p).credReg + flitBE f 20 2 % 8192 +
        (((t.port p).replay.filter fun r => !r.respend && !r.pkt.trimmed).map fun r => r.pkt.flits).sum) % 2 ^ 16 ∧
      (∃ h, (t.port p).hint = some h ∧ h.time = t.now ∧ h.x = flitBE f 27 1 / 16 ∧ h.y = flitBE f 27 1 % 16 ∧
        ∀ k < 8, h.quads[k]? = some (nbit (flitBE f 22 5) (5 * k + 4), flitBE f 22 5 / 2 ^ (5 * k) % 16)) ∧
      t.qcause p = (if flitBE f 19 1 = 1 then 0 else s.qcause p) ∧ t.lstate p = lsUp ∧ Counts s t (pgPort p) 1 1 ∧
      Touches [.regs, .msix, .out, .n, .now] s t) ∧
    (flitBE f 19 1 = 2 → Answers (exec (.link p f e) s) fun t => t.lstate p = lsRetrain ∧ (t.port p).queue = q.queue ∧
      t.get (F.cause (pgPort p) Ev.retrain) = 1) ∧
    (flitBE f 19 1 = 4 → Answers (exec (.link p f e) s) fun t => t.lstate p = lsDown ∧ (t.port p).credReg = 0 ∧
      (t.port p).queue = q.queue ∧ t.get (F.cause (pgPort p) Ev.linkDown) = 1)) ∧
  (∀ (p : Fin 48) (f : List Byte) (e : Env) (s : State) (r : RPkt), s.Boundary e p → (s.port p).replay = [r] → r.respend = false →
    (s.port p).rplCount = 0 →
    let again (t : State) : Prop := (∃ b, SendsJust s t [.flit p b, .packet p r.seq (packetBytes r.pkt)] ∧ IsCtl b 1 0) ∧
      (t.port p).replay = [{ r with due := t.now + s.get (F.portLcfgRplTo p) * 100 }] ∧ (t.port p).again = [] ∧ (t.port p).credReg = (s.port p).credReg ∧
      (t.port p).busy = t.now * 1000 + r.pkt.flits * s.tflit p ∧ Counts s t (pgPort p) 4 1 ∧ Touches [.regs, .msix, .out, .n, .now] s t
    let limit (t : State) : Prop := t.lstate p = lsRetrain ∧ t.get (F.cause (pgPort p) Ev.replayLimit) = 1
    (r.seq = flitBE f 14 2 % 4096 → ctlType f = some 2 → (s.port p).hunting = false →
      (1 < s.get (F.portLcfgRplMax p) → Answers (exec (.replay p f e) s) again) ∧
      (s.get (F.portLcfgRplMax p) ≤ 1 → Answers (exec (.replay p f e) s) limit)) ∧
    (r.seq < 4096 → r.due ≤ max s.now e.t →
      (1 < s.get (F.portLcfgRplMax p) → Answers (exec (.replayTimeout p e) s) again) ∧
      (s.get (F.portLcfgRplMax p) ≤ 1 → Answers (exec (.replayTimeout p e) s) limit)) ∧
    (max s.now e.t < r.due → exec (.replayTimeout p e) s = .next (s.upd fun m => m.at e))) ∧
  (∀ (p : Fin 48) (f : List Byte) (e : Env) (s : State), s.Boundary e p → (s.port p).rplSent = none →
    let asks (t : State) (reason : Byte) : Prop :=
      SendsFlits s t p [(2, beBytes 2 (s.get (F.portLstsRxSeq p)) ++ [reason])] ∧
      (t.port p).rplSent = some (s.get (F.portLstsRxSeq p), t.now + s.get (F.portLcfgRplTo p) * 50) ∧ Touches [.regs, .msix, .out, .n, .now] s t
    (ctlType f = some 0 → (s.port p).hunting = false → Answers (exec (.idle p f e) s) fun t => Counts s t (pgPort p) 1 1 ∧
      Touches [.regs, .msix, .out, .now] s t) ∧
    (ctlType f = some 0 → (s.port p).hunting = true → Answers (exec (.idle p f e) s) fun t => (t.port p).hunting = false ∧ asks t 3) ∧
    (ctlType f = none → (s.port p).hunting = false → Answers (exec (.badControlFlit p f e) s) fun t => Counts s t (pgPort p) 1 1 ∧
      Counts s t (pgPort p) 8 1 ∧ Touches [.regs, .msix, .out, .now] s t) ∧
    (∀ n, (s.port p).hunting = false → Answers (exec (.uncorrectableCodeword p n true true e) s) fun t => Counts s t (pgPort p) 9 1 ∧
      Counts s t (pgPort p) 11 1 ∧ (t.port p).hunting = true ∧ (t.port p).reserved = (s.port p).reserved + n ∧ asks t 2) ∧
    (∀ n, Answers (exec (.uncorrectableCodeword p n false false e) s) fun t => Counts s t (pgPort p) 9 1 ∧
      t.port p = { s.port p with reserved := (s.port p).reserved + n } ∧ Touches [.regs, .msix, .out, .n, .now] s t)) ∧
  (∀ (p : Fin 48) (e : Env) (s : State), s.Boundary e p →
    ((s.port p).unreported.isSome ∨ (s.port p).lastLink + 1000 ≤ max s.now e.t → (s.port p).rplSent = none →
      Answers (exec (.linkFlitTimer p e) s) fun t => SendsFlits s t p [(1, s.linkBody p false false false)] ∧
        t.port p = { s.port p with
          freedReg := 0
          freedStub := 0
          unreported := none
          lastLink := t.now } ∧ Touches [.regs, .msix, .out, .n, .now] s t) ∧
    ((s.port p).lastTime + s.get F.timeCfgPeriod * 1000 ≤ max s.now e.t → Answers (exec (.timeFlitTimer p e) s) fun t =>
      SendsFlits s t p [(3, (s.upd fun m => m.at e).timeBlock p)] ∧
      t.port p = { s.port p with lastTime := t.now } ∧ Touches [.regs, .msix, .out, .n, .now] s t) ∧
    (max s.now e.t < (s.port p).lastLink + 1000 → (s.port p).unreported = none →
      exec (.linkFlitTimer p e) s = .next (s.upd fun m => m.at e)) ∧
    (max s.now e.t < (s.port p).lastTime + s.get F.timeCfgPeriod * 1000 →
      exec (.timeFlitTimer p e) s = .next (s.upd fun m => m.at e))) ∧
  ∀ (p : Fin 48) (f : List Byte) (e : Env) (s : State), s.isUp p = true → (s.port p).hunting = false → ctlType f = some 3 →
    s.get F.timeCfgGm = 1 →
    let at' (o : Nat) : Int := (flitBE f o 8 * 65536 + flitBE f (o + 8) 2 : Nat)
    let now := (s.upd fun m => m.at e).fabricNow
    let t4 : Int := (now * 65536 : Nat)
    Answers (exec (.time p f e) s) fun t => Counts s t (pgPort p) 1 1 ∧ t.get F.timeStsDist = 0 ∧ Touches [.regs, .msix, .out, .n, .now] s t ∧
      t.port p = { s.port p with
        stamp := some ⟨flitBE f 14 8, flitBE f 22 2, now⟩
        farDist := flitBE f 44 1 % 32
        farSynced := nbit (flitBE f 44 1) 7
        delay := if at' 24 = 0 then (s.port p).delay else ((t4 - at' 24) - (at' 14 - at' 34)) / 2
        offset := if at' 24 = 0 then (s.port p).offset else some (((t4 - at' 14) - (at' 34 - at' 24)) / 2) }

/-- R504 and R520 to R530: training, and how a link leaves UP. -/
def Obligations.LinksTrainAndGoDown : Prop :=
  (∀ (p : Fin 48) (f : List Byte) (e : Env) (s : State), s.lstate p = lsExchange → (s.port p).hunting = false → ctlType f = some 4 →
    s.get F.timeCfgGm = 1 →
    let t' := parseTrain f
    ((s.port p).sentAck = false ∨ ((s.port p).farAck = false ∧ t'.ack = false) → Answers (exec (.train p f e) s) fun t =>
      t.lstate p = lsExchange ∧ (t.port p).far = some t' ∧ (t.port p).farAck = ((s.port p).farAck || t'.ack) ∧
      (t.port p).queue = (s.port p).queue ∧ (t.port p).replay = (s.port p).replay ∧ Touches [.regs, .msix, .out, .n, .now] s t) ∧
    (∀ width mask rate, (s.port p).sentAck = true → t'.ack = true → s.agree p t' = some (width, mask, rate) → mask < 16 →
      bits (s.lane (s.laneOfLogical p ((List.range 4).findIdx (fun i => nbit mask i)))).mode 11 10 = rate →
      Answers (exec (.train p f e) s) fun t => t.isUp p = true ∧ t.get (F.portLstsWidth p) = width ∧ t.get (F.portLstsLanes p) = mask ∧
        t.get (F.portLstsRate p) = rate ∧ (t.port p).credReg = t'.freeReg ∧ (t.port p).credStub = t'.freeStub ∧
        t.get (F.portPeerValid p) = 1 ∧ t.get (F.portPeerFa p) = t'.fa ∧ t.get (F.portPeerEpoch p) = t'.epoch ∧
        t.get (F.cause (pgPort p) Ev.linkUp) = 1 ∧ t.qcause p = s.quarantineOf p t' ∧ (t.port p).queue = (s.port p).queue ∧
        ((s.port p).stateValid = false → (t.port p).replay = [] ∧ t.get (F.portLstsTxSeq p) = 0 ∧ t.get (F.portLstsRxSeq p) = 0))) ∧
  (∀ (p : Fin 48) (e : Env) (s : State), s.lstate p = lsExchange →
    ((s.port p).far = none → Answers (exec (.trainFlitTimer p e) s) fun t =>
      SendsFlits s t p [(4, (s.upd fun m => m.at e).trainBody p)] ∧ t.port p = s.port p ∧ t.lstate p = lsExchange ∧
      Touches [.regs, .msix, .out, .n, .now] s t) ∧
    (∀ f, (s.port p).far = some f → (s.port p).farAck = false → Answers (exec (.trainFlitTimer p e) s) fun t =>
      SendsFlits s t p [(4, (s.upd fun m => m.at e).trainBody p)] ∧ (t.port p).sentAck = true ∧
      Touches [.regs, .msix, .out, .n, .now] s t) ∧
    ((s.port p).exchAt + 1000000 ≤ max s.now e.t → Answers (exec (.exchangeTimeout p e) s) fun t => t.lstate p = lsDown ∧
      (t.port p).far = none ∧ (t.port p).queue = (s.port p).queue) ∧
    (max s.now e.t < (s.port p).exchAt + 1000000 → exec (.exchangeTimeout p e) s = .next (s.upd fun m => m.at e))) ∧
  (∀ (p : Fin 48) (w : Wr) (e : Env) (s : State), s.Arrives w (F.portLctlEn p).reg → isPort p = true → w.half ≠ .hi →
    (s.isUp p = true → s.get (F.portLctlEn p) = 1 → bit w.value 0 = true →
      (bit w.value 1 = true → bit w.value 2 = false → Answers (exec (.retrain p w e) s) fun t => t.lstate p = lsRetrain ∧
        SendsCtl s t p 1 2 ∧ t.get (F.cause (pgPort p) Ev.retrain) = 1 ∧ t.get (F.portLctlRetrain p) = 1 ∧
        (t.port p).queue = (s.port p).queue ∧ (t.port p).replay = (s.port p).replay ∧ (t.port p).retrainEnd = some (t.now + s.get (F.portLcfgDownUs p) * 1000) ∧
        t.get (F.portLstsTxSeq p) = s.get (F.portLstsTxSeq p) ∧ t.get (F.portLstsRxSeq p) = s.get (F.portLstsRxSeq p)) ∧
      (bit w.value 2 = true → Answers (exec (.takeLinkDown p w e) s) fun t => t.lstate p = lsDown ∧ SendsCtl s t p 1 4 ∧
        t.get (F.cause (pgPort p) Ev.linkDown) = 1 ∧ (t.port p).credReg = 0 ∧ (t.port p).credStub = 0 ∧
        (t.port p).queue = (s.port p).queue ∧ (s.get (F.portLcfgGraceUs p) ≠ 0 → (t.port p).graceEnd = some (t.now + s.get (F.portLcfgGraceUs p) * 1000) ∧
          (t.port p).replay = (s.port p).replay) ∧
        (s.get (F.portLcfgGraceUs p) = 0 → (t.port p).replay = [] ∧ (t.port p).stateValid = false))) ∧
    (s.lstate p = lsDown → bit w.value 0 = true → s.get (F.portLctlEn p) = 0 → s.lanesMay p = true →
      Answers (exec (.linkEnable p w e) s) fun t => t.get (F.portLctlEn p) = 1 ∧ t.lstate p = lsDown ∧
        ∀ n ∈ s.lanesOf p, s.get (F.laneRxstsFailed n) = 0 → t.laneStage n = lgPower) ∧
    (s.isUp p = true → bit w.value 0 = false → s.get (F.portLctlEn p) = 1 → Answers (exec (.linkEnable p w e) s) fun t =>
      t.get (F.portLctlEn p) = 0 ∧ t.lstate p = lsDown ∧ SendsCtl s t p 1 4 ∧ ∀ n ∈ s.lanesOf p, t.laneStage n = lgOff)) ∧
  ∀ (p : Fin 48) (e : Env) (s : State) (b : Nat),
    ((s.port p).retrainEnd = some b → s.lstate p = lsRetrain →
      (b ≤ max s.now e.t → Answers (exec (.lockLossTimeout p e) s) fun t => t.lstate p = lsDown ∧
        t.get (F.cause (pgPort p) Ev.linkDown) = 1 ∧ (t.port p).retrainEnd = none ∧ (t.port p).queue = (s.port p).queue) ∧
      (max s.now e.t < b → exec (.lockLossTimeout p e) s = .next (s.upd fun m => m.at e))) ∧
    ((s.port p).graceEnd = some b →
      (b ≤ max s.now e.t → Answers (exec (.graceFlush p e) s) fun t =>
        t.port p = { s.port p with
          graceEnd := none
          replay := []
          again := []
          stateValid := false } ∧
        t.get (F.portLstsGrace p) = 0 ∧ t.get (F.cause (pgPort p) Ev.graceFlush) = 1 ∧ Touches [.regs, .msix, .out, .n, .now] s t) ∧
      (max s.now e.t < b → exec (.graceFlush p e) s = .next (s.upd fun m => m.at e)))

/-- R531 to R537 and R563: width changes, at a duo where the follow-up of a quad would interfere. -/
def Obligations.WidthsChangeTogether : Prop :=
  (∀ (p : Fin 48) (w : Wr) (e : Env) (s : State), s.Arrives w (F.portLwidGo p).reg → isPort p = true → w.half = .full →
    bit w.value 63 = true → (s.port p).wown = none → s.Boundary e p →
    let width := bits w.value 1 0
    let mask := bits w.value 51 48
    (s.get (F.portLwidGo p) = 1 → Answers (exec (.widthGo p w e) s) fun t =>
      t.port p = { s.port p with lwidLate := (s.port p).lwidLate ++ [w] } ∧ Touches [.n, .now] s t) ∧
    (s.get (F.portLwidGo p) = 0 → mask &&& s.unfailed p ≠ mask → Answers (exec (.widthGo p w e) s) fun t =>
      t.get (F.portLwidResult p) = 4 ∧ t.get (F.portLwidGo p) = 0 ∧ t.get (F.cause (pgPort p) Ev.widthFail) = 1 ∧
      (t.port p).wown = none ∧ t.get (F.portLstsLanes p) = s.get (F.portLstsLanes p)) ∧
    (s.get (F.portLwidGo p) = 0 → mask &&& s.unfailed p = mask → mask &&& s.get (F.portLstsLanes p) = mask → width ≤ fullWidth p →
      popCount 4 mask = 2 ^ width → mask < 2 ^ 2 ^ fullWidth p → (s.port p).sched = none → (s.port p).next = none →
      Answers (exec (.widthGo p w e) s) fun t =>
        SendsFlits s t p [(5, [1, BitVec.ofNat 8 width, BitVec.ofNat 8 mask, BitVec.ofNat 8 (s.port p).nextId])] ∧
        t.port p = { s.port p with
          wown := some ⟨(s.port p).nextId, width, mask, false, false, false, false, true, false, false⟩
          nextId := ((s.port p).nextId + 1) % 256 } ∧
        t.get (F.portLwidGo p) = 1 ∧ t.get (F.portLstsWchg p) = 1 ∧ Touches [.regs, .msix, .out, .n, .now] s t)) ∧
  (∀ (p : Fin 48) (f : List Byte) (e : Env) (s : State), s.Flit e p f 5 1 → (s.port p).wown = none →
    let b (op : Byte) (forced : Nat) : Nat × List Byte :=
      (5, [op, BitVec.ofNat 8 (widthOf f + 128 * forced), BitVec.ofNat 8 (maskOf f), BitVec.ofNat 8 (idOf f)])
    (forcedOf f = false → maskOf f &&& s.usable p ≠ maskOf f → Answers (exec (.widthReq p f e) s) fun t =>
      SendsFlits s t p [b 3 0] ∧ t.port p = s.port p ∧ t.get (F.portLstsWidth p) = s.get (F.portLstsWidth p) ∧
      Touches [.regs, .msix, .out, .n, .now] s t) ∧
    (forcedOf f = false → maskOf f &&& s.usable p = maskOf f → popCount 4 (maskOf f) = 2 ^ widthOf f → widthOf f ≤ fullWidth p →
      s.get (F.portLstsWidth p) ≤ widthOf f → Answers (exec (.widthReq p f e) s) fun t => SendsFlits s t p [b 2 0, b 5 0] ∧
        t.port p = { s.port p with wfar := some ⟨idOf f, widthOf f, maskOf f, true, false⟩ } ∧
        t.get (F.portLstsWidth p) = widthOf f ∧ t.get (F.portLstsLanes p) = maskOf f ∧ t.get (F.portLstsWchg p) = 1) ∧
    (forcedOf f = true → isQuadDuo p = false → (s.port p).spBack = false → Answers (exec (.widthReq p f e) s) fun t =>
      SendsFlits s t p [b 2 1] ∧ (t.port p).wfar = none ∧ (t.port p).wadd = none ∧ t.get (F.portLstsWidth p) = widthOf f ∧
      t.get (F.portLstsLanes p) = maskOf f)) ∧
  (∀ (p : Fin 48) (f : List Byte) (e : Env) (s : State) (o : WOwn), (s.port p).wown = some o → o.id = idOf f → o.reqSent = true →
    o.width < 4 → o.mask < 16 →
    (s.Flit e p f 5 2 → o.txDone = false → o.forced = false → o.rxDone = false → (∀ g, (s.port p).wfar = some g → g.rxDone = false) → Answers (exec (.widthAck p f e) s) fun t =>
      SendsFlits s t p [(5, [5, BitVec.ofNat 8 o.width, BitVec.ofNat 8 o.mask, BitVec.ofNat 8 o.id])] ∧
      t.port p = { s.port p with wown := some { o with txDone := true } } ∧ t.get (F.portLstsWidth p) = o.width ∧
      t.get (F.portLstsLanes p) = o.mask) ∧
    (s.Flit e p f 5 3 → o.txDone = false → Answers (exec (.widthRefuse p f e) s) fun t => (t.port p).wown = none ∧
      t.get (F.portLwidResult p) = 1 ∧ t.get (F.portLwidGo p) = 0 ∧ t.get (F.cause (pgPort p) Ev.widthFail) = 1 ∧
      t.get (F.portLstsWidth p) = s.get (F.portLstsWidth p) ∧ Touches [.regs, .msix, .out, .n, .now] s t) ∧
    (s.Flit e p f 5 5 → o.txDone = true → isQuadDuo p = false → (s.port p).spBack = false → Answers (exec (.widthMark p f e) s) fun t =>
      (t.port p).wown = none ∧ t.get (F.portLwidResult p) = 0 ∧ t.get (F.portLwidGo p) = 0 ∧
      t.get (F.cause (pgPort p) Ev.widthDone) = 1)) ∧
  (∀ (p : Fin 48) (f : List Byte) (e : Env) (s : State) (g : WFar), s.Flit e p f 5 5 → (s.port p).wown = none → (s.port p).wfar = some g →
    g.id = idOf f → g.txDone = true → isQuadDuo p = false → (s.port p).spBack = false → Answers (exec (.widthMark p f e) s) fun t =>
      (t.port p).wfar = none ∧ t.get (F.cause (pgPort p) Ev.widthDone) = 1 ∧
      t.get (F.portLwidResult p) = s.get (F.portLwidResult p)) ∧
  (∀ (p : Fin 48) (f : List Byte) (e : Env) (s : State),
    (s.Flit e p f 5 4 → Answers (exec (.widthYield p f e) s) fun t => Counts s t (pgPort p) 1 1 ∧ Touches [.regs, .msix, .out, .now] s t) ∧
    (s.Flit e p f 5 6 → maskOf f &&& s.get (F.portLstsLanes p) = 0 → maskOf f ≠ 0 → maskOf f < 2 ^ 2 ^ fullWidth p →
      (∀ n ∈ s.lanesIn p (maskOf f), s.laneStage n ≠ lgRun) → Answers (exec (.widthPrep p f e) s) fun t =>
        (t.port p).wadd = some ⟨idOf f, widthOf f, maskOf f, false, false, t.now⟩ ∧
        ∀ n ∈ s.lanesIn p (maskOf f), t.laneStage n = lgPower) ∧
    (∀ o, s.Flit e p f 5 7 → (s.port p).wown = some o → o.sentReady = true → o.reqSent = false → Answers (exec (.widthReady p f e) s) fun t =>
      SendsFlits s t p [(5, [1, BitVec.ofNat 8 (o.width + 128 * b2n o.forced), BitVec.ofNat 8 o.mask, BitVec.ofNat 8 o.id])] ∧
      t.port p = { s.port p with wown := some { o with gotReady := true, reqSent := true } })) ∧
  ∀ (p : Fin 48) (e : Env) (s : State) (a : WAdd), (s.port p).wadd = some a → a.spare = false →
    (max s.now e.t < a.since + 20000000 → exec (.addedLaneTimeout p e) s = .next (s.upd fun m => m.at e)) ∧
    (a.since + 20000000 ≤ max s.now e.t → Answers (exec (.addedLaneTimeout p e) s) fun t => (t.port p).wadd = none ∧
      (t.port p).wown = none ∧ (∀ n ∈ s.lanesIn p a.mask, s.laneStage n ≠ lgRun → t.laneStage n = lgOff) ∧
      ((s.port p).wown.isSome → t.get (F.portLwidResult p) = 4 ∧ t.get (F.cause (pgPort p) Ev.widthFail) = 1))

/-- R35 to R37, R541 and R542: spare substitution of a quad. -/
def Obligations.SparesReplaceFailedDuos : Prop :=
  (∀ (p : Fin 48) (w : Wr) (e : Env) (s : State), s.Arrives w (F.portSpareReq p).reg → isPort p = true → isQuadDuo p = true →
    w.half = .full → s.Boundary e p →
    let pos := bits w.value 58 58
    (bit w.value 63 = true → bit w.value 62 = false → s.spareBusy p = false → Answers (exec (.spareRequest p w e) s) fun t =>
      t.get (F.portSpareState p) = 1 ∧ t.get (F.portLstsSparePos p) = pos ∧ (t.port p).spAsked = true ∧ (t.port p).spSent = false ∧
      (t.port p).spGot = false ∧ t.get (F.portLstsWchg p) = 1 ∧ t.get (F.cause (pgPort p) Ev.spare) = 1 ∧
      Sends s t (.flit p (ctlFlit 6 [1, BitVec.ofNat 8 pos])) ∧ Touches [.regs, .msix, .out, .n, .now] s t) ∧
    (bit w.value 63 = true → bit w.value 62 = false → s.spareBusy p = true → Answers (exec (.spareRequest p w e) s) fun t =>
      t.get (F.portSpareState p) = 4 ∧ t.n = s.n ∧ SendsEventsOnly s t ∧ Touches [.regs, .msix, .out, .now] s t) ∧
    (bit w.value 63 = false → bit w.value 62 = true → s.get (F.portLstsSpare p) = 1 →
      let pos := s.get (F.portLstsSparePos p)
      let rest := s.laneMask p fun n => n / 2 ≠ spareOf p
      (s.get (F.portLstsLanes p) &&& rest = s.get (F.portLstsLanes p) → Answers (exec (.spareReleaseWrite p w e) s) fun t =>
        SendsFirst s t (.flit p (ctlFlit 6 [4, BitVec.ofNat 8 pos])) ∧ t.get (F.portLstsSpare p) = 0 ∧
        t.get (F.portSpareState p) = 0 ∧ t.lstate (spareOf p) = lsDown ∧ (t.port p).spBack = false ∧
        ∀ i < 2, t.laneStage (2 * spareOf p + i) = lgOff) ∧
      (∀ mask, mask = 2 ^ s.logical p (2 - 2 * pos) + 2 ^ s.logical p (3 - 2 * pos) → s.get (F.portLstsLanes p) = 15 →
        s.get (F.portLstsWidth p) = 2 → rest ≠ 15 → rest < 16 → s.unfailed p = 15 → (s.port p).sched = none → (s.port p).next = none →
        Answers (exec (.spareReleaseWrite p w e) s) fun t => SendsFlits s t p
            [(5, [1, 1, BitVec.ofNat 8 mask, BitVec.ofNat 8 (s.port p).nextId])] ∧ (t.port p).spBack = true ∧
          (t.port p).wown = some ⟨(s.port p).nextId, 1, mask, false, false, false, false, true, false, false⟩ ∧
          t.get (F.portLstsSpare p) = 1))) ∧
  (∀ (p : Fin 48) (f : List Byte) (e : Env) (s : State), isQuadDuo p = true → p.val % 2 = 0 → s.Flit e p f 6 1 →
    (∀ i < 2, s.laneStage (2 * spareOf p + i) ≠ lgRun) →
    let pos := sparePosOf f
    (s.spareBusy p = false → Answers (exec (.spareReq p f e) s) fun t => SpareComesUp t p pos ∧
      SendsFirst s t (.flit p (ctlFlit 6 [2, BitVec.ofNat 8 pos]))) ∧
    (s.spareBusy p = true → s.get (F.portSpareState p) ≠ 1 → Answers (exec (.spareReq p f e) s) fun t =>
      SendsFlits s t p [(6, [5, BitVec.ofNat 8 pos])] ∧ t.port p = s.port p ∧ Touches [.regs, .msix, .out, .n, .now] s t)) ∧
  ∀ (p : Fin 48) (f : List Byte) (e : Env) (s : State), isQuadDuo p = true → p.val % 2 = 0 →
    (s.Flit e p f 6 2 → s.get (F.portSpareState p) = 1 → (∀ i < 2, s.laneStage (2 * spareOf p + i) ≠ lgRun) → Answers (exec (.spareAck p f e) s) fun t =>
      SpareComesUp t p (s.get (F.portLstsSparePos p))) ∧
    (s.Flit e p f 6 2 → s.get (F.portSpareState p) ≠ 1 → Answers (exec (.spareAck p f e) s) fun t => Counts s t (pgPort p) 1 1 ∧
      Touches [.regs, .msix, .out, .now] s t) ∧
    (s.Flit e p f 6 3 → s.get (F.portSpareState p) = 2 → (s.port p).spSent = true → (s.port p).spAsked = false →
      Answers (exec (.spareReady p f e) s) fun t => t.get (F.portSpareState p) = 3 ∧ t.port p = { s.port p with spGot := true } ∧
        t.get (F.cause (pgPort p) Ev.spare) = 1 ∧ t.get (F.portLstsSpare p) = s.get (F.portLstsSpare p) ∧
        Touches [.regs, .msix, .out, .n, .now] s t) ∧
    (s.Flit e p f 6 4 → s.get (F.portLstsSpare p) = 1 → Answers (exec (.spareRelease p f e) s) fun t => t.get (F.portLstsSpare p) = 0 ∧
      t.get (F.portSpareState p) = 0 ∧ t.lstate (spareOf p) = lsDown ∧ ∀ i < 2, t.laneStage (2 * spareOf p + i) = lgOff) ∧
    (s.Flit e p f 6 5 → s.get (F.portSpareState p) = 1 → Answers (exec (.spareRefuse p f e) s) fun t => t.get (F.portSpareState p) = 4 ∧
      t.port p = { s.port p with spAsked := false } ∧ t.get (F.cause (pgPort p) Ev.spare) = 1 ∧
      t.get (F.portLstsSpare p) = s.get (F.portLstsSpare p) ∧ Touches [.regs, .msix, .out, .n, .now] s t)

/-- R537, R544, R546, R551 and R554 to R568 at one lane. -/
def Obligations.LanesComeUpFailAndRecover : Prop :=
  (∀ (n : Fin 96) (seen : LaneSeen) (e : Env) (s : State),
    (s.laneStage n = lgPower → Answers (exec (.bringupStageDone n seen e) s) fun t => t.laneStage n = lgSignal ∧
      (t.lane n).stageAt = t.now ∧ Touches [.regs, .n, .now] s t) ∧
    (s.laneStage n = lgSignal → (s.lane n).fast = false → Answers (exec (.bringupStageDone n seen e) s) fun t =>
      t.laneStage n = lgAcquire ∧ Touches [.regs, .n, .now] s t) ∧
    (s.laneStage n = lgAcquire → (20 ≤ seen.s → Answers (exec (.bringupStageDone n seen e) s) fun t => t.laneStage n = lgAdapt ∧
        t.get (F.laneRxstsLock n) = 1 ∧ Touches [.regs, .n, .now] s t) ∧
      (seen.s < 20 → exec (.bringupStageDone n seen e) s = .next (s.upd fun m => m.at e))) ∧
    (s.laneStage n = lgAdapt → s.get (F.laneRxctlSerWarn n) ≤ seen.s → Answers (exec (.bringupStageDone n seen e) s) fun t =>
      t.laneStage n = lgIdent ∧ t.get (F.laneRxstsLock n) = 1 ∧ t.get (F.laneRxstsSer n) = min seen.s 255 ∧
      Touches [.regs, .n, .now] s t) ∧
    (s.laneStage n = lgIdent → s.mapped n = [n.val] → seen.inverted = false → bits (s.lane n).mode 6 5 = 0 → seen.pos < 4 →
      seen.pos = s.posOf n → Answers (exec (.bringupStageDone n seen e) s) fun t => t.laneStage n = lgReady ∧
        t.get (F.laneRxstsFpos n) = seen.pos ∧ t.get (F.laneRxstsRev n) = 0 ∧ t.get (F.laneRxstsInv n) = 0 ∧
        t.out = s.out ++ [.lane n (t.laneSends n)] ∧ Touches [.regs, .out, .n, .now] s t) ∧
    (s.laneStage n = lgReady → Answers (exec (.bringupStageDone n seen e) s) fun t => t.laneStage n = lgRun ∧
      t.get (F.laneRxstsAttempts n) = 0 ∧ t.get (F.laneRxstsFailed n) = 0 ∧ t.get (F.cause (pgLane n) Ev.lock) = 1 ∧
      (s.get (F.lanePgenEn n) = 0 → Emit.lane n .flits ∈ t.out ∧
        ((s.lane n).added = false → ∀ k < 15, Emit.lane n (.frames (s.frameOf n k)) ∈ t.out)))) ∧
  (∀ (p : Fin 48) (e : Env) (s : State), isPort p = true → s.lstate p = lsDown → s.get (F.portLctlEn p) = 1 →
    (∀ n ∈ s.lanesOf p, s.laneStage n = lgRun) → Answers (exec (.laneBringupComplete p e) s) fun t => t.lstate p = lsExchange ∧
      t.port p = { s.port p with
        exchAt := t.now
        sentAck := false
        far := none
        farAck := false } ∧ Touches [.regs, .n, .now] s t) ∧
  (∀ (n : Fin 96) (e : Env) (s : State) (limit : Nat), stageLimit (s.laneStage n) (s.lane n).fast = some limit →
    (max s.now e.t < (s.lane n).stageAt + limit → exec (.bringupFail n e) s = .next (s.upd fun m => m.at e)) ∧
    ((s.lane n).stageAt + limit ≤ max s.now e.t →
      (s.laneStage n = lgAdapt → (s.lane n).fast = true → Answers (exec (.bringupFail n e) s) fun t => t.laneStage n = lgAcquire ∧
        (t.lane n).saved = none ∧ t.get (F.laneRxstsSaved n) = 0 ∧ t.get (F.cause (pgLane n) Ev.savedReject) = 1) ∧
      (s.laneStage n ≠ lgAdapt ∨ (s.lane n).fast = false →
        (s.get (F.laneRxstsAttempts n) < 2 → Answers (exec (.bringupFail n e) s) fun t => t.laneStage n = lgSignal ∧
          t.get (F.laneRxstsAttempts n) = s.get (F.laneRxstsAttempts n) + 1 ∧ t.get (F.cause (pgLane n) Ev.bringupFail) = 1 ∧
          t.get (F.laneRxstsFailed n) = s.get (F.laneRxstsFailed n)) ∧
        (2 ≤ s.get (F.laneRxstsAttempts n) → Answers (exec (.bringupFail n e) s) fun t => t.get (F.laneRxstsFailed n) = 1 ∧
          t.get (F.cause (pgLane n) Ev.failed) = 1 ∧ (t.lane n).saved = none)))) ∧
  (∀ (n : Fin 96) (e : Env) (s : State), s.laneStage n = lgRun →
    (s.laneInUse n = false → Answers (exec (.laneFailed n e) s) fun t => t.get (F.laneRxstsFailed n) = 1 ∧ t.laneStage n = lgOff ∧
      (t.lane n).saved = none ∧ t.get (F.cause (pgLane n) Ev.failed) = 1) ∧
    (∀ p left, s.laneInUse n = true → s.portOfLane n = some p →
      left = s.get (F.portLstsLanes p) &&& s.laneMask p (fun k => decide (k ≠ n.val) && decide (s.laneStage k = lgRun)) →
      left ≠ 0 → Answers (exec (.laneFailed n e) s) fun t => t.get (F.laneRxstsFailed n) = 1 ∧ t.laneStage n = lgOff ∧
        t.get (F.portLstsWidth p) = (remaining left).1 ∧ t.get (F.portLstsLanes p) = (remaining left).2 ∧
        (t.port p).hunting = true ∧ t.lstate p = lsUp ∧
        ∃ o, (t.port p).wown = some o ∧ o.forced = true ∧ o.reqSent = true ∧ o.mask = (remaining left).2)) ∧
  (∀ (n : Fin 96) (e : Env) (s : State) (p : Nat), s.get (F.laneRxstsLock n) = 1 → s.laneInUse n = true → s.portOfLane n = some p →
    Answers (exec (.lockLost n e) s) fun t => t.lstate p = lsRetrain ∧ t.get (F.laneRxstsLock n) = 0 ∧
      t.get (F.cause (pgLane n) Ev.lockLost) = 1 ∧ Counts s t (pgLane n) 1 1) ∧
  (∀ (n : Fin 96) (on : Bool) (a : Adapted) (e : Env) (s : State),
    (s.laneStage n = lgRun → s.flag (F.laneRxstsDegraded n) ≠ on → Answers (exec (.degraded n on e) s) fun t =>
      t.flag (F.laneRxstsDegraded n) = on ∧ (on = true → t.get (F.cause (pgLane n) Ev.degraded) = 1) ∧
      Touches [.regs, .msix, .out, .now] s t) ∧
    (s.laneStage n = lgRun → s.get (F.laneRxstsDegraded n) = 0 → Answers (exec (.savedStateCopy n a e) s) fun t =>
      t.lane n = { s.lane n with
        saved := some ⟨t.now, bits (s.lane n).mode 11 10, bits (s.lane n).mode 9 8, s.flag (F.laneRxstsInv n), a⟩ } ∧
      Touches [.regs, .n, .now] s t) ∧
    (s.laneStage n ≠ lgRun → exec (.savedStateCopy n a e) s = .next (s.upd fun m => m.at e))) ∧
  (∀ (n : Fin 96) (w : Wr) (e : Env) (s : State), w.half = .full → s.flag (F.pgLock (pgLane n)) = false → bit w.value 63 = true →
    (s.Arrives w (F.laneTxeqCommit n).reg → s.writeFits (F.laneTxeqCommit n).reg w = true →
      (txeqOk w.value = true → Answers (exec (.txeqCommit n w) s) fun t => t.get (F.laneTxeqReject n) = 0 ∧
        txeqOk (t.lane n).txeq = true ∧ bits (t.lane n).txeq 34 0 = bits w.value 34 0 ∧ bits (t.lane n).txeq 54 48 = bits w.value 54 48 ∧
        (t.lane n).saved = none ∧ t.out = s.out ++ [.settings n (t.lane n).txeq] ∧ Touches [.regs, .out, .n] s t) ∧
      (txeqOk w.value = false → Answers (exec (.txeqCommit n w) s) fun t => t.get (F.laneTxeqReject n) = 1 ∧ t.n = s.n ∧
        Touches [.regs] s t)) ∧
    (s.Arrives w (F.laneRxctlRepair n).reg → s.writeFits (F.laneRxctlRepair n).reg w = true → s.get (F.laneRxstsFailed n) = 1 →
      ∀ p, s.portOfLane n = some p → s.isUp p = false → Answers (exec (.laneRepair n w e) s) fun t =>
        t.lane n = { s.lane n with retry := true } ∧ Touches [.regs, .n, .now] s t) ∧
    (s.Arrives w (F.laneScanStart n).reg →
      (s.get (F.laneScanBusy n) = 1 → exec (.scanStart n w) s = .next s) ∧
      (s.get (F.laneScanBusy n) = 0 → s.writeFits (F.laneScanStart n).reg w = true → Answers (exec (.scanStart n w) s) fun t =>
        OnlyRegs s t ∧ (lgAdapt ≤ s.laneStage n → t.get (F.laneScanBusy n) = 1 ∧ t.get (F.laneScanStatus n) = 0) ∧
        (s.laneStage n < lgAdapt → t.get (F.laneScanBusy n) = 0 ∧ t.get (F.laneScanStatus n) = 2)))) ∧
  (∀ (n : Fin 96) (e : Env) (s : State) (p : Nat), s.portOfLane n = some p → s.get (F.laneRxstsFailed n) = 1 →
    s.get (F.laneRxctlAutoRepair n) = 1 →
    ((s.lane n).stageAt + s.get (F.laneRxctlRepairIvl n) * 100000000 ≤ max s.now e.t →
      (s.isUp p = false → Answers (exec (.autoRepair n e) s) fun t => t.lane n = { s.lane n with retry := true } ∧ Touches [.n, .now] s t) ∧
      (s.Boundary e p → (s.port p).wown = none → (s.port p).wadd = none → s.lanesIn p (2 ^ s.logical p (s.posOf n)) = [n.val] →
        s.laneStage n ≠ lgRun → Answers (exec (.autoRepair n e) s) fun t => t.laneStage n = lgPower ∧
          SendsFirst s t (.flit p (ctlFlit 5 [6, BitVec.ofNat 8 (s.get (F.portLstsWidth p)),
            BitVec.ofNat 8 (2 ^ s.logical p (s.posOf n)), BitVec.ofNat 8 (s.port p).nextId])) ∧
          (t.port p).nextId = ((s.port p).nextId + 1) % 256)) ∧
    (max s.now e.t < (s.lane n).stageAt + s.get (F.laneRxctlRepairIvl n) * 100000000 →
      exec (.autoRepair n e) s = .next (s.upd fun m => m.at e))) ∧
  (∀ (n : Fin 96) (w : Wr) (e : Env) (s : State) (p : Nat), s.Arrives w (F.laneModeRate n).reg → w.half = .full →
    s.writeFits (F.laneModeRate n).reg w = true → s.portOfLane n = some p → n.val = 2 * p →
    (bits w.value 11 10 ≠ s.get (F.laneModeRate n) → s.isUp p = true → Answers (exec (.laneModeWrite n w e) s) fun t =>
      t.get (F.laneModeRate n) = bits w.value 11 10 ∧ t.lstate p = lsRetrain ∧ (t.port p).rate = some (s.get (F.portLstsRate p)) ∧
      t.get (F.cause (pgPort p) Ev.retrain) = 1) ∧
    (bits w.value 11 10 = s.get (F.laneModeRate n) → Answers (exec (.laneModeWrite n w e) s) fun t =>
      t.get (F.laneModeRate n) = bits w.value 11 10 ∧ t.lstate p = s.lstate p ∧ Touches [.regs, .n, .now] s t)) ∧
  ∀ (n : Fin 96) (e : Env) (s : State),
    (∀ errors : BitVec 40, s.get (F.laneScanBusy n) = 1 → Answers (exec (.scanDone n errors e) s) fun t => t.get (F.laneScanBusy n) = 0 ∧
      t.get (F.laneScanStatus n) = 0 ∧ t.get (F.laneScanresErrors n) = errors.toNat ∧
      t.get (F.cause (pgLane n) Ev.scanDone) = 1 ∧ Touches [.regs, .msix, .out, .now] s t) ∧
    ∀ k, s.get (F.lanePchkEn n) = 1 →
      (32 ≤ k → k ≤ 256 → Answers (exec (.pchkSyncLost n k e) s) fun t => Counts s t (pgLane n) 6 256 ∧ Counts s t (pgLane n) 7 k ∧
        t.get (F.cause (pgLane n) Ev.pchkSyncLost) = 1 ∧ Touches [.regs, .msix, .out, .now] s t) ∧
      (k < 32 → exec (.pchkSyncLost n k e) s = .next (s.upd fun m => m.at e))

/-- R573, R574, R576 to R584 and R613. -/
def Obligations.StoreAdminCommands : Prop :=
  (∀ (id n : Nat) (o : Op) (i : Instr) (e : Env) (s : State), (n, i) ∈ [(0xA0, Instr.storeCreate e), (0xA1, .storeAppend e),
      (0xA2, .storeCommit e), (0xA3, .storeRead e), (0xA4, .storeDelete e), (0xA5, .storeList e)] → s.AdminNext n id o →
    s.noStore = true ∨ s.storeRuns = false → Answers (exec i s) fun t =>
      AdminCompletes s t id (if s.noStore then stStoreAbsent else stStoreStopped) 0 0 ∧ Touches [.regs, .q, .now] s t) ∧
  (∀ (id : Nat) (o : Op) (e : Env) (s : State), s.AdminNext 0xA0 id o → s.noStore = false → s.storeRuns = true →
    let a := wqeField o.wqe 0x10 8
    let cap := wqeField o.wqe 0x18 8
    let mode := wqeField o.wqe 0x20 1
    let need := ceilDiv (cap * (if mode = 1 then 1 else 3)) unitBytes
    a ≠ 0 → a ≠ 2 ^ 64 - 1 → cap ≤ 2 ^ 44 → mode ≤ 1 →
    (∀ x, s.obj a = some x → Answers (exec (.storeCreate e) s) fun t => AdminCompletes s t id stAdminState 0 0x10 ∧
      Touches [.regs, .q, .now] s t) ∧
    (s.obj a = none → s.st.objs.length < 1048576 → (s.st.objs.filter fun p => p.2.state = .opened).length < 16384 →
      need = 0 ∨ need ≤ s.storeFree → Answers (exec (.storeCreate e) s) fun t => ∃ x, t.obj a = some x ∧ x.inc = s.st.nextInc ∧
        x.state = .opened ∧ x.capacity = cap ∧ x.tlc = decide (mode = 1) ∧ x.length = 0 ∧ x.data = [] ∧ x.reserved = need ∧
        x.sealing = false ∧ x.committed = none ∧ x.journaled = false ∧ (∀ b, b ≠ a → t.obj b = s.obj b) ∧
        t.st.nextInc = s.st.nextInc + 1 ∧ t.st.progs = s.st.progs ++ [.record (.created a s.st.nextInc)] ∧ AdminGoesOn t 0xA0 id ∧
        t.q.done = s.q.done ∧ Touches [.regs, .q, .st, .now] s t)) ∧
  (∀ (id : Nat) (o : Op) (e : Env) (s : State) (x : Obj), s.StoreNext 0xA1 id o x →
    let a := wqeField o.wqe 0x10 8
    let len := wqeField o.wqe 0x20 4
    (x.state ≠ .opened ∨ x.sealing = true → Answers (exec (.storeAppend e) s) fun t => AdminCompletes s t id stStoreState 0 0 ∧
      Touches [.regs, .q, .now] s t) ∧
    (x.state = .opened → x.sealing = false → x.capacity < x.length + len → Answers (exec (.storeAppend e) s) fun t =>
      AdminCompletes s t id stStoreBounds 0 0 ∧ Touches [.regs, .q, .now] s t) ∧
    (∀ c bs, x.state = .opened → x.sealing = false → x.length + len ≤ x.capacity → s.wq 0 = some c → s.st.feeds = [] →
      bs.length = len → x.length % unitBytes + len ≤ unitBytes → s.ReadsVirt e c.link (storeReq c.asid (wqeField o.wqe 0x18 8) .localRead) bs →
      s.stageRoom a x.inc x.length len = true → s.stageSpace a x.length len x = true → Answers (exec (.storeAppend e) s) fun t =>
        AdminCompletes s t id stSuccess x.length 0 ∧ (∃ y, t.obj a = some y ∧ y.holds x x.length bs ∧ y.length = x.length + len ∧
          y.state = .opened ∧ y.capacity = x.capacity ∧ y.reserved = x.reserved) ∧
        (∃ u ∈ t.st.staged, u.id = a ∧ u.inc = x.inc ∧ u.u = x.length / unitBytes) ∧ (∀ b, b ≠ a → t.obj b = s.obj b) ∧
        Counts s t pgStore 0 len ∧ Touches (.q :: .st :: busParts) s t) ∧
    (∀ c, x.state = .opened → x.sealing = false → x.length ≤ x.capacity → s.wq 0 = some c → s.st.feeds = [] → len = 0 →
      Answers (exec (.storeAppend e) s) fun t => AdminCompletes s t id stSuccess x.length 0 ∧ t.st = s.st ∧
        Touches [.regs, .q, .now] s t)) ∧
  (∀ (id : Nat) (o : Op) (e : Env) (s : State) (x : Obj), s.StoreNext 0xA2 id o x →
    let a := wqeField o.wqe 0x10 8
    let seals := decide (wqeBits o.wqe 0x18 0 0 = 1)
    (x.state = .opened → Answers (exec (.storeCommit e) s) fun t =>
      (∃ c, t.st.commits.map (·.n) = s.st.commits.map (·.n) ++ [c.n] ∧ c ∈ t.st.commits ∧ c.n = s.st.nextCommit ∧ c.id = a ∧ c.inc = x.inc ∧
        c.who = .admin ∧ c.seals = seals ∧ c.length = x.length ∧ c.data = x.data ∧ c.durable = false) ∧
      (∃ y, t.obj a = some y ∧ y.sealing = (x.sealing || seals) ∧ y.data = x.data ∧ y.length = x.length ∧ y.state = .opened) ∧
      (∀ u ∈ t.st.staged, u.id = a → u.inc = x.inc → u.due = true) ∧ AdminGoesOn t 0xA2 id ∧ t.q.done = s.q.done ∧
      Touches [.regs, .q, .st, .now] s t) ∧
    (x.state ≠ .opened → Answers (exec (.storeCommit e) s) fun t => AdminCompletes s t id stSuccess x.length 0 ∧
      (x.state = .sealed ∨ seals = false → t.st = s.st) ∧ (x.state = .torn → seals = true → t.obj a = some { x with state := .sealed }) ∧
      Touches [.regs, .q, .st, .now] s t)) ∧
  (∀ (id : Nat) (o : Op) (e : Env) (s : State) (x : Obj), s.StoreNext 0xA3 id o x →
    let off := wqeField o.wqe 0x18 8
    let len := wqeField o.wqe 0x28 4
    (x.length < off + len → Answers (exec (.storeRead e) s) fun t => AdminCompletes s t id stStoreBounds 0 0 ∧
      Touches [.regs, .q, .now] s t) ∧
    (∀ c pa, off + len ≤ x.length → off % 4096 + len ≤ 4096 → s.onNand (wqeField o.wqe 0x10 8) x (off / unitBytes) = false →
      s.wq 0 = some c → s.Translates (storeReq c.asid (wqeField o.wqe 0x20 8) .localWrite) len pa →
      Answers (exec (.storeRead e) s) fun t => Sends s t (.hostWrite c.link pa (x.bytes off len)) ∧
        AdminCompletes s t id stSuccess len 0 ∧ t.st.objs = s.st.objs ∧ t.st.reading = none ∧ Counts s t pgStore 2 len ∧
        Touches (.q :: .st :: busParts) s t) ∧
    (off ≤ x.length → len = 0 → Answers (exec (.storeRead e) s) fun t => AdminCompletes s t id stSuccess 0 0 ∧ t.st.objs = s.st.objs ∧
      Touches [.regs, .q, .st, .now] s t)) ∧
  (∀ (id : Nat) (o : Op) (e : Env) (s : State) (x : Obj), s.StoreNext 0xA4 id o x →
    (∀ c ∈ s.st.commits, c.id ≠ wqeField o.wqe 0x10 8) → Answers (exec (.storeDelete e) s) fun t =>
      t.obj (wqeField o.wqe 0x10 8) = none ∧ (∀ b, b ≠ wqeField o.wqe 0x10 8 → t.obj b = s.obj b) ∧
      (∀ u ∈ t.st.staged, u.id = wqeField o.wqe 0x10 8 → u.inc ≠ x.inc) ∧ t.st.leaving = s.st.leaving ++ [(wqeField o.wqe 0x10 8, x)] ∧
      t.st.progs = s.st.progs ++ [.record (.deleted (wqeField o.wqe 0x10 8) x.inc)] ∧ AdminGoesOn t 0xA4 id ∧ t.q.done = s.q.done ∧
      Touches [.regs, .q, .st, .now] s t) ∧
  ∀ (id : Nat) (o : Op) (e : Env) (s : State), s.AdminNext 0xA5 id o → s.noStore = false → s.storeRuns = true →
    let l := (s.st.objs.filter (fun p => decide (wqeField o.wqe 0x10 8 ≤ p.1))).take (wqeField o.wqe 0x20 4)
    (l = [] → Answers (exec (.storeList e) s) fun t => AdminCompletes s t id stSuccess 0 0 ∧ Touches [.regs, .q, .now] s t) ∧
    (∀ c pa, s.wq 0 = some c → l ≠ [] → s.Translates (storeReq c.asid (wqeField o.wqe 0x18 8) .localWrite) (32 * l.length) pa →
      Answers (exec (.storeList e) s) fun t => AdminCompletes s t id stSuccess l.length 0 ∧
        Sends s t (.hostWrite c.link pa (l.flatMap fun p => p.2.recordBytes p.1)) ∧ Touches (.q :: busParts) s t)

/-- R240, R255, R263, R272, R573, R574, R580, R586, R588 and R589. -/
def Obligations.StorePutsAndSyncs : Prop :=
  (∀ (k : Nat) (e : Env) (s : State) (c : Commit), s.st.commits[k]? = some c →
    (c.durable = false → exec (.storeCommitDone k e) s = .next (s.upd fun m => m.at e)) ∧
    (c.durable = true → s.st.stopping = false →
      (∀ a x, c.who = .admin → s.AdminRuns 0xA2 a → s.objOf c.id c.inc = some x → Answers (exec (.storeCommitDone k e) s) fun t =>
        AdminCompletes s t a.op stSuccess c.length 0 ∧ t.st.commits = s.st.commits.eraseIdx k ∧
        t.obj c.id = some (if c.seals then { x with state := .sealed, sealing := false, reserved := 0 } else x) ∧
        Touches [.regs, .q, .st, .now] s t) ∧
      (∀ id o, c.who = .op id → c.seals = false → s.op id = some o → o.finished = false → o.silent = false → Answers (exec (.storeCommitDone k e) s) fun t =>
        OpCompletes s t id stSuccess c.length 0 0 ∧ t.st.commits = s.st.commits.eraseIdx k ∧ t.st.objs = s.st.objs ∧
        Touches [.regs, .q, .st, .now] s t) ∧
      (∀ cid msn tc k1, c.who = .remote cid msn tc → c.seals = false → s.conn cid = some k1 → k1.txState ≠ .idle →
        Answers (exec (.storeCommitDone k e) s) fun t => t.st.commits = s.st.commits.eraseIdx k ∧ t.st.objs = s.st.objs ∧
          Posts s t cid k1 { Msg.new .syncRsp wSyncRsp tc 8 (.inline (leBytes 8 c.length)) with
            xdata := msn
            ref := msn } ∧
          Touches [.regs, .x, .st, .now] s t))) ∧
  (∀ (k : Nat) (e : Env) (s : State) (p : Opened) (cid : Nat) (c : Conn) (slot : Nat) (g : Region), s.Receives k p cid c →
    p.opcode = wStorePut → (c.rxMsg p.msn).failed = none → (c.rxMsg p.msn).aborted = none → pAbort p = false →
    p.payload.length = pPlen p → s.noStore = false → s.Grants p.nd (putAsk p .storePut) slot g →
    let off := pRoffset p + pOff p
    (∀ x, s.obj g.objectId = some x → s.putChecks g.objectId off (pPlen p) = none → 0 < pPlen p →
      s.stageSpace g.objectId off (pPlen p) x = true → s.stageRoom g.objectId x.inc off (pPlen p) = true →
      Answers (exec (.storePutPacket k e) s) fun t => Accepts t p cid ∧ (∃ y, t.obj g.objectId = some y ∧ y.holds x off p.payload ∧
        y.length = max x.length (off + pPlen p) ∧ y.state = x.state) ∧ (∀ b, b ≠ g.objectId → t.obj b = s.obj b) ∧
        Counts s t pgStore 0 (pPlen p) ∧ SendsEventsOnly s t) ∧
    (∀ x, s.obj g.objectId = some x → s.putChecks g.objectId off (pPlen p) = none → pPlen p = 0 → s.stagedUnits ≤ stagingUnits →
      Answers (exec (.storePutPacket k e) s) fun t => Accepts t p cid ∧ t.st = s.st ∧ SendsEventsOnly s t) ∧
    (∀ st d, s.putChecks g.objectId off (pPlen p) = some (st, d) → (c.rxMsg p.msn).total = none → (c.rxMsg p.msn).closed = false →
      pLast p = false → Answers (exec (.storePutPacket k e) s) fun t => Accepts t p cid ∧ t.st = s.st ∧ SendsEventsOnly s t ∧
        ∃ c1, t.conn cid = some c1 ∧ (c1.rxMsg p.msn).failed = some (st, d))) ∧
  (∀ (k : Nat) (e : Env) (s : State) (p : Opened) (cid : Nat) (c : Conn) (slot : Nat) (g : Region) (x : Obj), s.Receives k p cid c →
    p.opcode = wSyncReq → c.canAnswer = true → s.noStore = false → s.storeRuns = true →
    s.Grants p.nd { want := .sync, rkey := pRkey p, roffset := 0, extent := 0, sig := none, aop := 0, type := 0 } slot g →
    s.obj g.objectId = some x →
    (x.state = .opened → Answers (exec (.storeSyncReq k e) s) fun t => Accepts t p cid ∧ (∃ c, c ∈ t.st.commits ∧ c.n = s.st.nextCommit ∧
      c.id = g.objectId ∧ c.inc = x.inc ∧ c.who = .remote cid p.msn p.tc ∧ c.seals = false ∧ c.length = x.length ∧ c.data = x.data) ∧
      (∃ y, t.obj g.objectId = some y ∧ y.data = x.data ∧ y.length = x.length ∧ y.sealing = x.sealing) ∧ t.q = s.q) ∧
    (x.state ≠ .opened → Answers (exec (.storeSyncReq k e) s) fun t => Accepts t p cid ∧ t.st = s.st ∧
      PostsBack s t cid c { Msg.new .syncRsp wSyncRsp p.tc 8 (.inline (leBytes 8 x.length)) with
        xdata := p.msn
        ref := p.msn })) ∧
  ∀ (k : Nat) (e : Env) (s : State) (p : Opened) (cid : Nat) (c : Conn) (g : Msg) (id n : Nat) (o : Op),
    s.Receives k p cid c → c.msgs = [g] → g.msn = some (pXdata p % 1024) → g.op = some id → s.op id = some o → o.finished = false → o.silent = false →
    p.opcode = wSyncRsp → g.kind = .syncReq → c.covered g = true → g.needRsn = some n → seqSub 24 c.rsnRcvd n < 2 ^ 23 →
    g.result = none → g.aborted = none →
    Answers (exec (.storeSyncRsp k e) s) fun t => Accepts t p cid ∧ SendsEventsOnly s t ∧ t.st = s.st ∧
      OpCompletes s t id stSuccess (fieldLE p.payload 0 8) 0 0

/-- R573, R580, R582, R590 to R593, R598, R599, R601, R602 and R608. -/
def Obligations.ProgramsEndAndRecordsStand : Prop :=
  (∀ (id u blk : Nat) (e : Env) (s : State) (o : Obj), s.obj id = some o → s.storeRuns = true →
    (s.unitReady id o u = true → s.mayProgram (unitChannel id u) o.tlc blk = true → Answers (exec (.unitProgram id u false blk e) s) fun t =>
      (∃ us, t.st.progs = s.st.progs ++ [.data id o.inc blk us] ∧ (∃ x ∈ us, x.u = u) ∧ t.st.staged = s.st.staged.filter (fun x => x ∉ us) ∧
        ∀ x ∈ us, x ∈ s.st.staged ∧ x.id = id ∧ x.inc = o.inc ∧ x.u ∈ programUnit id u o.tlc) ∧
      (t.block blk).used = true ∧ KMap.get t.st.current (2 * blkChannel blk + b2n o.tlc) = some blk ∧ t.st.objs = s.st.objs ∧
      Counts s t (pgStch (blkChannel blk)) 0 1 ∧ Touches [.regs, .msix, .out, .st, .now] s t) ∧
    (s.parityReady id o u = true → s.mayProgram (parityChannel id u) o.tlc blk = true →
      Answers (exec (.unitProgram id u true blk e) s) fun t => t.st.progs = s.st.progs ++ [.parity id o.inc blk u] ∧
        t.st.staged = s.st.staged ∧ t.st.objs = s.st.objs ∧ Counts s t (pgStch (blkChannel blk)) 0 1 ∧
        Touches [.regs, .msix, .out, .st, .now] s t)) ∧
  (∀ (id u : Nat) (e : Env) (s : State), Answers (exec (.unitIdle id u e) s) fun t => t.st.objs = s.st.objs ∧ t.st.progs = s.st.progs ∧
    (∀ x ∈ s.st.staged, if x.id = id ∧ x.u = u ∧ x.lastWrite + s.get F.storeCfgUnitIdle * 1000000 ≤ max s.now e.t
      then { x with due := true } ∈ t.st.staged else x ∈ t.st.staged) ∧ Touches [.st, .now] s t) ∧
  (∀ (k dst : Nat) (e : Env) (s : State) (g : Prog), s.st.progs[k]? = some g → s.st.feeds = [] → s.st.reading = none →
    s.st.stopping = false →
    (∀ id inc x a, g = .record (.created id inc) → s.st.commits = [] → s.objOf id inc = some x → s.AdminRuns 0xA0 a →
      wqeField a.wqe 0x10 8 = id → Answers (exec (.nandProgramDone k true dst e) s) fun t =>
        t.obj id = some { x with journaled := true } ∧ AdminCompletes s t a.op stSuccess 0 0 ∧ t.st.progs = s.st.progs.eraseIdx k ∧
        Touches [.regs, .q, .st, .now] s t) ∧
    (∀ id inc x a, g = .record (.deleted id inc) → s.st.commits = [] → s.st.leaving = [(id, x)] → x.inc = inc → s.AdminRuns 0xA4 a →
      wqeField a.wqe 0x10 8 = id → Answers (exec (.nandProgramDone k true dst e) s) fun t => t.st.leaving = [] ∧
        t.st.objs = s.st.objs ∧ AdminCompletes s t a.op stSuccess x.length 0 ∧ Touches [.regs, .q, .st, .now] s t) ∧
    (∀ n c x, g = .record (.committed n) → s.st.commits = [c] → c.n = n → c.issued = true → s.objOf c.id c.inc = some x →
      Answers (exec (.nandProgramDone k true dst e) s) fun t => t.st.commits = [{ c with durable := true }] ∧
        t.obj c.id = some (x.commit c) ∧ t.st.progs = s.st.progs.eraseIdx k ∧
        Touches [.regs, .st, .now] s t) ∧
    (∀ id inc blk u x, g = .data id inc blk [u] → s.st.commits = [] → s.objOf id inc = some x → KMap.get x.placed u.u = none →
      Answers (exec (.nandProgramDone k true dst e) s) fun t => (∃ y, t.obj id = some y ∧ KMap.get y.placed u.u = some blk ∧
        y.reserved = x.reserved - x.cost ∧ u.u / 15 ∈ y.stale ∧ (∀ v, v ≠ u.u → KMap.get y.placed v = KMap.get x.placed v) ∧
        y.data = x.data ∧ y.length = x.length) ∧ t.st.progs = s.st.progs.eraseIdx k ++ [.record (.unit id inc (2 * u.u) blk)] ∧
        Counts s t pgStore 1 65536 ∧ Touches [.regs, .msix, .out, .st, .now] s t) ∧
    (∀ id inc blk h x, g = .parity id inc blk h → s.st.commits = [] → s.objOf id inc = some x → KMap.get x.parity h = none →
      Answers (exec (.nandProgramDone k true dst e) s) fun t => (∃ y, t.obj id = some y ∧ KMap.get y.parity h = some blk ∧ h ∉ y.stale ∧
        y.placed = x.placed) ∧ t.st.progs = s.st.progs.eraseIdx k ++ [.record (.unit id inc (2 * h + 1) blk)] ∧ Counts s t pgStore 1 65536 ∧
        Touches [.regs, .msix, .out, .st, .now] s t) ∧
    (∀ id inc blk u x, g = .data id inc blk [u] → s.objOf id inc = some x → (∀ q ∈ s.st.staged, q.id ≠ id) →
      (∀ p ∈ s.st.objs, p.2.anyOn (fun b => b = blk) = false) → s.flag F.storeGdlogValid = false → blk < 2 ^ 31 →
      Answers (exec (.nandProgramDone k false dst e) s) fun t => t.st.staged = s.st.staged ++ [{ u with due := true }] ∧
        (t.block blk).bad = true ∧ (t.block blk).used = false ∧ t.st.progs = s.st.progs.eraseIdx k ++ [.record (.retired blk)] ∧
        t.get F.storeGdlogValid = 1 ∧ t.get F.storeGdlogCause = 0 ∧ t.get F.storeGdlogDie = blkDie blk ∧
        t.get F.storeGdlogBlock = blk % 2 ^ 24 ∧ t.get (F.cause pgStore Ev.grownDefect) = 1 ∧
        Counts s t (pgStch (blkChannel blk)) 1 1 ∧ Touches [.regs, .msix, .out, .st, .now] s t)) ∧
  ∀ (blk dst : Nat) (e : Env) (s : State),
    (s.block blk).used = true → (s.block blk).bad = false → s.blockLive blk = false → (∀ p ∈ s.st.current, p.2 ≠ blk) →
    s.dieUp (blkDie blk) = true →
    (dst ≠ blk → Answers (exec (.nandEraseDone blk true dst e) s) fun t => (t.block blk).used = false ∧ (t.block blk).bad = false ∧
      (t.block blk).wear = (s.block blk).wear + (if (s.block blk).tlc then 10 else 1) ∧ (t.block blk).cost = 0 ∧
      (t.block blk).reads = 0 ∧ (∀ i x, s.obj i = some x → ∃ y, t.obj i = some y ∧ y.data = x.data ∧ y.length = x.length) ∧
      Touches [.regs, .msix, .out, .st, .now] s t) ∧
    Answers (exec (.nandEraseDone blk false dst e) s) fun t => (t.block blk).used = false ∧ (t.block blk).bad = true ∧
      (∀ i x, s.obj i = some x → ∃ y, t.obj i = some y ∧ y.data = x.data ∧ y.length = x.length) ∧
      t.get (F.cause pgStore Ev.grownDefect) = 1 ∧ Counts s t (pgStch (blkChannel blk)) 2 1 ∧
      t.st.progs = s.st.progs ++ [.record (.retired blk)] ∧ Touches [.regs, .msix, .out, .st, .now] s t

/-- R573, R581, R594 to R597, R600, R603 to R605, R607, R611, R612 and R615. -/
def Obligations.MediaDegradeAndStoresReplay : Prop :=
  (∀ (id slot cw step corrected : Nat) (offset : Int) (dst blk : Nat) (e : Env) (s : State) (o : Obj), s.obj id = some o →
    o.blockOf slot = some blk → cw < 16 →
    (1 ≤ step → step ≤ 3 → slot ∉ o.lost → s.dieUp (blkDie blk) = true →
      (s.st.reading = none → Answers (exec (.codewordRead id slot cw step corrected offset dst e) s) fun t =>
        (t.block blk).reads = (s.block blk).reads + 1 ∧ t.st.objs = s.st.objs ∧
        ((t.block blk).refresh = true ↔ (s.block blk).refresh = true ∨ step = 3 ∨ (step = 1 ∧ s.get F.storeScrubThresh < corrected)) ∧
        ((t.block blk).late = true ↔ (s.block blk).late = true ∨ s.get F.storeScrubRdLimit ≤ (s.block blk).reads + 1) ∧
        Counts s t pgStore (3 + step) 1 ∧ Touches [.regs, .msix, .out, .st, .now] s t) ∧
      (∀ r c pa a, s.st.reading = some r → r.id = id → r.inc = o.inc → r.done < r.len → (r.off + r.done) % 4096 + (r.len - r.done) ≤ 4096 →
        slot = 2 * ((r.off + r.done) / unitBytes) → cw = (r.off + r.done) % unitBytes / 4096 →
        s.onNand id o ((r.off + r.done) / unitBytes) = true → s.wq 0 = some c → s.AdminRuns 0xA3 a →
        s.Translates (storeReq c.asid (r.dst + r.done) .localWrite) (r.len - r.done) pa →
        Answers (exec (.codewordRead id slot cw step corrected offset dst e) s) fun t => AdminCompletes s t a.op stSuccess r.len 0 ∧
          Sends s t (.hostWrite c.link pa (o.bytes (r.off + r.done) (r.len - r.done))) ∧ t.st.reading = none ∧
          Touches (.q :: .st :: busParts) s t)) ∧
    (step ≠ 0 → 5 ≤ step ∨ slot ∈ o.lost →
      (s.st.reading = none → Answers (exec (.codewordRead id slot cw step corrected offset dst e) s) fun t =>
        t.obj id = some { o with damaged := true } ∧ t.get (F.cause pgStore Ev.mediaError) = 1 ∧ Counts s t pgStore 8 1 ∧
        Touches [.regs, .msix, .out, .st, .now] s t) ∧
      (∀ r a, s.st.reading = some r → r.id = id → r.inc = o.inc → slot = 2 * ((r.off + r.done) / unitBytes) →
        cw = (r.off + r.done) % unitBytes / 4096 → s.onNand id o ((r.off + r.done) / unitBytes) = true → s.AdminRuns 0xA3 a →
        Answers (exec (.codewordRead id slot cw step corrected offset dst e) s) fun t =>
          AdminCompletes s t a.op stStoreMedia r.done 0 ∧ t.st.reading = none ∧ t.obj id = some { o with damaged := true } ∧
          Touches [.regs, .msix, .out, .q, .st, .now] s t))) ∧
  (∀ (blk dst : Nat) (e : Env) (s : State), s.storeRuns = true → (s.block blk).used = true → (s.block blk).bad = false →
    s.dieUp (blkDie blk) = true → s.backgroundHeld = false → (s.block blk).late = true →
    ((s.block blk).refresh = false → Answers (exec (.scrubPass blk dst e) s) fun t => t.st.objs = s.st.objs ∧
      t.block blk = { s.block blk with
        scrubbed := t.fabricNow
        late := false } ∧
      Touches [.st, .now] s t) ∧
    ((s.block blk).refresh = true → s.mayMove blk dst = true → Answers (exec (.scrubPass blk dst e) s) fun t =>
      (∀ p ∈ t.st.objs, p.2.anyOn (fun b => b = blk) = false) ∧ (t.block blk).refresh = false ∧ Counts s t pgStore 9 1 ∧
      (∀ i x, s.obj i = some x → ∃ y, t.obj i = some y ∧ y.data = x.data) ∧ Touches [.regs, .msix, .out, .st, .now] s t)) ∧
  (∀ (die : Nat) (e : Env) (s : State),
    (s.dieUp die = false → exec (.dieAbsent die e) s = .next (s.upd fun m => m.at e)) ∧
    (s.dieUp die = true → Answers (exec (.dieAbsent die e) s) fun t => t.dieUp die = false ∧
      t.st.absent = s.st.absent ++ [(die, if s.st.timed then some t.fabricNow else none)] ∧
      (die ∈ t.st.rebuilding ↔ die ∈ s.st.rebuilding ∨ s.flag F.storeCfgRebuild = true) ∧ t.get F.storeStsDegraded = 1 ∧
      t.get (F.cause pgStore Ev.dieAbsent) = 1 ∧ Touches [.regs, .msix, .out, .st, .now] s t)) ∧
  (∀ (die dst : Nat) (e : Env) (s : State), s.mayRebuild die dst = true → s.dieUp die = false →
    (die ∈ s.st.rebuilding → s.backgroundHeld = false → Answers (exec (.rebuildDone die dst e) s) fun t => die ∉ t.st.rebuilding ∧
      (∀ p ∈ t.st.objs, ∀ x ∈ p.2.slotsOn (fun b => blkDie b = die), x ∈ p.2.lost) ∧ t.st.absent = s.st.absent ∧
      t.get (F.cause pgStore Ev.rebuildDone) = 1 ∧ Touches [.regs, .msix, .out, .st, .now] s t) ∧
    (∀ x, s.st.absent.find? (fun p => p.1 = die) = some x →
      (x.2 = none → Answers (exec (.dieReturn die dst e) s) fun t => (∀ p ∈ t.st.absent, p.1 ≠ die) ∧
        (∀ p ∈ t.st.objs, ∀ x ∈ p.2.slotsOn (fun b => blkDie b = die), x ∈ p.2.lost) ∧ t.get (F.cause pgStore Ev.dieReturn) = 1 ∧
        Touches [.regs, .msix, .out, .st, .now] s t) ∧
      (∀ n, x.2 = some n → s.st.timed = true →
        (s.upd fun m => m.at e).fabricNow - n ≤ s.get F.storeScrubInterval * 3600000000000 →
        Answers (exec (.dieReturn die dst e) s) fun t => (∀ p ∈ t.st.absent, p.1 ≠ die) ∧ t.st.objs = s.st.objs ∧
          (∀ p ∈ t.st.blocks, blkDie p.1 = die → p.2.used = true → p.2.bad = false → p.2.late = true) ∧
          t.get (F.cause pgStore Ev.dieReturn) = 1 ∧ Touches [.regs, .msix, .out, .st, .now] s t))) ∧
  (∀ (markers : List Nat) (e : Env) (s : State), s.noStore = false → s.st.state = .scanning ∨ s.st.state = .replay →
    (s.st.formatPend = true → Answers (exec (.storeReplay [] markers e) s) fun t => t.st.state = .unformatted ∧ t.st.objs = s.st.objs ∧
      t.get F.storeStsState = 6 ∧ Touches [.regs, .st, .now] s t) ∧
    (s.st.formatPend = false → s.st.formatted = true → s.st.leaving = [] → (s.st.objs.map (·.1)).Nodup →
      Answers (exec (.storeReplay [] markers e) s) fun t => t.st.state = .run ∧ t.st.staged = [] ∧ t.st.commits = [] ∧
        t.get F.storeStsState = 3 ∧ t.get F.storeRecovClean = b2n s.st.clean ∧ t.get (F.cause pgStore Ev.storeReady) = 1 ∧
        (∀ i x, s.obj i = some x →
          (x.state ≠ .opened → t.obj i = some x) ∧
          (∀ n d, x.state = .opened → x.committed = some (n, d) → ∃ y, t.obj i = some y ∧ y.length = n ∧ y.data = d ∧
            y.state = if x.sealRec then .sealed else if s.st.clean then .opened else .torn) ∧
          (x.state = .opened → x.committed = none → s.st.clean = false → t.obj i = none)) ∧
        Touches [.regs, .msix, .out, .st, .now] s t)) ∧
  (∀ (e : Env) (s : State) (b : Nat), s.storeRuns = true → s.flag F.timeStsSynced = false → s.st.judge = some b → b + 1000000000 ≤ max s.now e.t →
    Answers (exec (.replaySyncTimeout e) s) fun t => t.st.judge = none ∧
      (∀ p ∈ t.st.blocks, p.2.used = true → p.2.bad = false → p.2.late = true) ∧ t.st.objs = s.st.objs ∧
      ((∃ p ∈ s.st.blocks, p.2.used = true ∧ p.2.bad = false) → t.get (F.cause pgStore Ev.scrubLate) = 1) ∧
      Touches [.regs, .msix, .out, .st, .now] s t) ∧
  (∀ (w : Wr) (s : State), s.Arrives w F.storeFmtGo.reg → w.half ≠ .lo → bit w.value 63 = true → s.flag F.storeFmtGo = false →
    (s.mode ≠ mSmallHours → Answers (exec (.format w) s) fun t => t.get F.storeFmtResult = 1 ∧ OnlyRegs s t) ∧
    (s.mode = mSmallHours → Answers (exec (.format w) s) fun t => t.get F.storeFmtGo = 1 ∧ t.st.state = .formatting ∧
      t.st.formatPend = true ∧ t.get F.storeStsState = 5 ∧ Touches [.regs, .st] s t)) ∧
  ∀ (e : Env) (s : State),
    (s.st.state ≠ .formatting → exec (.formatDone e) s = .next (s.upd fun m => m.at e)) ∧
    (s.st.state = .formatting → Answers (exec (.formatDone e) s) fun t => t.st.objs = [] ∧ t.st.leaving = [] ∧ t.st.state = .stopped ∧
      t.st.formatted = true ∧ t.st.formatPend = false ∧ (∀ p ∈ t.st.blocks, p.2.used = true → p.2.bad = true) ∧
      (∀ b, (t.block b).bad = (s.block b).bad) ∧ t.get F.storeFmtGo = 0 ∧ t.get F.storeFmtResult = 0 ∧
      t.get (F.cause pgStore Ev.formatDone) = 1 ∧ Touches [.regs, .msix, .out, .st, .now] s t)

/-- R617 and R619 to R621, with R624, R626, R627, R629, R630, R652 and R688. A nonce drawn is a free value (log 3). -/
def Obligations.ModesAreRequested : Prop :=
  ∀ (w : Wr) (e : Env) (s : State) (i : Instr),
    i ∈ [Instr.requestNoon w e, .requestTwilight w e, .requestDuskOff w e, .requestDuskMaint w e, .requestDawn w e] →
    s.Arrives w F.modeReqCode.reg → w.half ≠ .hi →
    let code := bits w.value 3 0
    (∀ r, s.Refuses code r → Answers (exec i s) fun t => t.get F.modeReqResult = r ∧ t.mode = s.mode ∧
      t.get (F.cause pgMode Ev.reqRefused) = 1 ∧ Touches [.regs, .msix, .out, .now] s t) ∧
    (s.flag F.modeStsBusy = false →
      (code = 1 → s.mode = mNoon ∨ s.mode = mAfternoon → Answers (exec i s) fun t => t.get F.modeReqResult = 0 ∧
        RegsKept (fun a => a = F.modeReqCode.reg) s t ∧ Touches [.regs, .now] s t) ∧
      (code = 1 → s.mode = mTwilight → s.get F.modeCauseCause = 0 → Answers (exec i s) fun t => t.get F.modeReqResult = 0 ∧
        ModeChanges s t mNoon ∧ t.x.conns = [] ∧ t.x.evicted = [] ∧ t.x.waiting = [] ∧ (∀ n : Fin 64, t.tileGated n = false) ∧
        ∃ k, s.draws ≤ k ∧ k < t.draws ∧ t.get F.xptNonceNonce = Config.draw k % 2 ^ 64) ∧
      (code = 2 → s.mode = mNoon ∨ s.mode = mAfternoon → Answers (exec i s) fun t => t.get F.modeReqResult = 0 ∧
        ModeChanges s t mTwilight ∧ bit (t.word F.modeCauseCause.reg) 4 = true ∧ EndpointStopped t ∧
        (s.st.state = .run → t.st.stopping = true)) ∧
      (code = 3 ∨ code = 4 → s.mode = mNoon ∨ s.mode = mAfternoon ∨ s.mode = mTwilight → Answers (exec i s) fun t =>
        t.get F.modeReqResult = 0 ∧ ModeChanges s t mDusk ∧ t.get F.modeStsBusy = 1 ∧
        t.get F.modeStsTarget = (if code = 3 then mMidnight else mSmallHours) ∧ t.y.duskAt = t.now ∧ t.q = s.q ∧ t.x = s.x ∧ t.n = s.n ∧
        (s.st.state = .run → t.st.stopping = true) ∧ Touches [.regs, .msix, .out, .st, .y, .now] s t) ∧
      (code = 3 → s.mode = mSmallHours → s.fetOn = true → Answers (exec i s) fun t => t.get F.modeReqResult = 0 ∧
        ModeChanges s t mMidnight ∧ t.get F.pwrCtlSwOff = 1 ∧ t.get F.modeStsMidCause = 2 ∧ t.st.state = .off ∧ EnginesGone t) ∧
      (code = 5 → s.mode = mTwilight ∨ s.mode = mSmallHours → s.y.resetLow = false → Answers (exec i s) fun t =>
        t.get F.modeReqResult = 0 ∧ ModeChanges s t mDawn ∧ t.get F.rstLastValid = 1 ∧ t.get F.rstLastKind = 2 ∧
        t.get F.rstLastSource = 4 ∧ t.get F.rstLastMaster = w.master.toNat ∧ EnginesGone t) ∧
      (code = 5 → s.mode = mMidnight → s.feState ≠ feLatched → s.get F.modeStsThermLatch = 0 → Answers (exec i s) fun t =>
        t.get F.modeReqResult = 0 ∧ t.mode = mMidnight ∧ t.get F.modeStsBusy = 1 ∧ t.get F.pwrCtlSwOff = 0 ∧ t.y.dawnWait = true ∧
        (s.feState = feOff → (s.upd fun m => m.put F.pwrCtlSwOff 0).feMay = true → t.feState = feWait) ∧
        Touches [.regs, .y, .now] s t))

/-- R609, R617 to R619, R623, R626, R631, R634, R641, R642, R644 and R693. -/
def Obligations.ModesEndAndDaylightDecides : Prop :=
  (∀ (e : Env) (s : State), s.mode = mDawn → s.y.resetWait = false → s.y.bootFailed = false →
    Answers (exec (.dawnComplete [] false e) s) fun t =>
      ((s.toModule.at e).boot.1 = true → ModeChanges s t mNoon ∧ t.get F.govStsStep = 0 ∧ t.get F.modeStsBusy = 0 ∧
        (s.noStore = false → t.st.state = .scanning) ∧ t.get F.modeCauseCause = s.get F.modeCauseCause) ∧
      ((s.toModule.at e).boot.1 = false → t.mode = mDawn ∧ t.get (F.cause pgMode Ev.bootFail) = 1 ∧ t.y.bootFailed = true ∧
        t.y.recovery = true ∧ t.st = s.st ∧ t.x = s.x ∧ t.n = s.n)) ∧
  (∀ (e : Env) (s : State), s.mode = mDusk →
    let late := s.y.duskAt + s.get F.modeCfgDuskTo * 1000000
    (s.storeStopped = false ∨ (s.drained = false ∧ max s.now e.t < late) →
      exec (.drainComplete e) s = .next (s.upd fun m => m.at e)) ∧
    (max s.now e.t < late → exec (.duskTimeout e) s = .next (s.upd fun m => m.at e)) ∧
    (s.storeStopped = true → s.drained = true ∨ late ≤ max s.now e.t →
      (s.get F.modeStsTarget = mSmallHours → Answers (exec (.drainComplete e) s) fun t => ModeChanges s t mSmallHours ∧
        t.get F.modeStsBusy = 0 ∧ EndpointStopped t ∧ ∀ p ∈ portList, t.isUp p = false) ∧
      (s.get F.modeStsTarget = mMidnight → s.fetOn = true → Answers (exec (.drainComplete e) s) fun t => ModeChanges s t mMidnight ∧
        t.get F.modeStsBusy = 0 ∧ t.get F.modeStsMidCause = 2 ∧ t.get F.pwrCtlSwOff = 1 ∧ t.feState = feOff ∧ t.st.state = .off ∧
        EnginesGone t)) ∧
    (late ≤ max s.now e.t →
      (s.drained = true → exec (.duskTimeout e) s = .next (s.upd fun m => m.at e)) ∧
      (s.storeStopped = false → s.drained = false → s.y.duskLate = false → Answers (exec (.duskTimeout e) s) fun t => t.mode = mDusk ∧
        t.get (F.cause pgMode Ev.duskTimeout) = 1 ∧ t.y.duskLate = true ∧ Touches [.regs, .msix, .out, .y, .now] s t) ∧
      (s.storeStopped = true → s.drained = false → s.y.duskLate = false → s.get F.modeStsTarget = mSmallHours →
        Answers (exec (.duskTimeout e) s) fun t => t.get (F.cause pgMode Ev.duskTimeout) = 1 ∧ ModeChanges s t mSmallHours ∧
          EndpointStopped t))) ∧
  (∀ (e : Env) (s : State),
    (s.mainOff = true ∨ s.pg = true → exec (.nightfall e) s = .next (s.upd fun m => m.at e)) ∧
    (s.mainOff = false → s.pg = false →
      (s.noStore = false → Answers (exec (.nightfall e) s) fun t => ModeChanges s t mNightfall ∧ EnginesGone t ∧
        t.st.objs = s.st.objs ∧ t.st.progs = s.st.progs ∧ t.st.state = if s.st.state = .off then .off else .stopped) ∧
      (s.noStore = true → Answers (exec (.nightfall e) s) fun t => t.mode = mMidnight ∧ t.get F.modeStsPrev = mNightfall ∧
        EnginesGone t)) ∧
    (s.mode ≠ mNightfall → exec (.nightfallDone e) s = .next (s.upd fun m => m.at e)) ∧
    (s.mode = mNightfall → s.y.fe.offBy < 6 →
      (s.pg = false → Answers (exec (.nightfallDone e) s) fun t => ModeChanges s t mMidnight ∧ t.st.state = .off ∧ t.st.progs = [] ∧
        t.st.staged = [] ∧ t.get F.modeStsMidCause = s.y.fe.offBy ∧ EnginesGone t) ∧
      (s.pg = true → s.straps.due = false → s.get F.modeStsThermLatch = 0 → s.feState ≠ feLatched → Answers (exec (.nightfallDone e) s) fun t =>
        t.mode = mDawn ∧ t.get F.modeStsPrev = mMidnight ∧ t.get F.modeStsMidCause = s.y.fe.offBy ∧ EnginesGone t))) ∧
  ∀ (inp : Epoch) (e : Env) (s : State),
    (s.mainOff = true ∨ s.mode = mDawn → exec (.daylightEpoch inp e) s = .next (s.upd fun m => m.at e)) ∧
    (s.mainOff = false → s.mode ≠ mDawn →
      let power := (inp.power :: s.y.day.power).take 100
      let above := 10 * s.get F.govBudgetPcap < power.sum / max 1 power.length
      let step := s.get F.govStsStep
      Answers (exec (.daylightEpoch inp e) s) fun t =>
        t.y.day.power = power ∧
        (s.mode = mNoon → t.mode = if t.flag F.govStsSaving && s.flag F.govCtlEn then mAfternoon else mNoon) ∧
        (s.mode = mAfternoon → t.mode = if t.flag F.govStsSaving then mAfternoon else mNoon) ∧
        (s.mode ≠ mNoon → s.mode ≠ mAfternoon → t.mode = s.mode) ∧
        (s.flag F.govCtlEn = true → s.flag F.govCtlFreeze = true → (∀ p : Fin 48, s.flag (F.portWinLow p) = false) →
          (¬ above → t.get F.govStsStep = step ∧ (∀ n : Fin 64, t.tileState n = s.tileState n) ∧
            Touches [.regs, .msix, .out, .draws, .y, .now] s t) ∧
          (above → step < s.get F.govBudgetMinStep → 10 ≤ s.y.day.coreSince → t.get F.govStsStep = step + 1) ∧
          (above → step = s.get F.govBudgetMinStep → s.quietest = none → t.get (F.cause pgGov Ev.capExceeded) = 1)) ∧
        (s.flag F.govCtlEn = false → ¬ above → t.get F.govStsStep = 0 ∧ ∀ n : Fin 64, t.tileGated n = false))

/-- R245, R247, R618, R627 to R629, R632 and R645 to R647. -/
def Obligations.CausesLeadToTwilight : Prop :=
  (∀ (tile : Fin 64) (e : Env) (s : State),
    let k := (tileKind tile).1
    let u := (tileKind tile).2
    (s.mainOff = true ∨ k = 0 ∨ k = 9 → exec (.fatalEngineError tile e) s = .next (s.upd fun m => m.at e)) ∧
    (s.mainOff = false → k = 1 → u < 46 → Answers (exec (.fatalEngineError tile e) s) fun t => t.lstate (leadDuo u) = lsDisabled ∧
      t.mode = s.mode ∧ t.get F.modeCauseCause = s.get F.modeCauseCause) ∧
    (s.mainOff = false → k ≠ 0 → k ≠ 1 → k ≠ 9 →
      (s.mode = mNoon ∨ s.mode = mAfternoon → Answers (exec (.fatalEngineError tile e) s) fun t => ModeChanges s t mTwilight ∧
        bit (t.word F.modeCauseCause.reg) 0 = true ∧ t.get F.modeCauseTile = tile ∧ EndpointStopped t ∧
        (s.st.state = .run → if k = 8 then t.st.state = .stopped ∧ t.st.staged = [] else t.st.stopping = true)) ∧
      (s.mode ≠ mNoon → s.mode ≠ mAfternoon → Answers (exec (.fatalEngineError tile e) s) fun t => t.mode = s.mode ∧
        bit (t.word F.modeCauseCause.reg) 0 = true ∧ t.get F.modeCauseTile = tile ∧ Touches [.regs, .now] s t))) ∧
  (∀ (e : Env) (s : State) (n : Nat), s.y.hostDownAt = some n → s.get F.modeCfgHostTo ≠ 0 →
    (max s.now e.t < n + s.get F.modeCfgHostTo * 1000000 → exec (.hostLossTimeout e) s = .next (s.upd fun m => m.at e)) ∧
    (n + s.get F.modeCfgHostTo * 1000000 ≤ max s.now e.t →
      (s.mode = mNoon ∨ s.mode = mAfternoon → Answers (exec (.hostLossTimeout e) s) fun t => ModeChanges s t mTwilight ∧
        bit (t.word F.modeCauseCause.reg) 1 = true ∧ EndpointStopped t) ∧
      (s.mode = mDusk ∨ s.mode = mTwilight → Answers (exec (.hostLossTimeout e) s) fun t => t.mode = s.mode ∧
        bit (t.word F.modeCauseCause.reg) 1 = true ∧ Touches [.regs, .now] s t))) ∧
  (∀ (power : Nat) (e : Env) (s : State),
    (power ≤ 10 * s.variantMax → Answers (exec (.powerOverTimeout power e) s) fun t => t.y.powerOver = false ∧
      (t.y.powerLowAt.isSome ↔ power < 10 * s.get F.govBudgetPcap) ∧ Touches [.y, .now] s t) ∧
    (10 * s.variantMax < power → s.mode = mNoon ∨ s.mode = mAfternoon → Answers (exec (.powerOverTimeout power e) s) fun t =>
      ModeChanges s t mTwilight ∧ bit (t.word F.modeCauseCause.reg) 3 = true ∧ EndpointStopped t)) ∧
  (∀ (w : Wr) (e : Env) (s : State), s.Arrives w F.modeCauseCause.reg → Answers (exec (.causeClear w e) s) fun t =>
    (∀ b < 6, bit (t.word F.modeCauseCause.reg) b = (bit (s.word F.modeCauseCause.reg) b && !(bit (writeOnes w) b &&
      (b = 4 || (b = 1 && (List.range 4).any s.linkUp) || (b = 2 && (List.range 3).all fun k => decide (s.thermLevel k < 3)) ||
        (b = 3 && s.y.powerLowAt.any fun n => decide (n + 100000000 ≤ t.now)))))) ∧
    t.get F.modeCauseTile = s.get F.modeCauseTile ∧ RegsKept (fun a => a = F.modeCauseCause.reg) s t ∧ Touches [.regs, .now] s t) ∧
  (∀ (k : Fin 3) (temp : Int) (tile : Fin 64) (e : Env) (s : State) (i : Instr), i = .sensorLimit k temp tile e ∨ i = .thermalCritical k temp e →
    k.val ≠ 1 ∨ s.noStore = false → -40 ≤ temp → temp ≤ 150 →
    let lim (f : Nat → Fld) : Int := s.get (f k)
    let reads (t : State) : Prop := (k.val = 1 → t.get F.thermStsNand = unsigned 8 temp) ∧ (k.val = 2 → t.get F.thermStsCool = unsigned 8 temp) ∧
      (k.val = 0 → t.get F.thermStsDie = unsigned 8 temp)
    (temp < lim F.thermLimCrit →
      (s.thermLevel k = 0 → temp < lim F.thermLimWarn → temp < lim F.thermLimThrottle → temp < lim F.thermLimTwi →
        Answers (exec i s) fun t => t.thermLevel k = 0 ∧ reads t ∧ Touches [.regs, .y, .now] s t) ∧
      (s.thermLevel k = 0 → lim F.thermLimWarn ≤ temp → temp < lim F.thermLimThrottle → temp < lim F.thermLimTwi →
        Answers (exec i s) fun t => t.thermLevel k = 1 ∧ reads t ∧ t.get (F.cause pgTherm Ev.tempWarn) = 1 ∧
          t.get (F.cause pgTherm Ev.tempThrottle) = s.get (F.cause pgTherm Ev.tempThrottle) ∧ Touches [.regs, .msix, .out, .y, .now] s t) ∧
      (s.thermLevel k = 0 → lim F.thermLimThrottle ≤ temp → temp < lim F.thermLimTwi →
        Answers (exec i s) fun t => t.thermLevel k = 2 ∧ reads t ∧ t.get (F.cause pgTherm Ev.tempWarn) = 1 ∧
          t.get (F.cause pgTherm Ev.tempThrottle) = 1 ∧ Touches [.regs, .msix, .out, .y, .now] s t) ∧
      (s.thermLevel k < 3 → lim F.thermLimTwi ≤ temp → s.mode = mNoon ∨ s.mode = mAfternoon →
        Answers (exec i s) fun t => t.thermLevel k = 3 ∧ reads t ∧ t.get (F.cause pgTherm Ev.tempTwilight) = 1 ∧
          ModeChanges s t mTwilight ∧ bit (t.word F.modeCauseCause.reg) 2 = true ∧ EndpointStopped t) ∧
      (s.thermLevel k = 1 → temp < lim F.thermLimThrottle → temp < lim F.thermLimTwi → Answers (exec i s) fun t =>
        t.thermLevel k = (if lim F.thermLimWarn - 5 < temp then 1 else 0) ∧ reads t ∧ Touches [.regs, .y, .now] s t)) ∧
    (lim F.thermLimCrit ≤ temp → s.mainOff = false → s.noStore = false → Answers (exec i s) fun t => ModeChanges s t mNightfall ∧
      t.get F.modeStsThermLatch = 1 ∧ t.get F.pwrCtlSwOff = 1 ∧ t.fetOn = false ∧ t.pg = false ∧ EnginesGone t)) ∧
  (∀ (k : Fin 3) (e : Env) (s : State),
    (k.val = 1 → s.noStore = true → exec (.sensorFail k e) s = .next (s.upd fun m => m.at e)) ∧
    (k.val ≠ 1 ∨ s.noStore = false → s.thermLevel k = 0 → s.get (F.thermLimThrottle k) < s.get (F.thermLimTwi k) →
      Answers (exec (.sensorFail k e) s) fun t => t.get F.thermStsSensorFail = 1 ∧ t.thermLevel k = 2 ∧ k.val ∈ t.y.sensorsOut ∧
        t.get (F.cause pgTherm Ev.sensorFail) = 1 ∧ t.get (F.cause pgTherm Ev.tempThrottle) = 1 ∧
        Touches [.regs, .msix, .out, .y, .now] s t)) ∧
  ∀ (k : Nat) (e : Env) (s : State) (p : Opened) (cid : Nat) (c : Conn), s.Receives k p cid c → p.opcode = wMgmtReq → c.canAnswer = true →
    let answers (t : State) (body : List Byte) : Prop := Accepts t p cid ∧ PostsBack s t cid c
      { Msg.new .mgmtRsp wMgmtRsp p.tc body.length (.inline body) with xdata := pXdata p % 2 ^ 16 }
    (s.isManager p.src = false ∨ p.nd ≠ 0 → Answers (exec (.mgmtReq k e) s) fun t =>
      answers t ((entriesOf 32 p.payload).flatMap fun b => entryAnswer b 2 0) ∧ Touches sendParts s t) ∧
    (∀ b, s.isManager p.src = true → p.nd = 0 → p.payload = b → b.length = 16 →
      (fieldLE b 0 1 = 1 → fieldLE b 2 2 % 2 ^ 12 * 0x1000 + fieldLE b 4 2 % 2 ^ 12 = F.modeStsMode.reg →
        Answers (exec (.mgmtReq k e) s) fun t => answers t (entryAnswer b 0 (s.word F.modeStsMode.reg).toNat) ∧ Touches sendParts s t) ∧
      (fieldLE b 0 1 = 2 → fieldLE b 2 2 % 2 ^ 12 * 0x1000 + fieldLE b 4 2 % 2 ^ 12 = F.govCtlEn.reg →
        Answers (exec (.mgmtReq k e) s) fun t => answers t (entryAnswer b 0 0) ∧ Touches sendParts s t ∧
          t.get F.govCtlEn = fieldLE b 8 8 % 2 ∧ t.get F.govCtlFreeze = fieldLE b 8 8 / 2 % 2))

/-- R617 and R650 to R668. mid_cause after a drop under R662 is a free value (log 24). -/
def Obligations.TheFrontEndRampsAndTrips : Prop :=
  ∀ (x : Meas) (e : Env) (s : State),
    let m := s.sampled x e
    (m.feState = feWait → m.feMay = true → ∀ n, m.y.fe.waitAt = some n →
      (m.now < n + 10000000 → exec (.rampStart x e) s = .next m) ∧
      (n + 10000000 ≤ m.now → Answers (exec (.rampStart x e) s) fun t => t.feState = feRamp ∧ t.y.fe.rampAt = some m.now ∧
        t.y.fe.inrush = true ∧ t.y.fe.rampCfg = s.word F.pwrCfgFoldW.reg ∧ Touches [.regs, .y] m t)) ∧
    (m.feState = feRamp → ∀ n, m.y.fe.rampAt = some n →
      (n + 5000000 ≤ m.now → m.now < n + 5000040 →
        (x.vout ≤ 200 → x.fold = true → Answers (exec (.shortCheck x e) s) fun t => Trips m t tripShort) ∧
        (200 < x.vout ∨ x.fold = false → exec (.shortCheck x e) s = .next m)) ∧
      (n + 5000000 ≤ m.now → x.fold = true → Answers (exec (.rampCollapse x e) s) fun t => Trips m t tripCollapse) ∧
      (m.now < n + 5000000 ∨ x.fold = false → exec (.rampCollapse x e) s = .next m) ∧
      (m.y.fe.inrush = true → n + bits m.y.fe.rampCfg 63 48 * 1000000 ≤ m.now →
        Answers (exec (.inrushTimeout x e) s) fun t => Trips m t tripInrush) ∧
      (m.now < n + bits m.y.fe.rampCfg 63 48 * 1000000 → exec (.inrushTimeout x e) s = .next m)) ∧
    (m.feState = feRun →
      (m.flag F.pwrStsIlim = false → 9000 ≤ x.iin → Answers (exec (.currentLimit true x e) s) fun t => t.get F.pwrStsIlim = 1 ∧
        t.y.fe.runAt = some m.now ∧ t.y.fe.runCfg = s.word F.pwrCfgFoldW.reg ∧ t.pg = m.pg ∧ Touches [.regs, .y] m t) ∧
      (x.iin < 9000 → x.enhanced = true → Answers (exec (.currentLimit false x e) s) fun t => t.get F.pwrStsIlim = 0 ∧
        t.y.fe.runAt = none ∧ t.pg = m.pg ∧ t.feState = feRun ∧ Touches [.regs, .y] m t) ∧
      (∀ n, m.flag F.pwrStsIlim = true → m.y.fe.runAt = some n → 9000 ≤ x.iin ∨ x.enhanced = false →
        (n + bits m.y.fe.runCfg 47 32 * 1000 ≤ m.now → Answers (exec (.runTimeout x e) s) fun t => Trips m t tripRun) ∧
        (m.now < n + bits m.y.fe.runCfg 47 32 * 1000 → exec (.runTimeout x e) s = .next m)) ∧
      (m.pg = false → 92 * x.vin ≤ 100 * x.vout → x.enhanced = true → m.y.fe.inrush = false → m.flag F.pwrStsIlim = false →
        (s.mode ≠ mMidnight → Answers (exec (.pgRise x e) s) fun t => t.pg = true ∧ t.y.fe.pgAt = some m.now ∧ t.y.fe.fault = false ∧
          t.get (F.cause pgPwr Ev.pgRise) = 1 ∧ t.mode = s.mode ∧ Touches [.regs, .msix, .out, .y] m t) ∧
        (s.mode = mMidnight → s.straps.due = false → s.get F.modeStsThermLatch = 0 → Answers (exec (.pgRise x e) s) fun t => t.pg = true ∧
          ModeChanges s t mDawn ∧ t.get F.modeStsBusy = 0 ∧ t.y.dawnWait = false) ∧
        (s.mode = mMidnight → s.straps.due = true ∨ s.get F.modeStsThermLatch = 1 → Answers (exec (.pgRise x e) s) fun t => t.pg = true ∧ t.mode = mMidnight))) ∧
    (m.fetOn = true →
      (30000 ≤ x.iin → Answers (exec (.fastOc x e) s) fun t => Trips m t tripFastOc) ∧
      (x.iin < 30000 → exec (.fastOc x e) s = .next m) ∧
      (150 ≤ max x.sensed x.model → Answers (exec (.fetOt x e) s) fun t => Trips m t tripFetOt) ∧
      (max x.sensed x.model < 150 → exec (.fetOt x e) s = .next m)) ∧
    (20 < (x.sensed - x.model).natAbs ∨ x.sensed < -40 ∨ 200 < x.sensed → Answers (exec (.senseMismatch x e) s) fun t =>
      t.get F.pwrStsSenseMis = 1 ∧ t.get (F.cause pgPwr Ev.senseMismatch) = 1 ∧ t.fetOn = m.fetOn ∧ t.pg = m.pg ∧
      Touches [.regs, .msix, .out, .y] m t) ∧
    (m.pg = true → 100 * x.vout < 80 * x.vin → Answers (exec (.pgDrop x e) s) fun t => TurnsOff m t 6) ∧
    (m.fetOn = true → 80 * x.vin ≤ 100 * x.vout → exec (.pgDrop x e) s = .next m)

/-- R650, R652, R662, R664 to R667, R669 and R672. mid_cause after sw_off is a free value (log 24). -/
def Obligations.TheFetTurnsOffAndRestarts : Prop :=
  (∀ (x : Meas) (e : Env) (s : State),
    let m := s.sampled x e
    (Answers (exec (.pwrEnLow x e) s) fun t => TurnsOff m t 1 ∧ t.get F.pwrStsPwrEn = 0 ∧ t.y.dawnWait = false ∧
      (m.feState ≤ feRun → t.feState = feOff) ∧
      (m.y.dawnWait = true → t.get F.modeStsBusy = 0 ∧ t.get (F.cause pgMode Ev.reqRefused) = 1)) ∧
    (∀ n, m.feState = feLatched → m.y.fe.enLowAt = some n →
      (n + 10000000 ≤ m.now → Answers (exec (.pwrEnRise x e) s) fun t => t.get F.pwrStsPwrEn = 1 ∧ t.get F.pwrStsTries = 0 ∧
        (t.feState = feOff ∨ t.feState = feWait) ∧ Touches [.regs, .y] m t) ∧
      (m.now < n + 10000000 → Answers (exec (.pwrEnRise x e) s) fun t => t.get F.pwrStsPwrEn = 1 ∧ t.feState = feLatched ∧
        t.get F.pwrStsTries = m.get F.pwrStsTries ∧ t.y.fe.enLowAt = none ∧ Touches [.regs, .y] m t)) ∧
    (x.vin < 3850 → Answers (exec (.undervoltage x e) s) fun t => TurnsOff m t 4 ∧ t.get F.pwrStsInOk = 0 ∧
      (m.get F.pwrStsInOk = 1 → t.get (F.cause pgPwr Ev.inputRange) = 1)) ∧
    (6300 < x.vin → Answers (exec (.overvoltage x e) s) fun t => TurnsOff m t 4 ∧ t.get F.pwrStsInOk = 0 ∧
      (m.get F.pwrStsInOk = 1 → t.get (F.cause pgPwr Ev.inputRange) = 1)) ∧
    (Answers (exec (.reverseCurrent x e) s) fun t => TurnsOff m t 4 ∧ t.get F.pwrStsInOk = m.get F.pwrStsInOk) ∧
    (3950 < x.vin → x.vin < 6300 → m.get F.pwrStsInOk = 0 → m.feState = feOff → Answers (exec (.inputRange x e) s) fun t =>
      t.get F.pwrStsInOk = 1 ∧ t.get (F.cause pgPwr Ev.inputRange) = 1 ∧
      (if (m.upd fun m => m.put F.pwrStsInOk 1).feMay then t.feState = feWait ∧ t.y.fe.waitAt = some m.now else t.feState = feOff) ∧
      Touches [.regs, .msix, .out, .y] m t) ∧
    (∀ n, m.feState = feCool → m.y.fe.coolAt = some n →
      (n + 1000000000 ≤ m.now → max x.sensed x.model < 70 → Answers (exec (.coolEnd x e) s) fun t => t.y.fe.coolAt = none ∧
        (t.feState = feOff ∨ t.feState = feWait) ∧ t.get F.pwrStsTries = m.get F.pwrStsTries ∧ Touches [.regs, .y] m t) ∧
      (m.now < n + 1000000000 ∨ 70 ≤ max x.sensed x.model → exec (.coolEnd x e) s = .next m)) ∧
    (∀ n, m.feState = feRun → m.pg = true → m.y.fe.pgAt = some n →
      (n + 10000000000 ≤ m.now → Answers (exec (.triesReset x e) s) fun t => t.get F.pwrStsTries = 0 ∧ t.pg = true ∧
        RegsKept (fun a => a = F.pwrStsTries.reg) m t ∧ Touches [.regs] m t) ∧
      (m.now < n + 10000000000 → exec (.triesReset x e) s = .next m)) ∧
    (m.pg = true → m.y.fe.auxGone = false → Answers (exec (.auxLost x e) s) fun t => t.get F.pwrStsAuxOk = 0 ∧ t.y.fe.auxGone = true ∧
      t.get (F.cause pgPwr Ev.auxLost) = 1 ∧ t.pg = true ∧ t.mode = s.mode ∧ Touches [.regs, .msix, .out, .y] m t)) ∧
  ∀ (w : Wr) (e : Env) (s : State) (i : Instr), i = .swOff w e ∨ i = .latchClear w e → s.Arrives w F.pwrCtlSwOff.reg → w.half ≠ .hi →
    (bit w.value 1 = true → Answers (exec i s) fun t => t.get F.pwrCtlSwOff = 1 ∧ t.fetOn = false ∧ t.pg = false ∧
      (s.fetOn = true → t.y.fe.offBy = 6) ∧ (s.pg = true → t.get (F.cause pgPwr Ev.pgFall) = 1) ∧
      Touches [.regs, .msix, .out, .y, .now] s t) ∧
    (bit w.value 2 = true → s.feState = feLatched → Answers (exec i s) fun t => t.get F.pwrStsTries = 0 ∧
      (t.feState = feOff ∨ t.feState = feWait) ∧ Touches [.regs, .msix, .out, .y, .now] s t) ∧
    (bit w.value 1 = false → bit w.value 2 = false ∨ s.feState ≠ feLatched → Answers (exec i s) fun t => t.get F.pwrCtlSwOff = 0 ∧
      t.fetOn = s.fetOn ∧ t.pg = s.pg ∧ t.get F.pwrStsTries = s.get F.pwrStsTries ∧ Touches [.regs, .y, .now] s t)

/-- R672 to R684 and R688. A nonce drawn is a free value (log 3). -/
def Obligations.ResetsClearTheirScope : Prop :=
  (∀ (x : Meas) (e : Env) (ret : Bool) (s : State) (i : Instr),
    let m := if i = .auxLost x e then s.sampled x e else s
    (i = .coldReset ret ∧ (ret = false ∨ s.y.fe.auxGone = false ∨ s.pg = false)) ∨ (i = .auxLost x e ∧ m.pg = false) →
    Answers (exec i s) fun t => t.mode = mMidnight ∧ EnginesGone t ∧ t.fuses = s.fuses ∧ t.y.nor = s.y.nor ∧ t.st.objs = s.st.objs ∧
      t.st.state = .off ∧ t.straps.sampled = none ∧ t.feState = feOff ∧ t.pg = false ∧ t.groupValid = false ∧
      t.get F.rstLastValid = 1 ∧ t.get F.rstLastKind = 0 ∧ t.get F.rstLastCount = 0 ∧ t.get F.modeStsThermLatch = 0 ∧
      (∀ r, i = .coldReset r → t.get F.rstLastSource = b2n r) ∧ ∀ f ∈ [F.govCtlEn, F.modeCfgHostTo, F.modeCfgDuskTo, F.pwrCfgRetries],
        t.get f = State.reset.get f) ∧
  (∀ s : State, s.y.fe.auxGone = true → s.pg = true → Answers (exec (.coldReset true) s) fun t => t.get F.pwrStsAuxOk = 1 ∧
    t.y.fe.auxGone = false ∧ t.mode = s.mode ∧ RegsKept (fun a => a = F.pwrStsAuxOk.reg) s t ∧ Touches [.regs, .y] s t) ∧
  (∀ (w : Wr) (e : Env) (s : State) (i : Instr), i = .fabricReset w e ∨ i = .moduleReset (.reg w) e ∨ i = .mmpReset (some w) e →
    s.Arrives w F.rstCtlModule.reg → s.writeFits F.rstCtlModule.reg w = true → s.y.resetWait = false → s.mainOff = false →
    s.mode ≠ mDawn → s.y.resetLow = false → let v := writeOnes w
    (bit v 62 = true → w.master.toNat = 8 ∨ w.master.toNat = 10 → Answers (exec i s) fun t => ModeChanges s t mDawn ∧ EnginesGone t ∧
      t.get F.devFaddrValid = 0 ∧ t.get F.devFaddrGroup = 0 ∧ t.get F.rstLastKind = 1 ∧ t.get F.rstLastSource = 3 ∧
      t.get F.rstLastMaster = w.master.toNat ∧ t.get F.modeStsThermLatch = s.get F.modeStsThermLatch ∧
      ∀ a, a / 0x1000 = pgPwr → t.word a = s.word a) ∧
    (bit v 62 = false ∨ (w.master.toNat ≠ 8 ∧ w.master.toNat ≠ 10) → bit v 63 = true → Answers (exec i s) fun t => ModeChanges s t mDawn ∧
      EnginesGone t ∧ t.get F.devFaddrValid = s.get F.devFaddrValid ∧ t.get F.devFaddrGroup = s.get F.devFaddrGroup ∧
      t.get F.rstLastKind = 2 ∧ t.get F.rstLastSource = 3 ∧ t.get F.rstLastMaster = w.master.toNat ∧
      t.get F.modeStsThermLatch = s.get F.modeStsThermLatch ∧ ∀ a, a / 0x1000 = pgPwr → t.word a = s.word a) ∧
    (bit v 63 = false → bit v 60 = false → bit v 62 = false ∨ (w.master.toNat ≠ 8 ∧ w.master.toNat ≠ 10) →
      (bit v 61 = false ∨ w.master.toNat = 8 → Answers (exec i s) fun t => t.mode = s.mode ∧ Touches [.regs, .now] s t ∧
        RegsKept (fun a => a = F.rstCtlModule.reg) s t) ∧
      (bit v 61 = true → w.master.toNat ≠ 8 → Answers (exec i s) fun t => t.get F.rstLastKind = 3 ∧ t.get F.rstLastSource = 3 ∧
        t.get F.rstLastMaster = w.master.toNat ∧ (t.mode = s.mode ∨ (t.mode = mTwilight ∧ bit (t.word F.modeCauseCause.reg) 0 = true))))) ∧
  (∀ (e : Env) (s : State), s.y.resetWait = false →
    (Answers (exec (.moduleReset .pin e) s) fun t => t.y.resetLow = true ∧ t.y.resetWait = true ∧ t.mode = s.mode ∧ EnginesGone t ∧
      t.get F.rstLastKind = 2 ∧ t.get F.rstLastSource = 2 ∧ t.get F.rstLastMaster = 0 ∧ t.get F.devFaddrValid = s.get F.devFaddrValid) ∧
    (Answers (exec (.modResetRelease e) s) fun t => t.y = { s.y with resetLow := false } ∧ Touches [.y, .now] s t) ∧
    Answers (exec (.mmpReset none e) s) fun t => t.get F.rstLastKind = 3 ∧ t.get F.rstLastSource = 5 ∧ t.get F.rstLastMaster = 0 ∧
      (s.mode = mDawn → t.mode = mDawn ∧ t.x = s.x ∧ t.n = s.n) ∧
      (t.mode = s.mode ∨ (t.mode = mTwilight ∧ bit (t.word F.modeCauseCause.reg) 0 = true))) ∧
  (∀ (e : Env) (s : State), s.y.resetWait = true →
    (s.mainOff = false → s.mode ≠ mDawn → Answers (exec (.modResetRelease e) s) fun t => ModeChanges s t mDawn ∧ t.y.resetWait = false ∧
      t.y.resetLow = false) ∧
    (s.mainOff = true → Answers (exec (.modResetRelease e) s) fun t => t.mode = s.mode ∧ t.y.resetWait = false)) ∧
  (∀ (i : Fin 4) (perst : Bool) (e : Env) (s : State),
    (s.hostThere i = false → (Answers (exec (.hostLinkReset i perst e) s) fun t => (i.val ∈ t.y.perstLow ↔ perst = true) ∧
      (∀ n : Fin 256, t.get (F.semLockOwner n) ≠ i + 1) ∧ Touches [.regs, .msix, .out, .y, .now] s t) ∧ exec (.functionReset i e) s = .next (s.upd fun m => m.at e)) ∧
    (s.hostThere i = true → s.running = false → s.get F.xptConntabLink ≠ i →
      (Answers (exec (.hostLinkReset i perst e) s) fun t => t.linkUp i = false ∧ t.msixFn i = MsixFn.init ∧ t.flag (F.hostLstsPerst i) = perst ∧
        (s.linkUp i = true → t.get (F.cause (pgHost i) Ev.hostDown) = 1) ∧ t.dtu = Dtu.init ∧ t.x.dirs = [] ∧ (∀ p ∈ t.x.regions, p.2.revoking = true) ∧
        t.x.conns = s.x.conns ∧ t.x.keys = s.x.keys ∧ t.n = s.n ∧ t.q = s.q) ∧
      (Answers (exec (.functionReset i e) s) fun t => t.linkUp i = s.linkUp i ∧ t.msixFn i = MsixFn.init ∧ t.dtu = Dtu.init ∧
        t.x.dirs = [] ∧ (∀ p ∈ t.x.regions, p.2.revoking = true) ∧ t.x.conns = s.x.conns ∧ t.x.keys = s.x.keys ∧ t.n = s.n ∧ t.q = s.q))) ∧
  (∀ (page : BitVec 12) (w : Wr) (e : Env) (s : State), s.Arrives w (page.toNat * 0x1000 + 0x18) → w.half ≠ .hi → bit w.value 2 = true →
    (∀ j < 4, page.toNat = pgXpt j → Answers (exec (.tileReset page w e) s) fun t => t.x.conns = [] ∧ t.x.evicted = [] ∧
      t.x.keys = s.x.keys ∧ ∃ k, s.draws ≤ k ∧ k < t.draws ∧ t.get F.xptNonceNonce = Config.draw k % 2 ^ 64) ∧
    (page.toNat = pgDtu → Answers (exec (.tileReset page w e) s) fun t => t.dtu = Dtu.init ∧ t.x = s.x ∧ t.n = s.n) ∧
    (∀ j < 2, page.toNat = pgMatch j → (∀ p ∈ s.mt.ctxs, (s.cr p.2.cr).isSome) → Answers (exec (.tileReset page w e) s) fun t =>
      (∀ p ∈ t.mt.ctxs, mtTile p.1 ≠ j) ∧ (∀ x, mtTile x ≠ j → t.mctx x = s.mctx x) ∧ t.q.done = s.q.done ∧ t.out = s.out ∧ t.cl = s.cl) ∧
    (∀ j < 2, page.toNat = pgColl j → (∀ p ∈ s.cl.ctxs, (s.cr p.2.cr).isSome) → Answers (exec (.tileReset page w e) s) fun t =>
      (∀ p ∈ t.cl.ctxs, collTile p.1 ≠ j) ∧ (∀ x, collTile x ≠ j → t.coll x = s.coll x) ∧ t.mt.ctxs = s.mt.ctxs) ∧
    (page.toNat = pgQctl → Answers (exec (.tileReset page w e) s) fun t => t.q.wqs = [] ∧ t.q.crs = [] ∧ t.q.ops = [] ∧
      t.get (F.pgEnable pgQctl) = 0) ∧
    (page.toNat = pgStore → s.noonish = true → s.noStore = false → Answers (exec (.tileReset page w e) s) fun t =>
      t.st.state = .scanning ∧ t.st.staged = [] ∧ t.st.commits = []) ∧
    (∀ n : Fin 64, page.toNat = pgTile n → (tileKind n).1 = 6 ∨ (tileKind n).1 = 9 → Answers (exec (.tileReset page w e) s) fun t =>
      Touches [.regs, .now] s t) ∧
    (∀ p : Fin 48, page.toNat = pgPort p → p.val < 46 → s.isUp (leadDuo p) = true → isPort (leadDuo p) = true →
      Answers (exec (.portReset page w e) s) fun t => t.isUp (leadDuo p) = false ∧ (t.port (leadDuo p)).replay = [] ∧
        (t.port (leadDuo p)).stateValid = false ∧ (t.port (leadDuo p)).graceEnd = none ∧
        (∀ n ∈ s.lanesOf (leadDuo p), (t.lane n).saved = none) ∧ ∃ f, Emit.flit (leadDuo p) f ∈ t.out ∧ IsCtl f 1 4) ∧
    (∀ n : Fin 96, page.toNat = pgLane n → s.laneStage n ≠ lgOff → s.laneInUse n = false → Answers (exec (.laneReset page w e) s) fun t =>
      t.laneStage n = lgPower ∧ (t.lane n).saved = none ∧ ∀ k : Fin 96, k ≠ n → t.laneStage k = s.laneStage k)) ∧
  ∀ (w : Wr) (e : Env) (s : State), s.Arrives w F.rstCtlModule.reg → s.writeFits F.rstCtlModule.reg w = true → w.half = .full →
    s.y.resetWait = false → s.mainOff = false → bits w.value 63 61 = 0 → bit w.value 60 = true → let n := bits w.value 6 0
    s.laneStage n ≠ lgOff → s.laneInUse n = false → n < 96 →
    Answers (exec (.laneReset (BitVec.ofNat 12 pgRst) w e) s) fun t => t.laneStage n = lgPower ∧
      (t.lane n).saved = if bit w.value 59 then (s.lane n).saved else none

/-- R690, R691, R693, R695, R696, R707 and R712. -/
def Obligations.FirmwareIsUpdated : Prop :=
  ∀ (r : FwReq) (e : Env) (s : State),
    let may : Prop := s.mode = mSmallHours ∨ (s.mode = mDawn ∧ s.y.recovery = true)
    let may2 : Prop := s.mode = mNoon ∨ s.mode = mAfternoon ∨ s.mode = mSmallHours
    let active := (s.y.nor.dir.map (·.active)).getD 0xFF
    let seqFits : Prop := (s.y.nor.dir.map (·.seq)).getD 0 + 1 < 2 ^ 32
    let booted := s.get F.trustStsSlot
    let ends (t : State) (res : Nat) : Prop := FwEnds s t r res [] ∧ t.y = s.y ∧ t.fuses = s.fuses
    (s.FwAsks r 0 → Answers (exec (.fwOpen r e) s) fun t =>
      let slot := match r with
        | .reg _ => t.get F.trustFwctlSlot
        | .mctp msg => fieldLE msg 4 1
      let bad : Prop := 1 < slot ∨ (s.y.recovery = false ∧ (1 < active ∨ slot = active))
      (¬ may → ends t 1) ∧ (may → bad → ends t 4) ∧
      (may → ¬ bad → FwEnds s t r 0 [] ∧ t.fuses = s.fuses ∧ t.get F.trustFwctlSlot = slot ∧ t.y.nor.slot slot = [] ∧
        t.y.nor.slot (1 - slot) = s.y.nor.slot (1 - slot) ∧ slot ∉ t.y.nor.barred ∧
        (seqFits → ∃ d, t.y.nor.dir = some d ∧ d.active = active ∧ d.pending = 0xFF ∧ d.tries = 0))) ∧
    (s.FwAsks r 1 → Answers (exec (.fwWrite r e) s) fun t =>
      let slot := t.get F.trustFwctlSlot
      let off := match r with
        | .reg _ => s.get F.trustFwoffOffset * 1024
        | .mctp msg => fieldLE msg 4 4
      let bs := match r with
        | .reg _ => s.window
        | .mctp msg => msg.drop 8
      let bad : Prop := bs = [] ∨ 4096 < bs.length ∨ 28 * 2 ^ 20 < off + bs.length
      (¬ may → ends t 1) ∧ (may → bad → ends t 4) ∧
      (may → ¬ bad → FwEnds s t r 0 [] ∧ t.fuses = s.fuses ∧ t.y.nor = s.y.nor.setSlot slot (t.y.nor.slot slot) ∧
        ∀ i, Sparse.read (fun _ => 0xFF) (t.y.nor.slot slot) i =
          if off ≤ i ∧ i < off + bs.length then Sparse.read (fun _ => 0xFF) (s.y.nor.slot slot) i &&& (bs[i - off]?).getD 0
          else Sparse.read (fun _ => 0xFF) (s.y.nor.slot slot) i)) ∧
    (s.FwAsks r 2 → Answers (exec (.fwVerify r e) s) fun t =>
      let slot := t.get F.trustFwctlSlot
      let h := s.y.nor.header slot
      let root := fieldLE h 0x14 1
      t.y = s.y ∧ t.fuses = s.fuses ∧ (¬ may → FwEnds s t r 1 [1]) ∧
      (may → headerOk h = false → FwEnds s t r 4 [4]) ∧
      (may → headerOk h = true → nbit s.fuses.revoked root = true → FwEnds s t r 2 [2]) ∧
      (may → ∃ res, FwEnds s t r res [BitVec.ofNat 8 res] ∧ (res = 0 ↔ headerOk h = true ∧ nbit s.fuses.revoked root = false ∧
        hssCheck (beBytes 60 (Config.rootKey root)) h (s.y.nor.read slot 0x100 1776) = true ∧
        ∀ c ∈ imgComps h, s.fuses.ctr c.id ≤ c.svn ∧ s.y.nor.digestOk slot c = true))) ∧
    (s.FwAsks r 3 → Answers (exec (.fwActivate r e) s) fun t => (¬ may → ends t 1) ∧
      (may → FwEnds s t r 0 [] ∧ t.fuses = s.fuses ∧ t.y.nor.slotA = s.y.nor.slotA ∧ t.y.nor.slotB = s.y.nor.slotB ∧
        (seqFits → ∃ d, t.y.nor.dir = some d ∧ d.active = active ∧ d.pending = t.get F.trustFwctlSlot ∧ d.tries = 3))) ∧
    (s.FwAsks r 4 → Answers (exec (.fwConfirm r e) s) fun t => (¬ may2 → ends t 1) ∧
      (may2 → (∀ d, s.y.nor.dir = some d → d.pending ≠ booted) → ends t 5) ∧
      (∀ d, may2 → s.y.nor.dir = some d → d.pending = booted → FwEnds s t r 0 [] ∧ t.fuses = s.fuses ∧ t.y.nor.slotA = s.y.nor.slotA ∧
        t.y.nor.slotB = s.y.nor.slotB ∧
        (seqFits → ∃ d', t.y.nor.dir = some d' ∧ d'.active = booted ∧ d'.pending = 0xFF ∧ d'.tries = 0 ∧ d'.seq = d.seq + 1))) ∧
    (s.FwAsks r 5 → Answers (exec (.fwAdvance r e) s) fun t => (¬ may2 → ends t 1) ∧
      (may2 → (∀ d, s.y.nor.dir = some d → d.active ≠ booted ∨ d.pending ≤ 1) → ends t 5) ∧
      (∀ d, may2 → s.y.nor.dir = some d → d.active = booted → 1 < d.pending → FwEnds s t r 0 [] ∧
        t.fuses = { s.fuses with
          ctr1 := max s.fuses.ctr1 (min 64 (s.get F.trustSvnRun1))
          ctr2 := max s.fuses.ctr2 (min 64 (s.get F.trustSvnRun2))
          ctr3 := max s.fuses.ctr3 (min 64 (s.get F.trustSvnRun3)) } ∧
        t.y.nor = { s.y.nor with barred := t.y.nor.barred } ∧
        (t.fuses.ctr1 < 256 → t.get F.trustSvnCtr1 = t.fuses.ctr1) ∧
        ((1 - booted) ∈ t.y.nor.barred ↔ (1 - booted) ∈ s.y.nor.barred ∨
          ∃ c ∈ imgComps (s.y.nor.header (1 - booted)), c.svn < t.fuses.ctr c.id)))

/-- R622, R694, R698, R702, R703, R705 to R707 and R709 to R711. The root keys and the wrapping key are the implementation's (log 87); a challenge drawn is one too (log 3). -/
def Obligations.SidebandAnswersAndAttests : Prop :=
  (∀ (msg : List Byte) (e : Env) (s : State) (i : Instr),
    i = .getCert msg e ∧ msgCode msg = 2 ∨ i = .setMgmtKey msg e ∧ msgCode msg = 3 ∨ i = .regAccess msg e ∧ msgCode msg = 4 ∨
      i = .debugChallenge msg e ∧ msgCode msg = 0x20 ∨ i = .debugUnlock msg e ∧ msgCode msg = 0x21 →
    s.mode = mDawn → s.y.recovery = true → Answers (exec i s) fun t => Replies s t msg 2 [] ∧ Touches [.out, .now] s t) ∧
  (∀ (msg : List Byte) (e : Env) (s : State), msgCode msg = 1 → let cert := nbit (fieldLE msg 4 4) 0
    (s.fuses.lifecycle = 2 → Answers (exec (.getReport msg 0 e) s) fun t => Replies s t msg 2 [] ∧ Touches [.out, .now] s t) ∧
    (s.fuses.lifecycle ≠ 2 → s.y.nor.limit ≤ s.y.idLimit → s.y.logDigest.length = 32 → (∀ l ∈ s.y.log, l.digest.length = 32) →
      (s.y.idNext < s.y.idLimit → Answers (exec (.getReport msg 0 e) s) fun t => t.y = { s.y with idNext := s.y.idNext + 1 } ∧
        (∃ b, Replies s t msg 0 b ∧ b.length = s.reportLength cert ∧ fieldLE b 0 4 = 0x52415849 ∧ fieldLE b 4 2 = 1 ∧
          nbit (fieldLE b 6 2) 0 = cert ∧ fieldLE b 8 4 = s.fuses.serial % 2 ^ 32 ∧ fieldLE b 0x0F 1 = s.mode ∧
          fieldLE b 0x28 4 = s.y.idNext % 2 ^ 32 ∧ fieldLE b 0x2C 2 = s.y.log.length % 2 ^ 16 ∧
          (b.drop 0x30).take 32 = fitBytes 32 ((msg.drop 8).take 32) ∧ (b.drop 0x50).take 32 = s.y.logDigest ∧
          (b.drop 0x80).take (48 * s.y.log.length) = s.y.log.flatMap LogEnt.bytes ∧
          (b.drop (0x80 + 48 * s.y.log.length)).take 3124 =
            leBytes 3124 (Config.identitySign s.y.idNext (b.take (0x80 + 48 * s.y.log.length)))) ∧
        Touches [.regs, .out, .y, .now] s t) ∧
      (s.y.idLimit ≤ s.y.idNext → 2 ^ 25 < s.y.idNext + 1024 → Answers (exec (.getReport msg 0 e) s) fun t => Replies s t msg 5 [] ∧
        t.y = s.y ∧ Touches [.regs, .out, .y, .now] s t))) ∧
  (∀ (msg : List Byte) (e : Env) (s : State), (s.mode = mDawn → s.y.recovery = false) →
    (msgCode msg = 2 → Answers (exec (.getCert msg e) s) fun t => Replies s t msg 0 (fitBytes 1844 s.y.nor.cert) ∧
      Touches [.out, .now] s t) ∧
    (msgCode msg = 3 → let key := leNat (fitBytes 32 (msg.drop 4))
      (s.fuses.lifecycle = 2 → Answers (exec (.setMgmtKey msg e) s) fun t => Replies s t msg 2 [] ∧ Touches [.out, .now] s t) ∧
      (s.fuses.lifecycle ≠ 2 → Answers (exec (.setMgmtKey msg e) s) fun t => Replies s t msg 0 [] ∧ t.y.nor.mgmtKey = some (aesWrap wrapKey (fitBytes 32 (msg.drop 4))) ∧
        (s.mainOff = false → KMap.get t.x.keys 0 = some { nd := 0, key := key } ∧ t.get (F.trustKslotUsed 0) = 1 ∧
          t.get (F.trustKslotNd 0) = 0 ∧ ∀ k, k ≠ 0 → KMap.get t.x.keys k = KMap.get s.x.keys k) ∧
        (s.y.log.length < 32 → ∃ d, t.y.log = s.y.log ++ [⟨9, 0xFF, 0, 0, d⟩] ∧
          t.y.logDigest = sha256 (s.y.logDigest ++ LogEnt.bytes ⟨9, 0xFF, 0, 0, d⟩)) ∧
        t.x.conns = s.x.conns ∧ t.q = s.q)) ∧
    (msgCode msg = 0x20 → let c := leBytes 32 (Config.draw s.draws)
      Answers (exec (.debugChallenge msg e) s) fun t => Replies s t msg 0 c ∧ t.y = { s.y with challenge := some c } ∧
        t.draws = s.draws + 1 ∧ Touches [.out, .draws, .y, .now] s t) ∧
    (msgCode msg = 0x21 →
      (s.y.challenge = none → Answers (exec (.debugUnlock msg e) s) fun t => Replies s t msg 3 [] ∧ Touches [.out, .now] s t) ∧
      (∀ c, s.y.challenge = some c →
        let ok (k : Nat) : Prop := nbit s.fuses.revoked k = false ∧
          hssCheck (beBytes 60 (Config.rootKey k)) (leBytes 4 s.fuses.serial ++ c) (fitBytes 1776 (msg.drop 4)) = true
        Answers (exec (.debugUnlock msg e) s) fun t => t.y.challenge = none ∧
          (ok 0 ∨ ok 1 → Replies s t msg 0 [] ∧ t.get F.trustStsDebug = 1 ∧ t.get (F.cause (pgTrust 0) Ev.debugUnlock) = 1 ∧
            (s.y.log.length < 32 → t.y.log = s.y.log ++ [⟨8, 0xFF, 0, 0, sha256 msg⟩])) ∧
          (¬ (ok 0 ∨ ok 1) → Replies s t msg 3 [] ∧ Touches [.out, .y, .now] s t))) ∧
    (msgCode msg = 4 → ∀ b, msg.drop 4 = b → b.length = 16 →
      let op := fieldLE b 0 1
      let addr := fieldLE b 2 2 % 2 ^ 12 * 0x1000 + fieldLE b 4 2 % 2 ^ 12
      let ans (st v : Nat) := b.take 1 ++ leBytes 1 st ++ (b.drop 2).take 6 ++ leBytes 8 v
      (entryFits op addr = false → Answers (exec (.regAccess msg e) s) fun t => Replies s t msg 0 (ans 1 0) ∧
        Touches [.out, .now] s t) ∧
      (op = 1 → addr % 8 = 0 → isMsixPage (addr / 0x1000) = false → s.reaches addr = true →
        Answers (exec (.regAccess msg e) s) fun t =>
          Replies s t msg 0 (ans 0 ((s.upd fun m => (m.at e).settleInjections).shown addr).toNat) ∧ Touches [.out, .now] s t) ∧
      (op = 2 → addr % 8 = 0 → ∃ u, exec (.registerWrite (BitVec.ofNat 24 addr) ⟨8, .full, BitVec.ofNat 64 (fieldLE b 8 8)⟩ e) s = .next u ∧
        exec (.regAccess msg e) s = .next (u.upd fun m => m.mctpReply msg 0 (ans 0 0))))) ∧
  (∀ (id : Nat) (e : Env) (s : State) (o : Op) (c : WqCtx), s.AdminNext 0xC0 id o → s.wq 0 = some c →
    let cert := nbit (wqeField o.wqe 0x1C 4) 0
    let n := s.reportLength cert
    (s.fuses.lifecycle = 2 → Answers (exec (.getAttestation 0 e) s) fun t => AdminCompletes s t id stAdminState 0 0 ∧
      Touches [.regs, .q, .now] s t) ∧
    (s.fuses.lifecycle ≠ 2 → wqeField o.wqe 0x18 4 < n → Answers (exec (.getAttestation 0 e) s) fun t =>
      AdminCompletes s t id stAdminInvalid 0 0x18 ∧ Touches [.regs, .q, .now] s t) ∧
    (s.fuses.lifecycle ≠ 2 → n ≤ wqeField o.wqe 0x18 4 → 1 < wqeField o.wqe 0x1C 4 → Answers (exec (.getAttestation 0 e) s) fun t =>
      AdminCompletes s t id stAdminInvalid 0 0x1C ∧ Touches [.regs, .q, .now] s t) ∧
    (s.fuses.lifecycle ≠ 2 → n ≤ wqeField o.wqe 0x18 4 → wqeField o.wqe 0x1C 4 ≤ 1 → s.y.nor.limit ≤ s.y.idLimit →
      s.y.idNext < s.y.idLimit → s.y.logDigest.length = 32 → (∀ l ∈ s.y.log, l.digest.length = 32) →
      s.Buffered (fun i => bodyReq c.asid (wqeField o.wqe 0x10 8 + i)) n → Answers (exec (.getAttestation 0 e) s) fun t =>
        AdminCompletes s t id stSuccess n 0 ∧ t.y = { s.y with idNext := s.y.idNext + 1 } ∧ (Written s t).length = n ∧
        fieldLE (Written s t) 0x28 4 = s.y.idNext % 2 ^ 32 ∧
        ((Written s t).drop 0x30).take 32 = fitBytes 32 (((wordBytes o.wqe).drop 0x20).take 32) ∧
        Touches [.regs, .msix, .out, .q, .y, .now] s t)) ∧
  ∀ (id : Nat) (e : Env) (s : State) (o : Op), s.AdminNext 0xC1 id o → let code := wqeField o.wqe 0x10 1
    (∀ r, s.Refuses code r → Answers (exec (.requestMode e) s) fun t =>
      AdminCompletes s t id (if r = 4 then stAdminInvalid else stAdminState) 0 0x10 ∧ t.get F.modeReqResult = r ∧ t.mode = s.mode ∧
      t.get (F.cause pgMode Ev.reqRefused) = 1 ∧ Touches [.regs, .msix, .out, .q, .now] s t) ∧
    (s.flag F.modeStsBusy = false →
      (code = 1 → s.mode = mNoon ∨ s.mode = mAfternoon → Answers (exec (.requestMode e) s) fun t =>
        AdminCompletes s t id stSuccess s.mode 0 ∧ t.get F.modeReqResult = 0 ∧ t.mode = s.mode ∧ Touches [.regs, .q, .now] s t) ∧
      (code = 2 → s.mode = mNoon ∨ s.mode = mAfternoon → Answers (exec (.requestMode e) s) fun t => t.get F.modeReqResult = 0 ∧
        ModeChanges s t mTwilight ∧ EndpointStopped t) ∧
      (code = 3 ∨ code = 4 → s.mode = mNoon ∨ s.mode = mAfternoon ∨ s.mode = mTwilight → Answers (exec (.requestMode e) s) fun t =>
        AdminCompletes s t id stSuccess s.mode 0 ∧ t.get F.modeReqResult = 0 ∧ ModeChanges s t mDusk ∧
        t.get F.modeStsTarget = if code = 3 then mMidnight else mSmallHours))

/-- R548, R719 to R721, R732, R733, R743, R745, R747, R748, R750 and R755 to R757. -/
def Obligations.CountersAreSampledAndPinsAct : Prop :=
  (∀ (w : Wr) (e : Env) (s : State) (i : Instr), i = .freeze w e ∨ i = .snapshot w e → s.Arrives w F.sampleCtrFreeze.reg →
    (w.half = .hi → exec i s = .next (s.upd fun m => m.at e)) ∧
    (w.half ≠ .hi → Answers (exec i s) fun t => t.get F.sampleCtrFreeze = bits w.value 0 0 ∧ bits (t.word F.sampleCtrFreeze.reg) 1 1 =
        bits (s.word F.sampleCtrFreeze.reg) 1 1 ∧
      (bit w.value 1 = false → t.smp = s.smp) ∧
      (bit w.value 1 = true → t.get F.sampleSnaptNs = t.fabricNow % 2 ^ 64 ∧ t.smp = { s.smp with snap := t.smp.snap } ∧
        (∀ a, isCounter a = true → a ∉ s.stoppedCounters → resetWord a = 0 → Sparse.read (fun _ => 0) t.smp.snap a = t.word a) ∧
        (∀ a ∈ s.stoppedCounters, Sparse.read (fun _ => 0) t.smp.snap a = BitVec.ofNat 64 (2 ^ 64 - 1))) ∧
      Touches [.regs, .msix, .out, .n, .smp, .now] s t ∧
      ((∀ l ∈ s.n.lanes, l.2.inj = none) → RegsKept (fun a => a = F.sampleCtrFreeze.reg ∨ (bit w.value 1 = true ∧ a = F.sampleSnaptNs.reg)) s t ∧
        Touches [.regs, .smp, .now] s t))) ∧
  (∀ (w : Wr) (e : Env) (s : State) (i : Instr), i = .sampleEnable w e ∨ i = .sampleDisable w e → s.Arrives w F.sampleCfgEn.reg →
    w.half = .full → bit w.value 63 = true → let n := bits w.value 31 16
    (∀ c, bit w.value 62 = true → s.cr n = some c →
      (∀ r, (24 < bits w.value 52 48 ∧ r = 1) ∨ (bits w.value 52 48 ≤ 24 ∧ ((c.state ≠ .active ∨ c.binds ≠ 0) ∧ r = 2 ∨
          c.state = .active ∧ c.binds = 0 ∧ c.pi % 2 = 1 ∧ r = 3)) →
        Answers (exec i s) fun t => t.get F.sampleCfgResult = r ∧ Touches [.regs, .now] s t) ∧
      (bits w.value 52 48 ≤ 24 → c.state = .active → c.binds = 0 → c.pi % 2 = 0 → s.smp.on = false → Answers (exec i s) fun t =>
        t.get F.sampleCfgResult = 0 ∧ t.get F.sampleStsActive = 1 ∧ t.cr n = some { c with binds := 1 } ∧
        t.smp = { s.smp with
          on := true
          k := bits w.value 52 48
          wqSel := bits w.value 47 32
          cr := n } ∧
        Touches [.regs, .smp, .q, .now] s t)) ∧
    (bit w.value 62 = false → Answers (exec i s) fun t => t.get F.sampleCfgResult = 0 ∧ t.get F.sampleStsActive = 0 ∧
      t.smp.on = false ∧ t.smp.tagged = s.smp.tagged ∧ Touches [.regs, .smp, .q, .now] s t ∧
      (∀ c, s.smp.on = true → s.smp.releasing = [] → s.cr s.smp.cr = some c →
        t.cr s.smp.cr = some (if s.smp.tagged.any (fun g => g.cr = s.smp.cr) then c else { c with binds := c.binds - 1 })))) ∧
  (∀ (k : Fin 2) (e : Env) (s : State),
    let other := s.nrefOk (1 - k.val)
    (s.nrefOk k.val = false → exec (.nrefLost k e) s = .next (s.upd fun m => m.at e)) ∧
    (s.nrefOk k.val = true → Answers (exec (.nrefLost k e) s) fun t => t.nrefOk k.val = false ∧ t.nrefOk (1 - k.val) = other ∧
      t.get (F.cause pgClk Ev.nrefLost) = 1 ∧ t.mode = s.mode ∧ t.q = s.q ∧ t.x = s.x ∧
      (s.get F.clkNrefAct ≠ k → t.get F.clkNrefAct = s.get F.clkNrefAct ∧ Touches [.regs, .msix, .out, .now] s t) ∧
      (s.get F.clkNrefAct = k → s.mainOff = false →
        (other = true → s.flag F.clkNrefAuto = true → t.get F.clkNrefAct = 1 - k.val ∧ t.get (F.cause pgClk Ev.nrefSwitch) = 1) ∧
        (other = true → (∀ n : Fin 96, t.get (F.laneRxstsLock n) = 0) ∧ ∀ p ∈ portList, s.isUp p = true → t.lstate p ≠ lsDown) ∧
        (other = false → t.get (F.cause pgClk Ev.nrefNone) = 1 ∧ t.get F.timeStsSynced = 0 ∧ t.get F.timeStsHoldover = 1 ∧
          ∀ p ∈ portList, t.isUp p = false)))) ∧
  (∀ (k : Fin 2) (e : Env) (s : State),
    (s.nrefOk k.val = true → exec (.nrefGood k e) s = .next (s.upd fun m => m.at e)) ∧
    (s.nrefOk k.val = false → Answers (exec (.nrefGood k e) s) fun t => t.nrefOk k.val = true ∧
      t.nrefOk (1 - k.val) = s.nrefOk (1 - k.val) ∧ t.get F.clkNrefAct = (if s.nrefOk (1 - k.val) then s.get F.clkNrefAct else k.val) ∧
      t.mode = s.mode ∧ t.q = s.q ∧ t.x = s.x ∧ (∀ p ∈ portList, t.lstate p = s.lstate p))) ∧
  (∀ (w : Wr) (e : Env) (s : State), s.Arrives w F.clkNrefSel.reg → w.half ≠ .hi → let k := bits w.value 0 0
    Answers (exec (.nrefSelect w e) s) fun t => t.get F.clkNrefSel = k ∧ t.get F.clkNrefAuto = bits w.value 1 1 ∧
      (s.nrefOk k = false ∨ s.get F.clkNrefAct = k → t.get F.clkNrefAct = s.get F.clkNrefAct ∧
        RegsKept (fun a => a = F.clkNrefSel.reg) s t ∧ Touches [.regs, .now] s t) ∧
      (s.nrefOk k = true → s.get F.clkNrefAct ≠ k → t.get F.clkNrefAct = k ∧ t.get (F.cause pgClk Ev.nrefSwitch) = 1 ∧
        (s.mainOff = false → ∀ n : Fin 96, t.get (F.laneRxstsLock n) = 0))) ∧
  (∀ (i : Fin 4) (e : Env) (s : State),
    Answers (exec (.refLost i e) s) (fun t => i.val ∈ t.y.refLost ∧
      (s.hostThere i = false → Touches [.y, .now] s t) ∧
      (s.hostThere i = true → t.linkUp i = false ∧ t.get (F.hostLstsRefclkLost i) = 1 ∧ t.get (F.cause (pgHost i) Ev.refLost) = 1 ∧
        (s.linkUp i = true → t.get (F.cause (pgHost i) Ev.hostDown) = 1) ∧ t.dtu = Dtu.init)) ∧
    Answers (exec (.refclkReturn i e) s) (fun t => t.y = { s.y with refLost := s.y.refLost.filter (· ≠ i.val) } ∧
      (s.hostThere i = true → t.get (F.hostLstsRefclkLost i) = 0) ∧ RegsKept (fun a => a = (F.hostLstsRefclkLost i).reg) s t ∧
      Touches [.regs, .y, .now] s t)) ∧
  (∀ (i : Fin 4) (rate : Fin 8) (width : Fin 17) (rev atomic : Bool) (e : Env) (s : State),
    let full := arrangedWidth s.hostMode i
    let ok : Prop := s.hostThere i = true ∧ s.linkUp i = false ∧ i.val ∉ s.y.refLost ∧ 1 ≤ rate.val ∧
      width.val ∈ [1, 2, 4, 8, 16] ∧ width.val ≤ full
    (¬ ok → exec (.hostLinkUp i rate width rev atomic e) s = .next (s.upd fun m => m.at e)) ∧
    (ok → Answers (exec (.hostLinkUp i rate width rev atomic e) s) fun t => t.linkUp i = true ∧ t.get (F.hostLstsRate i) = rate ∧
      t.get (F.hostLstsWidth i) = width ∧ t.flag (F.hostLstsRev i) = rev ∧ t.flag (F.hostLstsAtomic i) = atomic ∧
      t.flag (F.hostLstsPerst i) = false ∧ (t.flag (F.hostLstsSlow i) = true ↔ rate.val < 5 ∨ width.val < full) ∧
      t.get (F.cause (pgHost i) Ev.hostUp) = 1 ∧ (rate.val < 5 ∨ width.val < full → t.get (F.cause (pgHost i) Ev.slow) = 1) ∧
      t.y.hostDownAt = none ∧ Touches [.regs, .msix, .out, .y, .now] s t)) ∧
  (∀ (n : Fin 96) (e : Env) (s : State), s.laneStage n < lgAdapt ∨ s.flag (F.laneRxctlFreeze n) = true →
    exec (.tapLimit n e) s = .next (s.upd fun m => m.at e)) ∧
  (∀ (n : Fin 96) (e : Env) (s : State), lgAdapt ≤ s.laneStage n → s.flag (F.laneRxctlFreeze n) = false →
    Answers (exec (.tapLimit n e) s) fun t => t.get (F.cause (pgLane n) Ev.tapLimit) = 1 ∧ RegsKept (EventRegs (pgLane n)) s t ∧
      Touches [.regs, .msix, .out, .now] s t) ∧
  (∀ (a : BitVec 7) (s : State), exec (.dynamicAddressAssignment a) s = .next (s.upd fun m => { m with y := { m.y with dynAddr := some a.toNat } })) ∧
  (∀ s : State, exec .rstdaa s = .next (s.upd fun m => { m with y := { m.y with dynAddr := none } })) ∧
  ∀ (c : Byte) (s : State), let takes : Prop := s.fuses.lifecycle = 0 ∨ s.fuses.lifecycle = 2 ∨ s.flag F.trustStsDebug = true
    (takes → exec (.consoleInput c) s = .next (s.upd fun m => { m with y := { m.y with console := m.y.console ++ [c] } })) ∧
    (¬ takes → exec (.consoleInput c) s = .next s)
end

