-- ==== Sys2Proof/Laws/Bits.lean ====
section
/-! SUPPORT. What the field operations of a word do: a field reads what was written into it, and fields apart from it keep
their value. -/

namespace Sys2Proof.Machine

-- Proofs one after another: side by side, their waiting threads can pass the memory limit.
set_option Elab.async false

theorem bits_lt (w : Word) (hi lo : Nat) : bits w hi lo < 2 ^ (hi + 1 - lo) := Nat.mod_lt _ (Nat.two_pow_pos _)

theorem bits_testBit (w : Word) (hi lo i : Nat) :
    (bits w hi lo).testBit i = (decide (i < hi + 1 - lo) && w.toNat.testBit (lo + i)) := by
  simp [bits, Nat.testBit_mod_two_pow, Nat.testBit_shiftRight]

/-- What `setBits` leaves, as a number: the low part, the new field, and the rest. -/
theorem setBits_toNat (w : Word) (hi lo v : Nat) (h : lo ≤ hi) (h64 : hi < 64) :
    (setBits w hi lo v).toNat =
      w.toNat % 2 ^ lo + 2 ^ lo * (v % 2 ^ (hi + 1 - lo)) + 2 ^ (hi + 1) * (w.toNat / 2 ^ (hi + 1)) := by
  have hw := w.isLt
  obtain ⟨d, hd⟩ : ∃ d, hi + 1 = lo + d := ⟨hi + 1 - lo, by omega⟩
  have hsub : 63 - hi + (lo + d) = 64 := by omega
  simp only [setBits, hd, Nat.add_sub_cancel_left, BitVec.toNat_ofNat, Nat.shiftRight_eq_div_pow]
  generalize hn : w.toNat = n at *
  generalize hv : v % 2 ^ d = x
  have hx : x < 2 ^ d := hv ▸ Nat.mod_lt _ (Nat.two_pow_pos d)
  have e1 : n = n % 2 ^ lo + 2 ^ lo * (n / 2 ^ lo) := (Nat.mod_add_div n (2 ^ lo)).symm
  have e2 : n / 2 ^ lo = n / 2 ^ lo % 2 ^ d + 2 ^ d * (n / 2 ^ lo / 2 ^ d) := (Nat.mod_add_div _ _).symm
  have e3 : n / 2 ^ lo / 2 ^ d = n / 2 ^ (lo + d) := by rw [Nat.div_div_eq_div_mul, ← Nat.pow_add]
  have hlo : n % 2 ^ lo < 2 ^ lo := Nat.mod_lt _ (Nat.two_pow_pos lo)
  have htop : n / 2 ^ (lo + d) < 2 ^ (63 - hi) := by
    apply Nat.div_lt_of_lt_mul
    rw [← Nat.pow_add, Nat.add_comm, hsub]
    exact hw
  generalize n / 2 ^ lo % 2 ^ d = o at *
  generalize hq : n / 2 ^ (lo + d) = q at *
  generalize hr : n % 2 ^ lo = r at *
  have hp : 2 ^ (lo + d) = 2 ^ lo * 2 ^ d := Nat.pow_add _ _ _
  have h64' : 2 ^ (lo + d) * 2 ^ (63 - hi) = 2 ^ 64 := by rw [← Nat.pow_add, Nat.add_comm, hsub]
  have hall : r + 2 ^ lo * x + 2 ^ (lo + d) * q < 2 ^ 64 := by
    have a1 : r + 2 ^ lo * x < 2 ^ (lo + d) := by
      rw [hp]
      calc r + 2 ^ lo * x < 2 ^ lo + 2 ^ lo * x := by omega
        _ = 2 ^ lo * (x + 1) := by ring
        _ ≤ 2 ^ lo * 2 ^ d := Nat.mul_le_mul_left _ hx
    calc r + 2 ^ lo * x + 2 ^ (lo + d) * q < 2 ^ (lo + d) + 2 ^ (lo + d) * q := by omega
      _ = 2 ^ (lo + d) * (q + 1) := by ring
      _ ≤ 2 ^ (lo + d) * 2 ^ (63 - hi) := Nat.mul_le_mul_left _ htop
      _ = 2 ^ 64 := h64'
  have e : n + x * 2 ^ lo - o * 2 ^ lo = r + 2 ^ lo * x + 2 ^ (lo + d) * q := by
    have : n = r + 2 ^ lo * o + 2 ^ (lo + d) * q := by
      rw [hp]; conv_lhs => rw [e1, e2, e3]
      ring
    rw [this, Nat.mul_comm x, Nat.mul_comm o]; omega
  rw [e, Nat.mod_eq_of_lt hall]

/-- Bit by bit: inside the field the new value, outside it the old word. -/
theorem setBits_testBit (w : Word) (hi lo v i : Nat) (h : lo ≤ hi) (h64 : hi < 64) :
    (setBits w hi lo v).toNat.testBit i =
      if lo ≤ i ∧ i ≤ hi then v.testBit (i - lo) else w.toNat.testBit i := by
  rw [setBits_toNat w hi lo v h h64]
  obtain ⟨d, hd⟩ : ∃ d, hi + 1 = lo + d := ⟨hi + 1 - lo, by omega⟩
  rw [hd, Nat.add_sub_cancel_left]
  have hr : w.toNat % 2 ^ lo < 2 ^ lo := Nat.mod_lt _ (Nat.two_pow_pos lo)
  have hx : v % 2 ^ d < 2 ^ d := Nat.mod_lt _ (Nat.two_pow_pos d)
  have hin : w.toNat % 2 ^ lo + 2 ^ lo * (v % 2 ^ d) < 2 ^ (lo + d) := by
    rw [Nat.pow_add]
    calc w.toNat % 2 ^ lo + 2 ^ lo * (v % 2 ^ d) < 2 ^ lo + 2 ^ lo * (v % 2 ^ d) := by omega
      _ = 2 ^ lo * (v % 2 ^ d + 1) := by ring
      _ ≤ 2 ^ lo * 2 ^ d := Nat.mul_le_mul_left _ hx
  rw [Nat.add_comm _ (2 ^ (lo + d) * _), Nat.testBit_two_pow_mul_add _ hin,
    Nat.add_comm (w.toNat % 2 ^ lo), Nat.testBit_two_pow_mul_add _ hr]
  by_cases h1 : i < lo
  · have : ¬ (lo ≤ i ∧ i ≤ hi) := by omega
    have h2 : i < lo + d := by omega
    simp [h1, h2, this, Nat.testBit_mod_two_pow]
  · by_cases h2 : i < lo + d
    · have : lo ≤ i ∧ i ≤ hi := by omega
      have h3 : i - lo < d := by omega
      simp [h1, h2, this, Nat.testBit_mod_two_pow, h3]
    · have : ¬ (lo ≤ i ∧ i ≤ hi) := by omega
      simp only [h2, this, if_false]
      rw [Nat.testBit_div_two_pow]
      congr 1; omega

/-- A field reads what was written into it. -/
theorem bits_setBits_same (w : Word) (hi lo v : Nat) (h : lo ≤ hi) (h64 : hi < 64) :
    bits (setBits w hi lo v) hi lo = v % 2 ^ (hi + 1 - lo) := by
  apply Nat.eq_of_testBit_eq
  intro i
  rw [bits_testBit, setBits_testBit w hi lo v _ h h64, Nat.testBit_mod_two_pow]
  by_cases hi' : i < hi + 1 - lo
  · have : lo ≤ lo + i ∧ lo + i ≤ hi := by omega
    simp [hi', this]
  · simp [hi']

/-- A field apart from the one written keeps its value. -/
theorem bits_setBits_apart (w : Word) (hi lo v hi' lo' : Nat) (h : lo ≤ hi) (h64 : hi < 64) (ha : hi' < lo ∨ hi < lo') :
    bits (setBits w hi lo v) hi' lo' = bits w hi' lo' := by
  apply Nat.eq_of_testBit_eq
  intro i
  rw [bits_testBit, bits_testBit, setBits_testBit w hi lo v _ h h64]
  by_cases hi1 : i < hi' + 1 - lo'
  · have : ¬ (lo ≤ lo' + i ∧ lo' + i ≤ hi) := by omega
    simp [hi1, this]
  · simp [hi1]

end Sys2Proof.Machine
end

