-- ==== Sys2Proof/Laws/Sparse.lean ====
section
/-! SUPPORT. The laws of maps as plain data: a read after a write, what a write leaves alone, and the canonical form. -/

namespace Sys2Proof.Machine

-- Proofs one after another: side by side, their waiting threads can pass the memory limit.
set_option Elab.async false

section keyed
variable {V : Type}

@[simp] theorem KMap.get_put_same (l : List (Nat × V)) (k : Nat) (v : V) : KMap.get (KMap.put l k v) k = some v := by
  induction l with
  | nil => simp [KMap.put, KMap.get]
  | cons e l ih =>
    by_cases h1 : k < e.1
    · simp [KMap.put, h1, KMap.get]
    · by_cases h2 : k = e.1
      · simp [KMap.put, h2, KMap.get]
      · simp [KMap.put, h1, h2, KMap.get, ih]

theorem KMap.get_put_other (l : List (Nat × V)) (k j : Nat) (v : V) (h : j ≠ k) :
    KMap.get (KMap.put l k v) j = KMap.get l j := by
  induction l with
  | nil => simp [KMap.put, KMap.get, h]
  | cons e l ih =>
    by_cases h1 : k < e.1
    · simp [KMap.put, h1, KMap.get, h]
    · by_cases h2 : k = e.1
      · simp [KMap.put, h2, KMap.get, h2 ▸ h]
      · by_cases h3 : j = e.1 <;> simp [KMap.put, h1, h2, KMap.get, ih, h3]

@[simp] theorem KMap.getD_put_same (l : List (Nat × V)) (k : Nat) (v d : V) : KMap.getD (KMap.put l k v) k d = v := by
  simp [KMap.getD]

theorem KMap.getD_put_other (l : List (Nat × V)) (k j : Nat) (v d : V) (h : j ≠ k) :
    KMap.getD (KMap.put l k v) j d = KMap.getD l j d := by
  simp [KMap.getD, KMap.get_put_other l k j v h]

@[simp] theorem KMap.get_erase_same (l : List (Nat × V)) (k : Nat) : KMap.get (KMap.erase l k) k = none := by
  induction l with
  | nil => rfl
  | cons e l ih =>
    by_cases h : e.1 = k
    · simpa [KMap.erase, h] using ih
    · have h' : k ≠ e.1 := fun x => h x.symm
      simpa [KMap.erase, h, KMap.get, h'] using ih

theorem KMap.get_erase_other (l : List (Nat × V)) (k j : Nat) (h : j ≠ k) :
    KMap.get (KMap.erase l k) j = KMap.get l j := by
  induction l with
  | nil => rfl
  | cons e l ih =>
    by_cases h1 : e.1 = k
    · have : j ≠ e.1 := h1 ▸ h
      simpa [KMap.erase, h1, KMap.get, this, h] using ih
    · by_cases h2 : j = e.1
      · simp [KMap.erase, h1, KMap.get, h2]
      · simpa [KMap.erase, h1, KMap.get, h2] using ih

end keyed

section sparse
variable {V : Type} [DecidableEq V] (d : Nat → V)

omit [DecidableEq V] in
/-- A sparse map reads what the keyed map holds, or the default. -/
theorem Sparse.read_eq (l : List (Nat × V)) (k : Nat) : Sparse.read d l k = KMap.getD l k (d k) := by
  induction l with
  | nil => rfl
  | cons e l ih => by_cases h : k = e.1 <;> simp_all [Sparse.read, KMap.getD, KMap.get]

/-- A read at the key written gives the value. -/
@[simp] theorem Sparse.read_write_same (l : List (Nat × V)) (k : Nat) (v : V) :
    Sparse.read d (Sparse.write d l k v) k = v := by
  rw [Sparse.read_eq]
  by_cases h : v = d k <;> simp [Sparse.write, h, KMap.getD]

/-- A read at another key is as before. -/
theorem Sparse.read_write_other (l : List (Nat × V)) (k j : Nat) (v : V) (h : j ≠ k) :
    Sparse.read d (Sparse.write d l k v) j = Sparse.read d l j := by
  rw [Sparse.read_eq, Sparse.read_eq]
  by_cases hv : v = d k <;> simp [Sparse.write, hv, KMap.getD, KMap.get_put_other _ _ _ _ h, KMap.get_erase_other _ _ _ h]

theorem Sparse.wfFrom_weaken (l : List (Nat × V)) (b : Nat) (lo : Option Nat) (h : Sparse.wfFrom d (some b) l = true)
    (hb : ∀ c ∈ lo, c ≤ b) : Sparse.wfFrom d lo l = true := by
  cases l with
  | nil => rfl
  | cons e l =>
    simp only [Sparse.wfFrom, Bool.and_eq_true, decide_eq_true_eq] at h ⊢
    refine ⟨⟨?_, h.1.2⟩, h.2⟩
    cases lo with
    | none => rfl
    | some c => have := hb c rfl; simp; omega

theorem Sparse.wfFrom_erase (l : List (Nat × V)) (lo : Option Nat) (k : Nat) (h : Sparse.wfFrom d lo l = true) :
    Sparse.wfFrom d lo (KMap.erase l k) = true := by
  induction l generalizing lo with
  | nil => rfl
  | cons e l ih =>
    simp only [Sparse.wfFrom, Bool.and_eq_true, decide_eq_true_eq] at h
    by_cases hk : e.1 = k
    · have e1 : KMap.erase (e :: l) k = KMap.erase l k := by simp [KMap.erase, hk]
      rw [e1]
      refine Sparse.wfFrom_weaken d _ e.1 lo (ih _ h.2) ?_
      intro c hc
      subst hc
      have := h.1.1
      simp at this
      omega
    · have e1 : KMap.erase (e :: l) k = e :: KMap.erase l k := by simp [KMap.erase, hk]
      rw [e1]
      simp only [Sparse.wfFrom, Bool.and_eq_true, decide_eq_true_eq]
      exact ⟨h.1, ih _ h.2⟩

theorem Sparse.wfFrom_put (l : List (Nat × V)) (lo : Option Nat) (k : Nat) (v : V) (h : Sparse.wfFrom d lo l = true)
    (hk : ∀ b ∈ lo, b < k) (hv : v ≠ d k) : Sparse.wfFrom d lo (KMap.put l k v) = true := by
  induction l generalizing lo with
  | nil => cases lo <;> simp_all [KMap.put, Sparse.wfFrom]
  | cons e l ih =>
    obtain ⟨k', v'⟩ := e
    simp only [KMap.put]
    by_cases h1 : k < k'
    · cases lo <;> simp_all [Sparse.wfFrom]
    · by_cases h2 : k = k'
      · subst h2
        cases lo <;> simp_all [Sparse.wfFrom]
      · have h5 : k' < k := by omega
        simp only [h1, h2, if_false]
        simp only [Sparse.wfFrom, Bool.and_eq_true, decide_eq_true_eq] at h ⊢
        exact ⟨h.1, ih (some k') h.2 (by simpa using h5)⟩

/-- A write keeps the canonical form. -/
theorem Sparse.wf_write (l : List (Nat × V)) (k : Nat) (v : V) (h : Sparse.wf d l = true) :
    Sparse.wf d (Sparse.write d l k v) = true := by
  unfold Sparse.wf at h ⊢
  by_cases hv : v = d k
  · simpa [Sparse.write, hv] using Sparse.wfFrom_erase d l none k h
  · simpa [Sparse.write, hv] using
      Sparse.wfFrom_put d _ none k v (Sparse.wfFrom_erase d l none k h) (by simp) hv

end sparse

end Sys2Proof.Machine
end

