-- ==== Sys2Proof/Laws/State.lean ====
section
/-! SUPPORT. What the basic updates of the state do to its parts, one lemma for each part and update, and the laws of the
register file: a field reads what was put into it, and everything apart from it keeps its value. -/

namespace Sys2Proof.Machine

-- Proofs one after another: side by side, their waiting threads can pass the memory limit.
set_option Elab.async false

@[simp] theorem Module.setWord_draws (m : Module) (a : Nat) (w : Word) : (m.setWord a w).draws = m.draws := by cases m; rfl
@[simp] theorem Module.setWord_reads (m : Module) (a : Nat) (w : Word) : (m.setWord a w).reads = m.reads := by cases m; rfl
@[simp] theorem Module.setWord_now (m : Module) (a : Nat) (w : Word) : (m.setWord a w).now = m.now := by cases m; rfl
@[simp] theorem Module.setWord_out (m : Module) (a : Nat) (w : Word) : (m.setWord a w).out = m.out := by cases m; rfl
@[simp] theorem Module.setWord_fuses (m : Module) (a : Nat) (w : Word) : (m.setWord a w).fuses = m.fuses := by cases m; rfl
@[simp] theorem Module.setWord_straps (m : Module) (a : Nat) (w : Word) : (m.setWord a w).straps = m.straps := by cases m; rfl
@[simp] theorem Module.setWord_msix (m : Module) (a : Nat) (w : Word) : (m.setWord a w).msix = m.msix := by cases m; rfl
@[simp] theorem Module.setWord_q (m : Module) (a : Nat) (w : Word) : (m.setWord a w).q = m.q := by cases m; rfl
@[simp] theorem Module.setWord_dtu (m : Module) (a : Nat) (w : Word) : (m.setWord a w).dtu = m.dtu := by cases m; rfl
@[simp] theorem Module.setWord_smp (m : Module) (a : Nat) (w : Word) : (m.setWord a w).smp = m.smp := by cases m; rfl
@[simp] theorem Module.setWord_x (m : Module) (a : Nat) (w : Word) : (m.setWord a w).x = m.x := by cases m; rfl
@[simp] theorem Module.setWord_mt (m : Module) (a : Nat) (w : Word) : (m.setWord a w).mt = m.mt := by cases m; rfl
@[simp] theorem Module.setWord_cl (m : Module) (a : Nat) (w : Word) : (m.setWord a w).cl = m.cl := by cases m; rfl
@[simp] theorem Module.setWord_st (m : Module) (a : Nat) (w : Word) : (m.setWord a w).st = m.st := by cases m; rfl
@[simp] theorem Module.setWord_n (m : Module) (a : Nat) (w : Word) : (m.setWord a w).n = m.n := by cases m; rfl
@[simp] theorem Module.setWord_y (m : Module) (a : Nat) (w : Word) : (m.setWord a w).y = m.y := by cases m; rfl
@[simp] theorem Module.setWord_timeOffset (m : Module) (a : Nat) (w : Word) : (m.setWord a w).timeOffset = m.timeOffset := by cases m; rfl
@[simp] theorem Module.put_draws (m : Module) (f : Fld) (v : Nat) : (m.put f v).draws = m.draws := by cases m; rfl
@[simp] theorem Module.put_reads (m : Module) (f : Fld) (v : Nat) : (m.put f v).reads = m.reads := by cases m; rfl
@[simp] theorem Module.put_now (m : Module) (f : Fld) (v : Nat) : (m.put f v).now = m.now := by cases m; rfl
@[simp] theorem Module.put_out (m : Module) (f : Fld) (v : Nat) : (m.put f v).out = m.out := by cases m; rfl
@[simp] theorem Module.put_fuses (m : Module) (f : Fld) (v : Nat) : (m.put f v).fuses = m.fuses := by cases m; rfl
@[simp] theorem Module.put_straps (m : Module) (f : Fld) (v : Nat) : (m.put f v).straps = m.straps := by cases m; rfl
@[simp] theorem Module.put_msix (m : Module) (f : Fld) (v : Nat) : (m.put f v).msix = m.msix := by cases m; rfl
@[simp] theorem Module.put_q (m : Module) (f : Fld) (v : Nat) : (m.put f v).q = m.q := by cases m; rfl
@[simp] theorem Module.put_dtu (m : Module) (f : Fld) (v : Nat) : (m.put f v).dtu = m.dtu := by cases m; rfl
@[simp] theorem Module.put_smp (m : Module) (f : Fld) (v : Nat) : (m.put f v).smp = m.smp := by cases m; rfl
@[simp] theorem Module.put_x (m : Module) (f : Fld) (v : Nat) : (m.put f v).x = m.x := by cases m; rfl
@[simp] theorem Module.put_mt (m : Module) (f : Fld) (v : Nat) : (m.put f v).mt = m.mt := by cases m; rfl
@[simp] theorem Module.put_cl (m : Module) (f : Fld) (v : Nat) : (m.put f v).cl = m.cl := by cases m; rfl
@[simp] theorem Module.put_st (m : Module) (f : Fld) (v : Nat) : (m.put f v).st = m.st := by cases m; rfl
@[simp] theorem Module.put_n (m : Module) (f : Fld) (v : Nat) : (m.put f v).n = m.n := by cases m; rfl
@[simp] theorem Module.put_y (m : Module) (f : Fld) (v : Nat) : (m.put f v).y = m.y := by cases m; rfl
@[simp] theorem Module.put_timeOffset (m : Module) (f : Fld) (v : Nat) : (m.put f v).timeOffset = m.timeOffset := by cases m; rfl
@[simp] theorem Module.putFlag_draws (m : Module) (f : Fld) (v : Bool) : (m.putFlag f v).draws = m.draws := by cases m; rfl
@[simp] theorem Module.putFlag_reads (m : Module) (f : Fld) (v : Bool) : (m.putFlag f v).reads = m.reads := by cases m; rfl
@[simp] theorem Module.putFlag_now (m : Module) (f : Fld) (v : Bool) : (m.putFlag f v).now = m.now := by cases m; rfl
@[simp] theorem Module.putFlag_out (m : Module) (f : Fld) (v : Bool) : (m.putFlag f v).out = m.out := by cases m; rfl
@[simp] theorem Module.putFlag_fuses (m : Module) (f : Fld) (v : Bool) : (m.putFlag f v).fuses = m.fuses := by cases m; rfl
@[simp] theorem Module.putFlag_straps (m : Module) (f : Fld) (v : Bool) : (m.putFlag f v).straps = m.straps := by cases m; rfl
@[simp] theorem Module.putFlag_msix (m : Module) (f : Fld) (v : Bool) : (m.putFlag f v).msix = m.msix := by cases m; rfl
@[simp] theorem Module.putFlag_q (m : Module) (f : Fld) (v : Bool) : (m.putFlag f v).q = m.q := by cases m; rfl
@[simp] theorem Module.putFlag_dtu (m : Module) (f : Fld) (v : Bool) : (m.putFlag f v).dtu = m.dtu := by cases m; rfl
@[simp] theorem Module.putFlag_smp (m : Module) (f : Fld) (v : Bool) : (m.putFlag f v).smp = m.smp := by cases m; rfl
@[simp] theorem Module.putFlag_x (m : Module) (f : Fld) (v : Bool) : (m.putFlag f v).x = m.x := by cases m; rfl
@[simp] theorem Module.putFlag_mt (m : Module) (f : Fld) (v : Bool) : (m.putFlag f v).mt = m.mt := by cases m; rfl
@[simp] theorem Module.putFlag_cl (m : Module) (f : Fld) (v : Bool) : (m.putFlag f v).cl = m.cl := by cases m; rfl
@[simp] theorem Module.putFlag_st (m : Module) (f : Fld) (v : Bool) : (m.putFlag f v).st = m.st := by cases m; rfl
@[simp] theorem Module.putFlag_n (m : Module) (f : Fld) (v : Bool) : (m.putFlag f v).n = m.n := by cases m; rfl
@[simp] theorem Module.putFlag_y (m : Module) (f : Fld) (v : Bool) : (m.putFlag f v).y = m.y := by cases m; rfl
@[simp] theorem Module.putFlag_timeOffset (m : Module) (f : Fld) (v : Bool) : (m.putFlag f v).timeOffset = m.timeOffset := by cases m; rfl
@[simp] theorem Module.emit_regs (m : Module) (x : Emit) : (m.emit x).regs = m.regs := by cases m; rfl
@[simp] theorem Module.emit_draws (m : Module) (x : Emit) : (m.emit x).draws = m.draws := by cases m; rfl
@[simp] theorem Module.emit_reads (m : Module) (x : Emit) : (m.emit x).reads = m.reads := by cases m; rfl
@[simp] theorem Module.emit_now (m : Module) (x : Emit) : (m.emit x).now = m.now := by cases m; rfl
@[simp] theorem Module.emit_fuses (m : Module) (x : Emit) : (m.emit x).fuses = m.fuses := by cases m; rfl
@[simp] theorem Module.emit_straps (m : Module) (x : Emit) : (m.emit x).straps = m.straps := by cases m; rfl
@[simp] theorem Module.emit_msix (m : Module) (x : Emit) : (m.emit x).msix = m.msix := by cases m; rfl
@[simp] theorem Module.emit_q (m : Module) (x : Emit) : (m.emit x).q = m.q := by cases m; rfl
@[simp] theorem Module.emit_dtu (m : Module) (x : Emit) : (m.emit x).dtu = m.dtu := by cases m; rfl
@[simp] theorem Module.emit_smp (m : Module) (x : Emit) : (m.emit x).smp = m.smp := by cases m; rfl
@[simp] theorem Module.emit_x (m : Module) (x : Emit) : (m.emit x).x = m.x := by cases m; rfl
@[simp] theorem Module.emit_mt (m : Module) (x : Emit) : (m.emit x).mt = m.mt := by cases m; rfl
@[simp] theorem Module.emit_cl (m : Module) (x : Emit) : (m.emit x).cl = m.cl := by cases m; rfl
@[simp] theorem Module.emit_st (m : Module) (x : Emit) : (m.emit x).st = m.st := by cases m; rfl
@[simp] theorem Module.emit_n (m : Module) (x : Emit) : (m.emit x).n = m.n := by cases m; rfl
@[simp] theorem Module.emit_y (m : Module) (x : Emit) : (m.emit x).y = m.y := by cases m; rfl
@[simp] theorem Module.emit_timeOffset (m : Module) (x : Emit) : (m.emit x).timeOffset = m.timeOffset := by cases m; rfl
@[simp] theorem Module.at_regs (m : Module) (e : Env) : (m.at e).regs = m.regs := by cases m; rfl
@[simp] theorem Module.at_draws (m : Module) (e : Env) : (m.at e).draws = m.draws := by cases m; rfl
@[simp] theorem Module.at_reads (m : Module) (e : Env) : (m.at e).reads = m.reads := by cases m; rfl
@[simp] theorem Module.at_out (m : Module) (e : Env) : (m.at e).out = m.out := by cases m; rfl
@[simp] theorem Module.at_fuses (m : Module) (e : Env) : (m.at e).fuses = m.fuses := by cases m; rfl
@[simp] theorem Module.at_straps (m : Module) (e : Env) : (m.at e).straps = m.straps := by cases m; rfl
@[simp] theorem Module.at_msix (m : Module) (e : Env) : (m.at e).msix = m.msix := by cases m; rfl
@[simp] theorem Module.at_q (m : Module) (e : Env) : (m.at e).q = m.q := by cases m; rfl
@[simp] theorem Module.at_dtu (m : Module) (e : Env) : (m.at e).dtu = m.dtu := by cases m; rfl
@[simp] theorem Module.at_smp (m : Module) (e : Env) : (m.at e).smp = m.smp := by cases m; rfl
@[simp] theorem Module.at_x (m : Module) (e : Env) : (m.at e).x = m.x := by cases m; rfl
@[simp] theorem Module.at_mt (m : Module) (e : Env) : (m.at e).mt = m.mt := by cases m; rfl
@[simp] theorem Module.at_cl (m : Module) (e : Env) : (m.at e).cl = m.cl := by cases m; rfl
@[simp] theorem Module.at_st (m : Module) (e : Env) : (m.at e).st = m.st := by cases m; rfl
@[simp] theorem Module.at_n (m : Module) (e : Env) : (m.at e).n = m.n := by cases m; rfl
@[simp] theorem Module.at_y (m : Module) (e : Env) : (m.at e).y = m.y := by cases m; rfl
@[simp] theorem Module.at_timeOffset (m : Module) (e : Env) : (m.at e).timeOffset = m.timeOffset := by cases m; rfl
@[simp] theorem Module.setMsix_regs (m : Module) (i : Nat) (f : MsixFn) : (m.setMsix i f).regs = m.regs := by cases m; rfl
@[simp] theorem Module.setMsix_draws (m : Module) (i : Nat) (f : MsixFn) : (m.setMsix i f).draws = m.draws := by cases m; rfl
@[simp] theorem Module.setMsix_reads (m : Module) (i : Nat) (f : MsixFn) : (m.setMsix i f).reads = m.reads := by cases m; rfl
@[simp] theorem Module.setMsix_now (m : Module) (i : Nat) (f : MsixFn) : (m.setMsix i f).now = m.now := by cases m; rfl
@[simp] theorem Module.setMsix_out (m : Module) (i : Nat) (f : MsixFn) : (m.setMsix i f).out = m.out := by cases m; rfl
@[simp] theorem Module.setMsix_fuses (m : Module) (i : Nat) (f : MsixFn) : (m.setMsix i f).fuses = m.fuses := by cases m; rfl
@[simp] theorem Module.setMsix_straps (m : Module) (i : Nat) (f : MsixFn) : (m.setMsix i f).straps = m.straps := by cases m; rfl
@[simp] theorem Module.setMsix_q (m : Module) (i : Nat) (f : MsixFn) : (m.setMsix i f).q = m.q := by cases m; rfl
@[simp] theorem Module.setMsix_dtu (m : Module) (i : Nat) (f : MsixFn) : (m.setMsix i f).dtu = m.dtu := by cases m; rfl
@[simp] theorem Module.setMsix_smp (m : Module) (i : Nat) (f : MsixFn) : (m.setMsix i f).smp = m.smp := by cases m; rfl
@[simp] theorem Module.setMsix_x (m : Module) (i : Nat) (f : MsixFn) : (m.setMsix i f).x = m.x := by cases m; rfl
@[simp] theorem Module.setMsix_mt (m : Module) (i : Nat) (f : MsixFn) : (m.setMsix i f).mt = m.mt := by cases m; rfl
@[simp] theorem Module.setMsix_cl (m : Module) (i : Nat) (f : MsixFn) : (m.setMsix i f).cl = m.cl := by cases m; rfl
@[simp] theorem Module.setMsix_st (m : Module) (i : Nat) (f : MsixFn) : (m.setMsix i f).st = m.st := by cases m; rfl
@[simp] theorem Module.setMsix_n (m : Module) (i : Nat) (f : MsixFn) : (m.setMsix i f).n = m.n := by cases m; rfl
@[simp] theorem Module.setMsix_y (m : Module) (i : Nat) (f : MsixFn) : (m.setMsix i f).y = m.y := by cases m; rfl
@[simp] theorem Module.setMsix_timeOffset (m : Module) (i : Nat) (f : MsixFn) : (m.setMsix i f).timeOffset = m.timeOffset := by cases m; rfl
@[simp] theorem Module.readDone_regs (m : Module)  : (m.readDone).regs = m.regs := by cases m; rfl
@[simp] theorem Module.readDone_draws (m : Module)  : (m.readDone).draws = m.draws := by cases m; rfl
@[simp] theorem Module.readDone_now (m : Module)  : (m.readDone).now = m.now := by cases m; rfl
@[simp] theorem Module.readDone_out (m : Module)  : (m.readDone).out = m.out := by cases m; rfl
@[simp] theorem Module.readDone_fuses (m : Module)  : (m.readDone).fuses = m.fuses := by cases m; rfl
@[simp] theorem Module.readDone_straps (m : Module)  : (m.readDone).straps = m.straps := by cases m; rfl
@[simp] theorem Module.readDone_msix (m : Module)  : (m.readDone).msix = m.msix := by cases m; rfl
@[simp] theorem Module.readDone_q (m : Module)  : (m.readDone).q = m.q := by cases m; rfl
@[simp] theorem Module.readDone_dtu (m : Module)  : (m.readDone).dtu = m.dtu := by cases m; rfl
@[simp] theorem Module.readDone_smp (m : Module)  : (m.readDone).smp = m.smp := by cases m; rfl
@[simp] theorem Module.readDone_x (m : Module)  : (m.readDone).x = m.x := by cases m; rfl
@[simp] theorem Module.readDone_mt (m : Module)  : (m.readDone).mt = m.mt := by cases m; rfl
@[simp] theorem Module.readDone_cl (m : Module)  : (m.readDone).cl = m.cl := by cases m; rfl
@[simp] theorem Module.readDone_st (m : Module)  : (m.readDone).st = m.st := by cases m; rfl
@[simp] theorem Module.readDone_n (m : Module)  : (m.readDone).n = m.n := by cases m; rfl
@[simp] theorem Module.readDone_y (m : Module)  : (m.readDone).y = m.y := by cases m; rfl
@[simp] theorem Module.readDone_timeOffset (m : Module)  : (m.readDone).timeOffset = m.timeOffset := by cases m; rfl
@[simp] theorem Module.emit_out (m : Module) (x : Emit) : (m.emit x).out = m.out ++ [x] := by cases m; rfl
@[simp] theorem Module.at_now (m : Module) (e : Env) : (m.at e).now = max m.now e.t := by cases m; rfl
@[simp] theorem Module.readDone_reads (m : Module) : m.readDone.reads = m.reads + 1 := by cases m; rfl

/-! ## The register file -/

@[simp] theorem Module.word_setWord_same (m : Module) (a : Nat) (w : Word) : (m.setWord a w).word a = w := by
  simp [Module.word, Module.setWord]

theorem Module.word_setWord_other (m : Module) (a b : Nat) (w : Word) (h : b ≠ a) : (m.setWord a w).word b = m.word b := by
  simp [Module.word, Module.setWord, Sparse.read_write_other _ _ _ _ _ h]

/-- A word apart from the register of the field put is as before. -/
theorem Module.word_put_other (m : Module) (f : Fld) (v b : Nat) (h : b ≠ f.reg) : (m.put f v).word b = m.word b :=
  Module.word_setWord_other m f.reg b _ h

/-- A field reads what was put into it. -/
theorem Module.get_put_same (m : Module) (f : Fld) (v : Nat) (h : f.lo ≤ f.hi) (h64 : f.hi < 64) :
    (m.put f v).get f = v % 2 ^ (f.hi + 1 - f.lo) := by
  simp [Module.get, Module.put, bits_setBits_same _ _ _ _ h h64]

/-- A field of another register is as before. -/
theorem Module.get_put_reg (m : Module) (f g : Fld) (v : Nat) (h : g.reg ≠ f.reg) : (m.put f v).get g = m.get g := by
  simp [Module.get, Module.word_put_other m f v g.reg h]

/-- A field apart from the one put in the same register is as before. -/
theorem Module.get_put_apart (m : Module) (f g : Fld) (v : Nat) (h : f.lo ≤ f.hi) (h64 : f.hi < 64)
    (ha : g.hi < f.lo ∨ f.hi < g.lo) : (m.put f v).get g = m.get g := by
  by_cases hr : g.reg = f.reg
  · simp [Module.get, Module.put, hr, bits_setBits_apart _ _ _ _ _ _ h h64 ha]
  · exact Module.get_put_reg m f g v hr

/-- A register word set keeps the canonical form of the register file. -/
theorem Module.setWord_wf (m : Module) (a : Nat) (w : Word) (h : Sparse.wf resetWord m.regs = true) :
    Sparse.wf resetWord (m.setWord a w).regs = true := Sparse.wf_write resetWord _ _ _ h

/-- A field put keeps the canonical form of the register file. -/
theorem Module.put_wf (m : Module) (f : Fld) (v : Nat) (h : Sparse.wf resetWord m.regs = true) :
    Sparse.wf resetWord (m.put f v).regs = true := Module.setWord_wf m _ _ h

/-- The register file after reset is canonical. -/
theorem Module.reset_wf : Sparse.wf resetWord Module.reset.regs = true := by decide

end Sys2Proof.Machine
end

