-- ==== Sys2Proof/Laws/Frames.lean ====
section
/-! SUPPORT. What the shared operations leave alone, one lemma for each operation and each part of the module it does not touch:
events, counters and register writes change registers, the MSI-X functions and what is sent, and nothing else. -/

namespace Sys2Proof.Machine

-- Proofs one after another: side by side, their waiting threads can pass the memory limit.
set_option Elab.async false


section addCtrFrame
variable (m : Module) (p n k : Nat)

@[simp] theorem Module.addCtr_draws : (m.addCtr p n k).draws = m.draws := by
    unfold Module.addCtr; dsimp only; repeat' split
    all_goals simp
@[simp] theorem Module.addCtr_reads : (m.addCtr p n k).reads = m.reads := by
    unfold Module.addCtr; dsimp only; repeat' split
    all_goals simp
@[simp] theorem Module.addCtr_now : (m.addCtr p n k).now = m.now := by
    unfold Module.addCtr; dsimp only; repeat' split
    all_goals simp
@[simp] theorem Module.addCtr_out : (m.addCtr p n k).out = m.out := by
    unfold Module.addCtr; dsimp only; repeat' split
    all_goals simp
@[simp] theorem Module.addCtr_fuses : (m.addCtr p n k).fuses = m.fuses := by
    unfold Module.addCtr; dsimp only; repeat' split
    all_goals simp
@[simp] theorem Module.addCtr_straps : (m.addCtr p n k).straps = m.straps := by
    unfold Module.addCtr; dsimp only; repeat' split
    all_goals simp
@[simp] theorem Module.addCtr_msix : (m.addCtr p n k).msix = m.msix := by
    unfold Module.addCtr; dsimp only; repeat' split
    all_goals simp
@[simp] theorem Module.addCtr_q : (m.addCtr p n k).q = m.q := by
    unfold Module.addCtr; dsimp only; repeat' split
    all_goals simp
@[simp] theorem Module.addCtr_dtu : (m.addCtr p n k).dtu = m.dtu := by
    unfold Module.addCtr; dsimp only; repeat' split
    all_goals simp
@[simp] theorem Module.addCtr_smp : (m.addCtr p n k).smp = m.smp := by
    unfold Module.addCtr; dsimp only; repeat' split
    all_goals simp
@[simp] theorem Module.addCtr_x : (m.addCtr p n k).x = m.x := by
    unfold Module.addCtr; dsimp only; repeat' split
    all_goals simp
@[simp] theorem Module.addCtr_mt : (m.addCtr p n k).mt = m.mt := by
    unfold Module.addCtr; dsimp only; repeat' split
    all_goals simp
@[simp] theorem Module.addCtr_cl : (m.addCtr p n k).cl = m.cl := by
    unfold Module.addCtr; dsimp only; repeat' split
    all_goals simp
@[simp] theorem Module.addCtr_st : (m.addCtr p n k).st = m.st := by
    unfold Module.addCtr; dsimp only; repeat' split
    all_goals simp
@[simp] theorem Module.addCtr_n : (m.addCtr p n k).n = m.n := by
    unfold Module.addCtr; dsimp only; repeat' split
    all_goals simp
@[simp] theorem Module.addCtr_y : (m.addCtr p n k).y = m.y := by
    unfold Module.addCtr; dsimp only; repeat' split
    all_goals simp
@[simp] theorem Module.addCtr_timeOffset : (m.addCtr p n k).timeOffset = m.timeOffset := by
    unfold Module.addCtr; dsimp only; repeat' split
    all_goals simp

end addCtrFrame

section pendVectorFrame
variable (m : Module) (l v : Nat) (b : Bool)

@[simp] theorem Module.pendVector_regs : (m.pendVector l v b).regs = m.regs := by
    unfold Module.pendVector; repeat' split
    all_goals simp
@[simp] theorem Module.pendVector_draws : (m.pendVector l v b).draws = m.draws := by
    unfold Module.pendVector; repeat' split
    all_goals simp
@[simp] theorem Module.pendVector_reads : (m.pendVector l v b).reads = m.reads := by
    unfold Module.pendVector; repeat' split
    all_goals simp
@[simp] theorem Module.pendVector_now : (m.pendVector l v b).now = m.now := by
    unfold Module.pendVector; repeat' split
    all_goals simp
@[simp] theorem Module.pendVector_out : (m.pendVector l v b).out = m.out := by
    unfold Module.pendVector; repeat' split
    all_goals simp
@[simp] theorem Module.pendVector_fuses : (m.pendVector l v b).fuses = m.fuses := by
    unfold Module.pendVector; repeat' split
    all_goals simp
@[simp] theorem Module.pendVector_straps : (m.pendVector l v b).straps = m.straps := by
    unfold Module.pendVector; repeat' split
    all_goals simp
@[simp] theorem Module.pendVector_q : (m.pendVector l v b).q = m.q := by
    unfold Module.pendVector; repeat' split
    all_goals simp
@[simp] theorem Module.pendVector_dtu : (m.pendVector l v b).dtu = m.dtu := by
    unfold Module.pendVector; repeat' split
    all_goals simp
@[simp] theorem Module.pendVector_smp : (m.pendVector l v b).smp = m.smp := by
    unfold Module.pendVector; repeat' split
    all_goals simp
@[simp] theorem Module.pendVector_x : (m.pendVector l v b).x = m.x := by
    unfold Module.pendVector; repeat' split
    all_goals simp
@[simp] theorem Module.pendVector_mt : (m.pendVector l v b).mt = m.mt := by
    unfold Module.pendVector; repeat' split
    all_goals simp
@[simp] theorem Module.pendVector_cl : (m.pendVector l v b).cl = m.cl := by
    unfold Module.pendVector; repeat' split
    all_goals simp
@[simp] theorem Module.pendVector_st : (m.pendVector l v b).st = m.st := by
    unfold Module.pendVector; repeat' split
    all_goals simp
@[simp] theorem Module.pendVector_n : (m.pendVector l v b).n = m.n := by
    unfold Module.pendVector; repeat' split
    all_goals simp
@[simp] theorem Module.pendVector_y : (m.pendVector l v b).y = m.y := by
    unfold Module.pendVector; repeat' split
    all_goals simp
@[simp] theorem Module.pendVector_timeOffset : (m.pendVector l v b).timeOffset = m.timeOffset := by
    unfold Module.pendVector; repeat' split
    all_goals simp

end pendVectorFrame

section ovfMessageFrame
variable (m : Module) 

@[simp] theorem Module.ovfMessage_draws : (m.ovfMessage).draws = m.draws := by
    unfold Module.ovfMessage; repeat' split
    all_goals simp
@[simp] theorem Module.ovfMessage_reads : (m.ovfMessage).reads = m.reads := by
    unfold Module.ovfMessage; repeat' split
    all_goals simp
@[simp] theorem Module.ovfMessage_now : (m.ovfMessage).now = m.now := by
    unfold Module.ovfMessage; repeat' split
    all_goals simp
@[simp] theorem Module.ovfMessage_fuses : (m.ovfMessage).fuses = m.fuses := by
    unfold Module.ovfMessage; repeat' split
    all_goals simp
@[simp] theorem Module.ovfMessage_straps : (m.ovfMessage).straps = m.straps := by
    unfold Module.ovfMessage; repeat' split
    all_goals simp
@[simp] theorem Module.ovfMessage_q : (m.ovfMessage).q = m.q := by
    unfold Module.ovfMessage; repeat' split
    all_goals simp
@[simp] theorem Module.ovfMessage_dtu : (m.ovfMessage).dtu = m.dtu := by
    unfold Module.ovfMessage; repeat' split
    all_goals simp
@[simp] theorem Module.ovfMessage_smp : (m.ovfMessage).smp = m.smp := by
    unfold Module.ovfMessage; repeat' split
    all_goals simp
@[simp] theorem Module.ovfMessage_x : (m.ovfMessage).x = m.x := by
    unfold Module.ovfMessage; repeat' split
    all_goals simp
@[simp] theorem Module.ovfMessage_mt : (m.ovfMessage).mt = m.mt := by
    unfold Module.ovfMessage; repeat' split
    all_goals simp
@[simp] theorem Module.ovfMessage_cl : (m.ovfMessage).cl = m.cl := by
    unfold Module.ovfMessage; repeat' split
    all_goals simp
@[simp] theorem Module.ovfMessage_st : (m.ovfMessage).st = m.st := by
    unfold Module.ovfMessage; repeat' split
    all_goals simp
@[simp] theorem Module.ovfMessage_n : (m.ovfMessage).n = m.n := by
    unfold Module.ovfMessage; repeat' split
    all_goals simp
@[simp] theorem Module.ovfMessage_y : (m.ovfMessage).y = m.y := by
    unfold Module.ovfMessage; repeat' split
    all_goals simp
@[simp] theorem Module.ovfMessage_timeOffset : (m.ovfMessage).timeOffset = m.timeOffset := by
    unfold Module.ovfMessage; repeat' split
    all_goals simp

end ovfMessageFrame

section countMsgFrame
variable (m : Module) (l : Nat)

@[simp] theorem Module.countMsg_draws : (m.countMsg l).draws = m.draws := by
    unfold Module.countMsg; dsimp only; repeat' split
    all_goals simp
@[simp] theorem Module.countMsg_reads : (m.countMsg l).reads = m.reads := by
    unfold Module.countMsg; dsimp only; repeat' split
    all_goals simp
@[simp] theorem Module.countMsg_now : (m.countMsg l).now = m.now := by
    unfold Module.countMsg; dsimp only; repeat' split
    all_goals simp
@[simp] theorem Module.countMsg_fuses : (m.countMsg l).fuses = m.fuses := by
    unfold Module.countMsg; dsimp only; repeat' split
    all_goals simp
@[simp] theorem Module.countMsg_straps : (m.countMsg l).straps = m.straps := by
    unfold Module.countMsg; dsimp only; repeat' split
    all_goals simp
@[simp] theorem Module.countMsg_q : (m.countMsg l).q = m.q := by
    unfold Module.countMsg; dsimp only; repeat' split
    all_goals simp
@[simp] theorem Module.countMsg_dtu : (m.countMsg l).dtu = m.dtu := by
    unfold Module.countMsg; dsimp only; repeat' split
    all_goals simp
@[simp] theorem Module.countMsg_smp : (m.countMsg l).smp = m.smp := by
    unfold Module.countMsg; dsimp only; repeat' split
    all_goals simp
@[simp] theorem Module.countMsg_x : (m.countMsg l).x = m.x := by
    unfold Module.countMsg; dsimp only; repeat' split
    all_goals simp
@[simp] theorem Module.countMsg_mt : (m.countMsg l).mt = m.mt := by
    unfold Module.countMsg; dsimp only; repeat' split
    all_goals simp
@[simp] theorem Module.countMsg_cl : (m.countMsg l).cl = m.cl := by
    unfold Module.countMsg; dsimp only; repeat' split
    all_goals simp
@[simp] theorem Module.countMsg_st : (m.countMsg l).st = m.st := by
    unfold Module.countMsg; dsimp only; repeat' split
    all_goals simp
@[simp] theorem Module.countMsg_n : (m.countMsg l).n = m.n := by
    unfold Module.countMsg; dsimp only; repeat' split
    all_goals simp
@[simp] theorem Module.countMsg_y : (m.countMsg l).y = m.y := by
    unfold Module.countMsg; dsimp only; repeat' split
    all_goals simp
@[simp] theorem Module.countMsg_timeOffset : (m.countMsg l).timeOffset = m.timeOffset := by
    unfold Module.countMsg; dsimp only; repeat' split
    all_goals simp

end countMsgFrame

section sendVectorFrame
variable (m : Module) (l v : Nat) (b : Bool)

@[simp] theorem Module.sendVector_draws : (m.sendVector l v b).draws = m.draws := by
    unfold Module.sendVector; repeat' split
    all_goals simp
@[simp] theorem Module.sendVector_reads : (m.sendVector l v b).reads = m.reads := by
    unfold Module.sendVector; repeat' split
    all_goals simp
@[simp] theorem Module.sendVector_now : (m.sendVector l v b).now = m.now := by
    unfold Module.sendVector; repeat' split
    all_goals simp
@[simp] theorem Module.sendVector_fuses : (m.sendVector l v b).fuses = m.fuses := by
    unfold Module.sendVector; repeat' split
    all_goals simp
@[simp] theorem Module.sendVector_straps : (m.sendVector l v b).straps = m.straps := by
    unfold Module.sendVector; repeat' split
    all_goals simp
@[simp] theorem Module.sendVector_q : (m.sendVector l v b).q = m.q := by
    unfold Module.sendVector; repeat' split
    all_goals simp
@[simp] theorem Module.sendVector_dtu : (m.sendVector l v b).dtu = m.dtu := by
    unfold Module.sendVector; repeat' split
    all_goals simp
@[simp] theorem Module.sendVector_smp : (m.sendVector l v b).smp = m.smp := by
    unfold Module.sendVector; repeat' split
    all_goals simp
@[simp] theorem Module.sendVector_x : (m.sendVector l v b).x = m.x := by
    unfold Module.sendVector; repeat' split
    all_goals simp
@[simp] theorem Module.sendVector_mt : (m.sendVector l v b).mt = m.mt := by
    unfold Module.sendVector; repeat' split
    all_goals simp
@[simp] theorem Module.sendVector_cl : (m.sendVector l v b).cl = m.cl := by
    unfold Module.sendVector; repeat' split
    all_goals simp
@[simp] theorem Module.sendVector_st : (m.sendVector l v b).st = m.st := by
    unfold Module.sendVector; repeat' split
    all_goals simp
@[simp] theorem Module.sendVector_n : (m.sendVector l v b).n = m.n := by
    unfold Module.sendVector; repeat' split
    all_goals simp
@[simp] theorem Module.sendVector_y : (m.sendVector l v b).y = m.y := by
    unfold Module.sendVector; repeat' split
    all_goals simp
@[simp] theorem Module.sendVector_timeOffset : (m.sendVector l v b).timeOffset = m.timeOffset := by
    unfold Module.sendVector; repeat' split
    all_goals simp

end sendVectorFrame

section deliverFrame
variable (m : Module) (k : Nat)

@[simp] theorem Module.deliver_draws : (m.deliver k).draws = m.draws := by
    unfold Module.deliver; repeat' split
    all_goals simp
@[simp] theorem Module.deliver_reads : (m.deliver k).reads = m.reads := by
    unfold Module.deliver; repeat' split
    all_goals simp
@[simp] theorem Module.deliver_now : (m.deliver k).now = m.now := by
    unfold Module.deliver; repeat' split
    all_goals simp
@[simp] theorem Module.deliver_fuses : (m.deliver k).fuses = m.fuses := by
    unfold Module.deliver; repeat' split
    all_goals simp
@[simp] theorem Module.deliver_straps : (m.deliver k).straps = m.straps := by
    unfold Module.deliver; repeat' split
    all_goals simp
@[simp] theorem Module.deliver_q : (m.deliver k).q = m.q := by
    unfold Module.deliver; repeat' split
    all_goals simp
@[simp] theorem Module.deliver_dtu : (m.deliver k).dtu = m.dtu := by
    unfold Module.deliver; repeat' split
    all_goals simp
@[simp] theorem Module.deliver_smp : (m.deliver k).smp = m.smp := by
    unfold Module.deliver; repeat' split
    all_goals simp
@[simp] theorem Module.deliver_x : (m.deliver k).x = m.x := by
    unfold Module.deliver; repeat' split
    all_goals simp
@[simp] theorem Module.deliver_mt : (m.deliver k).mt = m.mt := by
    unfold Module.deliver; repeat' split
    all_goals simp
@[simp] theorem Module.deliver_cl : (m.deliver k).cl = m.cl := by
    unfold Module.deliver; repeat' split
    all_goals simp
@[simp] theorem Module.deliver_st : (m.deliver k).st = m.st := by
    unfold Module.deliver; repeat' split
    all_goals simp
@[simp] theorem Module.deliver_n : (m.deliver k).n = m.n := by
    unfold Module.deliver; repeat' split
    all_goals simp
@[simp] theorem Module.deliver_y : (m.deliver k).y = m.y := by
    unfold Module.deliver; repeat' split
    all_goals simp
@[simp] theorem Module.deliver_timeOffset : (m.deliver k).timeOffset = m.timeOffset := by
    unfold Module.deliver; repeat' split
    all_goals simp

end deliverFrame

section onRiseFrame
variable (m : Module) (old : Module) (k : Nat)

@[simp] theorem Module.onRise_draws : (m.onRise old k).draws = m.draws := by
    unfold Module.onRise; split <;> simp
@[simp] theorem Module.onRise_reads : (m.onRise old k).reads = m.reads := by
    unfold Module.onRise; split <;> simp
@[simp] theorem Module.onRise_now : (m.onRise old k).now = m.now := by
    unfold Module.onRise; split <;> simp
@[simp] theorem Module.onRise_fuses : (m.onRise old k).fuses = m.fuses := by
    unfold Module.onRise; split <;> simp
@[simp] theorem Module.onRise_straps : (m.onRise old k).straps = m.straps := by
    unfold Module.onRise; split <;> simp
@[simp] theorem Module.onRise_q : (m.onRise old k).q = m.q := by
    unfold Module.onRise; split <;> simp
@[simp] theorem Module.onRise_dtu : (m.onRise old k).dtu = m.dtu := by
    unfold Module.onRise; split <;> simp
@[simp] theorem Module.onRise_smp : (m.onRise old k).smp = m.smp := by
    unfold Module.onRise; split <;> simp
@[simp] theorem Module.onRise_x : (m.onRise old k).x = m.x := by
    unfold Module.onRise; split <;> simp
@[simp] theorem Module.onRise_mt : (m.onRise old k).mt = m.mt := by
    unfold Module.onRise; split <;> simp
@[simp] theorem Module.onRise_cl : (m.onRise old k).cl = m.cl := by
    unfold Module.onRise; split <;> simp
@[simp] theorem Module.onRise_st : (m.onRise old k).st = m.st := by
    unfold Module.onRise; split <;> simp
@[simp] theorem Module.onRise_n : (m.onRise old k).n = m.n := by
    unfold Module.onRise; split <;> simp
@[simp] theorem Module.onRise_y : (m.onRise old k).y = m.y := by
    unfold Module.onRise; split <;> simp
@[simp] theorem Module.onRise_timeOffset : (m.onRise old k).timeOffset = m.timeOffset := by
    unfold Module.onRise; split <;> simp

end onRiseFrame

section raiseFrame
variable (m : Module) (p c : Nat)

@[simp] theorem Module.raise_draws : (m.raise p c).draws = m.draws := by
    simp [Module.raise]
@[simp] theorem Module.raise_reads : (m.raise p c).reads = m.reads := by
    simp [Module.raise]
@[simp] theorem Module.raise_now : (m.raise p c).now = m.now := by
    simp [Module.raise]
@[simp] theorem Module.raise_fuses : (m.raise p c).fuses = m.fuses := by
    simp [Module.raise]
@[simp] theorem Module.raise_straps : (m.raise p c).straps = m.straps := by
    simp [Module.raise]
@[simp] theorem Module.raise_q : (m.raise p c).q = m.q := by
    simp [Module.raise]
@[simp] theorem Module.raise_dtu : (m.raise p c).dtu = m.dtu := by
    simp [Module.raise]
@[simp] theorem Module.raise_smp : (m.raise p c).smp = m.smp := by
    simp [Module.raise]
@[simp] theorem Module.raise_x : (m.raise p c).x = m.x := by
    simp [Module.raise]
@[simp] theorem Module.raise_mt : (m.raise p c).mt = m.mt := by
    simp [Module.raise]
@[simp] theorem Module.raise_cl : (m.raise p c).cl = m.cl := by
    simp [Module.raise]
@[simp] theorem Module.raise_st : (m.raise p c).st = m.st := by
    simp [Module.raise]
@[simp] theorem Module.raise_n : (m.raise p c).n = m.n := by
    simp [Module.raise]
@[simp] theorem Module.raise_y : (m.raise p c).y = m.y := by
    simp [Module.raise]
@[simp] theorem Module.raise_timeOffset : (m.raise p c).timeOffset = m.timeOffset := by
    simp [Module.raise]

end raiseFrame

section countUpFrame
variable (m : Module) (p k j : Nat)

@[simp] theorem Module.countUp_draws : (m.countUp p k j).draws = m.draws := by
    unfold Module.countUp; dsimp only; split <;> simp
@[simp] theorem Module.countUp_reads : (m.countUp p k j).reads = m.reads := by
    unfold Module.countUp; dsimp only; split <;> simp
@[simp] theorem Module.countUp_now : (m.countUp p k j).now = m.now := by
    unfold Module.countUp; dsimp only; split <;> simp
@[simp] theorem Module.countUp_fuses : (m.countUp p k j).fuses = m.fuses := by
    unfold Module.countUp; dsimp only; split <;> simp
@[simp] theorem Module.countUp_straps : (m.countUp p k j).straps = m.straps := by
    unfold Module.countUp; dsimp only; split <;> simp
@[simp] theorem Module.countUp_q : (m.countUp p k j).q = m.q := by
    unfold Module.countUp; dsimp only; split <;> simp
@[simp] theorem Module.countUp_dtu : (m.countUp p k j).dtu = m.dtu := by
    unfold Module.countUp; dsimp only; split <;> simp
@[simp] theorem Module.countUp_smp : (m.countUp p k j).smp = m.smp := by
    unfold Module.countUp; dsimp only; split <;> simp
@[simp] theorem Module.countUp_x : (m.countUp p k j).x = m.x := by
    unfold Module.countUp; dsimp only; split <;> simp
@[simp] theorem Module.countUp_mt : (m.countUp p k j).mt = m.mt := by
    unfold Module.countUp; dsimp only; split <;> simp
@[simp] theorem Module.countUp_cl : (m.countUp p k j).cl = m.cl := by
    unfold Module.countUp; dsimp only; split <;> simp
@[simp] theorem Module.countUp_st : (m.countUp p k j).st = m.st := by
    unfold Module.countUp; dsimp only; split <;> simp
@[simp] theorem Module.countUp_n : (m.countUp p k j).n = m.n := by
    unfold Module.countUp; dsimp only; split <;> simp
@[simp] theorem Module.countUp_y : (m.countUp p k j).y = m.y := by
    unfold Module.countUp; dsimp only; split <;> simp
@[simp] theorem Module.countUp_timeOffset : (m.countUp p k j).timeOffset = m.timeOffset := by
    unfold Module.countUp; dsimp only; split <;> simp

end countUpFrame

section countFrame
variable (m : Module) (p k : Nat)

@[simp] theorem Module.count_draws : (m.count p k).draws = m.draws := by
    simp [Module.count]
@[simp] theorem Module.count_reads : (m.count p k).reads = m.reads := by
    simp [Module.count]
@[simp] theorem Module.count_now : (m.count p k).now = m.now := by
    simp [Module.count]
@[simp] theorem Module.count_fuses : (m.count p k).fuses = m.fuses := by
    simp [Module.count]
@[simp] theorem Module.count_straps : (m.count p k).straps = m.straps := by
    simp [Module.count]
@[simp] theorem Module.count_q : (m.count p k).q = m.q := by
    simp [Module.count]
@[simp] theorem Module.count_dtu : (m.count p k).dtu = m.dtu := by
    simp [Module.count]
@[simp] theorem Module.count_smp : (m.count p k).smp = m.smp := by
    simp [Module.count]
@[simp] theorem Module.count_x : (m.count p k).x = m.x := by
    simp [Module.count]
@[simp] theorem Module.count_mt : (m.count p k).mt = m.mt := by
    simp [Module.count]
@[simp] theorem Module.count_cl : (m.count p k).cl = m.cl := by
    simp [Module.count]
@[simp] theorem Module.count_st : (m.count p k).st = m.st := by
    simp [Module.count]
@[simp] theorem Module.count_n : (m.count p k).n = m.n := by
    simp [Module.count]
@[simp] theorem Module.count_y : (m.count p k).y = m.y := by
    simp [Module.count]
@[simp] theorem Module.count_timeOffset : (m.count p k).timeOffset = m.timeOffset := by
    simp [Module.count]

end countFrame

section assertSrcFrame
variable (m : Module) (k : Nat)

@[simp] theorem Module.assertSrc_draws : (m.assertSrc k).draws = m.draws := by
    simp [Module.assertSrc]
@[simp] theorem Module.assertSrc_reads : (m.assertSrc k).reads = m.reads := by
    simp [Module.assertSrc]
@[simp] theorem Module.assertSrc_now : (m.assertSrc k).now = m.now := by
    simp [Module.assertSrc]
@[simp] theorem Module.assertSrc_fuses : (m.assertSrc k).fuses = m.fuses := by
    simp [Module.assertSrc]
@[simp] theorem Module.assertSrc_straps : (m.assertSrc k).straps = m.straps := by
    simp [Module.assertSrc]
@[simp] theorem Module.assertSrc_q : (m.assertSrc k).q = m.q := by
    simp [Module.assertSrc]
@[simp] theorem Module.assertSrc_dtu : (m.assertSrc k).dtu = m.dtu := by
    simp [Module.assertSrc]
@[simp] theorem Module.assertSrc_smp : (m.assertSrc k).smp = m.smp := by
    simp [Module.assertSrc]
@[simp] theorem Module.assertSrc_x : (m.assertSrc k).x = m.x := by
    simp [Module.assertSrc]
@[simp] theorem Module.assertSrc_mt : (m.assertSrc k).mt = m.mt := by
    simp [Module.assertSrc]
@[simp] theorem Module.assertSrc_cl : (m.assertSrc k).cl = m.cl := by
    simp [Module.assertSrc]
@[simp] theorem Module.assertSrc_st : (m.assertSrc k).st = m.st := by
    simp [Module.assertSrc]
@[simp] theorem Module.assertSrc_n : (m.assertSrc k).n = m.n := by
    simp [Module.assertSrc]
@[simp] theorem Module.assertSrc_y : (m.assertSrc k).y = m.y := by
    simp [Module.assertSrc]
@[simp] theorem Module.assertSrc_timeOffset : (m.assertSrc k).timeOffset = m.timeOffset := by
    simp [Module.assertSrc]

end assertSrcFrame

section accessErrorFrame
variable (m : Module) (wr sz : Bool) (ms : Nat) (d : Dom) (a : Nat)

@[simp] theorem Module.accessError_draws : (m.accessError wr sz ms d a).draws = m.draws := by
    unfold Module.accessError; dsimp only; split <;> simp
@[simp] theorem Module.accessError_reads : (m.accessError wr sz ms d a).reads = m.reads := by
    unfold Module.accessError; dsimp only; split <;> simp
@[simp] theorem Module.accessError_now : (m.accessError wr sz ms d a).now = m.now := by
    unfold Module.accessError; dsimp only; split <;> simp
@[simp] theorem Module.accessError_fuses : (m.accessError wr sz ms d a).fuses = m.fuses := by
    unfold Module.accessError; dsimp only; split <;> simp
@[simp] theorem Module.accessError_straps : (m.accessError wr sz ms d a).straps = m.straps := by
    unfold Module.accessError; dsimp only; split <;> simp
@[simp] theorem Module.accessError_q : (m.accessError wr sz ms d a).q = m.q := by
    unfold Module.accessError; dsimp only; split <;> simp
@[simp] theorem Module.accessError_dtu : (m.accessError wr sz ms d a).dtu = m.dtu := by
    unfold Module.accessError; dsimp only; split <;> simp
@[simp] theorem Module.accessError_smp : (m.accessError wr sz ms d a).smp = m.smp := by
    unfold Module.accessError; dsimp only; split <;> simp
@[simp] theorem Module.accessError_x : (m.accessError wr sz ms d a).x = m.x := by
    unfold Module.accessError; dsimp only; split <;> simp
@[simp] theorem Module.accessError_mt : (m.accessError wr sz ms d a).mt = m.mt := by
    unfold Module.accessError; dsimp only; split <;> simp
@[simp] theorem Module.accessError_cl : (m.accessError wr sz ms d a).cl = m.cl := by
    unfold Module.accessError; dsimp only; split <;> simp
@[simp] theorem Module.accessError_st : (m.accessError wr sz ms d a).st = m.st := by
    unfold Module.accessError; dsimp only; split <;> simp
@[simp] theorem Module.accessError_n : (m.accessError wr sz ms d a).n = m.n := by
    unfold Module.accessError; dsimp only; split <;> simp
@[simp] theorem Module.accessError_y : (m.accessError wr sz ms d a).y = m.y := by
    unfold Module.accessError; dsimp only; split <;> simp
@[simp] theorem Module.accessError_timeOffset : (m.accessError wr sz ms d a).timeOffset = m.timeOffset := by
    unfold Module.accessError; dsimp only; split <;> simp

end accessErrorFrame

section unmaskedFrame
variable (m : Module) (l v : Nat)

@[simp] theorem Module.unmasked_draws : (m.unmasked l v).draws = m.draws := by
    unfold Module.unmasked; dsimp only; repeat' split
    all_goals simp
@[simp] theorem Module.unmasked_reads : (m.unmasked l v).reads = m.reads := by
    unfold Module.unmasked; dsimp only; repeat' split
    all_goals simp
@[simp] theorem Module.unmasked_now : (m.unmasked l v).now = m.now := by
    unfold Module.unmasked; dsimp only; repeat' split
    all_goals simp
@[simp] theorem Module.unmasked_fuses : (m.unmasked l v).fuses = m.fuses := by
    unfold Module.unmasked; dsimp only; repeat' split
    all_goals simp
@[simp] theorem Module.unmasked_straps : (m.unmasked l v).straps = m.straps := by
    unfold Module.unmasked; dsimp only; repeat' split
    all_goals simp
@[simp] theorem Module.unmasked_q : (m.unmasked l v).q = m.q := by
    unfold Module.unmasked; dsimp only; repeat' split
    all_goals simp
@[simp] theorem Module.unmasked_dtu : (m.unmasked l v).dtu = m.dtu := by
    unfold Module.unmasked; dsimp only; repeat' split
    all_goals simp
@[simp] theorem Module.unmasked_smp : (m.unmasked l v).smp = m.smp := by
    unfold Module.unmasked; dsimp only; repeat' split
    all_goals simp
@[simp] theorem Module.unmasked_x : (m.unmasked l v).x = m.x := by
    unfold Module.unmasked; dsimp only; repeat' split
    all_goals simp
@[simp] theorem Module.unmasked_mt : (m.unmasked l v).mt = m.mt := by
    unfold Module.unmasked; dsimp only; repeat' split
    all_goals simp
@[simp] theorem Module.unmasked_cl : (m.unmasked l v).cl = m.cl := by
    unfold Module.unmasked; dsimp only; repeat' split
    all_goals simp
@[simp] theorem Module.unmasked_st : (m.unmasked l v).st = m.st := by
    unfold Module.unmasked; dsimp only; repeat' split
    all_goals simp
@[simp] theorem Module.unmasked_n : (m.unmasked l v).n = m.n := by
    unfold Module.unmasked; dsimp only; repeat' split
    all_goals simp
@[simp] theorem Module.unmasked_y : (m.unmasked l v).y = m.y := by
    unfold Module.unmasked; dsimp only; repeat' split
    all_goals simp
@[simp] theorem Module.unmasked_timeOffset : (m.unmasked l v).timeOffset = m.timeOffset := by
    unfold Module.unmasked; dsimp only; repeat' split
    all_goals simp

end unmaskedFrame

section msixWriteFrame
variable (m : Module) (a : Nat) (w : Wr)

@[simp] theorem Module.msixWrite_draws : (m.msixWrite a w).draws = m.draws := by
    unfold Module.msixWrite; dsimp only; split <;> simp
@[simp] theorem Module.msixWrite_reads : (m.msixWrite a w).reads = m.reads := by
    unfold Module.msixWrite; dsimp only; split <;> simp
@[simp] theorem Module.msixWrite_now : (m.msixWrite a w).now = m.now := by
    unfold Module.msixWrite; dsimp only; split <;> simp
@[simp] theorem Module.msixWrite_fuses : (m.msixWrite a w).fuses = m.fuses := by
    unfold Module.msixWrite; dsimp only; split <;> simp
@[simp] theorem Module.msixWrite_straps : (m.msixWrite a w).straps = m.straps := by
    unfold Module.msixWrite; dsimp only; split <;> simp
@[simp] theorem Module.msixWrite_q : (m.msixWrite a w).q = m.q := by
    unfold Module.msixWrite; dsimp only; split <;> simp
@[simp] theorem Module.msixWrite_dtu : (m.msixWrite a w).dtu = m.dtu := by
    unfold Module.msixWrite; dsimp only; split <;> simp
@[simp] theorem Module.msixWrite_smp : (m.msixWrite a w).smp = m.smp := by
    unfold Module.msixWrite; dsimp only; split <;> simp
@[simp] theorem Module.msixWrite_x : (m.msixWrite a w).x = m.x := by
    unfold Module.msixWrite; dsimp only; split <;> simp
@[simp] theorem Module.msixWrite_mt : (m.msixWrite a w).mt = m.mt := by
    unfold Module.msixWrite; dsimp only; split <;> simp
@[simp] theorem Module.msixWrite_cl : (m.msixWrite a w).cl = m.cl := by
    unfold Module.msixWrite; dsimp only; split <;> simp
@[simp] theorem Module.msixWrite_st : (m.msixWrite a w).st = m.st := by
    unfold Module.msixWrite; dsimp only; split <;> simp
@[simp] theorem Module.msixWrite_n : (m.msixWrite a w).n = m.n := by
    unfold Module.msixWrite; dsimp only; split <;> simp
@[simp] theorem Module.msixWrite_y : (m.msixWrite a w).y = m.y := by
    unfold Module.msixWrite; dsimp only; split <;> simp
@[simp] theorem Module.msixWrite_timeOffset : (m.msixWrite a w).timeOffset = m.timeOffset := by
    unfold Module.msixWrite; dsimp only; split <;> simp

end msixWriteFrame

section headerWriteFrame
variable (m : Module) (p o : Nat) (w : Wr)

@[simp] theorem Module.headerWrite_draws : (m.headerWrite p o w).draws = m.draws := by
    unfold Module.headerWrite; repeat' split
    all_goals simp
@[simp] theorem Module.headerWrite_reads : (m.headerWrite p o w).reads = m.reads := by
    unfold Module.headerWrite; repeat' split
    all_goals simp
@[simp] theorem Module.headerWrite_now : (m.headerWrite p o w).now = m.now := by
    unfold Module.headerWrite; repeat' split
    all_goals simp
@[simp] theorem Module.headerWrite_fuses : (m.headerWrite p o w).fuses = m.fuses := by
    unfold Module.headerWrite; repeat' split
    all_goals simp
@[simp] theorem Module.headerWrite_straps : (m.headerWrite p o w).straps = m.straps := by
    unfold Module.headerWrite; repeat' split
    all_goals simp
@[simp] theorem Module.headerWrite_q : (m.headerWrite p o w).q = m.q := by
    unfold Module.headerWrite; repeat' split
    all_goals simp
@[simp] theorem Module.headerWrite_dtu : (m.headerWrite p o w).dtu = m.dtu := by
    unfold Module.headerWrite; repeat' split
    all_goals simp
@[simp] theorem Module.headerWrite_smp : (m.headerWrite p o w).smp = m.smp := by
    unfold Module.headerWrite; repeat' split
    all_goals simp
@[simp] theorem Module.headerWrite_x : (m.headerWrite p o w).x = m.x := by
    unfold Module.headerWrite; repeat' split
    all_goals simp
@[simp] theorem Module.headerWrite_mt : (m.headerWrite p o w).mt = m.mt := by
    unfold Module.headerWrite; repeat' split
    all_goals simp
@[simp] theorem Module.headerWrite_cl : (m.headerWrite p o w).cl = m.cl := by
    unfold Module.headerWrite; repeat' split
    all_goals simp
@[simp] theorem Module.headerWrite_st : (m.headerWrite p o w).st = m.st := by
    unfold Module.headerWrite; repeat' split
    all_goals simp
@[simp] theorem Module.headerWrite_n : (m.headerWrite p o w).n = m.n := by
    unfold Module.headerWrite; repeat' split
    all_goals simp
@[simp] theorem Module.headerWrite_y : (m.headerWrite p o w).y = m.y := by
    unfold Module.headerWrite; repeat' split
    all_goals simp
@[simp] theorem Module.headerWrite_timeOffset : (m.headerWrite p o w).timeOffset = m.timeOffset := by
    unfold Module.headerWrite; repeat' split
    all_goals simp

end headerWriteFrame

section regWriteFrame
variable (m : Module) (a : Nat) (w : Wr)

@[simp] theorem Module.regWrite_draws : (m.regWrite a w).draws = m.draws := by
    unfold Module.regWrite; dsimp only; repeat' split
    all_goals simp
@[simp] theorem Module.regWrite_reads : (m.regWrite a w).reads = m.reads := by
    unfold Module.regWrite; dsimp only; repeat' split
    all_goals simp
@[simp] theorem Module.regWrite_now : (m.regWrite a w).now = m.now := by
    unfold Module.regWrite; dsimp only; repeat' split
    all_goals simp
@[simp] theorem Module.regWrite_fuses : (m.regWrite a w).fuses = m.fuses := by
    unfold Module.regWrite; dsimp only; repeat' split
    all_goals simp
@[simp] theorem Module.regWrite_straps : (m.regWrite a w).straps = m.straps := by
    unfold Module.regWrite; dsimp only; repeat' split
    all_goals simp
@[simp] theorem Module.regWrite_q : (m.regWrite a w).q = m.q := by
    unfold Module.regWrite; dsimp only; repeat' split
    all_goals simp
@[simp] theorem Module.regWrite_dtu : (m.regWrite a w).dtu = m.dtu := by
    unfold Module.regWrite; dsimp only; repeat' split
    all_goals simp
@[simp] theorem Module.regWrite_smp : (m.regWrite a w).smp = m.smp := by
    unfold Module.regWrite; dsimp only; repeat' split
    all_goals simp
@[simp] theorem Module.regWrite_x : (m.regWrite a w).x = m.x := by
    unfold Module.regWrite; dsimp only; repeat' split
    all_goals simp
@[simp] theorem Module.regWrite_mt : (m.regWrite a w).mt = m.mt := by
    unfold Module.regWrite; dsimp only; repeat' split
    all_goals simp
@[simp] theorem Module.regWrite_cl : (m.regWrite a w).cl = m.cl := by
    unfold Module.regWrite; dsimp only; repeat' split
    all_goals simp
@[simp] theorem Module.regWrite_st : (m.regWrite a w).st = m.st := by
    unfold Module.regWrite; dsimp only; repeat' split
    all_goals simp
@[simp] theorem Module.regWrite_n : (m.regWrite a w).n = m.n := by
    unfold Module.regWrite; dsimp only; repeat' split
    all_goals simp
@[simp] theorem Module.regWrite_y : (m.regWrite a w).y = m.y := by
    unfold Module.regWrite; dsimp only; repeat' split
    all_goals simp
@[simp] theorem Module.regWrite_timeOffset : (m.regWrite a w).timeOffset = m.timeOffset := by
    unfold Module.regWrite; dsimp only; repeat' split
    all_goals simp

end regWriteFrame

section pageCtlFrame
variable (m : Module) (a : Nat) (w : Wr)

@[simp] theorem Module.pageCtl_draws : (m.pageCtl a w).draws = m.draws := by
    unfold Module.pageCtl; dsimp only; split <;> simp
@[simp] theorem Module.pageCtl_reads : (m.pageCtl a w).reads = m.reads := by
    unfold Module.pageCtl; dsimp only; split <;> simp
@[simp] theorem Module.pageCtl_now : (m.pageCtl a w).now = m.now := by
    unfold Module.pageCtl; dsimp only; split <;> simp
@[simp] theorem Module.pageCtl_fuses : (m.pageCtl a w).fuses = m.fuses := by
    unfold Module.pageCtl; dsimp only; split <;> simp
@[simp] theorem Module.pageCtl_straps : (m.pageCtl a w).straps = m.straps := by
    unfold Module.pageCtl; dsimp only; split <;> simp
@[simp] theorem Module.pageCtl_q : (m.pageCtl a w).q = m.q := by
    unfold Module.pageCtl; dsimp only; split <;> simp
@[simp] theorem Module.pageCtl_dtu : (m.pageCtl a w).dtu = m.dtu := by
    unfold Module.pageCtl; dsimp only; split <;> simp
@[simp] theorem Module.pageCtl_smp : (m.pageCtl a w).smp = m.smp := by
    unfold Module.pageCtl; dsimp only; split <;> simp
@[simp] theorem Module.pageCtl_x : (m.pageCtl a w).x = m.x := by
    unfold Module.pageCtl; dsimp only; split <;> simp
@[simp] theorem Module.pageCtl_mt : (m.pageCtl a w).mt = m.mt := by
    unfold Module.pageCtl; dsimp only; split <;> simp
@[simp] theorem Module.pageCtl_cl : (m.pageCtl a w).cl = m.cl := by
    unfold Module.pageCtl; dsimp only; split <;> simp
@[simp] theorem Module.pageCtl_st : (m.pageCtl a w).st = m.st := by
    unfold Module.pageCtl; dsimp only; split <;> simp
@[simp] theorem Module.pageCtl_n : (m.pageCtl a w).n = m.n := by
    unfold Module.pageCtl; dsimp only; split <;> simp
@[simp] theorem Module.pageCtl_y : (m.pageCtl a w).y = m.y := by
    unfold Module.pageCtl; dsimp only; split <;> simp
@[simp] theorem Module.pageCtl_timeOffset : (m.pageCtl a w).timeOffset = m.timeOffset := by
    unfold Module.pageCtl; dsimp only; split <;> simp

end pageCtlFrame

section busWriteFrame
variable (m : Module) (l a : Nat) (bs : List Byte)

@[simp] theorem Module.busWrite_draws : (m.busWrite l a bs).draws = m.draws := by
    simp [Module.busWrite]
@[simp] theorem Module.busWrite_reads : (m.busWrite l a bs).reads = m.reads := by
    simp [Module.busWrite]
@[simp] theorem Module.busWrite_now : (m.busWrite l a bs).now = m.now := by
    simp [Module.busWrite]
@[simp] theorem Module.busWrite_fuses : (m.busWrite l a bs).fuses = m.fuses := by
    simp [Module.busWrite]
@[simp] theorem Module.busWrite_straps : (m.busWrite l a bs).straps = m.straps := by
    simp [Module.busWrite]
@[simp] theorem Module.busWrite_q : (m.busWrite l a bs).q = m.q := by
    simp [Module.busWrite]
@[simp] theorem Module.busWrite_dtu : (m.busWrite l a bs).dtu = m.dtu := by
    simp [Module.busWrite]
@[simp] theorem Module.busWrite_smp : (m.busWrite l a bs).smp = m.smp := by
    simp [Module.busWrite]
@[simp] theorem Module.busWrite_x : (m.busWrite l a bs).x = m.x := by
    simp [Module.busWrite]
@[simp] theorem Module.busWrite_mt : (m.busWrite l a bs).mt = m.mt := by
    simp [Module.busWrite]
@[simp] theorem Module.busWrite_cl : (m.busWrite l a bs).cl = m.cl := by
    simp [Module.busWrite]
@[simp] theorem Module.busWrite_st : (m.busWrite l a bs).st = m.st := by
    simp [Module.busWrite]
@[simp] theorem Module.busWrite_n : (m.busWrite l a bs).n = m.n := by
    simp [Module.busWrite]
@[simp] theorem Module.busWrite_y : (m.busWrite l a bs).y = m.y := by
    simp [Module.busWrite]
@[simp] theorem Module.busWrite_timeOffset : (m.busWrite l a bs).timeOffset = m.timeOffset := by
    simp [Module.busWrite]

end busWriteFrame

section logFaultFrame
variable (m : Module) (r : XReq) (f : XFault)

@[simp] theorem Module.logFault_draws : (m.logFault r f).draws = m.draws := by
    unfold Module.logFault; (try dsimp only); repeat' split
    all_goals simp
@[simp] theorem Module.logFault_reads : (m.logFault r f).reads = m.reads := by
    unfold Module.logFault; (try dsimp only); repeat' split
    all_goals simp
@[simp] theorem Module.logFault_now : (m.logFault r f).now = m.now := by
    unfold Module.logFault; (try dsimp only); repeat' split
    all_goals simp
@[simp] theorem Module.logFault_fuses : (m.logFault r f).fuses = m.fuses := by
    unfold Module.logFault; (try dsimp only); repeat' split
    all_goals simp
@[simp] theorem Module.logFault_straps : (m.logFault r f).straps = m.straps := by
    unfold Module.logFault; (try dsimp only); repeat' split
    all_goals simp
@[simp] theorem Module.logFault_q : (m.logFault r f).q = m.q := by
    unfold Module.logFault; (try dsimp only); repeat' split
    all_goals simp
@[simp] theorem Module.logFault_dtu : (m.logFault r f).dtu = m.dtu := by
    unfold Module.logFault; (try dsimp only); repeat' split
    all_goals simp
@[simp] theorem Module.logFault_smp : (m.logFault r f).smp = m.smp := by
    unfold Module.logFault; (try dsimp only); repeat' split
    all_goals simp
@[simp] theorem Module.logFault_x : (m.logFault r f).x = m.x := by
    unfold Module.logFault; (try dsimp only); repeat' split
    all_goals simp
@[simp] theorem Module.logFault_mt : (m.logFault r f).mt = m.mt := by
    unfold Module.logFault; (try dsimp only); repeat' split
    all_goals simp
@[simp] theorem Module.logFault_cl : (m.logFault r f).cl = m.cl := by
    unfold Module.logFault; (try dsimp only); repeat' split
    all_goals simp
@[simp] theorem Module.logFault_st : (m.logFault r f).st = m.st := by
    unfold Module.logFault; (try dsimp only); repeat' split
    all_goals simp
@[simp] theorem Module.logFault_n : (m.logFault r f).n = m.n := by
    unfold Module.logFault; (try dsimp only); repeat' split
    all_goals simp
@[simp] theorem Module.logFault_y : (m.logFault r f).y = m.y := by
    unfold Module.logFault; (try dsimp only); repeat' split
    all_goals simp
@[simp] theorem Module.logFault_timeOffset : (m.logFault r f).timeOffset = m.timeOffset := by
    unfold Module.logFault; (try dsimp only); repeat' split
    all_goals simp

end logFaultFrame

section microFillFrame
variable (m : Module) (k : Nat) (s : TlbSlot)

@[simp] theorem Module.microFill_regs : (m.microFill k s).regs = m.regs := by
    unfold Module.microFill; (try dsimp only); repeat' split
    all_goals simp
@[simp] theorem Module.microFill_draws : (m.microFill k s).draws = m.draws := by
    unfold Module.microFill; (try dsimp only); repeat' split
    all_goals simp
@[simp] theorem Module.microFill_reads : (m.microFill k s).reads = m.reads := by
    unfold Module.microFill; (try dsimp only); repeat' split
    all_goals simp
@[simp] theorem Module.microFill_now : (m.microFill k s).now = m.now := by
    unfold Module.microFill; (try dsimp only); repeat' split
    all_goals simp
@[simp] theorem Module.microFill_out : (m.microFill k s).out = m.out := by
    unfold Module.microFill; (try dsimp only); repeat' split
    all_goals simp
@[simp] theorem Module.microFill_fuses : (m.microFill k s).fuses = m.fuses := by
    unfold Module.microFill; (try dsimp only); repeat' split
    all_goals simp
@[simp] theorem Module.microFill_straps : (m.microFill k s).straps = m.straps := by
    unfold Module.microFill; (try dsimp only); repeat' split
    all_goals simp
@[simp] theorem Module.microFill_msix : (m.microFill k s).msix = m.msix := by
    unfold Module.microFill; (try dsimp only); repeat' split
    all_goals simp
@[simp] theorem Module.microFill_q : (m.microFill k s).q = m.q := by
    unfold Module.microFill; (try dsimp only); repeat' split
    all_goals simp
@[simp] theorem Module.microFill_smp : (m.microFill k s).smp = m.smp := by
    unfold Module.microFill; (try dsimp only); repeat' split
    all_goals simp
@[simp] theorem Module.microFill_x : (m.microFill k s).x = m.x := by
    unfold Module.microFill; (try dsimp only); repeat' split
    all_goals simp
@[simp] theorem Module.microFill_mt : (m.microFill k s).mt = m.mt := by
    unfold Module.microFill; (try dsimp only); repeat' split
    all_goals simp
@[simp] theorem Module.microFill_cl : (m.microFill k s).cl = m.cl := by
    unfold Module.microFill; (try dsimp only); repeat' split
    all_goals simp
@[simp] theorem Module.microFill_st : (m.microFill k s).st = m.st := by
    unfold Module.microFill; (try dsimp only); repeat' split
    all_goals simp
@[simp] theorem Module.microFill_n : (m.microFill k s).n = m.n := by
    unfold Module.microFill; (try dsimp only); repeat' split
    all_goals simp
@[simp] theorem Module.microFill_y : (m.microFill k s).y = m.y := by
    unfold Module.microFill; (try dsimp only); repeat' split
    all_goals simp
@[simp] theorem Module.microFill_timeOffset : (m.microFill k s).timeOffset = m.timeOffset := by
    unfold Module.microFill; (try dsimp only); repeat' split
    all_goals simp

end microFillFrame

section lookupFrame
variable (m : Module) (r : XReq)

@[simp] theorem Module.lookup_draws : ((m.lookup r).2).draws = m.draws := by
    unfold Module.lookup; (try dsimp only); repeat' split
    all_goals simp
@[simp] theorem Module.lookup_reads : ((m.lookup r).2).reads = m.reads := by
    unfold Module.lookup; (try dsimp only); repeat' split
    all_goals simp
@[simp] theorem Module.lookup_now : ((m.lookup r).2).now = m.now := by
    unfold Module.lookup; (try dsimp only); repeat' split
    all_goals simp
@[simp] theorem Module.lookup_fuses : ((m.lookup r).2).fuses = m.fuses := by
    unfold Module.lookup; (try dsimp only); repeat' split
    all_goals simp
@[simp] theorem Module.lookup_straps : ((m.lookup r).2).straps = m.straps := by
    unfold Module.lookup; (try dsimp only); repeat' split
    all_goals simp
@[simp] theorem Module.lookup_q : ((m.lookup r).2).q = m.q := by
    unfold Module.lookup; (try dsimp only); repeat' split
    all_goals simp
@[simp] theorem Module.lookup_smp : ((m.lookup r).2).smp = m.smp := by
    unfold Module.lookup; (try dsimp only); repeat' split
    all_goals simp
@[simp] theorem Module.lookup_x : ((m.lookup r).2).x = m.x := by
    unfold Module.lookup; (try dsimp only); repeat' split
    all_goals simp
@[simp] theorem Module.lookup_mt : ((m.lookup r).2).mt = m.mt := by
    unfold Module.lookup; (try dsimp only); repeat' split
    all_goals simp
@[simp] theorem Module.lookup_cl : ((m.lookup r).2).cl = m.cl := by
    unfold Module.lookup; (try dsimp only); repeat' split
    all_goals simp
@[simp] theorem Module.lookup_st : ((m.lookup r).2).st = m.st := by
    unfold Module.lookup; (try dsimp only); repeat' split
    all_goals simp
@[simp] theorem Module.lookup_n : ((m.lookup r).2).n = m.n := by
    unfold Module.lookup; (try dsimp only); repeat' split
    all_goals simp
@[simp] theorem Module.lookup_y : ((m.lookup r).2).y = m.y := by
    unfold Module.lookup; (try dsimp only); repeat' split
    all_goals simp
@[simp] theorem Module.lookup_timeOffset : ((m.lookup r).2).timeOffset = m.timeOffset := by
    unfold Module.lookup; (try dsimp only); repeat' split
    all_goals simp

end lookupFrame

section walkReturnFrame
variable (m : Module) (w : Walk) (d : Option (List Word))

@[simp] theorem Module.walkReturn_draws : ((m.walkReturn w d).2).draws = m.draws := by
    unfold Module.walkReturn; (try dsimp only); repeat' split
    all_goals simp
@[simp] theorem Module.walkReturn_reads : ((m.walkReturn w d).2).reads = m.reads := by
    unfold Module.walkReturn; (try dsimp only); repeat' split
    all_goals simp
@[simp] theorem Module.walkReturn_now : ((m.walkReturn w d).2).now = m.now := by
    unfold Module.walkReturn; (try dsimp only); repeat' split
    all_goals simp
@[simp] theorem Module.walkReturn_fuses : ((m.walkReturn w d).2).fuses = m.fuses := by
    unfold Module.walkReturn; (try dsimp only); repeat' split
    all_goals simp
@[simp] theorem Module.walkReturn_straps : ((m.walkReturn w d).2).straps = m.straps := by
    unfold Module.walkReturn; (try dsimp only); repeat' split
    all_goals simp
@[simp] theorem Module.walkReturn_q : ((m.walkReturn w d).2).q = m.q := by
    unfold Module.walkReturn; (try dsimp only); repeat' split
    all_goals simp
@[simp] theorem Module.walkReturn_smp : ((m.walkReturn w d).2).smp = m.smp := by
    unfold Module.walkReturn; (try dsimp only); repeat' split
    all_goals simp
@[simp] theorem Module.walkReturn_x : ((m.walkReturn w d).2).x = m.x := by
    unfold Module.walkReturn; (try dsimp only); repeat' split
    all_goals simp
@[simp] theorem Module.walkReturn_mt : ((m.walkReturn w d).2).mt = m.mt := by
    unfold Module.walkReturn; (try dsimp only); repeat' split
    all_goals simp
@[simp] theorem Module.walkReturn_cl : ((m.walkReturn w d).2).cl = m.cl := by
    unfold Module.walkReturn; (try dsimp only); repeat' split
    all_goals simp
@[simp] theorem Module.walkReturn_st : ((m.walkReturn w d).2).st = m.st := by
    unfold Module.walkReturn; (try dsimp only); repeat' split
    all_goals simp
@[simp] theorem Module.walkReturn_n : ((m.walkReturn w d).2).n = m.n := by
    unfold Module.walkReturn; (try dsimp only); repeat' split
    all_goals simp
@[simp] theorem Module.walkReturn_y : ((m.walkReturn w d).2).y = m.y := by
    unfold Module.walkReturn; (try dsimp only); repeat' split
    all_goals simp
@[simp] theorem Module.walkReturn_timeOffset : ((m.walkReturn w d).2).timeOffset = m.timeOffset := by
    unfold Module.walkReturn; (try dsimp only); repeat' split
    all_goals simp

end walkReturnFrame

section walkAllFrame
variable (m : Module) (e : Env) (k : Nat) (s : WStep)

@[simp] theorem Module.walkAll_draws : ((m.walkAll e k s).2).draws = m.draws := by
    induction k generalizing m s with
    | zero => rfl
    | succ k ih => cases s <;> simp [Module.walkAll, ih]
@[simp] theorem Module.walkAll_now : ((m.walkAll e k s).2).now = m.now := by
    induction k generalizing m s with
    | zero => rfl
    | succ k ih => cases s <;> simp [Module.walkAll, ih]
@[simp] theorem Module.walkAll_fuses : ((m.walkAll e k s).2).fuses = m.fuses := by
    induction k generalizing m s with
    | zero => rfl
    | succ k ih => cases s <;> simp [Module.walkAll, ih]
@[simp] theorem Module.walkAll_straps : ((m.walkAll e k s).2).straps = m.straps := by
    induction k generalizing m s with
    | zero => rfl
    | succ k ih => cases s <;> simp [Module.walkAll, ih]
@[simp] theorem Module.walkAll_q : ((m.walkAll e k s).2).q = m.q := by
    induction k generalizing m s with
    | zero => rfl
    | succ k ih => cases s <;> simp [Module.walkAll, ih]
@[simp] theorem Module.walkAll_smp : ((m.walkAll e k s).2).smp = m.smp := by
    induction k generalizing m s with
    | zero => rfl
    | succ k ih => cases s <;> simp [Module.walkAll, ih]
@[simp] theorem Module.walkAll_x : ((m.walkAll e k s).2).x = m.x := by
    induction k generalizing m s with
    | zero => rfl
    | succ k ih => cases s <;> simp [Module.walkAll, ih]
@[simp] theorem Module.walkAll_mt : ((m.walkAll e k s).2).mt = m.mt := by
    induction k generalizing m s with
    | zero => rfl
    | succ k ih => cases s <;> simp [Module.walkAll, ih]
@[simp] theorem Module.walkAll_cl : ((m.walkAll e k s).2).cl = m.cl := by
    induction k generalizing m s with
    | zero => rfl
    | succ k ih => cases s <;> simp [Module.walkAll, ih]
@[simp] theorem Module.walkAll_st : ((m.walkAll e k s).2).st = m.st := by
    induction k generalizing m s with
    | zero => rfl
    | succ k ih => cases s <;> simp [Module.walkAll, ih]
@[simp] theorem Module.walkAll_n : ((m.walkAll e k s).2).n = m.n := by
    induction k generalizing m s with
    | zero => rfl
    | succ k ih => cases s <;> simp [Module.walkAll, ih]
@[simp] theorem Module.walkAll_y : ((m.walkAll e k s).2).y = m.y := by
    induction k generalizing m s with
    | zero => rfl
    | succ k ih => cases s <;> simp [Module.walkAll, ih]
@[simp] theorem Module.walkAll_timeOffset : ((m.walkAll e k s).2).timeOffset = m.timeOffset := by
    induction k generalizing m s with
    | zero => rfl
    | succ k ih => cases s <;> simp [Module.walkAll, ih]

end walkAllFrame

section translateFrame
variable (m : Module) (e : Env) (r : XReq)

@[simp] theorem Module.translate_draws : ((m.translate e r).2).draws = m.draws := by
    unfold Module.translate; (try dsimp only); repeat' split
    all_goals simp
@[simp] theorem Module.translate_now : ((m.translate e r).2).now = m.now := by
    unfold Module.translate; (try dsimp only); repeat' split
    all_goals simp
@[simp] theorem Module.translate_fuses : ((m.translate e r).2).fuses = m.fuses := by
    unfold Module.translate; (try dsimp only); repeat' split
    all_goals simp
@[simp] theorem Module.translate_straps : ((m.translate e r).2).straps = m.straps := by
    unfold Module.translate; (try dsimp only); repeat' split
    all_goals simp
@[simp] theorem Module.translate_q : ((m.translate e r).2).q = m.q := by
    unfold Module.translate; (try dsimp only); repeat' split
    all_goals simp
@[simp] theorem Module.translate_smp : ((m.translate e r).2).smp = m.smp := by
    unfold Module.translate; (try dsimp only); repeat' split
    all_goals simp
@[simp] theorem Module.translate_x : ((m.translate e r).2).x = m.x := by
    unfold Module.translate; (try dsimp only); repeat' split
    all_goals simp
@[simp] theorem Module.translate_mt : ((m.translate e r).2).mt = m.mt := by
    unfold Module.translate; (try dsimp only); repeat' split
    all_goals simp
@[simp] theorem Module.translate_cl : ((m.translate e r).2).cl = m.cl := by
    unfold Module.translate; (try dsimp only); repeat' split
    all_goals simp
@[simp] theorem Module.translate_st : ((m.translate e r).2).st = m.st := by
    unfold Module.translate; (try dsimp only); repeat' split
    all_goals simp
@[simp] theorem Module.translate_n : ((m.translate e r).2).n = m.n := by
    unfold Module.translate; (try dsimp only); repeat' split
    all_goals simp
@[simp] theorem Module.translate_y : ((m.translate e r).2).y = m.y := by
    unfold Module.translate; (try dsimp only); repeat' split
    all_goals simp
@[simp] theorem Module.translate_timeOffset : ((m.translate e r).2).timeOffset = m.timeOffset := by
    unfold Module.translate; (try dsimp only); repeat' split
    all_goals simp

end translateFrame

section readVirtAuxFrame
variable (m : Module) (e : Env) (l : Nat) (r : XReq) (k o n : Nat) (acc : List Byte)

@[simp] theorem Module.readVirtAux_draws : ((m.readVirtAux e l r k o n acc).2).draws = m.draws := by
    induction k generalizing m o n acc with
    | zero => rfl
    | succ k ih =>
      unfold Module.readVirtAux; dsimp only
      split
      · rfl
      · generalize ht : m.translate e _ = tr
        have h1 : tr.2.draws = m.draws := by rw [← ht]; simp
        clear ht
        obtain ⟨res, m1⟩ := tr
        cases res
        all_goals simp_all
        try (split <;> simp_all)
@[simp] theorem Module.readVirtAux_now : ((m.readVirtAux e l r k o n acc).2).now = m.now := by
    induction k generalizing m o n acc with
    | zero => rfl
    | succ k ih =>
      unfold Module.readVirtAux; dsimp only
      split
      · rfl
      · generalize ht : m.translate e _ = tr
        have h1 : tr.2.now = m.now := by rw [← ht]; simp
        clear ht
        obtain ⟨res, m1⟩ := tr
        cases res
        all_goals simp_all
        try (split <;> simp_all)
@[simp] theorem Module.readVirtAux_fuses : ((m.readVirtAux e l r k o n acc).2).fuses = m.fuses := by
    induction k generalizing m o n acc with
    | zero => rfl
    | succ k ih =>
      unfold Module.readVirtAux; dsimp only
      split
      · rfl
      · generalize ht : m.translate e _ = tr
        have h1 : tr.2.fuses = m.fuses := by rw [← ht]; simp
        clear ht
        obtain ⟨res, m1⟩ := tr
        cases res
        all_goals simp_all
        try (split <;> simp_all)
@[simp] theorem Module.readVirtAux_straps : ((m.readVirtAux e l r k o n acc).2).straps = m.straps := by
    induction k generalizing m o n acc with
    | zero => rfl
    | succ k ih =>
      unfold Module.readVirtAux; dsimp only
      split
      · rfl
      · generalize ht : m.translate e _ = tr
        have h1 : tr.2.straps = m.straps := by rw [← ht]; simp
        clear ht
        obtain ⟨res, m1⟩ := tr
        cases res
        all_goals simp_all
        try (split <;> simp_all)
@[simp] theorem Module.readVirtAux_q : ((m.readVirtAux e l r k o n acc).2).q = m.q := by
    induction k generalizing m o n acc with
    | zero => rfl
    | succ k ih =>
      unfold Module.readVirtAux; dsimp only
      split
      · rfl
      · generalize ht : m.translate e _ = tr
        have h1 : tr.2.q = m.q := by rw [← ht]; simp
        clear ht
        obtain ⟨res, m1⟩ := tr
        cases res
        all_goals simp_all
        try (split <;> simp_all)
@[simp] theorem Module.readVirtAux_smp : ((m.readVirtAux e l r k o n acc).2).smp = m.smp := by
    induction k generalizing m o n acc with
    | zero => rfl
    | succ k ih =>
      unfold Module.readVirtAux; dsimp only
      split
      · rfl
      · generalize ht : m.translate e _ = tr
        have h1 : tr.2.smp = m.smp := by rw [← ht]; simp
        clear ht
        obtain ⟨res, m1⟩ := tr
        cases res
        all_goals simp_all
        try (split <;> simp_all)
@[simp] theorem Module.readVirtAux_x : ((m.readVirtAux e l r k o n acc).2).x = m.x := by
    induction k generalizing m o n acc with
    | zero => rfl
    | succ k ih =>
      unfold Module.readVirtAux; dsimp only
      split
      · rfl
      · generalize ht : m.translate e _ = tr
        have h1 : tr.2.x = m.x := by rw [← ht]; simp
        clear ht
        obtain ⟨res, m1⟩ := tr
        cases res
        all_goals simp_all
        try (split <;> simp_all)
@[simp] theorem Module.readVirtAux_mt : ((m.readVirtAux e l r k o n acc).2).mt = m.mt := by
    induction k generalizing m o n acc with
    | zero => rfl
    | succ k ih =>
      unfold Module.readVirtAux; dsimp only
      split
      · rfl
      · generalize ht : m.translate e _ = tr
        have h1 : tr.2.mt = m.mt := by rw [← ht]; simp
        clear ht
        obtain ⟨res, m1⟩ := tr
        cases res
        all_goals simp_all
        try (split <;> simp_all)
@[simp] theorem Module.readVirtAux_cl : ((m.readVirtAux e l r k o n acc).2).cl = m.cl := by
    induction k generalizing m o n acc with
    | zero => rfl
    | succ k ih =>
      unfold Module.readVirtAux; dsimp only
      split
      · rfl
      · generalize ht : m.translate e _ = tr
        have h1 : tr.2.cl = m.cl := by rw [← ht]; simp
        clear ht
        obtain ⟨res, m1⟩ := tr
        cases res
        all_goals simp_all
        try (split <;> simp_all)
@[simp] theorem Module.readVirtAux_st : ((m.readVirtAux e l r k o n acc).2).st = m.st := by
    induction k generalizing m o n acc with
    | zero => rfl
    | succ k ih =>
      unfold Module.readVirtAux; dsimp only
      split
      · rfl
      · generalize ht : m.translate e _ = tr
        have h1 : tr.2.st = m.st := by rw [← ht]; simp
        clear ht
        obtain ⟨res, m1⟩ := tr
        cases res
        all_goals simp_all
        try (split <;> simp_all)
@[simp] theorem Module.readVirtAux_n : ((m.readVirtAux e l r k o n acc).2).n = m.n := by
    induction k generalizing m o n acc with
    | zero => rfl
    | succ k ih =>
      unfold Module.readVirtAux; dsimp only
      split
      · rfl
      · generalize ht : m.translate e _ = tr
        have h1 : tr.2.n = m.n := by rw [← ht]; simp
        clear ht
        obtain ⟨res, m1⟩ := tr
        cases res
        all_goals simp_all
        try (split <;> simp_all)
@[simp] theorem Module.readVirtAux_y : ((m.readVirtAux e l r k o n acc).2).y = m.y := by
    induction k generalizing m o n acc with
    | zero => rfl
    | succ k ih =>
      unfold Module.readVirtAux; dsimp only
      split
      · rfl
      · generalize ht : m.translate e _ = tr
        have h1 : tr.2.y = m.y := by rw [← ht]; simp
        clear ht
        obtain ⟨res, m1⟩ := tr
        cases res
        all_goals simp_all
        try (split <;> simp_all)
@[simp] theorem Module.readVirtAux_timeOffset : ((m.readVirtAux e l r k o n acc).2).timeOffset = m.timeOffset := by
    induction k generalizing m o n acc with
    | zero => rfl
    | succ k ih =>
      unfold Module.readVirtAux; dsimp only
      split
      · rfl
      · generalize ht : m.translate e _ = tr
        have h1 : tr.2.timeOffset = m.timeOffset := by rw [← ht]; simp
        clear ht
        obtain ⟨res, m1⟩ := tr
        cases res
        all_goals simp_all
        try (split <;> simp_all)

end readVirtAuxFrame

section readVirtFrame
variable (m : Module) (e : Env) (l : Nat) (r : XReq) (n : Nat)

@[simp] theorem Module.readVirt_draws : ((m.readVirt e l r n).2).draws = m.draws := by
    simp [Module.readVirt]
@[simp] theorem Module.readVirt_now : ((m.readVirt e l r n).2).now = m.now := by
    simp [Module.readVirt]
@[simp] theorem Module.readVirt_fuses : ((m.readVirt e l r n).2).fuses = m.fuses := by
    simp [Module.readVirt]
@[simp] theorem Module.readVirt_straps : ((m.readVirt e l r n).2).straps = m.straps := by
    simp [Module.readVirt]
@[simp] theorem Module.readVirt_q : ((m.readVirt e l r n).2).q = m.q := by
    simp [Module.readVirt]
@[simp] theorem Module.readVirt_smp : ((m.readVirt e l r n).2).smp = m.smp := by
    simp [Module.readVirt]
@[simp] theorem Module.readVirt_x : ((m.readVirt e l r n).2).x = m.x := by
    simp [Module.readVirt]
@[simp] theorem Module.readVirt_mt : ((m.readVirt e l r n).2).mt = m.mt := by
    simp [Module.readVirt]
@[simp] theorem Module.readVirt_cl : ((m.readVirt e l r n).2).cl = m.cl := by
    simp [Module.readVirt]
@[simp] theorem Module.readVirt_st : ((m.readVirt e l r n).2).st = m.st := by
    simp [Module.readVirt]
@[simp] theorem Module.readVirt_n : ((m.readVirt e l r n).2).n = m.n := by
    simp [Module.readVirt]
@[simp] theorem Module.readVirt_y : ((m.readVirt e l r n).2).y = m.y := by
    simp [Module.readVirt]
@[simp] theorem Module.readVirt_timeOffset : ((m.readVirt e l r n).2).timeOffset = m.timeOffset := by
    simp [Module.readVirt]

end readVirtFrame

section writeVirtAuxFrame
variable (m : Module) (e : Env) (l : Nat) (r : XReq) (k o : Nat) (bs : List Byte)

@[simp] theorem Module.writeVirtAux_draws : ((m.writeVirtAux e l r k o bs).2).draws = m.draws := by
    induction k generalizing m o bs with
    | zero => rfl
    | succ k ih =>
      unfold Module.writeVirtAux; dsimp only
      split
      · rfl
      · generalize ht : m.translate e _ = tr
        have h1 : tr.2.draws = m.draws := by rw [← ht]; simp
        clear ht
        obtain ⟨res, m1⟩ := tr
        cases res
        all_goals simp_all
@[simp] theorem Module.writeVirtAux_now : ((m.writeVirtAux e l r k o bs).2).now = m.now := by
    induction k generalizing m o bs with
    | zero => rfl
    | succ k ih =>
      unfold Module.writeVirtAux; dsimp only
      split
      · rfl
      · generalize ht : m.translate e _ = tr
        have h1 : tr.2.now = m.now := by rw [← ht]; simp
        clear ht
        obtain ⟨res, m1⟩ := tr
        cases res
        all_goals simp_all
@[simp] theorem Module.writeVirtAux_fuses : ((m.writeVirtAux e l r k o bs).2).fuses = m.fuses := by
    induction k generalizing m o bs with
    | zero => rfl
    | succ k ih =>
      unfold Module.writeVirtAux; dsimp only
      split
      · rfl
      · generalize ht : m.translate e _ = tr
        have h1 : tr.2.fuses = m.fuses := by rw [← ht]; simp
        clear ht
        obtain ⟨res, m1⟩ := tr
        cases res
        all_goals simp_all
@[simp] theorem Module.writeVirtAux_straps : ((m.writeVirtAux e l r k o bs).2).straps = m.straps := by
    induction k generalizing m o bs with
    | zero => rfl
    | succ k ih =>
      unfold Module.writeVirtAux; dsimp only
      split
      · rfl
      · generalize ht : m.translate e _ = tr
        have h1 : tr.2.straps = m.straps := by rw [← ht]; simp
        clear ht
        obtain ⟨res, m1⟩ := tr
        cases res
        all_goals simp_all
@[simp] theorem Module.writeVirtAux_q : ((m.writeVirtAux e l r k o bs).2).q = m.q := by
    induction k generalizing m o bs with
    | zero => rfl
    | succ k ih =>
      unfold Module.writeVirtAux; dsimp only
      split
      · rfl
      · generalize ht : m.translate e _ = tr
        have h1 : tr.2.q = m.q := by rw [← ht]; simp
        clear ht
        obtain ⟨res, m1⟩ := tr
        cases res
        all_goals simp_all
@[simp] theorem Module.writeVirtAux_smp : ((m.writeVirtAux e l r k o bs).2).smp = m.smp := by
    induction k generalizing m o bs with
    | zero => rfl
    | succ k ih =>
      unfold Module.writeVirtAux; dsimp only
      split
      · rfl
      · generalize ht : m.translate e _ = tr
        have h1 : tr.2.smp = m.smp := by rw [← ht]; simp
        clear ht
        obtain ⟨res, m1⟩ := tr
        cases res
        all_goals simp_all
@[simp] theorem Module.writeVirtAux_x : ((m.writeVirtAux e l r k o bs).2).x = m.x := by
    induction k generalizing m o bs with
    | zero => rfl
    | succ k ih =>
      unfold Module.writeVirtAux; dsimp only
      split
      · rfl
      · generalize ht : m.translate e _ = tr
        have h1 : tr.2.x = m.x := by rw [← ht]; simp
        clear ht
        obtain ⟨res, m1⟩ := tr
        cases res
        all_goals simp_all
@[simp] theorem Module.writeVirtAux_mt : ((m.writeVirtAux e l r k o bs).2).mt = m.mt := by
    induction k generalizing m o bs with
    | zero => rfl
    | succ k ih =>
      unfold Module.writeVirtAux; dsimp only
      split
      · rfl
      · generalize ht : m.translate e _ = tr
        have h1 : tr.2.mt = m.mt := by rw [← ht]; simp
        clear ht
        obtain ⟨res, m1⟩ := tr
        cases res
        all_goals simp_all
@[simp] theorem Module.writeVirtAux_cl : ((m.writeVirtAux e l r k o bs).2).cl = m.cl := by
    induction k generalizing m o bs with
    | zero => rfl
    | succ k ih =>
      unfold Module.writeVirtAux; dsimp only
      split
      · rfl
      · generalize ht : m.translate e _ = tr
        have h1 : tr.2.cl = m.cl := by rw [← ht]; simp
        clear ht
        obtain ⟨res, m1⟩ := tr
        cases res
        all_goals simp_all
@[simp] theorem Module.writeVirtAux_st : ((m.writeVirtAux e l r k o bs).2).st = m.st := by
    induction k generalizing m o bs with
    | zero => rfl
    | succ k ih =>
      unfold Module.writeVirtAux; dsimp only
      split
      · rfl
      · generalize ht : m.translate e _ = tr
        have h1 : tr.2.st = m.st := by rw [← ht]; simp
        clear ht
        obtain ⟨res, m1⟩ := tr
        cases res
        all_goals simp_all
@[simp] theorem Module.writeVirtAux_n : ((m.writeVirtAux e l r k o bs).2).n = m.n := by
    induction k generalizing m o bs with
    | zero => rfl
    | succ k ih =>
      unfold Module.writeVirtAux; dsimp only
      split
      · rfl
      · generalize ht : m.translate e _ = tr
        have h1 : tr.2.n = m.n := by rw [← ht]; simp
        clear ht
        obtain ⟨res, m1⟩ := tr
        cases res
        all_goals simp_all
@[simp] theorem Module.writeVirtAux_y : ((m.writeVirtAux e l r k o bs).2).y = m.y := by
    induction k generalizing m o bs with
    | zero => rfl
    | succ k ih =>
      unfold Module.writeVirtAux; dsimp only
      split
      · rfl
      · generalize ht : m.translate e _ = tr
        have h1 : tr.2.y = m.y := by rw [← ht]; simp
        clear ht
        obtain ⟨res, m1⟩ := tr
        cases res
        all_goals simp_all
@[simp] theorem Module.writeVirtAux_timeOffset : ((m.writeVirtAux e l r k o bs).2).timeOffset = m.timeOffset := by
    induction k generalizing m o bs with
    | zero => rfl
    | succ k ih =>
      unfold Module.writeVirtAux; dsimp only
      split
      · rfl
      · generalize ht : m.translate e _ = tr
        have h1 : tr.2.timeOffset = m.timeOffset := by rw [← ht]; simp
        clear ht
        obtain ⟨res, m1⟩ := tr
        cases res
        all_goals simp_all

end writeVirtAuxFrame

section writeVirtFrame
variable (m : Module) (e : Env) (l : Nat) (r : XReq) (bs : List Byte)

@[simp] theorem Module.writeVirt_draws : ((m.writeVirt e l r bs).2).draws = m.draws := by
    simp [Module.writeVirt]
@[simp] theorem Module.writeVirt_now : ((m.writeVirt e l r bs).2).now = m.now := by
    simp [Module.writeVirt]
@[simp] theorem Module.writeVirt_fuses : ((m.writeVirt e l r bs).2).fuses = m.fuses := by
    simp [Module.writeVirt]
@[simp] theorem Module.writeVirt_straps : ((m.writeVirt e l r bs).2).straps = m.straps := by
    simp [Module.writeVirt]
@[simp] theorem Module.writeVirt_q : ((m.writeVirt e l r bs).2).q = m.q := by
    simp [Module.writeVirt]
@[simp] theorem Module.writeVirt_smp : ((m.writeVirt e l r bs).2).smp = m.smp := by
    simp [Module.writeVirt]
@[simp] theorem Module.writeVirt_x : ((m.writeVirt e l r bs).2).x = m.x := by
    simp [Module.writeVirt]
@[simp] theorem Module.writeVirt_mt : ((m.writeVirt e l r bs).2).mt = m.mt := by
    simp [Module.writeVirt]
@[simp] theorem Module.writeVirt_cl : ((m.writeVirt e l r bs).2).cl = m.cl := by
    simp [Module.writeVirt]
@[simp] theorem Module.writeVirt_st : ((m.writeVirt e l r bs).2).st = m.st := by
    simp [Module.writeVirt]
@[simp] theorem Module.writeVirt_n : ((m.writeVirt e l r bs).2).n = m.n := by
    simp [Module.writeVirt]
@[simp] theorem Module.writeVirt_y : ((m.writeVirt e l r bs).2).y = m.y := by
    simp [Module.writeVirt]
@[simp] theorem Module.writeVirt_timeOffset : ((m.writeVirt e l r bs).2).timeOffset = m.timeOffset := by
    simp [Module.writeVirt]

end writeVirtFrame

end Sys2Proof.Machine
end

