-- ==== Sys2Proof/Laws/Events.lean ====
section
/-! SUPPORT. What counters and events do to registers: a counter changes its own register, an event its page's EVT_PEND and at most
counters of MSI-X messages and CTR_OVF. -/

namespace Sys2Proof.Machine

-- Proofs one after another: side by side, their waiting threads can pass the memory limit.
set_option Elab.async false

@[simp] theorem State.run_eq (s : State) (f : Module → Module) : s.run f = .next (s.upd f) := rfl

/-- A meaning of a master that reaches the register space is what it does to the module. -/
theorem State.runAs_eq (s : State) (ms : BitVec 4) (f : Module → Module) (h : s.masterReaches ms.toNat = true) :
    s.runAs ms f = .next (s.upd f) := by simp [State.runAs, State.upd, h]

/-- The frame of an update, part by part. -/
theorem touches_upd (l : List Part) (s : State) (f : Module → Module) (h : ∀ p, p ∉ l → Part.same s (s.upd f) p) :
    Touches l s (s.upd f) := ⟨rfl, h⟩

theorem Module.addCtr_word (m : Module) (p n k a : Nat) (h : a ≠ p * 0x1000 + 0x800 + 8 * n) :
    (m.addCtr p n k).word a = m.word a := by
  unfold Module.addCtr
  dsimp only
  split
  · rfl
  · split
    · rw [Module.word_put_other _ _ _ _ h, Module.word_put_other _ _ _ _ h]
    · rw [Module.word_put_other _ _ _ _ h]

@[simp] theorem Module.setMsix_word (m : Module) (i : Nat) (f : MsixFn) (a : Nat) : (m.setMsix i f).word a = m.word a := by
  simp [Module.word]

@[simp] theorem Module.emit_word (m : Module) (x : Emit) (a : Nat) : (m.emit x).word a = m.word a := by
  simp [Module.word]

@[simp] theorem Module.at_word (m : Module) (e : Env) (a : Nat) : (m.at e).word a = m.word a := by
  simp [Module.word]

@[simp] theorem Module.pendVector_word (m : Module) (l v : Nat) (b : Bool) (a : Nat) : (m.pendVector l v b).word a = m.word a := by
  simp [Module.pendVector]

/-- The registers that sending messages changes: the counters of messages, and CTR_OVF where one wraps. -/
def MsgRegs (a : Nat) : Prop := a = pgSample * 0x1000 + 0x38 ∨ ∃ i < 4, a = pgHost i * 0x1000 + 0x820

/-- The link that a source's message goes to is one of the four. -/
theorem Module.dest_link (m : Module) (n l v : Nat) (h : m.dest n = some (some (l, v))) : l < 4 := by
  have h4 : m.get (F.evtEnt n 57 56) < 4 := Nat.lt_of_lt_of_le (bits_lt _ _ _) (by simp [F.evtEnt])
  unfold Module.dest at h
  dsimp only at h
  repeat' split at h
  all_goals simp at h
  omega

theorem Module.ovfMessage_word (m : Module) (a : Nat) (h : ¬ MsgRegs a) : m.ovfMessage.word a = m.word a := by
  unfold Module.ovfMessage
  split
  · rfl
  · simp
  · rename_i l v hd
    have hl := m.dest_link _ _ _ hd
    split
    · simp
    · rw [Module.emit_word, Module.addCtr_word _ _ _ _ _ (fun e => h (.inr ⟨l, hl, by omega⟩))]

/-- Counting a message changes no register but counters of messages and CTR_OVF. -/
theorem Module.countMsg_word (m : Module) (l a : Nat) (hl : l < 4) (h : ¬ MsgRegs a) : (m.countMsg l).word a = m.word a := by
  have h1 : a ≠ (F.cause pgSample Ev.ctrOvf).reg := fun e => h (.inl e)
  have h2 : a ≠ pgHost l * 0x1000 + 0x800 + 8 * 4 := fun e => h (.inr ⟨l, hl, by omega⟩)
  unfold Module.countMsg
  dsimp only
  repeat' split
  · rw [Module.ovfMessage_word _ _ h, Module.word_put_other _ _ _ _ h1, Module.addCtr_word _ _ _ _ _ h2]
  · rw [Module.word_put_other _ _ _ _ h1, Module.addCtr_word _ _ _ _ _ h2]
  · rw [Module.addCtr_word _ _ _ _ _ h2]

theorem Module.sendVector_word (m : Module) (l v : Nat) (b : Bool) (a : Nat) (hl : l < 4) (h : ¬ MsgRegs a) :
    (m.sendVector l v b).word a = m.word a := by
  unfold Module.sendVector
  split
  · simp
  · rw [Module.countMsg_word _ _ _ hl h, Module.emit_word]

/-- A delivery changes no register but counters of messages and CTR_OVF. -/
theorem Module.deliver_word (m : Module) (n a : Nat) (h : ¬ MsgRegs a) : (m.deliver n).word a = m.word a := by
  unfold Module.deliver
  split
  · rfl
  · simp
  · rename_i l v hd
    exact Module.sendVector_word _ _ _ _ _ (m.dest_link _ _ _ hd) h

theorem Module.onRise_word (m old : Module) (n a : Nat) (h : ¬ MsgRegs a) : (m.onRise old n).word a = m.word a := by
  unfold Module.onRise
  split
  · exact Module.deliver_word m n a h
  · rfl

/-- An event changes no register but its page's EVT_PEND, counters of messages and CTR_OVF. -/
theorem Module.raise_word (m : Module) (page c a : Nat) (h : ¬ EventRegs page a) : (m.raise page c).word a = m.word a := by
  have h1 : a ≠ page * 0x1000 + 0x38 := fun e => h (.inl e)
  have h2 : ¬ MsgRegs a := fun e => h (.inr e)
  rw [Module.raise, Module.onRise_word _ _ _ _ h2, Module.word_put_other _ _ _ _ h1]

/-- CTR_OVF set beside a cause leaves the cause set. -/
theorem Module.put_ovf_cause (m : Module) (page c : Nat) (hc : c < 64) (h : m.get (F.cause page c) = 1) :
    (m.put (F.cause pgSample Ev.ctrOvf) 1).get (F.cause page c) = 1 := by
  by_cases hr : page = pgSample
  · subst hr
    by_cases he : c = Ev.ctrOvf
    · subst he
      rw [Module.get_put_same _ _ _ (Nat.le_refl _) (by simp [F.cause, Ev.ctrOvf])]
      simp [F.cause]
    · rw [Module.get_put_apart _ _ _ _ (Nat.le_refl _) (by simp [F.cause, Ev.ctrOvf]) ?_]
      · exact h
      · simp only [F.cause]
        omega
  · rw [Module.get_put_reg _ _ _ _ ?_]
    · exact h
    · simp only [F.cause]
      omega

/-- Counting a message leaves a cause of any page set. -/
theorem Module.countMsg_cause (m : Module) (l page c : Nat) (hc : c < 64) (h : m.get (F.cause page c) = 1) :
    (m.countMsg l).get (F.cause page c) = 1 := by
  have hn : ∀ i, (F.cause page c).reg ≠ pgHost i * 0x1000 + 0x800 + 8 * 4 := by
    intro i
    simp only [F.cause, pgHost]
    omega
  have h1 : (m.addCtr (pgHost l) 4 1).get (F.cause page c) = 1 := by
    simp only [Module.get] at h ⊢
    rw [Module.addCtr_word _ _ _ _ _ (hn l), h]
  have h2 := Module.put_ovf_cause _ page c hc h1
  unfold Module.countMsg
  dsimp only
  repeat' split
  · generalize (m.addCtr (pgHost l) 4 1).put (F.cause pgSample Ev.ctrOvf) 1 = k at h2
    unfold Module.ovfMessage
    split
    · exact h2
    · simpa [Module.get] using h2
    · split
      · simpa [Module.get] using h2
      · simp only [Module.get] at h2 ⊢
        rw [Module.emit_word, Module.addCtr_word _ _ _ _ _ (hn _), h2]
  · exact h2
  · exact h1

/-- A delivery leaves a cause of any page set. -/
theorem Module.onRise_cause (m old : Module) (n page c : Nat) (hc : c < 64) (h : m.get (F.cause page c) = 1) :
    (m.onRise old n).get (F.cause page c) = 1 := by
  unfold Module.onRise Module.deliver Module.sendVector
  repeat' split
  · exact h
  · simpa [Module.get] using h
  · simpa [Module.get] using h
  · exact Module.countMsg_cause _ _ _ _ hc (by simpa [Module.get] using h)
  · exact h

/-- An event sets its cause. -/
theorem Module.raise_cause (m : Module) (page c : Nat) (hc : c < 64) : (m.raise page c).get (F.cause page c) = 1 := by
  refine Module.onRise_cause _ _ _ _ _ hc ?_
  rw [Module.get_put_same _ _ _ (Nat.le_refl _) hc]
  simp [F.cause]

/-- An event leaves the fields of a register outside `EventRegs` as they are. -/
theorem Module.get_raise (m : Module) (page c : Nat) (f : Fld) (h : ¬ EventRegs page f.reg) :
    (m.raise page c).get f = m.get f := by
  simp only [Module.get]
  rw [Module.raise_word _ _ _ _ h]

/-- A counter that counts changes no register but its own, EVT_PEND of the SAMPLE page, and counters of MSI-X messages. -/
theorem Module.countUp_word (m : Module) (p n k a : Nat) (h : a ≠ p * 0x1000 + 0x800 + 8 * n) (he : ¬ EventRegs pgSample a) :
    (m.countUp p n k).word a = m.word a := by
  unfold Module.countUp
  dsimp only
  split
  · rw [Module.raise_word _ _ _ _ he, Module.addCtr_word _ _ _ _ _ h]
  · rw [Module.addCtr_word _ _ _ _ _ h]

end Sys2Proof.Machine
end

