-- ==== Sys2Proof/Laws/Canonical.lean ====
section
/-! SUPPORT. What keeps the register file canonical: the operations that every command is built from. Each lemma is a rewrite rule with
the canonical form of the state before as its condition, so that a chain of operations is closed by `simp`. -/

namespace Sys2Proof.Machine

-- Proofs one after another: side by side, their waiting threads can pass the memory limit.
set_option Elab.async false

@[simp] theorem Module.setWord_canonical (m : Module) (a : Nat) (w : Word) (h : Sparse.wf resetWord m.regs = true) :
    Sparse.wf resetWord (m.setWord a w).regs = true := Sparse.wf_write _ m.regs a w h

@[simp] theorem Module.put_canonical (m : Module) (f : Fld) (v : Nat) (h : Sparse.wf resetWord m.regs = true) :
    Sparse.wf resetWord (m.put f v).regs = true := Module.setWord_canonical m _ _ h

/-- Dropping entries keeps a canonical map canonical. -/
theorem Sparse.wfFrom_filter {V : Type} [DecidableEq V] {d : Nat → V} (p : Nat × V → Bool) (l : List (Nat × V)) :
    ∀ lo : Option Nat, Sparse.wfFrom d lo l = true → Sparse.wfFrom d lo (l.filter p) = true := by
  induction l with
  | nil => intro lo h; exact h
  | cons x l ih =>
    intro lo h
    obtain ⟨k, v⟩ := x
    simp only [Sparse.wfFrom, Bool.and_eq_true] at h
    obtain ⟨⟨h1, h2⟩, h3⟩ := h
    by_cases hp : p (k, v) = true
    · simp only [List.filter_cons, hp, if_true, Sparse.wfFrom, Bool.and_eq_true]
      exact ⟨⟨h1, h2⟩, ih _ h3⟩
    · simp only [List.filter_cons, hp]
      refine ih lo (Sparse.wfFrom_weaken _ l k lo h3 ?_)
      intro b hb
      subst hb
      exact Nat.le_of_lt (by simpa using h1)

@[simp] theorem Module.filter_canonical (m : Module) (p : Nat × Word → Bool) (h : Sparse.wf resetWord m.regs = true) :
    Sparse.wf resetWord (m.regs.filter p) = true := Sparse.wfFrom_filter p m.regs none h

/-- A fold of operations that each keep the register file canonical keeps it canonical. -/
theorem foldl_canonical {α : Type} (f : Module → α → Module)
    (hf : ∀ m a, Sparse.wf resetWord m.regs = true → Sparse.wf resetWord (f m a).regs = true) (l : List α) :
    ∀ m : Module, Sparse.wf resetWord m.regs = true → Sparse.wf resetWord (l.foldl f m).regs = true := by
  induction l with
  | nil => intro m h; exact h
  | cons a l ih => intro m h; exact ih (f m a) (hf m a h)

@[simp] theorem Module.addCtr_canonical (m : Module) (p n k : Nat) (h : Sparse.wf resetWord m.regs = true) :
    Sparse.wf resetWord (m.addCtr p n k).regs = true := by
  unfold Module.addCtr; dsimp only; repeat' split
  all_goals simp [h]

@[simp] theorem Module.pendVector_canonical (m : Module) (l v : Nat) (b : Bool) (h : Sparse.wf resetWord m.regs = true) :
    Sparse.wf resetWord (m.pendVector l v b).regs = true := h

@[simp] theorem Module.ovfMessage_canonical (m : Module) (h : Sparse.wf resetWord m.regs = true) :
    Sparse.wf resetWord m.ovfMessage.regs = true := by
  unfold Module.ovfMessage; repeat' split
  all_goals first | exact h | simp [h]

@[simp] theorem Module.countMsg_canonical (m : Module) (l : Nat) (h : Sparse.wf resetWord m.regs = true) :
    Sparse.wf resetWord (m.countMsg l).regs = true := by
  have h1 := Module.addCtr_canonical m (pgHost l) 4 1 h
  have h2 := Module.put_canonical _ (F.cause pgSample Ev.ctrOvf) 1 h1
  unfold Module.countMsg; dsimp only; repeat' split
  · exact Module.ovfMessage_canonical _ h2
  · exact h2
  · exact h1

@[simp] theorem Module.sendVector_canonical (m : Module) (l v : Nat) (b : Bool) (h : Sparse.wf resetWord m.regs = true) :
    Sparse.wf resetWord (m.sendVector l v b).regs = true := by
  unfold Module.sendVector; split
  · exact h
  · exact Module.countMsg_canonical _ _ h

@[simp] theorem Module.deliver_canonical (m : Module) (n : Nat) (h : Sparse.wf resetWord m.regs = true) :
    Sparse.wf resetWord (m.deliver n).regs = true := by
  unfold Module.deliver; split
  · exact h
  · exact h
  · exact Module.sendVector_canonical m _ _ _ h

@[simp] theorem Module.onRise_canonical (m old : Module) (n : Nat) (h : Sparse.wf resetWord m.regs = true) :
    Sparse.wf resetWord (m.onRise old n).regs = true := by
  unfold Module.onRise; split
  · exact Module.deliver_canonical m n h
  · exact h

@[simp] theorem Module.raise_canonical (m : Module) (page c : Nat) (h : Sparse.wf resetWord m.regs = true) :
    Sparse.wf resetWord (m.raise page c).regs = true := Module.onRise_canonical _ _ _ (Module.put_canonical m _ _ h)

@[simp] theorem Module.countUp_canonical (m : Module) (p n k : Nat) (h : Sparse.wf resetWord m.regs = true) :
    Sparse.wf resetWord (m.countUp p n k).regs = true := by
  unfold Module.countUp; dsimp only; split
  · exact Module.raise_canonical _ _ _ (Module.addCtr_canonical m p n k h)
  · exact Module.addCtr_canonical m p n k h

end Sys2Proof.Machine
end

