-- ==== Sys2Proof/Laws/Wire.lean ====
section
/-! SUPPORT. What sealing a packet leaves to whoever opens it: the lengths of the ciphers' parts, and that opening under the same key
undoes sealing. -/

namespace Sys2Proof.Machine

-- Proofs one after another: side by side, their waiting threads can pass the memory limit.
set_option Elab.async false

/-! ## Bytes and numbers -/

@[simp] theorem leBytes_length (n v : Nat) : (leBytes n v).length = n := by
  induction n generalizing v with
  | zero => rfl
  | succ n ih => simp [leBytes, ih]

@[simp] theorem beBytes_length (n v : Nat) : (beBytes n v).length = n := by simp [beBytes]

/-- The little-endian bytes of a number that fits give it back. -/
theorem leNat_leBytes (n v : Nat) (h : v < 256 ^ n) : leNat (leBytes n v) = v := by
  induction n generalizing v with
  | zero => simp only [Nat.pow_zero] at h; simp [leBytes, leNat]; omega
  | succ n ih =>
    have : v / 256 < 256 ^ n := Nat.div_lt_of_lt_mul (by rw [Nat.pow_succ] at h; omega)
    simp only [leBytes, leNat, ih _ this, BitVec.toNat_ofNat]
    omega

/-- The big-endian bytes of a number that fits give it back. -/
theorem beNat_beBytes (n v : Nat) (h : v < 256 ^ n) : beNat (beBytes n v) = v := by
  simp [beNat, beBytes, leNat_leBytes n v h]

/-- A text combined twice with a stream at least as long is the text. -/
theorem xorBytes_xorBytes (a k : List Byte) (h : a.length ≤ k.length) : xorBytes (xorBytes a k) k = a := by
  induction a generalizing k with
  | nil => simp [xorBytes]
  | cons x a ih =>
    cases k with
    | nil => simp at h
    | cons y k =>
      have := ih k (by simpa using h)
      simp only [xorBytes, List.zipWith_cons_cons] at this ⊢
      rw [this, BitVec.xor_assoc, BitVec.xor_self, BitVec.xor_zero]

theorem xorBytes_length (a k : List Byte) : (xorBytes a k).length = min a.length k.length := by simp [xorBytes]

/-! ## Lengths of the ciphers' parts -/

theorem xorNats_length (a b : List Nat) : (xorNats a b).length = min a.length b.length := by simp [xorNats]

/-- The expanded key has four bytes in every word. -/
theorem aesExpand_words (n i rcon : Nat) (w : List (List Nat)) (hw : ∀ x ∈ w, x.length = 4) (h8 : 8 ≤ w.length) :
    (∀ x ∈ aesExpand n i rcon w, x.length = 4) ∧ (aesExpand n i rcon w).length = w.length + n := by
  induction n generalizing i rcon w with
  | zero => exact ⟨hw, rfl⟩
  | succ n ih =>
    have hl : (w.headD []).length = 4 := by
      cases w with
      | nil => simp at h8
      | cons a l => exact hw a (by simp)
    have h7 : (w.getD 7 []).length = 4 := by
      rw [List.getD_eq_getElem _ _ (show 7 < w.length by omega)]
      exact hw _ (List.getElem_mem _)
    simp only [aesExpand]
    refine (fun H => ⟨H.1, by rw [H.2, List.length_cons]; omega⟩) (ih _ _ _ ?_ ?_)
    · intro x hx
      rcases List.mem_cons.1 hx with rfl | hx
      · rw [xorNats_length, h7]
        generalize w.headD [] = a at hl
        split
        · simp [xorNats_length, hl]
        · split <;> simp [hl]
      · exact hw x hx
    · simp only [List.length_cons]; omega

/-- The round keys of a 32-byte key: 15, of 16 bytes each. -/
theorem aesKeys_lengths (key : List Byte) (h : key.length = 32) :
    (aesKeys key).length = 15 ∧ ∀ k ∈ aesKeys key, k.length = 16 := by
  refine ⟨by simp [aesKeys], ?_⟩
  have h4 : ∀ x ∈ ((List.range 8).map (fun i => ((key.map BitVec.toNat).drop (4 * i)).take 4)).reverse, x.length = 4 := by
    intro x hx
    simp only [List.mem_reverse, List.mem_map, List.mem_range] at hx
    obtain ⟨i, hi, rfl⟩ := hx
    simp [h]; omega
  obtain ⟨e4, el⟩ := aesExpand_words 52 8 1 _ h4 (by simp)
  have hall : ((aesExpand 52 8 1 ((List.range 8).map (fun i => ((key.map BitVec.toNat).drop (4 * i)).take 4)).reverse).reverse.flatten).length
      = 240 := by
    rw [List.length_flatten, List.map_congr_left (g := fun _ => 4) (fun x hx => e4 x (List.mem_reverse.1 hx))]
    simp [el]
  intro k hk
  simp only [aesKeys, List.mem_map, List.mem_range] at hk
  obtain ⟨r, hr, rfl⟩ := hk
  rw [List.length_take, List.length_drop, hall]; omega

theorem aesShift_length (s : List Nat) : (aesShift s).length = 16 := by simp [aesShift]

theorem aesMixColumn_length (s : List Nat) (h : s.length = 4) : (aesMixColumn s).length = 4 := by
  unfold aesMixColumn; split <;> simp_all

theorem aesMix_length (s : List Nat) (h : s.length = 16) : (aesMix s).length = 16 := by
  have : ∀ c ∈ List.range 4, (aesMixColumn ((s.drop (4 * c)).take 4)).length = 4 := by
    intro c hc
    have := List.mem_range.1 hc
    exact aesMixColumn_length _ (by simp [h]; omega)
  rw [aesMix, List.length_flatMap, List.map_congr_left (g := fun _ => 4) this]; rfl

/-- The rounds leave 16 bytes. -/
theorem aesRounds_length (keys : List (List Nat)) (s : List Nat) (h0 : keys ≠ []) (hk : ∀ k ∈ keys, k.length = 16) :
    (aesRounds keys s).length = 16 := by
  induction keys generalizing s with
  | nil => exact absurd rfl h0
  | cons k l ih =>
    cases l with
    | nil => simp [aesRounds, xorNats_length, aesShift_length, hk k (by simp)]
    | cons k' l =>
      rw [aesRounds]
      · exact ih _ (by simp) (fun x hx => hk x (List.mem_cons_of_mem _ hx))
      · simp

/-- A block under the round keys of a 32-byte key has 16 bytes. -/
theorem aesBlock_length (key block : List Byte) (h : key.length = 32) : (aesBlock (aesKeys key) block).length = 16 := by
  obtain ⟨hl, hk⟩ := aesKeys_lengths key h
  rw [aesBlock, List.length_map]
  exact aesRounds_length _ _ (by intro e; have := congrArg List.length e; simp [hl] at this)
    (fun k hx => hk k (List.mem_of_mem_tail hx))

theorem gcmStream_length (key iv : List Byte) (ctr n : Nat) (h : key.length = 32) :
    (gcmStream (aesKeys key) iv ctr n).length = 16 * n := by
  rw [gcmStream, List.length_flatMap, List.map_congr_left (g := fun _ => 16) (fun i _ => aesBlock_length key _ h)]
  simp [Nat.mul_comm]

theorem gcmCrypt_length (key iv text : List Byte) (h : key.length = 32) :
    (gcmCrypt (aesKeys key) iv text).length = text.length := by
  rw [gcmCrypt, xorBytes_length, gcmStream_length _ _ _ _ h, ceilDiv]; omega

/-- Decryption undoes encryption. -/
theorem gcmCrypt_gcmCrypt (key iv text : List Byte) (h : key.length = 32) :
    gcmCrypt (aesKeys key) iv (gcmCrypt (aesKeys key) iv text) = text := by
  have : text.length ≤ (gcmStream (aesKeys key) iv 2 (ceilDiv text.length 16)).length := by
    rw [gcmStream_length _ _ _ _ h, ceilDiv]; omega
  conv_lhs => rw [gcmCrypt, gcmCrypt_length _ _ _ h, gcmCrypt]
  exact xorBytes_xorBytes _ _ this

theorem gcmTag_length (key iv aad cipher : List Byte) (h : key.length = 32) :
    (gcmTag (aesKeys key) iv aad cipher).length = 16 := by
  rw [gcmTag, xorBytes_length, gcmStream_length _ _ _ _ h, beBytes_length]; rfl

theorem shaRound_length (s : List Nat) (kw : Nat × Nat) (h : s.length = 8) : (shaRound s kw).length = 8 := by
  unfold shaRound; split <;> simp_all

theorem shaBlock_length (s w : List Nat) (h : s.length = 8) : (shaBlock s w).length = 8 := by
  have : ∀ l : List (Nat × Nat), ∀ s : List Nat, s.length = 8 → (l.foldl shaRound s).length = 8 := by
    intro l
    induction l with
    | nil => exact fun s h => h
    | cons a l ih => exact fun s h => ih _ (shaRound_length s a h)
  simp [shaBlock, this _ s h, h]

theorem shaBlocks_length (n : Nat) (s : List Nat) (bs : List Byte) (h : s.length = 8) : (shaBlocks n s bs).length = 8 := by
  induction n generalizing s bs with
  | zero => exact h
  | succ n ih => exact ih _ _ (shaBlock_length _ _ h)

theorem sha256_length (bs : List Byte) : (sha256 bs).length = 32 := by
  rw [sha256, List.length_flatMap, List.map_congr_left (g := fun _ => 4) (fun w _ => beBytes_length 4 w)]
  simp [shaBlocks_length _ shaInit _ rfl]

theorem hkdf256_length (ikm salt info : List Byte) : (hkdf256 ikm salt info).length = 32 := sha256_length _

@[simp] theorem directionKey_length (d nonce nd s r e : Nat) : (directionKey d nonce nd s r e).length = 32 := hkdf256_length ..

@[simp] theorem multicastKey_length (d nonce nd p x i : Nat) : (multicastKey d nonce nd p x i).length = 32 := hkdf256_length ..

/-! ## Sealing and opening -/

/-- A packet's parts are as its opcode and its operation part say (R194, R195): the extension has the opcode's length, the payload that
of plen. -/
def Opened.Fits (p : Opened) : Prop :=
  p.ext.length = extLen p.opcode ∧ p.payload.length = if isControl p.opcode then 0 else bits p.opw 63 51

theorem openedText_length (p : Opened) :
    (openedText p).length = 128 * flitsOf p.ext.length p.payload.length - 40 := by
  simp only [openedText, List.length_append, beBytes_length, List.length_replicate, flitsOf, ceilDiv]; omega

/-- What the parts of a text are read as. -/
theorem parseText_openedText (p : Opened) (q : Packet) (auth : Bool) (hq : q.opcode = p.opcode) (h : p.Fits) :
    parseText q (openedText p) auth = { toPacket := q, opw := p.opw, ext := p.ext, payload := p.payload, auth := auth } := by
  obtain ⟨he, hp⟩ := h
  have h8 : (beBytes 8 p.opw.toNat).length = 8 := beBytes_length _ _
  have hw : beNat ((openedText p).take 8) = p.opw.toNat := by
    rw [openedText, List.append_assoc, List.append_assoc, List.take_left' h8]
    exact beNat_beBytes 8 _ p.opw.isLt
  have ho : BitVec.ofNat 64 (beNat ((openedText p).take 8)) = p.opw := by rw [hw]; simp
  have hx : ((openedText p).drop 8).take (extLen p.opcode) = p.ext := by
    rw [openedText, List.append_assoc, List.append_assoc, List.drop_left' h8, List.take_left' he]
  have hy : ((openedText p).drop (8 + extLen p.opcode)).take p.payload.length = p.payload := by
    have h' : (beBytes 8 p.opw.toNat ++ p.ext).length = 8 + extLen p.opcode := by simp [he]
    rw [openedText, List.append_assoc, List.drop_left' h', List.take_left' rfl]
  simp only [parseText, hq, ho, hx, ← hp, hy]

/-- What a body of a text and a 16-byte tag is cut into. -/
theorem body_parts (p : Packet) (text tag : List Byte) (hb : p.body = text ++ tag) (ht : tag.length = 16) :
    packetText p = text ∧ packetTag p = tag := by
  have : p.body.length - 16 = text.length := by rw [hb, List.length_append, ht]; omega
  rw [packetText, packetTag, this, hb]
  exact ⟨List.take_left' rfl, List.drop_left' rfl⟩

theorem sealPacket_length (key : List Byte) (mc : Bool) (p : Opened) (h : key.length = 32) :
    (sealPacket key mc p).body.length = 128 * flitsOf p.ext.length p.payload.length - 24 := by
  simp only [sealPacket, List.length_append, gcmCrypt_length _ _ _ h, gcmTag_length _ _ _ _ h, openedText_length, flitsOf, ceilDiv]
  omega

/-- Opening a packet under the key it was sealed with gives its parts back, as authentic ones (R213–R215). -/
theorem openPacket_sealPacket (key : List Byte) (mc : Bool) (p : Opened) (h : key.length = 32) (hp : p.Fits) :
    openPacket key mc (sealPacket key mc p) =
      some { toPacket := sealPacket key mc p, opw := p.opw, ext := p.ext, payload := p.payload, auth := true } := by
  obtain ⟨ht, hg⟩ := body_parts (sealPacket key mc p) _ _ rfl (gcmTag_length key _ _ _ h)
  have hl := sealPacket_length key mc p h
  have h24 : 24 ≤ (sealPacket key mc p).body.length := by rw [hl, flitsOf, ceilDiv]; omega
  have htag : packetTag (sealPacket key mc p) =
      gcmTag (aesKeys key) (packetIv (sealPacket key mc p)) (authHeader (sealPacket key mc p) mc) (packetText (sealPacket key mc p)) := by
    rw [hg, ht]; rfl
  rw [openPacket, if_pos (by simp [h24, ← htag]), ht]
  rw [show packetIv (sealPacket key mc p) = packetIv p.toPacket from rfl, gcmCrypt_gcmCrypt _ _ _ h]
  exact congrArg some (parseText_openedText p _ true rfl hp)

theorem sealChallenge_length (key : List Byte) (p : Opened) (h : key.length = 32) :
    (sealChallenge key p).body.length = 128 * flitsOf p.ext.length p.payload.length - 24 := by
  simp only [sealChallenge, List.length_append, gcmTag_length _ _ _ _ h, openedText_length, flitsOf, ceilDiv]; omega

/-- The extension of a CHALLENGE stands in the clear. -/
theorem clear_sealChallenge (key : List Byte) (p : Opened) (h : key.length = 32) (hp : p.Fits) :
    (clearPacket (sealChallenge key p)).ext = p.ext := by
  rw [clearPacket, (body_parts (sealChallenge key p) _ _ rfl (gcmTag_length key _ _ _ h)).1, parseText_openedText p (sealChallenge key p) false rfl hp]

/-- Opening a CHALLENGE under the key of its tag gives its parts back (R215). -/
theorem openChallenge_sealChallenge (key : List Byte) (p : Opened) (h : key.length = 32) (hp : p.Fits) :
    openChallenge key (sealChallenge key p) =
      some { toPacket := sealChallenge key p, opw := p.opw, ext := p.ext, payload := p.payload, auth := true } := by
  obtain ⟨ht, hg⟩ := body_parts (sealChallenge key p) _ _ rfl (gcmTag_length key _ _ _ h)
  have h24 : 24 ≤ (sealChallenge key p).body.length := by
    rw [sealChallenge_length _ _ h, flitsOf, ceilDiv]; omega
  have htag : packetTag (sealChallenge key p) =
      gcmTag (aesKeys key) (packetIv (sealChallenge key p)) (challengeAuth (sealChallenge key p) (packetText (sealChallenge key p))) [] := by
    rw [hg, ht]; rfl
  rw [openChallenge, if_pos (by simp [h24, ← htag]), ht]
  exact congrArg some (parseText_openedText p _ true rfl hp)

end Sys2Proof.Machine
end

