-- ==== Sys2Proof/Laws/Flash.lean ====
section
/-! SUPPORT. What the records of the boot flash read as: a directory copy and a reservation record give back what they were made from. -/

namespace Sys2Proof.Machine

-- Proofs one after another: side by side, their waiting threads can pass the memory limit.
set_option Elab.async false

/-! ## CRC-32C -/

theorem crcBitR_lt (r : Nat) (h : r < 2 ^ 32) : crcBitR 0x82F63B78 r < 2 ^ 32 := by
  unfold crcBitR
  split
  · exact Nat.xor_lt_two_pow (by omega) (by decide)
  · omega

theorem iterate_inv {α : Type} (P : α → Prop) (f : α → α) (hf : ∀ a, P a → P (f a)) (n : Nat) (a : α) (h : P a) : P (iterate f n a) := by
  induction n generalizing a with
  | zero => exact h
  | succ n ih => exact ih _ (hf a h)

/-- CRC-32C has 32 bits. -/
theorem crc32c_lt (bs : List Byte) : crc32c bs < 256 ^ 4 := by
  have hb : ∀ (l : List Byte) (r : Nat), r < 2 ^ 32 → l.foldl (fun r b => crcByteR 0x82F63B78 r b) r < 2 ^ 32 := by
    intro l
    induction l with
    | nil => exact fun r h => h
    | cons b l ih =>
      exact fun r h => ih _ (iterate_inv (· < 2 ^ 32) _ crcBitR_lt 8 _ (Nat.xor_lt_two_pow h (by have := b.isLt; omega)))
  exact Nat.xor_lt_two_pow (n := 32) (hb bs _ (by decide)) (by decide)

/-! ## Fields of a record -/

/-- A field that stands behind some bytes. -/
theorem fieldLE_append (a b c : List Byte) (off n : Nat) (ha : a.length = off) (hb : b.length = n) : fieldLE (a ++ (b ++ c)) off n = leNat b := by
  rw [fieldLE, List.drop_left' ha, List.take_left' hb]

/-- A field of a text, from the parts around it. -/
theorem fieldLE_parts (x z t : List Byte) (off n v : Nat) (hx : x.length = off) (hv : v < 256 ^ n) (h : t = x ++ (leBytes n v ++ z)) :
    fieldLE t off n = v := by
  rw [h, fieldLE_append _ _ _ _ _ hx (by simp), leNat_leBytes n v hv]

/-- The fields of a text of two 4-byte fields, four of a byte, 16 zeros and a check value. -/
theorem dirFields (t : List Byte) (w s a p k f c : Nat) (hw : w < 256 ^ 4) (hs : s < 256 ^ 4) (ha : a < 256 ^ 1) (hp : p < 256 ^ 1)
    (hk : k < 256 ^ 1) (hf : f < 256 ^ 1) (hc : c < 256 ^ 4)
    (h : t = leBytes 4 w ++ (leBytes 4 s ++ (leBytes 1 a ++ (leBytes 1 p ++ (leBytes 1 k ++ (leBytes 1 f ++
      (List.replicate 16 0 ++ leBytes 4 c))))))) :
    fieldLE t 0 4 = w ∧ fieldLE t 4 4 = s ∧ fieldLE t 8 1 = a ∧ fieldLE t 9 1 = p ∧ fieldLE t 10 1 = k ∧ fieldLE t 11 1 = f ∧
    fieldLE t 0x1C 4 = c := by
  refine ⟨fieldLE_parts [] _ t 0 4 w (by simp) hw (by rw [h, List.nil_append]),
    fieldLE_parts (leBytes 4 w) _ t 4 4 s (by simp) hs h,
    fieldLE_parts (leBytes 4 w ++ leBytes 4 s) _ t 8 1 a (by simp) ha (by rw [h]; simp only [List.append_assoc]; rfl),
    fieldLE_parts (leBytes 4 w ++ leBytes 4 s ++ leBytes 1 a) _ t 9 1 p (by simp) hp (by rw [h]; simp only [List.append_assoc]; rfl),
    fieldLE_parts (leBytes 4 w ++ leBytes 4 s ++ leBytes 1 a ++ leBytes 1 p) _ t 10 1 k (by simp) hk
      (by rw [h]; simp only [List.append_assoc]; rfl),
    fieldLE_parts (leBytes 4 w ++ leBytes 4 s ++ leBytes 1 a ++ leBytes 1 p ++ leBytes 1 k) _ t 11 1 f (by simp) hf
      (by rw [h]; simp only [List.append_assoc]; rfl),
    fieldLE_parts (leBytes 4 w ++ leBytes 4 s ++ leBytes 1 a ++ leBytes 1 p ++ leBytes 1 k ++ leBytes 1 f ++ List.replicate 16 0) []
      t 0x1C 4 c (by simp) hc (by rw [h]; simp only [List.append_assoc, List.append_nil])⟩

/-- The fields of a text of three 4-byte fields, 16 zeros and a check value. -/
theorem resvFields (t : List Byte) (w s l c : Nat) (hw : w < 256 ^ 4) (hs : s < 256 ^ 4) (hl : l < 256 ^ 4) (hc : c < 256 ^ 4)
    (h : t = leBytes 4 w ++ (leBytes 4 s ++ (leBytes 4 l ++ (List.replicate 16 0 ++ leBytes 4 c)))) :
    fieldLE t 0 4 = w ∧ fieldLE t 4 4 = s ∧ fieldLE t 8 4 = l ∧ fieldLE t 28 4 = c := by
  refine ⟨fieldLE_parts [] _ t 0 4 w (by simp) hw (by rw [h, List.nil_append]),
    fieldLE_parts (leBytes 4 w) _ t 4 4 s (by simp) hs h,
    fieldLE_parts (leBytes 4 w ++ leBytes 4 s) _ t 8 4 l (by simp) hl (by rw [h]; simp only [List.append_assoc]; rfl),
    fieldLE_parts (leBytes 4 w ++ leBytes 4 s ++ leBytes 4 l ++ List.replicate 16 0) [] t 28 4 c (by simp) hc
      (by rw [h]; simp only [List.append_assoc, List.append_nil])⟩

/-- A directory copy reads as what was written (R690). -/
theorem dirOf_bytes (d : Dir) (hs : d.seq < 2 ^ 32) (ha : d.active < 256) (hp : d.pending < 256) (ht : d.tries < 256) (hf : d.flags < 256) :
    dirOf d.bytes = some d := by
  obtain ⟨b, hb⟩ : ∃ b, b = leBytes 4 0x52445849 ++ leBytes 4 d.seq ++ leBytes 1 d.active ++ leBytes 1 d.pending ++ leBytes 1 d.tries ++
    leBytes 1 d.flags ++ List.replicate 16 (0 : Byte) := ⟨_, rfl⟩
  have hl : b.length = 0x1C := by rw [hb]; simp
  have e : d.bytes = b ++ leBytes 4 (crc32c b) := by rw [Dir.bytes, ← hb]
  obtain ⟨h0, h4, h8, h9, hA, hB, hC⟩ := dirFields d.bytes 0x52445849 d.seq d.active d.pending d.tries d.flags (crc32c b) (by norm_num)
    (by omega) (by omega) (by omega) (by omega) (by omega) (crc32c_lt b) (by rw [e, hb]; simp only [List.append_assoc])
  have htk : d.bytes.take 0x1C = b := by rw [e, List.take_left' hl]
  have hlen : d.bytes.length = 32 := by rw [e]; simp [hl]
  rw [dirOf, h0, h4, h8, h9, hA, hB, hC, htk, hlen]
  simp

theorem leNat_lt (bs : List Byte) : leNat bs < 256 ^ bs.length := by
  induction bs with
  | nil => simp [leNat]
  | cons b l ih =>
    have := b.isLt
    simp only [leNat, List.length_cons, Nat.pow_succ]
    omega

/-- A field of `n` bytes is below 256 to the `n`. -/
theorem fieldLE_lt (bs : List Byte) (off n : Nat) : fieldLE bs off n < 256 ^ n :=
  Nat.lt_of_lt_of_le (leNat_lt _) (Nat.pow_le_pow_right (by decide) (by simp))

/-- What a directory copy says fits its fields. -/
theorem dirOf_fits (b : List Byte) (d : Dir) (h : dirOf b = some d) :
    d.seq < 2 ^ 32 ∧ d.active < 256 ∧ d.pending < 256 ∧ d.tries < 256 ∧ d.flags < 256 := by
  unfold dirOf at h
  split at h
  · cases h
    exact ⟨fieldLE_lt b 4 4, fieldLE_lt b 8 1, fieldLE_lt b 9 1, fieldLE_lt b 10 1, fieldLE_lt b 11 1⟩
  · cases h

/-- The directory that stands while none is valid. -/
def noDir : Dir := { seq := 0, active := 0xFF, pending := 0xFF, tries := 0, flags := 0 }

/-- A changed directory governs, and is the one written with seq one higher (R690). -/
theorem Nor.dir_setDir (n : Nor) (f : Dir → Dir) (old : Dir) (ho : old = n.dir.getD noDir) (hs : old.seq + 1 < 2 ^ 32)
    (ha : (f old).active < 256) (hp : (f old).pending < 256) (ht : (f old).tries < 256) (hf : (f old).flags < 256) :
    (n.setDir f).dir = some { f old with seq := old.seq + 1 } := by
  have hd : dirOf (Dir.bytes { f old with seq := old.seq + 1 }) = some { f old with seq := old.seq + 1 } :=
    dirOf_bytes _ hs ha hp ht hf
  simp only [Nor.setDir, show n.dir.getD { seq := 0, active := 0xFF, pending := 0xFF, tries := 0, flags := 0 } = old from ho.symm]
  have hq : ({ f old with seq := old.seq + 1 } : Dir).seq = old.seq + 1 := rfl
  generalize Dir.bytes { f old with seq := old.seq + 1 } = bs at hd ⊢
  generalize ({ f old with seq := old.seq + 1 } : Dir) = new at hd hq ⊢
  rw [Nor.dir] at ho
  cases h0 : dirOf n.area0 <;> cases h1 : dirOf n.area1 <;> simp only [h0, h1, Option.getD_some, Option.getD_none] at ho ⊢
  · simp [Nor.dir, hd, h1]
  · simp [Nor.dir, hd, h1, hq, ho]
  · simp [Nor.dir, hd, h0, hq, ho]
  · rename_i a b
    by_cases hab : a.seq < b.seq
    · simp only [hab, if_true] at ho
      simp [Nor.dir, hd, h1, show ¬ b.seq ≤ a.seq by omega, show ¬ new.seq < b.seq by rw [hq, ho]; omega]
    · simp only [hab, if_false] at ho
      simp [Nor.dir, hd, h0, show b.seq ≤ a.seq by omega, show a.seq < new.seq by rw [hq, ho]; omega]

/-- A reservation record reads as what was written (R700). -/
theorem resvOf_resvBytes (seq limit : Nat) (hs : seq < 2 ^ 32) (hl : limit < 2 ^ 32) : resvOf (resvBytes seq limit) = some (seq, limit) := by
  obtain ⟨b, hb⟩ : ∃ b, b = leBytes 4 0x56525849 ++ leBytes 4 seq ++ leBytes 4 limit ++ List.replicate 16 (0 : Byte) := ⟨_, rfl⟩
  have hn : b.length = 28 := by rw [hb]; simp
  have e : resvBytes seq limit = b ++ leBytes 4 (crc32c b) := by rw [resvBytes, ← hb]
  obtain ⟨h0, h4, h8, hC⟩ := resvFields (resvBytes seq limit) 0x56525849 seq limit (crc32c b) (by norm_num) (by omega) (by omega) (crc32c_lt b)
    (by rw [e, hb]; simp only [List.append_assoc])
  have htk : (resvBytes seq limit).take 28 = b := by rw [e, List.take_left' hn]
  have hlen : (resvBytes seq limit).length = 32 := by rw [e]; simp [hn]
  rw [resvOf, h0, h4, h8, hC, htk, hlen]
  simp

end Sys2Proof.Machine
end

