-- ==== Sys2Proof/Laws/Registers.lean ====
section
/-! SUPPORT. The register tables: the fields of a register lie in its word and apart from each other, so that what a write does to one
field says nothing of another. -/

namespace Sys2Proof.Machine

-- Proofs one after another: side by side, their waiting threads can pass the memory limit.
set_option Elab.async false

/-- The fields of a register lie in 64 bits, and no two share a bit. -/
def fieldsOk (l : List FieldD) : Bool :=
  l.all (fun f => decide (f.lo ≤ f.hi) && decide (f.hi < 64)) && decide (l.Pairwise fun f g => f.hi < g.lo ∨ g.hi < f.lo)

theorem regsOf_fieldsOk (b : Blk) : ∀ r ∈ regsOf b, fieldsOk r.fields = true := by cases b <;> decide

/-- The register of the tables at an offset is one of its block's table. -/
theorem mem_of_regAt {a : Nat} {r : RegD} (h : regAt a = some r) : ∃ b, r ∈ regsOf b := by
  unfold regAt at h
  split at h
  · cases h
  · exact ⟨_, List.mem_of_find?_eq_some h⟩

theorem regAt_fieldsOk {a : Nat} {r : RegD} (h : regAt a = some r) : fieldsOk r.fields = true :=
  (mem_of_regAt h).elim fun b hb => regsOf_fieldsOk b r hb

end Sys2Proof.Machine
end

