-- ==== Sys2Proof/Tests/Slice0.lean ====
section
/-! SUPPORT. Small tests of the model: witnesses that the hypotheses of the statements can be met, vectors from the spec and from
published standards, the well-formedness checks, and single commands on small states. -/

namespace Sys2Proof.Tests
open Sys2Proof.Machine
set_option maxRecDepth 16000

/-! ## Small states -/

/-- The state a command answers. -/
def after (o : Host.Outcome State Fault Refusal) : State :=
  match o with
  | .next t => t
  | _ => State.reset

/-- The module in Noon. -/
def noon : State := State.reset.upd fun m => m.put F.modeStsMode 2

/-- Noon, with the DTU enabled and the page at 0x1000 of address space 0 translated to itself, with every right and no side effects. -/
def translating : State :=
  noon.upd fun m => { ((m.put (F.pgEnable pgDtu) 1).put F.dtuAstabSize 4) with dtu := { Dtu.init with tlb := [⟨0, 1, 1, 1, 0x1F⟩] } }

/-- A queue in use, and a ring in use. -/
def wqPlain : WqCtx :=
  { ringVa := 0x1000, size := 4, link := 0, user := false, poll := false, cr := 0, asid := 0, nd := 7, tcMask := 0xFF, pollIvl := 1,
    piShadow := 0x1000, ciShadow := 0x1000, ci := 0, piKnown := 0, state := .active, errCause := 0, errIdx := 0, outstanding := 0 }

def crPlain : CrCtx :=
  { ringVa := 0x1000, size := 4, link := 0, asid := 0, vector := 1, piShadow := 0x1000, ciShadow := 0x1000, pi := 0, ciKnown := 0,
    binds := 0, state := .active, armed := false, ovf := false }

/-- Reads of host memory on link 0 that answer these words, or zeros. -/
def words (a : Nat) : List Word → List HostRd
  | [] => []
  | w :: l => ⟨0, a, some w⟩ :: words (a + 8) l

def zeros (a n : Nat) : List HostRd := words a (List.replicate n 0)

/-- A boot flash with a directory and nothing else. -/
def norEmpty : Nor := ⟨Dir.bytes ⟨5, 0, 0xFF, 0, 0⟩, [], [], [], [], [], [], [], none⟩

/-- The words of the two contexts 0. -/
def wqZero : List Word := [0x1000, 0x24, 0, 0x1000, 0x1000, 0, 0, 0, 0, 1, 0, 0, 0, 0, 0, 0]
def crZero : List Word := [0x1000, 0x24, 0x1000, 0x1000, 0, 0x10000, 0, 0]

/-- A WQE of bytes by offset. -/
def wqeOf (l : List (Nat × Nat)) : List Word :=
  (List.range 8).map fun k => BitVec.ofNat 64 ((l.filter fun p => p.1 / 8 = k).map fun p => p.2 * 2 ^ (8 * (p.1 % 8))).sum

/-- An operation of a WQE of WQ 0. -/
def adminOp (w : List Word) : Op :=
  { wq := 0, idx := 0, wqe := w, started := false, trig := none, silent := false, finished := false, dead := false }

/-- The queue block running, with queues and rings 0 and 3 cached and a WQE of WQ 0 on chip as operation 1. -/
def adminAt (w : List Word) : State :=
  translating.upd fun m =>
    let m := ((m.put (F.pgBlock pgQctl 0 0) 1).put F.qctlWqtabSize 4).put F.qctlCrtabSize 4
    ((((m.setWq 0 { wqPlain with nd := 0 }).setWq 3 wqPlain).setCr 0 { crPlain with binds := 2 }).setCr 3 crPlain).setOp 1 (adminOp w)

def wCreateWq : List Word := wqeOf [(0, 0x80), (0x10, 5), (0x16, 7), (0x18, 0x1000), (0x30, 4)]
def wCreateWqBad : List Word := wqeOf [(0, 0x80), (0x10, 5), (0x16, 7), (0x18, 0x1000), (0x30, 3)]
def wDestroyWq : List Word := wqeOf [(0, 0x81), (0x10, 3)]
def wModify : List Word := wqeOf [(0, 0x82), (0x10, 3), (0x12, 2), (0x20, 1)]
def wCreateCr : List Word := wqeOf [(0, 0x83), (0x10, 5), (0x17, 4), (0x18, 0x1000)]
def wDestroyCr : List Word := wqeOf [(0, 0x84), (0x10, 3)]
def wInvCtx : List Word := wqeOf [(0, 0x85), (0x10, 2)]
def wInvTlb : List Word := wqeOf [(0, 0x86), (0x12, 1)]
def wRevoke : List Word := wqeOf [(0, 0x87), (0x10, 7), (0x14, 3), (0x17, 5)]
def wSetKey : List Word := wqeOf [(0, 0x88), (0x10, 7), (0x18, 99)]
def wClear : List Word := wqeOf [(0, 0x89), (0x10, 7)]
def wCreateMc : List Word := wqeOf [(0, 0x8A), (0x10, 3), (0x12, 7), (0x14, 1), (0x18, 0x1000)]
def wDestroyMc : List Word := wqeOf [(0, 0x8B), (0x10, 3)]
def wCreateColl : List Word := wqeOf [(0, 0x8C), (0x10, 3), (0x12, 7), (0x18, 0x1000)]
def wDestroyColl : List Word := wqeOf [(0, 0x8D), (0x10, 3)]
def wCreateMatch : List Word := wqeOf [(0, 0x8E), (0x10, 3), (0x12, 7), (0x14, 3)]
def wDestroyMatch : List Word := wqeOf [(0, 0x8F), (0x10, 3)]
def wNop : List Word := wqeOf [(0, 0x90)]
def wAttest : List Word := wqeOf [(0, 0xC0), (0x10, 0x2000), (0x18, 0x4000), (0x20, 7)]
def wReqMode (k : Nat) : List Word := wqeOf [(0, 0xC1), (0x10, k)]

def regionPlain : Region :=
  { storeTarget := false, generation := 5, tag := 0, baseVa := 0x1000, length := 0x1000, asid := 0, link := 0, rd := true, wr := true,
    atomic := true, allowSe := false, pcieAtomic := false, objectId := 0, revoking := false }

def collPlain : Coll :=
  { nd := 7, cr := 0, inst := 1, depth := 1, tc := 0, root := true, exact := false, parent := 0, mcRow := 0xFFFF, mcCol := 0xFFFF, ctrBase := 0,
    ctrCount := 0, children := [(1, 0)], state := .active, nextSeq := 0, ops := [], slots := [], kept := [], downs := [], got := [], round := 0,
    dseq := 0, rxRound := 0, rxDseq := 0, rxMissed := [], answered := [] }

def mctxPlain : Mctx :=
  { nd := 7, cr := 0, eagerLimit := 0, bounceSize := 0, bounceVa := 0, bounceCount := 0, state := .active, posted := [], postSeq := 0,
    arrSeq := 0, cursor := 0, bounces := [], released := 0 }

/-- A connection to module 2 in ND 7, open both ways. -/
def connOpen : Conn :=
  { remote := 2, nd := 7, slot := 1, txState := .open, rxState := .open, peerNonce := 77, txEpoch := 0, rxEpoch := 0, txNext := 0,
    txBase := 0, txMsn := 0, rxBase := 0, rxCsn := 0, rxMsn := 0, srtt := 0, rttvar := 0, sampled := false, rto := 100000, rsnSent := 0,
    rsnRcvd := 0, lastChal := 0, chalFree := 0, probes := 0, probeDue := 0, probeRnr := none, failOps := [], greeted := false,
    bitmap := [], msgs := [], tx := [], rnrDelay := 0, ndRun := none, ackPend := 0, ackTc := 0, ackDue := 0, ackQuiet := 0,
    rxMsgs := [], seen := [], anew := false, rsnAhead := [], trims := [] }

/-- A packet of module 2 in ND 7 without extension and payload. -/
def pktPlain : Opened :=
  { dst := 0, src := 2, tc := 0, rmode := 0, vgroup := 0, hops := 0, trimmed := false, mcast := false, ordered := false, cmark := false,
    flits := 1, msn := 4, rsvd := 0, nd := 7, psn := 0, attempt := 0, opcode := 0x10, epoch := 0, rsvdLow := 0, body := [], opw := 0,
    ext := [], payload := [], auth := true }

def ctlPkt (epoch opcode : Nat) (opw : Word) (ext : List Byte) : Opened :=
  { pktPlain with opcode := opcode, epoch := epoch, opw := opw, ext := ext, attempt := 0xFF }

/-- Packets that module 2 sends here in ND 7: data, an ACK or a NACK, and a CHALLENGE, sealed as R211 to R215 say. -/
def dataSealed (p : Opened) : Packet := sealPacket (directionKey 99 0 p.nd 2 0 p.epoch) false p
def ctlSealed (p : Opened) : Packet := sealPacket (directionKey 99 77 7 0 2 p.epoch) false p
def chlSealed (p : Opened) : Packet := sealChallenge (directionKey 99 77 7 0 2 p.epoch) p

/-- The queue block running with queue 1 and ring 0, a key for ND 7 in slot 1, and a connection of it in the cache. -/
def connAt (c : Conn) : State :=
  translating.upd fun m =>
    let m := ((m.put (F.pgBlock pgQctl 0 0) 1).put F.qctlWqtabSize 4).put F.qctlCrtabSize 4
    let m := (m.setWq 1 wqPlain).setCr 0 { crPlain with binds := 1 }
    { m with x := { m.x with keys := [(1, ⟨7, 99⟩)], conns := [(0, c)] } }

/-- An operation of queue 1. -/
def opOf (w : List Word) : Op := { adminOp w with wq := 1 }

/-- Operation 1 on chip: with an open connection to its destination, with one at rest, and without a key. -/
def opAt (w : List Word) : State := (connAt connOpen).upd fun m => m.setOp 1 (opOf w)
def opIdle (w : List Word) : State := (connAt { connOpen with txState := .idle }).upd fun m => m.setOp 1 (opOf w)
def noKey (w : List Word) : State := (opAt w).upd fun m => { m with x := { m.x with keys := [] } }

def wPutOp : List Word := wqeOf [(0, 1), (8, 2), (0x10, 0x1000), (0x18, 16)]
def wGetOp : List Word := wqeOf [(0, 2), (8, 2), (0x10, 0x1000), (0x18, 16)]
def wAtomicOp : List Word := wqeOf [(0, 3), (8, 2), (0x10, 0x1000), (0x18, 4), (0x19, 2)]
def wAtomicBad : List Word := wqeOf [(0, 3), (8, 2), (0x10, 0x1000), (0x18, 5)]
def wSignalOp : List Word := wqeOf [(0, 4), (8, 2), (0x10, 0x1000), (0x18, 16), (0x1C, 1)]
def wSignalBad : List Word := wqeOf [(0, 4), (8, 2), (0x10, 0x1000), (0x18, 16), (0x1C, 2)]
def wStorePutOp : List Word := wqeOf [(0, 5), (8, 2), (0x10, 0x1000), (0x18, 16)]
def wStoreSyncOp : List Word := wqeOf [(0, 6), (8, 2)]

/-- A packet as it arrives, with an extension and so many payload bytes; key and region offset of a put-like packet; the open
connection with a cached region 3 of ND 7 and packets in the inbox. -/
def arrived (opcode : Nat) (ext : List Byte) (n : Nat) : Opened :=
  { pktPlain with opcode := opcode, ext := ext, payload := List.replicate n 0, flits := flitsOf ext.length n }
def putBody (tag off : Nat) : List Byte := beBytes 8 (3 * 2 ^ 40 + 5 * 2 ^ 32 + tag) ++ beBytes 8 off
def regionAt (l : List Packet) : State :=
  (connAt connOpen).upd fun m => { m with x := { m.x with dirs := [(1, ⟨4, 0, 9⟩)], regions := [(regionKey 1 3, regionPlain)], inbox := l } }

/-- What a packet of module 2 opens to is what was sealed, and R201 does not discard it. -/
def opensTo (s : State) (p : Opened) : Prop :=
  s.view (dataSealed p) = { toPacket := dataSealed p, opw := p.opw, ext := p.ext, payload := p.payload, auth := true } ∧
  malformed (dataSealed p) = false

/-- A packet's parts and flits are as its header and operation part say. -/
def fits (p : Opened) : Bool :=
  p.ext.length = extLen p.opcode && p.payload.length = (if isControl p.opcode then 0 else bits p.opw 63 51) &&
  p.flits = flitsOf p.ext.length p.payload.length && wireAssigned p.opcode && p.rsvd = 0 && p.rsvdLow = 0 && p.nd ≠ 0xFFFF

/-- A packet of a fitting one with as many bytes as its flits say is not malformed. -/
theorem whole_not_malformed (p : Opened) (b : List Byte) (hf : fits p = true)
    (hb : b.length = 128 * flitsOf p.ext.length p.payload.length - 24) : malformed { p.toPacket with body := b } = false := by
  simp only [fits, Bool.and_eq_true, decide_eq_true_eq] at hf
  obtain ⟨⟨⟨⟨⟨⟨_, _⟩, h3⟩, h4⟩, h5⟩, h6⟩, h7⟩ := hf
  have hc : p.flits = ceilDiv (24 + b.length) 128 := by rw [hb, h3]; simp only [flitsOf, ceilDiv]; omega
  simp [malformed, ← hc, h4, h5, h6, h7]

theorem sealed_not_malformed (key : List Byte) (p : Opened) (h : key.length = 32) (hf : fits p = true) :
    malformed (sealPacket key false p) = false := whole_not_malformed p _ hf (sealPacket_length key false p h)

theorem sealed_not_malformed' (key : List Byte) (p : Opened) (h : key.length = 32) (hf : fits p = true) :
    malformed (sealChallenge key p) = false := whole_not_malformed p _ hf (sealChallenge_length key p h)

theorem opens (s : State) (p : Opened) (hk : s.recvKey p.nd p.src p.epoch = some (directionKey 99 0 p.nd 2 0 p.epoch)) (hf : fits p = true) :
    opensTo s p := by
  have hfit : p.Fits := by
    simp only [fits, Bool.and_eq_true, decide_eq_true_eq] at hf
    exact ⟨hf.1.1.1.1.1.1, hf.1.1.1.1.1.2⟩
  refine ⟨?_, sealed_not_malformed _ _ (directionKey_length ..) hf⟩
  rw [Module.view, show (dataSealed p).nd = p.nd from rfl, show (dataSealed p).src = p.src from rfl,
    show (dataSealed p).epoch = p.epoch from rfl, hk]
  simp [dataSealed, openPacket_sealPacket _ _ _ (directionKey_length ..) hfit]

/-- What an ACK or NACK, and a CHALLENGE, of module 2 open to is what was sealed, and R201 does not discard it. -/
def opensAs (s : State) (c : Conn) (p : Opened) : Prop :=
  s.openControl c (ctlSealed p) = some { toPacket := ctlSealed p, opw := p.opw, ext := p.ext, payload := p.payload, auth := true } ∧
  malformed (ctlSealed p) = false
def opensChallenge (s : State) (c : Conn) (p : Opened) : Prop :=
  s.openChallenged c (chlSealed p) = some { toPacket := chlSealed p, opw := p.opw, ext := p.ext, payload := p.payload, auth := true } ∧
  malformed (chlSealed p) = false

theorem opensCtl (s : State) (c : Conn) (p : Opened) (hk : s.sendKey c c.peerNonce p.epoch = some (directionKey 99 77 7 0 2 p.epoch))
    (hf : fits p = true) : opensAs s c p := by
  have hfit : p.Fits := by
    simp only [fits, Bool.and_eq_true, decide_eq_true_eq] at hf
    exact ⟨hf.1.1.1.1.1.1, hf.1.1.1.1.1.2⟩
  refine ⟨?_, sealed_not_malformed _ _ (directionKey_length ..) hf⟩
  rw [Module.openControl, show (ctlSealed p).epoch = p.epoch from rfl, hk]
  simp [ctlSealed, openPacket_sealPacket _ _ _ (directionKey_length ..) hfit]

theorem opensChl (s : State) (c : Conn) (p : Opened) (hk : s.sendKey c (beNat (p.ext.take 8)) p.epoch = some (directionKey 99 77 7 0 2 p.epoch))
    (hf : fits p = true) : opensChallenge s c p := by
  have hfit : p.Fits := by
    simp only [fits, Bool.and_eq_true, decide_eq_true_eq] at hf
    exact ⟨hf.1.1.1.1.1.1, hf.1.1.1.1.1.2⟩
  have hkey : (directionKey 99 77 7 0 2 p.epoch).length = 32 := directionKey_length ..
  refine ⟨?_, sealed_not_malformed' _ _ hkey hf⟩
  rw [Module.openChallenged, show (chlSealed p).epoch = p.epoch from rfl, show (clearPacket (chlSealed p)).ext = p.ext from
    clear_sealChallenge _ _ hkey hfit, hk]
  simp [chlSealed, openChallenge_sealChallenge _ _ hkey hfit]

/-- An ACK, a NACK TRIMMED and a CHALLENGE of the connection, and a RESULT. -/
def ack5 : Opened := ctlPkt 5 wAck (BitVec.ofNat 64 (4 * 2 ^ 40)) (List.replicate 32 0)
def nak5 : Opened := ctlPkt 5 wNack (BitVec.ofNat 64 (3 * 2 ^ 40 + nkTrimmed * 2 ^ 24)) []
def chl6 : Opened := ctlPkt 6 wChallenge (BitVec.ofNat 64 (6 * 2 ^ 32)) (beBytes 8 77 ++ List.replicate 8 0)
def res3 : Opened := { arrived wResult [] 16 with
  opw := dataOpw 16 true true 0 0, payload := leBytes 3 0 ++ [3] ++ leBytes 2 2 ++ leBytes 2 4 ++ leBytes 8 1 }

theorem nak5_tagged : untagged (ctlSealed nak5) = false := by decide +kernel

/-- Packets of remote memory accesses to region 3. -/
def put3 : Opened := { arrived wPut (putBody 0 16) 4 with payload := [1, 2, 3, 4], opw := dataOpw 4 true true 0 0 }
def sig3 : Opened :=
  { arrived wPutSignal (putBody 0 16 ++ beBytes 8 32 ++ beBytes 8 7) 4 with payload := [1, 2, 3, 4], opw := dataOpw 4 true true 0 0 }
def req3 : Opened := { arrived wGetReq (putBody 0 16 ++ beBytes 4 64 ++ beBytes 4 0) 0 with opw := dataOpw 0 true true 0 0 }
def far3 : Opened := { arrived wGetReq (putBody 0 0x1000 ++ beBytes 4 64 ++ beBytes 4 0) 0 with opw := dataOpw 0 true true 0 0 }
def atm3 : Opened := { arrived wAtomicReq (putBody 0 16 ++ beBytes 8 5 ++ beBytes 8 0) 0 with opw := dataOpw 0 true true 0 0 }

/-- A posted receive, an unexpected empty message and a rendezvous entry, and matching context 3 with them. -/
def postedPlain : Posted :=
  { tag := 5, ignore := 0, rank := 1, wq := 1, user := false, bufVa := 0x1000, length := 64, wqeTag := 0, statusVa := 0, postSeq := 0,
    asid := 0, link := 0, spill := none }
def unexpPlain : Unexp :=
  { mctx := 3, tag := 5, rank := 1, srcFa := 2, msgLen := 0, bounce := none, rts := false, held := false, handle := 0, landed := 0,
    parts := [], arrSeq := 0, conn := some 0, msn := 0, tc := 0, spill := none }
def rdvPlain : Rdv :=
  { gen := 2, op := 1, va := 0x1000, length := 64, asid := 0, link := 0, user := false, fa := 2, nd := 7, rtsDone := false, asked := none,
    dataDone := false }
def matchAt (w : List Word) (p : List Posted) (u : List Unexp) : State :=
  (opAt w).upd fun m => { m with mt := { m.mt with ctxs := [(3, { mctxPlain with posted := p })], unexp := u } }
def wTsendOp : List Word := wqeOf [(0, 0x10), (8, 2), (0x10, 0x1000), (0x18, 16), (0x20, 5)]
def wTsendBig : List Word := wqeOf [(0, 0x10), (8, 2), (0x10, 0x1000), (0x18, 0x100000), (0x20, 5)]
def wTrecvOp : List Word := wqeOf [(0, 0x12), (0x10, 0x1000), (0x18, 64), (0x1C, 3), (0x20, 5), (0x30, 1)]
def wTprobeOp : List Word := wqeOf [(0, 0x13), (0x1C, 3), (0x20, 5), (0x30, 1)]
def wTcancelOp : List Word := wqeOf [(0, 0x14), (0x1C, 3)]

/-- Packets of the matching service. -/
def egr3 : Opened :=
  { arrived wEager (beBytes 8 5 ++ beBytes 4 1 ++ beBytes 2 3 ++ beBytes 2 0 ++ beBytes 4 4 ++ beBytes 4 0) 4 with
    msn := 0, payload := [1, 2, 3, 4], opw := dataOpw 4 true true 0 0 }
def nil3 : Opened :=
  { arrived wEager (beBytes 8 5 ++ beBytes 4 1 ++ beBytes 2 3 ++ beBytes 10 0) 0 with msn := 0, opw := dataOpw 0 true true 0 0 }
def rts3 : Opened := { egr3 with opcode := wRts, payload := [], opw := dataOpw 0 true true 0 0, flits := flitsOf 24 0 }
def rget3 : Opened := { arrived wRdvGet (beBytes 4 (8192 * 2 + 7) ++ beBytes 4 64 ++ beBytes 8 0) 0 with opw := dataOpw 0 true true 0 0 }
def rdat3 : Opened := { arrived wRdvData [] 4 with payload := [1, 2, 3, 4], opw := dataOpw 4 true true 9 0 }
def rcan3 : Opened :=
  { arrived wRdvCancel (beBytes 4 (8192 * 2 + 7) ++ beBytes 1 3 ++ beBytes 3 0) 0 with opw := dataOpw 0 true true 0 0 }

/-- A barrier of context 3, the context with packets in the inbox, and a packet of a collective. -/
def wBarrierOp : List Word := wqeOf [(0, 0x20), (0x24, 3), (0x26, 3), (0x2E, 0xFFFF)]
def collAt (c : Coll) (l : List Packet) : State :=
  (opAt wBarrierOp).upd fun m => { m with cl := { m.cl with ctxs := [(3, c)] }, x := { m.x with inbox := l } }
def collPkt (opcode : Nat) (ext : List Byte) : Opened := { arrived opcode ext 0 with opw := dataOpw 0 true true 0 0 }

/-- The extension of a packet of context 3: of an UP or DOWN of the barrier, and of the others, with a word at 8. -/
def collBare (n4 n8 : Nat) : List Byte := beBytes 2 3 ++ beBytes 2 n4 ++ beBytes 4 0 ++ beBytes 4 n8 ++ beBytes 4 0
def barHdr : CollHdr := (collOpOf 1 wBarrierOp).hdr
def upP : Opened := collPkt wUp (collExt 3 barHdr 0 0 0)
def downP : Opened := collPkt wDown (collExt 3 barHdr 0 0 0)
def ackP : Opened := collPkt wDownAck (collBare 0 1)
def repP : Opened := collPkt wRepair (collBare 0 0)
def abtP : Opened := collPkt wAbort (collBare 0x3400 9)

/-- Operations on counters and lists of context 3, and a list entry that fires at 5 of counter 3. -/
def wCtrOp : List Word := wqeOf [(0, 0x21), (0x10, 3), (0x12, 3), (0x18, 7)]
def wListOp : List Word := wqeOf [(0, 0x22), (0x10, 0x1000), (0x18, 2), (0x1C, 3)]
def wListBad : List Word := wqeOf [(0, 0x22), (0x10, 0x1008), (0x18, 2), (0x1C, 3)]
def wListNone : List Word := wqeOf [(0, 0x22), (0x10, 0x1000), (0x1C, 3)]
def entFire : List Word := wPutOp ++ [3, 5, 0xFFFF, 0, 0, 0, 0, 0]

/-- A packet queued as number 9 that came in on port 20, and ports 0 and p up, with packets queued, credits, and the group valid. -/
def qpktAt (p : Packet) : QPkt :=
  { id := 9, pkt := p, inTile := 0, inPort := some 20, ownStub := false, enq := 0, dwell := 50, heldGate := false, heldBucket := false }
def portAt (p : Nat) (l : List QPkt) (credits : Nat) : State :=
  noon.upd fun m =>
    let m := ((m.put F.devFaddrValid 1).put (F.portLstsState 0) lsUp).put (F.portLstsState p) lsUp
    let m := m.put ⟨(F.routePmapMap 0).reg, 7, 0⟩ 129
    let x : Xfer := { id := 9, src := 0, dst := portTile p, cells := 1, out := some p, group := 0, stage := .granted, grantedAt := 0, placed := [0] }
    { m with n := { m.n with xfers := [x], nextPkt := 10 } }.onPort p fun q => { q with queue := l, credReg := credits }

/-- Store commands about object 5, an open object of 256 bytes that holds 16 zeros, and the store in RUN with objects. -/
def wStoreCreate : List Word := wqeOf [(0, 0xA0), (0x10, 5), (0x20, 1)]
def wStoreAppend : List Word := wqeOf [(0, 0xA1), (0x10, 5), (0x18, 0x1000), (0x20, 8)]
def wStoreCommit : List Word := wqeOf [(0, 0xA2), (0x10, 5), (0x18, 1)]
def wStoreRead : List Word := wqeOf [(0, 0xA3), (0x10, 5), (0x18, 4), (0x20, 0x1000), (0x28, 12)]
def wStoreDelete : List Word := wqeOf [(0, 0xA4), (0x10, 5)]
def wStoreList : List Word := wqeOf [(0, 0xA5), (0x10, 5), (0x18, 0x1000), (0x20, 2)]
def objPlain : Obj :=
  { inc := 7, state := .opened, capacity := 256, tlc := true, damaged := false, length := 16, data := [], sealing := false,
    committed := none, comPlaced := [], comParity := [], sealRec := false, reserved := 1, placed := [], parity := [], stale := [], parDue := [], lost := [], journaled := true }
def storeAt (w : List Word) (l : List (Nat × Obj)) : State :=
  (adminAt w).upd fun m => { m with st := { Store.init with state := .run, objs := l } }

/-! ## The hypotheses of the statements can be met -/

/-- The hypotheses of StepRunsFront can be met. -/
theorem witness_StepRunsFront :
    State.reset.pending = [] := by decide

/-- The hypotheses of QueueOkKept can be met. -/
theorem witness_QueueOkKept :
    (∀ c ∈ [Instr.rstdaa, .nrefGood 1 ⟨5, []⟩], Instr.wellFormed c = true) := by decide

/-- The hypotheses of RegistersStayCanonical can be met. -/
theorem witness_RegistersStayCanonical :
    Sparse.wf resetWord State.reset.regs = true ∧ Sparse.wf resetWord [(0x8, 1), (0x0, 1)] = false := by decide

/-- The hypotheses of StrapsAreTaken can be met. -/
theorem witness_StrapsAreTaken :
    State.reset.straps.due = true ∧ State.reset.pg = false ∧ (State.reset.upd fun m => m.takeStraps 0x123).straps.due = false := by decide

/-- The hypotheses of StrapDifferenceIsReported can be met. -/
theorem witness_StrapDifferenceIsReported :
    let s := State.reset.upd fun m => m.takeStraps 0x123
  s.straps.sampled = some 0x123 ∧ s.straps.due = false ∧ (0x124 : BitVec 10).toNat ≠ 0x123 ∧ s.straps.differs = false := by decide

/-- The hypotheses of GroupIsWrittenOnce can be met. -/
theorem witness_GroupIsWrittenOnce :
    let w : Wr := ⟨8, .full, 0x500000000⟩
  let s := State.reset
  let t := s.upd fun m => m.groupWrite w
  s.Arrives w 0x48 ∧ w.half ≠ .lo ∧ s.groupValid = false ∧ t.Arrives w 0x48 ∧ t.groupValid = true ∧
  t.get F.devFaddrGroup = bits w.value 41 32 ∧ t.get F.devFaddrGroup ≠ bits (0x600000000 : Word) 41 32 := by decide

/-- The hypotheses of FailedAccessesAreRecorded can be met. -/
theorem witness_FailedAccessesAreRecorded :
    State.reset.masterReaches 1 = true ∧ State.reset.absent 0x28 = false ∧
  State.reset.domStopped 0x28 (domOf (regAddr 0x28040)) = true := by decide

/-- The hypotheses of RegisterWriteByAccessType can be met. -/
theorem witness_RegisterWriteByAccessType :
    let w : Wr := ⟨1, .full, 0x640003⟩
  State.reset.Arrives w 0x2048 ∧ wrAligned w 0x2048 = true ∧ (blockOf 2).isSome = true ∧ ctrCount .gov = 0 ∧
  (regAt 0x2048).map (fun r => r.fields.all (fun f => f.inRange false w (State.reset.word 0x2048)) &&
    State.reset.writeOk 0x2048 (State.reset.word 0x2048) (r.write false w (State.reset.word 0x2048))) = some false ∧
  (regAt 0x2040).map (fun r => r.fields.all (fun f => f.inRange false w (State.reset.word 0x2040)) &&
    State.reset.writeOk 0x2040 (State.reset.word 0x2040) (r.write false w (State.reset.word 0x2040))) = some true ∧
  State.reset.Arrives w 0x1050 ∧ (1 ≤ bits w.value 31 16 ∧ bits w.value 31 16 ≤ 60000) ∧ bits (60001 * 65536 : Word) 31 16 > 60000 ∧
  State.reset.Arrives w (F.semGmaskMask 15).reg ∧ State.reset.Arrives w (pgSem * 0x1000 + 0x18) ∧ isMsixPage pgSem = false ∧
  bit w.value 1 = true := by decide

/-- The hypotheses of SemaphoreIsClaimed can be met. -/
theorem witness_SemaphoreIsClaimed :
    let w : Wr := ⟨8, .full, 8⟩
  State.reset.Arrives w (F.semLockOwner 255).reg ∧ w.half ≠ .hi ∧ bits w.value 3 0 ≠ 0 ∧ State.reset.semAllowed 255 8 = true ∧
  State.reset.get (F.semLockOwner 255) = 0 ∧ State.reset.semAllowed 0 5 = false ∧
  (State.reset.upd fun m => m.put (F.semLockOwner 255) 1).get (F.semLockOwner 255) ≠ 0 := by decide

/-- The hypotheses of SemaphoreIsReleased can be met. -/
theorem witness_SemaphoreIsReleased :
    let s := State.reset.upd fun m => (m.put (F.semLockOwner 255) 1).put (F.semLockWaiters 255) 0x102
  let w : Wr := ⟨1, .full, 0⟩
  let v : Wr := ⟨8, .full, 0xFF⟩
  s.Arrives w (F.semLockOwner 255).reg ∧ bits w.value 3 0 = 0 ∧ s.get (F.semLockOwner 255) = 1 ∧
  nbit (s.get (F.semLockWaiters 255)) 8 = true ∧ s.Arrives v F.semWaitN.reg ∧ s.semAllowed 255 8 = true ∧
  s.get (F.semLockOwner 255) ≠ 8 ∧ State.reset.get (F.semLockOwner 255) = 0 ∧ bits v.value 7 0 = 255 := by decide

/-- The hypotheses of CheckUnitsComputeTheirCrc can be met. -/
theorem witness_CheckUnitsComputeTheirCrc :
    let w : Wr := ⟨1, .full, 5⟩
  State.reset.Arrives w (F.chkCtlSel 7).reg ∧ w.half ≠ .hi ∧ bit w.value 2 = true ∧ bit (1 : Word) 2 = false ∧
  State.reset.Arrives w (feedReg 7 .feed32).1.reg := by decide

/-- The hypotheses of EventMessages can be met. -/
theorem witness_EventMessages :
    let s := State.reset.upd fun m => m.put F.modeStsMode 2
  let w : Wr := ⟨8, .full, 0x3FF⟩
  s.Arrives w F.evtSwsetN.reg ∧ bits w.value 9 0 = 0x3FF ∧ s.Arrives w (F.evtSrcpndPend 3 3).reg ∧ s.Arrives w (F.evtEnt 0x3FF 63 63).reg ∧
  s.Arrives w 0x38 ∧ s.Arrives w (0x23F * 0x1000 + 0x38) ∧ s.mainOff = false ∧ s.asserted 0x3FF = false := by decide

/-- The hypotheses of MsixVectors can be met. -/
theorem witness_MsixVectors :
    let s := noon.upd fun m => ((m.put (F.hostLstsUp 0) 1).put (F.evtEnt 0x3FF 63 32) 0x80000005).put (F.srcPend 0x3FF) 1
  let u := s.upd fun m => m.setMsix 0 { MsixFn.init with table := [(0x58, 0)], pend := [5] }
  s.linkUp 0 = true ∧ noon.linkUp 0 = false ∧ s.get (F.ctrValue (pgHost 0) 4) + 1024 + (s.msixFn 0).pend.length < 2 ^ 48 ∧ (s.msixFn 0).enable = false ∧ s.mainOff = false ∧ s.asserted 0x3FF = true ∧
  s.get (F.evtEnt 0x3FF 63 62) = 2 ∧ s.get (F.evtEnt 0x3FF 57 56) = 0 ∧ s.get (F.evtEnt 0x3FF 42 32) = 5 ∧
  bit ((u.msixFn 0).word (16 * 5 + 8)) 32 = false ∧ u.wraps (pgHost 0) 4 1 = false ∧ (u.msixFn 0).funcMask = false ∧ 5 ∈ (u.msixFn 0).pend := by decide

/-- The hypotheses of CountersAreSetByWrites can be met. -/
theorem witness_CountersAreSetByWrites :
    let s := State.reset.upd fun m => m.put F.modeStsMode 2
  let w : Wr := ⟨1, .full, 7⟩
  s.Arrives w (F.ctrValue (pgPort 47) 11).reg ∧ s.Arrives w (F.ctrValue (pgPort 47) 12).reg := by decide

/-- The hypotheses of QueueBlockStartsAndStops can be met. -/
theorem witness_QueueBlockStartsAndStops :
    let s := noon.upd fun m => ((m.put F.qctlWqtabSize 4).put F.qctlCrtabSize 16).put F.qctlCrtabBase 1
  let w : Wr := ⟨1, .full, 1⟩
  let e : Env := ⟨0, words (s.crAddr 0) crZero ++ words 0 wqZero⟩
  s.Arrives w 0x28018 ∧ s.get (F.pgEnable pgQctl) = 0 ∧ s.readWords e 0 16 (s.wqAddr 0) = some wqZero ∧
  s.readWords e 0 8 (s.crAddr 0) = some crZero ∧
  contextsOk (WqCtx.parse wqZero).2 (CrCtx.parse crZero).2 (WqCtx.parse wqZero).1 (CrCtx.parse crZero).1 = true := by decide

/-- The hypotheses of DoorbellsMoveIndices can be met. -/
theorem witness_DoorbellsMoveIndices :
    let c : WqCtx := { wqPlain with ci := 0xFFFFFFFF, piKnown := 0 }
  let s := noon.upd fun m => (m.setWq 0xFFFF c).setCr 0xFFFF { crPlain with pi := 3, ciKnown := 1 }
  s.wqTakes 0xFFFF 0 = true ∧ s.crTakes 0xFFFF 0 = true ∧ (s.crRt 0xFFFF).held = [] ∧
  seqSub 32 0 c.ci = 1 ∧ seqSub 32 c.piKnown c.ci = 1 ∧ seqSub 32 15 c.ci = 16 ∧ seqSub 32 16 c.ci = 17 ∧
  seqSub 32 0xFFFFFFFF c.ci = 0 ∧ noon.wqTakes 0 0 = false ∧ noon.wqInTable 0 = false ∧
  seqSub 32 3 1 ≤ ({ crPlain with pi := 3, ciKnown := 1 } : CrCtx).used ∧
  ({ crPlain with pi := 3, ciKnown := 1 } : CrCtx).used < seqSub 32 4 1 := by decide

/-- The hypotheses of PushesPollsAndShadows can be met. -/
theorem witness_PushesPollsAndShadows :
    let c : WqCtx := { wqPlain with poll := true, piShadow := 0x1FFC, ciShadow := 0x1FFC }
  let s := translating.upd fun m => (m.setWq 5 c).setWqRt 5 { WqRt.init with ciSince := 1 }
  s.wqTakes 5 0 = true ∧ (pushBytes 63 [1, 2]).any (fun p => (KMap.get (s.wqRt 5).push p.1).isSome) = false ∧
  ((pushBytes 0 (List.replicate 64 7)).foldl (fun l p => KMap.put l p.1 p.2) (s.wqRt 5).push).length = 64 ∧
  s.dtuOn = true ∧ (s.tlbHit ⟨0, 0x1FFC, .shadowRead, false, true, 0, 0, 5⟩).isSome = true ∧ s.readBytes ⟨0, [⟨0, 0x1FF8, some 0x100000000⟩]⟩ 0 0x1FFC 4 = some [1, 0, 0, 0] := by decide

/-- The hypotheses of WqesComeOnChip can be met. -/
theorem witness_WqesComeOnChip :
    let c : WqCtx := { wqPlain with piKnown := 3, ringVa := 0x1000 }
  let s := translating.upd fun m => (m.setWq 0 c).put (F.pgBlock pgQctl 0 0) 1
  let f : Fetch := ⟨0, 1, 0, some ⟨fetchReq 0 c 0, 1, 0, 0, false⟩, false⟩
  let r := s.upd fun m => m.setWqRt 0 { WqRt.init with fetch := some f }
  s.mayFetch 0 = true ∧ (s.wqRt 0).fetch = none ∧ s.fetchCount 0 c = 3 ∧ s.dtuOn = true ∧
  (s.tlbHit (fetchReq 0 c c.ci)).isSome = true ∧ (r.wqRt 0).fetch = some f ∧ bit (0xF : Word) 0 = true ∧
  slotResult (fetchReq 0 c 0) (leafSlot 0 0x1000 0xF).1 = .done 0 false := by decide

/-- The hypotheses of FetchesStayInBounds can be met. -/
theorem witness_FetchesStayInBounds :
    let c : WqCtx := { wqPlain with piKnown := 3, ringVa := 0x1000 }
  let s := translating.upd fun m => (m.setWq 0 c).put (F.pgBlock pgQctl 0 0) 1
  (s.wqRt 0).fetch = none ∧ ((after (exec (.wqeFetch 0 ⟨0, []⟩) s)).wqRt 0).fetch.isSome = true := by decide

/-- The hypotheses of CompletionsReachTheirRing can be met. -/
theorem witness_CompletionsReachTheirRing :
    let o : Op := { opOf [0xFF] with wq := 1 }
  let k : Completion := ⟨.op 7, 1, 0, 1, 1, 0, 0, 0, 0, 0, 0, true⟩
  let s := translating.upd fun m => (((((m.setWq 1 { wqPlain with tcMask := 1 }).setCr 1 { crPlain with ringVa := 0x1000, ciShadow := 0x1000, pi := 1 }).setOp 7 o).finish k).put F.qctlCrovtoTimeout 5)
  let h := s.upd fun m => m.setCrRt 1 { CrRt.init with held := [k] }
  ({ crPlain with pi := 16 } : CrCtx).full = true ∧ s.q.done[0]? = some k ∧ s.op 7 = some o ∧ (s.wq 1).isSome = true ∧ s.mayStart 7 o = true ∧
  opInvalid { wqPlain with tcMask := 1 } o = true ∧ s.smp.tagged = [] ∧ s.q.awayWq = [] ∧ (h.crRt 1).held ≠ [] ∧
  (s.tlbHit (crReq 1 crPlain 0x1020 .shadowWrite)).isSome = true ∧
  s.readBytes ⟨0, [⟨0, 0x1000, some 1⟩]⟩ 0 0x1000 4 = some [1, 0, 0, 0] := by decide

/-- The hypotheses of AdminCreatesAndChangesQueues can be met. -/
theorem witness_AdminCreatesAndChangesQueues :
    let s (w : List Word) := adminAt w
  (s wCreateWq).adminNext 0x80 = some (1, adminOp wCreateWq) ∧ firstFail ((s wCreateWq).createWqChecks wCreateWq) = none ∧
  (s wCreateWq).wq 5 = none ∧ ((s wCreateWq).cr 0).isSome = true ∧ (s wCreateWq).wqInTable 5 = true ∧
  (s wCreateWq).readWords ⟨0, zeros 0x280 16⟩ 0 16 ((s wCreateWq).wqAddr 5) = some (List.replicate 16 0) ∧
  firstFail ((s wCreateWqBad).createWqChecks wCreateWqBad) = some (stAdminInvalid, 0x30) ∧
  (s wCreateCr).adminNext 0x83 = some (1, adminOp wCreateCr) ∧ firstFail ((s wCreateCr).createCrChecks wCreateCr) = none ∧
  (s wCreateCr).cr 5 = none ∧
  (s wModify).adminNext 0x82 = some (1, adminOp wModify) ∧ firstFail ((s wModify).modifyChecks wModify) = none ∧
  ((s wModify).wq 3).map (sizeOk ·.size) = some true := by decide

/-- The hypotheses of AdminDestroysQueues can be met. -/
theorem witness_AdminDestroysQueues :
    let s (w : List Word) := adminAt w
  let r := (s wDestroyWq).upd fun m => (m.setWq 3 { wqPlain with state := .closing }).adminBegin 1 (adminOp wDestroyWq)
  (s wDestroyWq).adminNext 0x81 = some (1, adminOp wDestroyWq) ∧ (s wDestroyWq).wqInTable 3 = true ∧ ((s wDestroyWq).wq 3).isSome = true ∧
  ((s wDestroyWq).cr 0).isSome = true ∧ (r.q.admin.map (·.opcode)) = some 0x81 ∧ ((r.op 1).map (·.finished)) = some false ∧
  (s wDestroyCr).adminNext 0x84 = some (1, adminOp wDestroyCr) ∧ (s wDestroyCr).crInTable 3 = true ∧
  ((s wDestroyCr).cr 3).map (·.binds) = some 0 ∧ ((s wDestroyCr).crRt 3).held = [] := by decide

/-- The hypotheses of AdminDropsWhatIsCached can be met. -/
theorem witness_AdminDropsWhatIsCached :
    let s (w : List Word) := adminAt w
  let k (w : List Word) := (s w).upd fun m => { m with x := { m.x with keys := [(1, ⟨7, 99⟩)], dirs := [(1, ⟨4, 0, 9⟩)], regions := [(regionKey 1 3, regionPlain)] } }
  let r (w : List Word) := (k w).upd fun m => m.adminBegin 1 (adminOp w)
  (s wInvCtx).adminNext 0x85 = some (1, adminOp wInvCtx) ∧ wqeField wInvCtx 0x10 1 = 2 ∧
  (s wInvTlb).adminNext 0x86 = some (1, adminOp wInvTlb) ∧ wqeField wInvTlb 0x12 2 = 1 ∧ (r wInvTlb).q.admin.isSome = true ∧
  (k wRevoke).adminNext 0x87 = some (1, adminOp wRevoke) ∧ (k wRevoke).keyOf (revokeFields wRevoke).1 = some (1, 99) ∧
  (revokeFields wRevoke).2.1 = 3 ∧ (k wRevoke).readWords ⟨0, ⟨0, 9 * 4096 + 192, some 0x501⟩ :: zeros (9 * 4096 + 200) 7⟩ 0 8 (9 * 4096 + 192) =
    some (0x501 :: List.replicate 7 0) ∧ (Region.parse (0x501 :: List.replicate 7 0)).2 = true ∧
  (Region.parse (0x501 :: List.replicate 7 0)).1.generation = (revokeFields wRevoke).2.2 ∧
  (r wRevoke).q.admin.isSome = true ∧ (s wNop).adminNext 0x90 = some (1, adminOp wNop) := by decide

/-- The hypotheses of DomainKeysComeAndGo can be met. -/
theorem witness_DomainKeysComeAndGo :
    let s (w : List Word) := adminAt w
  let k := (s wClear).upd fun m => { m with x := { m.x with keys := [(1, ⟨7, 99⟩)] } }
  let r := k.upd fun m => m.adminBegin 1 (adminOp wClear)
  (s wSetKey).adminNext 0x88 = some (1, adminOp wSetKey) ∧ wqeField wSetKey 0x10 2 = 7 ∧ (s wSetKey).keyOf 7 = none ∧
  KMap.get (s wSetKey).x.keys 1 = none ∧ k.adminNext 0x89 = some (1, adminOp wClear) ∧ k.keyOf 7 = some (1, 99) ∧
  k.connsOf (fun d => decide (d = 7)) = [] ∧ k.q.awayWq = [] ∧ r.q.admin.isSome = true ∧ r.ndBusy 7 1 = false := by decide

/-- The hypotheses of GroupsAndContextsAreAdministered can be met. -/
theorem witness_GroupsAndContextsAreAdministered :
    let s (w : List Word) := adminAt w
  let e : Env := ⟨0, [⟨0, 0x1000, some 2⟩]⟩
  let b := (s wDestroyColl).upd fun m => 
    let m := { m with cl := { m.cl with ctxs := [(3, collPlain)], groups := [(3, ⟨7, [2]⟩)] } }
    { m with mt := { m.mt with ctxs := [(3, mctxPlain)] } }
  (s wCreateMc).adminNext 0x8A = some (1, adminOp wCreateMc) ∧ wqeField wCreateMc 0x10 2 = 3 ∧ (s wCreateMc).fa = 0 ∧
  (s wCreateMc).readBytes e 0 0x1000 4 = some [2, 0, 0, 0] ∧ (s wCreateMc).dtuOn = true ∧ elems 4 1 [2, 0, 0, 0] = [2] ∧
  sameRow 0 2 = true ∧ (s wDestroyMc).adminNext 0x8B = some (1, adminOp wDestroyMc) ∧ wqeField wDestroyMc 0x10 2 = 3 ∧
  (s wCreateColl).adminNext 0x8C = some (1, adminOp wCreateColl) ∧ wqeField wCreateColl 0x18 8 % 8 = 0 ∧
  b.adminNext 0x8D = some (1, adminOp wDestroyColl) ∧ (b.coll 3).isSome = true ∧
  (s wCreateMatch).adminNext 0x8E = some (1, adminOp wCreateMatch) ∧ firstFail ((s wCreateMatch).createMatchChecks wCreateMatch) = none ∧
  (s wDestroyMatch).adminNext 0x8F = some (1, adminOp wDestroyMatch) ∧ (b.mctx 3).isSome = true ∧
  (b.upd fun m => m.adminBegin 1 (adminOp wDestroyColl)).owes (.coll 3) = false := by decide

/-- The hypotheses of OperationsBecomeMessages can be met. -/
theorem witness_OperationsBecomeMessages :
    let s (w : List Word) := opAt w
  let i (w : List Word) := opIdle w
  (s wPutOp).startable 1 0x01 = some (opOf wPutOp, wqPlain) ∧ ((s wPutOp).keyOf wqPlain.nd).isSome = true ∧
  (s wPutOp).cidOf (wqeDest wPutOp) 7 = some 0 ∧ (s wPutOp).conn 0 = some connOpen ∧ connOpen.txState = .open ∧
  (s wGetOp).startable 1 0x02 = some (opOf wGetOp, wqPlain) ∧ (s wAtomicOp).startable 1 0x03 = some (opOf wAtomicOp, wqPlain) ∧
  wqeField wAtomicOp 0x18 1 = 4 ∧ wqeField wAtomicOp 0x19 1 = 2 ∧ (s wSignalOp).startable 1 0x04 = some (opOf wSignalOp, wqPlain) ∧
  wqeField wSignalOp 0x1C 1 = 1 ∧ (s wStorePutOp).startable 1 0x05 = some (opOf wStorePutOp, wqPlain) ∧
  (s wStoreSyncOp).startable 1 0x06 = some (opOf wStoreSyncOp, wqPlain) ∧ wqeDest wStoreSyncOp ≠ (s wStoreSyncOp).fa ∧
  (i wPutOp).startable 1 0x01 = some (opOf wPutOp, wqPlain) ∧ ((i wPutOp).conn 0).map (·.txState) = some .idle ∧
  (noKey wPutOp).startable 1 0x01 = some (opOf wPutOp, wqPlain) ∧ (noKey wPutOp).keyOf 7 = none ∧
  (noKey wGetOp).startable 1 0x02 = some (opOf wGetOp, wqPlain) ∧
  (s wAtomicBad).startable 1 0x03 = some (opOf wAtomicBad, wqPlain) ∧ wqeField wAtomicBad 0x18 1 = 5 ∧
  (s wSignalBad).startable 1 0x04 = some (opOf wSignalBad, wqPlain) ∧ wqeField wSignalBad 0x1C 1 = 2 := by decide

/-- The hypotheses of PacketsGoOut can be met. -/
theorem witness_PacketsGoOut :
    let g : Msg := { Msg.new .put 0x10 0 2 (.inline [1, 2]) with ext := List.replicate 16 0 }
  let c : Conn := { connOpen with msgs := [g], txNext := 0xFFFFFF, txBase := 0xFFFF00 }
  let s := connAt c
  let d : TxPkt :=
    { psn := 3, epoch := 0, msg := 9, off := 0, pkt := pktPlain, sentAt := 0, acked := false, reread := false, rnr := none, held := false }
  let u (a : Nat) (r : Option Nat) := connAt { connOpen with tx := [{ d with pkt := { pktPlain with attempt := a }, rnr := r }] }
  s.conn 0 = some c ∧ c.msgs.find? (fun g => !g.segmented) = some g ∧ seqSub 24 c.txNext c.txBase = 255 ∧ c.outstanding < 512 ∧
  s.descriptors 0 < 32768 ∧ (s.toModule.at ⟨0, []⟩).shaperAdmits 0 1 0 = true ∧ s.opDead g = false ∧ s.x.waiting = [] ∧ s.x.opening = [] ∧
  (s.slotKey c.slot).isSome = true ∧ c.msgs.all (fun h => !s.msgComplete c h) = true ∧ s.mt = Matching.init ∧
  (((u 253 none).conn 0).map (·.rto)) = some 100000 ∧ d.sentAt + 100000 ≤ max (u 253 none).now 100000 ∧
  ((u 253 none).toModule.at ⟨0, []⟩).shaperAdmits 0 1 0 = true ∧ ((u 253 (some 7)).conn 0).map (fun c => c.tx.map (·.rnr)) = some [some 7] ∧
  (u 253 none).x.conns.all (fun q => !q.2.anew) = true ∧ (u 254 none).cl.ctxs = [] ∧ (u 254 none).mt = Matching.init ∧ ((connAt { connOpen with txState := .probing, probes := 254 }).conn 0).map (·.probes) = some 254 := by decide

/-- The hypotheses of ControlPacketsSteerTheSender can be met. -/
theorem witness_ControlPacketsSteerTheSender :
    let g : Msg := { Msg.new .put 0x10 0 2 (.inline [1, 2]) with msn := some 4, op := some 1, segmented := true }
  let d : TxPkt :=
    { psn := 3, epoch := 5, msg := 0, off := 0, pkt := pktPlain, sentAt := 0, acked := false, reread := false, rnr := none, held := false }
  let c : Conn := { connOpen with txEpoch := 5, txNext := 4, txBase := 3, tx := [d], msgs := [g] }
  let f : Conn := { connOpen with msgs := [{ g with lastPsn := some (0, 3), needRsn := some 1 }] }
  let s := (opAt wPutOp).upd fun m =>
    { m with x := { m.x with conns := [(0, c)], inbox := [ctlSealed ack5, ctlSealed nak5, chlSealed chl6, dataSealed res3] } }
  let c1 := c.takeAck (s.toModule.at ⟨0, []⟩) (bits ack5.opw 63 40) (bits ack5.opw 39 16) ack5.ext
  (opensAs s c ack5 ∧ opensAs s c nak5 ∧ opensChallenge s { c with txState := .probing } chl6 ∧
    opensTo (s.upd fun m => m.setConn 0 f) res3 ∧ untagged (ctlSealed nak5) = false) ∧
  s.cidOf ack5.src ack5.nd = some 0 ∧ c.sending = true ∧ bits ack5.opw 63 40 = 4 ∧ s.openControl c { ctlSealed ack5 with body := [] } = none ∧
  c1.msgs.all (fun g => s.msgComplete c1 g) = true ∧ c1.msgs.length = 1 ∧ c.msgs.all (fun g => !s.msgComplete c g) = true ∧
  (s.slotKey c.slot).isSome = true ∧ bits nak5.opw 63 40 = 3 ∧ bits nak5.opw 31 24 = nkTrimmed ∧
  (s.toModule.at ⟨0, []⟩).shaperAdmits 0 1 0 = true ∧ chl6.epoch = bits chl6.opw 63 32 ∧ seqSub 24 res3.psn 0 < 1024 ∧ f.sending = true ∧
  f.msgs.all f.covered = true ∧ fieldLE res3.payload 6 2 % 1024 = 4 ∧ fieldLE res3.payload 0 3 = 0 ∧ seqSub 24 1 1 < 2 ^ 23 ∧
  s.mt = Matching.init := by exact ⟨⟨opensCtl _ _ _ rfl (by decide), opensCtl _ _ _ rfl (by decide), opensChl _ _ _ rfl (by decide), opens _ _ rfl (by decide), nak5_tagged⟩, by decide⟩

/-- The hypotheses of ReceiversAnswer can be met. -/
theorem witness_ReceiversAnswer :
    let c : Conn := { connOpen with ackPend := 1, ndRun := some 0 }
  let prb := barePacket (ctlPkt 0 wProbe (BitVec.ofNat 64 (5 * 2 ^ 32)) [])
  let trm := noticeOf (barePacket { pktPlain with psn := 1023 })
  let bad := { barePacket pktPlain with rsvd := 1 }
  let s := (connAt c).upd fun m => { m with x := { m.x with inbox := [prb, trm, bad] } }
  let w : Wr := ⟨1, .full, 1⟩
  malformed prb = false ∧ (noKey wPutOp).keyOf 7 = none ∧ s.cidOf prb.src prb.nd = some 0 ∧ malformed trm = false ∧ bits (clearPacket prb).opw 63 32 = 5 ∧
  (s.recvKey 7 2 5).isSome = true ∧ (s.recvKey 7 2 0).isSome = true ∧ s.ctlFull 0 = false ∧ s.mt = Matching.init ∧ (noKey wPutOp).ctlFull 0 = false ∧
  s.tileFor bad = 0 ∧
  isControl trm.opcode = false ∧ seqSub 24 trm.psn c.rxBase = 1023 ∧ malformed bad = true ∧
  0 ≤ max s.now (65536 * 1000) ∧ s.Arrives w (pgXpt 0 * 0x1000 + 0x18) ∧
  s.get (F.pgEnable (pgXpt 0)) ≠ bits w.value 0 0 := by decide

/-- The hypotheses of RemoteAccessesAreMade can be met. -/
theorem witness_RemoteAccessesAreMade :
    let s := regionAt ([put3, sig3, req3, far3, atm3].map dataSealed)
  let a (p : Opened) (w : Want) (n : Nat) : Ask := ⟨w, pRkey p, pRoffset p, n, none, 0, 0⟩
  (opensTo s put3 ∧ opensTo s sig3 ∧ opensTo s req3 ∧ opensTo s far3 ∧ opensTo s atm3) ∧ pPlen put3 = 4 ∧
  s.tooEarly ⟨0, []⟩ Landing.none 0 (regionReq regionPlain 0 3 16 .remoteWrite) 4 = false ∧ s.keyOf 7 = some (1, 99) ∧ keyIndex (pRkey put3) = 3 ∧
  KMap.get s.x.dirs 1 = some ⟨4, 0, 9⟩ ∧ KMap.get s.x.regions (regionKey 1 3) = some regionPlain ∧
  firstFail (s.entryChecks (putAsk put3 .put) regionPlain) = none ∧
  (s.tlbHit (regionReq regionPlain 0 3 16 .remoteWrite)).map (slotResult (regionReq regionPlain 0 3 16 .remoteWrite)) = some (.done 0x1010 false) ∧
  firstFail (s.entryChecks (putAsk sig3 .put) regionPlain) = none ∧
  (s.tlbHit (regionReq regionPlain 0 3 32 .remoteWrite)).map (slotResult (regionReq regionPlain 0 3 32 .remoteWrite)) = some (.done 0x1020 false) ∧
  bit sig3.opw 32 = false ∧ connOpen.canAnswer = true ∧
  firstFail (s.entryChecks (a req3 .get 64) regionPlain) = none ∧
  firstFail (s.entryChecks (a far3 .get 64) regionPlain) = some (stRemoteAccess, 0x8004) ∧
  firstFail (s.entryChecks (a atm3 .atomic 8) regionPlain) = none ∧
  (s.tlbHit (regionReq regionPlain 0 3 16 .remoteAtomic)).map (slotResult (regionReq regionPlain 0 3 16 .remoteAtomic)) = some (.done 0x1010 false) ∧
  s.readBytes ⟨0, [⟨0, 0x1010, some 9⟩]⟩ 0 0x1010 8 = some (leBytes 8 9) ∧
  (opAt wGetOp).opTakes (some 1) = some (1, opOf wGetOp, wqPlain) ∧ wqeField (wqeOf [(0, 3)]) 0x10 8 = 0 := by exact ⟨⟨opens _ _ rfl (by decide), opens _ _ rfl (by decide), opens _ _ rfl (by decide), opens _ _ rfl (by decide), opens _ _ rfl (by decide)⟩, by decide⟩

/-- The hypotheses of CopiesActOnce can be met. -/
theorem witness_CopiesActOnce :
    let s := (connAt { connOpen with bitmap := [5], rxBase := 3 }).upd fun m =>
    { m with x := { m.x with inbox := [barePacket { pktPlain with psn := 5 }, barePacket { pktPlain with psn := 2 }] } }
  s.x.inbox.all (fun p => !malformed p) = true ∧ s.mt = Matching.init ∧ (s.keyOf 7).isSome = true ∧ s.cidOf 2 7 = some 0 ∧
  ((s.conn 0).map (·.bitmap)) = some [5] ∧ 2 ^ 23 ≤ seqSub 24 2 3 := by decide

/-- The hypotheses of RevokedRegionsRefuse can be met. -/
theorem witness_RevokedRegionsRefuse :
    let s := (regionAt [dataSealed put3]).upd fun m => { m with x := { m.x with regions := [(regionKey 1 3, { regionPlain with revoking := true })] } }
  opensTo s put3 ∧ s.mt = Matching.init ∧
  s.keyOf 7 = some (1, 99) ∧ KMap.get s.x.dirs 1 = some ⟨4, 0, 9⟩ ∧
  keyIndex (pRkey put3) = 3 ∧ (KMap.get s.x.regions (regionKey 1 3)).map (·.revoking) = some true := by exact ⟨opens _ _ rfl (by decide), by decide⟩

/-- The hypotheses of TaggedOperationsPostAndClaim can be met. -/
theorem witness_TaggedOperationsPostAndClaim :
    let s (w : List Word) := matchAt w [] []
  let p := postedPlain
  let u := unexpPlain
  (opAt wTsendOp).startable 1 0x10 = some (opOf wTsendOp, wqPlain) ∧ wqeField wTsendOp 0x18 4 ≤ (opAt wTsendOp).get F.matchSndcfgSendLimit ∧
  (opAt wTsendBig).startable 1 0x10 = some (opOf wTsendBig, wqPlain) ∧
  (opAt wTsendBig).get F.matchSndcfgSendLimit < wqeField wTsendBig 0x18 4 ∧ (opAt wTsendBig).rdvFree = some 0 ∧
  (opAt wTsendBig).behind 1 (opOf wTsendBig) (fun v => wqeOpcode v = 0x10 && wqeDest v = wqeDest wTsendBig) = false ∧
  (s wTrecvOp).startable 1 0x12 = some (opOf wTrecvOp, wqPlain) ∧ (s wTrecvOp).postable wqPlain 3 = some mctxPlain ∧
  ((s wTrecvOp).cr 0).isSome = true ∧ (s wTrecvOp).postingBehind 1 (opOf wTrecvOp) = false ∧ (s wTrecvOp).postedOnChip 1 < 32768 ∧
  (matchAt wTrecvOp [] [u]).mt.unexp = [u] ∧
  tagHit u.tag u.rank (wqeField wTrecvOp 0x20 8) (wqeField wTrecvOp 0x28 8) (wqeField wTrecvOp 0x30 4) = true ∧
  (s wTprobeOp).startable 1 0x13 = some (opOf wTprobeOp, wqPlain) ∧
  tagHit u.tag u.rank (wqeField wTprobeOp 0x20 8) (wqeField wTprobeOp 0x28 8) (wqeField wTprobeOp 0x30 4) = true ∧
  (s wTcancelOp).startable 1 0x14 = some (opOf wTcancelOp, wqPlain) ∧ p.wqeTag = wqeField wTcancelOp 0x18 4 ∧ p.wq = 1 ∧
  (matchAt wTcancelOp [p] []).mt.ctxs = [(3, { mctxPlain with posted := [p] })] ∧ (opAt wTrecvOp).mctx 3 = none ∧
  (opAt wTrecvOp).startable 1 0x12 = some (opOf wTrecvOp, wqPlain) := by decide

/-- The hypotheses of TaggedPacketsAreMatched can be met. -/
theorem witness_TaggedPacketsAreMatched :
    let s := (matchAt wPutOp [postedPlain] []).upd fun m =>
    { m with mt := { m.mt with rdvs := [(7, rdvPlain)] }, x := { m.x with inbox := [egr3, nil3, rts3, rget3, rdat3, rcan3].map dataSealed } }
  (opensTo s egr3 ∧ opensTo s nil3 ∧ opensTo s rts3 ∧ opensTo s rget3 ∧ opensTo s rdat3 ∧ opensTo s rcan3) ∧ s.mt.unexp = [] ∧ s.mt.pool = [] ∧
  extBE egr3 12 2 = 3 ∧ s.mt.ctxs = [(3, { mctxPlain with posted := [postedPlain] })] ∧
  (s.cr 0).isSome = true ∧ s.crRefuses 0 = false ∧ tagHit (extBE egr3 0 8) (extBE egr3 8 4) 5 0 1 = true ∧ extBE egr3 16 4 = pPlen egr3 ∧
  (s.tlbHit ⟨0, 0x1000, .localWrite, false, true, 6, 4, 3⟩).map (slotResult ⟨0, 0x1000, .localWrite, false, true, 6, 4, 3⟩) = some (.done 0x1000 false) ∧
  extBE nil3 16 4 = 0 ∧
  extBE rts3 12 2 = 3 ∧ extBE rget3 0 4 % 8192 = 7 ∧ rdvPlain.gen = extBE rget3 0 4 / 8192 ∧
  pXdata rdat3 % 1024 = 9 ∧ extBE rcan3 0 4 % 8192 = 7 ∧ extBE rcan3 4 1 = 3 ∧ (s.op rdvPlain.op).isSome = true := by exact ⟨⟨opens _ _ rfl (by decide), opens _ _ rfl (by decide), opens _ _ rfl (by decide), opens _ _ rfl (by decide), opens _ _ rfl (by decide), opens _ _ rfl (by decide)⟩, by decide⟩

/-- The hypotheses of CollectivesClimbAndDescend can be met. -/
theorem witness_CollectivesClimbAndDescend :
    let w := collOpOf 1 wBarrierOp
  let root := { collPlain with children := [(2, 0)] }
  let leaf := { collPlain with root := false, children := [], parent := 2 }
  let kept : Retained := ⟨0, 0, w.hdr, [], [(0, 0)], false, []⟩
  let s (c : Coll) := collAt c ([upP, downP, ackP, repP, abtP].map dataSealed)
  (opensTo (s root) upP ∧ opensTo (s leaf) downP ∧ opensTo (s root) ackP ∧ opensTo (s root) repP ∧ opensTo (s root) abtP) ∧
  (s root).startable 1 0x20 = some (opOf wBarrierOp, wqPlain) ∧ (s root).collFor 3 wqPlain = some root ∧
  (s leaf).collFor 3 wqPlain = some leaf ∧ collInvalid leaf w = false ∧ w.hdr.climbs = true ∧ w.seq = leaf.nextSeq ∧
  (opAt wBarrierOp).startable 1 0x20 = some (opOf wBarrierOp, wqPlain) ∧ (opAt wBarrierOp).coll 3 = none ∧
  w.seq ≠ { leaf with nextSeq := 4 }.nextSeq ∧ (s { leaf with nextSeq := 4 }).collFor 3 wqPlain = some { leaf with nextSeq := 4 } ∧
  ((s leaf).keyOf 7).isSome = true ∧ (s leaf).cidOf 2 7 = some 0 ∧ (s leaf).conn 0 = some connOpen ∧
  pColl upP = (w.hdr, 0, 0, 0) ∧
  pColl downP = (w.hdr, 0, 0, 0) ∧ (s root).slotsFull 3 root = false ∧ (s leaf).slotsFull 3 leaf = false ∧ (s leaf).crRefuses 0 = false ∧
  collInvalid leaf { w with doneCtr := 4 } = true ∧
  (s { root with ops := [w] }).coll 3 = some { root with ops := [w] } ∧
  (s { leaf with ops := [{ w with next := 1 }] }).op 1 = some (opOf wBarrierOp) ∧
  (s { root with kept := [kept] }).coll 3 = some { root with kept := [kept] } ∧ root.childOf 2 = some 0 ∧
  extBE ackP 8 4 = 1 ∧ extBE repP 8 4 = 0 ∧ leaf.neighbours = [2] ∧ extBE abtP 0 2 = 3 ∧
  0 + connOpen.rto ≤ max (s root).now (65536 * 1000) := by exact ⟨⟨opens _ _ rfl (by decide), opens _ _ rfl (by decide), opens _ _ rfl (by decide), opens _ _ rfl (by decide), opens _ _ rfl (by decide)⟩, by decide⟩

/-- The hypotheses of CountersListsAndTime can be met. -/
theorem witness_CountersListsAndTime :
    let c := { collPlain with ctrBase := 8, ctrCount := 4 }
  let bad := { collPlain with ctrBase := 8, ctrCount := 3 }
  let l : TrigList := ⟨1, 3, 0x1000, 1, 0, [(0, entFire)], []⟩
  let s (w : List Word) := (opAt w).upd fun m => { m with cl := { m.cl with ctxs := [(3, c)], lists := [(6, l)], ctrs := [(11, 5)] } }
  let t : State := noon.upd fun m => ({ m with n := { m.n with nearAt := some 0 } }.onPort 0 fun q => { q with farDist := 3 }).put (F.portLstsState 0) lsUp
  let w : Wr := ⟨1, .full, 77⟩
  (s wCtrOp).startable 1 0x21 = some (opOf wCtrOp, wqPlain) ∧ (s wCtrOp).collFor 3 wqPlain = some c ∧ wqeField wCtrOp 0x12 2 < c.ctrCount ∧
  bad.ctrCount ≤ wqeField wCtrOp 0x12 2 ∧ ((s wCtrOp).cr 0).isSome = true ∧
  (s wListOp).startable 1 0x22 = some (opOf wListOp, wqPlain) ∧ wqeField wListOp 0x10 8 % 128 = 0 ∧ 0 < wqeField wListOp 0x18 4 ∧
  (s wListOp).get (F.collUseLists 1) < 8192 ∧ KMap.get (s wListOp).cl.lists 0 = none ∧
  ((s wListOp).tlbHit ⟨0, 0x1000, .fetch, false, true, 8, 5, 3⟩).map (slotResult ⟨0, 0x1000, .fetch, false, true, 8, 5, 3⟩) = some (.done 0x1000 false) ∧
  (s wListOp).readBytes ⟨0, zeros 0x1000 16⟩ 0 0x1000 128 = some (List.replicate 128 0) ∧
  (s wListBad).startable 1 0x22 = some (opOf wListBad, wqPlain) ∧ wqeField wListBad 0x10 8 % 128 ≠ 0 ∧
  (s wListNone).startable 1 0x22 = some (opOf wListNone, wqPlain) ∧ wqeField wListNone 0x18 4 = 0 ∧
  KMap.get (s wCtrOp).cl.lists 6 = some l ∧ bits (entFire.getD 8 0) 16 16 = 0 ∧ bits (entFire.getD 8 0) 15 0 = 3 ∧
  bits (entFire.getD 9 0) 63 0 = 5 ∧ (s wCtrOp).ctr 11 = 5 ∧ wqeFence entFire = false ∧ (s wCtrOp).smp.on = false ∧
  (noon.upd fun m => m.put F.timeCfgGm 1).Arrives w F.timeSetNs.reg ∧ noon.Arrives w F.timeSetNs.reg ∧
  noon.get F.timeCfgGm = 0 ∧ noon.timeSource = none ∧ noon.get F.timeStsSynced = 0 ∧ t.timeSource = some 0 ∧ t.n.nearAt = some 0 ∧
  t.st.judge = none := by decide

/-- The hypotheses of PortsScheduleAndAccept can be met. -/
theorem witness_PortsScheduleAndAccept :
    let d (tc : Nat) : QPkt := qpktAt (barePacket { pktPlain with tc := tc })
  let s (l : List QPkt) := portAt 0 l 100
  let none' := portAt 0 [d 3] 0
  let far := qpktAt (barePacket { pktPlain with dst := 1, ordered := true })
  let gone := qpktAt (noticeOf (barePacket pktPlain))
  let rx := { barePacket pktPlain with flits := 3 }
  let g : Sched := ⟨true, 0, [(255, 1000)]⟩
  let n := noon.upd fun m => m.onPort 0 fun q => { q with next := some (0, g) }
  let w (v : Word) : Wr := ⟨1, .full, v⟩
  (s [d 3, d 7]).isUp 0 = true ∧ ((s [d 3, d 7]).port 0).head 7 = some (d 7) ∧ ((s [d 3]).port 0).head 3 = some (d 3) ∧
  (s [d 3]).staged 9 = true ∧ (s [d 3]).qcause 0 = 0 ∧ 0 < (((s [d 3]).upd fun m => m.at ⟨0, []⟩).bucket 0 3).peak ∧
  0 < (((s [d 7]).upd fun m => m.at ⟨0, []⟩).bucket 0 7).peak ∧ (none'.port 0).credReg < (d 3).pkt.flits ∧
  (s []).routes = true ∧ (s []).groupValid = true ∧ rx.dst = (s []).fa ∧ seqSub 12 ((s []).get (F.portLstsRxSeq 0)) 0 = 0 ∧
  seqSub 12 ((s []).get (F.portLstsRxSeq 0)) 4095 = 1 ∧ seqSub 12 ((s []).get (F.portLstsRxSeq 0)) 2047 = 2049 ∧
  seqSub 12 ((s []).get (F.portLstsRxSeq 0)) 2048 = 2048 ∧
  noon.Arrives (w 0) (bktReg 5 3) ∧ regAddr (BitVec.ofNat 24 (bktReg 5 3)).toNat = bktReg 5 3 ∧ noon.Arrives (w 0) (injReg 15 7) ∧
  regAddr (BitVec.ofNat 24 (injReg 15 7)).toNat = injReg 15 7 ∧ noon.Arrives (w 0x8000000000000000) (F.pschGctlEn 0).reg ∧
  bit (0x8000000000000000 : Word) 63 = true ∧ bit (0xC000000000010000 : Word) 62 = true ∧ bits (0xC000000000010000 : Word) 20 16 = 1 ∧
  noon.get (F.pschGentDur 0 0) = 0 ∧ (n.port 0).next = some (0, g) ∧
  ((portAt 15 [far] 0).queued 9) = some (15, far) ∧ far.enq + far.dwell ≤ max (portAt 15 [far] 0).now 100 ∧
  ((portAt 15 [gone] 0).queued 9) = some (15, gone) ∧ gone.pkt.trimmed = true ∧ (portAt 15 [far] 0).xPort 1 = some 0 ∧
  (portAt 15 [far] 0).candidate 0 0 = true ∧ faSlot 1 ≠ (portAt 15 [far] 0).slot ∧ faChassis 1 = (portAt 15 [far] 0).chassis ∧
  far.pkt.hops < (portAt 15 [far] 0).get F.routeCfgHopMax ∧ (1 : Nat) ≠ (portAt 15 [far] 0).fa := by decide

/-- The hypotheses of RoutesAreCommitted can be met. -/
theorem witness_RoutesAreCommitted :
    let w (v : Word) : Wr := ⟨1, .full, v⟩
  let go := noon.upd fun m => m.put F.routeRcmdGo 1
  let sp := (noon.upd fun m => m.put F.routeEpochSpread 1).upd fun m => { m with n := { m.n with grtNew := List.range 64 } }
  noon.Arrives (w 0) F.routeRcmdGo.reg ∧ noon.get F.routeRcmdGo = 0 ∧ go.get F.routeRcmdGo = 1 ∧ go.Arrives (w 0) F.routeRcmdGo.reg ∧
  sp.get F.routeEpochSpread = 1 ∧ sp.spreadOver = true ∧ noon.get F.routeEpochSpread = 0 ∧
  seqSub 16 (bits (0x8000000000007FFF : Word) 15 0) (noon.get F.routeEpochEpoch) = 32767 ∧ bit (0x8000000000007FFF : Word) 63 = true ∧
  bit (0x4000000000000000 : Word) 62 = true ∧ seqSub 16 (bits (0x8000000000008000 : Word) 15 0) (noon.get F.routeEpochEpoch) = 32768 ∧
  noon.Arrives (w 0) F.routeHlthUp.reg ∧ sp.Arrives (w 0) F.routeHlthUp.reg ∧ noon.Arrives (w 0x21F) F.routeQctlSet.reg ∧
  leadDuo (bits (0x21F : Word) 5 0) = 30 ∧ isPort 30 = true ∧ bit (0x21F : Word) 9 = true ∧ bit (0x100 : Word) 8 = true ∧
  leadDuo (bits (0x100 : Word) 5 0) = 0 ∧ (portAt 0 [] 0).isUp 0 = true ∧ (portAt 0 [] 0).Arrives (w 0x100) F.routeQctlSet.reg := by decide

/-- The hypotheses of TheMeshCarriesTransfers can be met. -/
theorem witness_TheMeshCarriesTransfers :
    let x : Xfer := ⟨9, 3, 17, 2, some 0, 0, .offered, 0, []⟩
  let s (x : Xfer) (l : List Cell) := (portAt 0 [qpktAt (noticeOf (barePacket pktPlain))] 0).upd fun m => { m with n := { m.n with xfers := [x], cells := l } }
  let c : Cell := { xfer := 9, index := 1, dst := 17, src := 3, mid := 3, phase := true, age := 0, kind := 0, mask := 0, mdim := false,
                    group := 0, table := false, relay := false, aged := false, place := .sunk }
  let a : Cell := { c with place := .link 9 0, age := 4 }
  let b : Cell := { c with place := .link 9 0, xfer := 8 }
  let r : Rel := ⟨9, 40, some 20, 3, false, false⟩
  let gated := (s { x with stage := .queued, out := none } []).upd fun m => m.put (F.tileStateState 17) tsPowerGated
  let waking := gated.upd fun m => m.put (F.tileStateState 17) tsWaking
  let own := { qpktAt (barePacket { pktPlain with opcode := 1 }) with inPort := none }
  let late (d : QPkt) := (portAt 0 [{ d with inPort := none }] 0).upd fun m => { m with n := { m.n with xfers := [{ x with stage := .granted }] } }
  (s x []).n.xfers = [x] ∧ (s x []).tileState 17 = tsRun ∧ noon.n.xfers = [] ∧ noon.tileState 5 = tsRun ∧
  ((s x []).upd fun m => m.put (F.tileStateState 17) tsClockGated).tileGated 17 = true ∧
  (s { x with stage := .granting } []).xfer 9 = some { x with stage := .granting } ∧
  (s x [c]).cellOf 9 1 = some c ∧ (s x [{ c with place := .waiting }]).get (F.tileStateThrottled 3) = 0 ∧
  (s x [{ c with place := .waiting }]).xfer 9 = some x ∧ (s x [a, b]).n.cells = [a, b] ∧ productive 9 17 = [2] ∧
  ((s x []).upd fun m => { m with n := { m.n with rels := [r] } }).n.rels = [r] ∧
  (late own).xfer 9 = some { x with stage := .granted } ∧ (late own).queued 9 = some (0, own) ∧ isControl own.pkt.opcode = true ∧
  ((late (qpktAt (noticeOf (barePacket pktPlain)))).queued 9).map (·.2.pkt.trimmed) = some true ∧
  waking.tileState 17 = tsWaking ∧ waking.n.xfers = [{ x with stage := .queued, out := none }] ∧ noon.tileState 17 ≠ tsWaking ∧
  gated.Arrives ⟨1, .full, 1⟩ (F.tileHoldNogate 17).reg ∧ gated.tileGated 17 = true := by decide

/-- The hypotheses of RunningLinksExchangeControl can be met. -/
theorem witness_RunningLinksExchangeControl :
    let s (q : Port) := (portAt 0 [] 5).upd fun m => m.setPort 0 q
  let r : RPkt := ⟨7, barePacket pktPlain, 0, false⟩
  let f (n : Nat) := ctlFlit 1 (List.replicate 5 0 ++ [BitVec.ofNat 8 n])
  let g := (portAt 0 [] 5).upd fun m => m.put F.timeCfgGm 1
  let low := (s { Port.init with replay := [r] }).upd fun m => m.put (F.portLcfgRplMax 0) 1
  (s Port.init).isUp 0 = true ∧ ctlType (f 0) = some 1 ∧ flitBE (f 1) 19 1 = 1 ∧ flitBE (f 2) 19 1 = 2 ∧ flitBE (f 4) 19 1 = 4 ∧
  ((s { Port.init with replay := [r] }).port 0).replay = [r] ∧ r.seq = flitBE (ctlFlit 2 (beBytes 2 7)) 14 2 % 4096 ∧
  ctlType (ctlFlit 2 (beBytes 2 7)) = some 2 ∧ 1 < (s Port.init).get (F.portLcfgRplMax 0) ∧ low.get (F.portLcfgRplMax 0) ≤ 1 ∧
  r.due ≤ max (s Port.init).now (65536 * 1000) ∧ max (s Port.init).now 0 < ({ r with due := 1 } : RPkt).due ∧
  ctlType (ctlFlit 0 []) = some 0 ∧ ctlType [] = none ∧ ((s { Port.init with hunting := true }).port 0).hunting = true ∧
  0 + (s Port.init).get F.timeCfgPeriod * 1000 ≤ max (s Port.init).now (65536 * 1000) ∧
  max (s Port.init).now 0 < 0 + (s Port.init).get F.timeCfgPeriod * 1000 ∧ ctlType (ctlFlit 3 []) = some 3 ∧ g.isUp 0 = true ∧
  g.get F.timeCfgGm = 1 := by decide

/-- The hypotheses of LinksTrainAndGoDown can be met. -/
theorem witness_LinksTrainAndGoDown :
    let s (q : Port) (st : Nat) := (portAt 0 [] 5).upd fun m =>
    ((((m.setPort 0 q).put (F.portLstsState 0) st).put F.timeCfgGm 1).put (F.laneRxstsStage 0) lgRun).put (F.laneRxstsStage 1) lgRun
  let f (flags lanes : Nat) := ctlFlit 4 ([0, 0, 1, BitVec.ofNat 8 flags, 0, 0, 0, BitVec.ofNat 8 (lanes * 16 + 1)] ++ beBytes 2 0 ++ beBytes 2 100 ++ [8, 0])
  let w (v : Word) : Wr := ⟨1, .full, v⟩
  let off := (s Port.init lsDown).upd fun m => (m.put (F.portLctlEn 0) 0).put F.clkNrefOk0 1
  (s Port.init lsExchange).lstate 0 = lsExchange ∧ ctlType (f 4 3) = some 4 ∧ (parseTrain (f 4 3)).ack = true ∧
  ((s { Port.init with sentAck := true } lsExchange).agree 0 (parseTrain (f 4 3))).isSome = true ∧
  (s { Port.init with sentAck := true } lsExchange).agree 0 (parseTrain (f 4 3)) = some (1, 3, 0) ∧
  bits ((s Port.init lsExchange).lane 0).mode 11 10 = 0 ∧ (s Port.init lsExchange).laneOfLogical 0 0 = 0 ∧
  (s Port.init lsExchange).get F.timeCfgGm = 1 ∧ (s { Port.init with far := some (parseTrain (f 0 3)) } lsExchange).lstate 0 = lsExchange ∧
  (s Port.init lsUp).Arrives (w 3) (F.portLctlEn 0).reg ∧ isPort 0 = true ∧ (s Port.init lsUp).isUp 0 = true ∧
  ((s Port.init lsUp).upd fun m => m.put (F.portLctlEn 0) 1).get (F.portLctlEn 0) = 1 ∧ off.lstate 0 = lsDown ∧ off.get (F.portLctlEn 0) = 0 ∧
  off.lanesMay 0 = true ∧ (s { Port.init with retrainEnd := some 0 } lsRetrain).lstate 0 = lsRetrain ∧
  ((s { Port.init with graceEnd := some 0 } lsDown).port 0).graceEnd = some 0 := by decide

/-- The hypotheses of WidthsChangeTogether can be met. -/
theorem witness_WidthsChangeTogether :
    let o : WOwn := ⟨3, 0, 1, false, true, true, false, true, false, false⟩
  let s (q : Port) := (portAt 0 [] 5).upd fun m => ((m.setPort 0 q).put (F.portLstsLanes 0) 3).put (F.laneRxstsStage 0) lgRun
  let one := (s Port.init).upd fun m => m.put (F.portLstsLanes 0) 1
  let f (op b mask id : Byte) := ctlFlit 5 [op, b, mask, id]
  let w (v : Word) : Wr := ⟨1, .full, v⟩
  let a : WAdd := ⟨3, 1, 2, false, false, 0⟩
  (s Port.init).Arrives (w 0x8001000000000000) (F.portLwidGo 0).reg ∧ (s Port.init).isUp 0 = true ∧
  (s Port.init).get (F.portLwidGo 0) = 0 ∧ bits (0x8001000000000000 : Word) 51 48 = 1 ∧ 1 &&& (s Port.init).unfailed 0 = 1 ∧
  4 &&& (s Port.init).unfailed 0 ≠ 4 ∧ popCount 4 1 = 2 ^ 0 ∧ ctlType (f 1 0 1 3) = some 5 ∧ flitBE (f 1 0 1 3) 14 1 = 1 ∧
  maskOf (f 1 0 1 3) &&& (s Port.init).usable 0 = maskOf (f 1 0 1 3) ∧ maskOf (f 1 0 2 3) &&& (s Port.init).usable 0 ≠ maskOf (f 1 0 2 3) ∧
  one.get (F.portLstsWidth 0) ≤ widthOf (f 1 0 1 3) ∧ forcedOf (f 1 0x80 1 3) = true ∧ forcedOf (f 1 0 1 3) = false ∧
  ((s { Port.init with wown := some o }).port 0).wown = some o ∧ o.id = idOf (f 2 0 1 3) ∧ flitBE (f 5 0 1 3) 14 1 = 5 ∧
  ((s { Port.init with wfar := some ⟨3, 0, 1, true, false⟩ }).port 0).wfar = some ⟨3, 0, 1, true, false⟩ ∧
  maskOf (f 6 1 2 3) &&& one.get (F.portLstsLanes 0) = 0 ∧ one.lanesIn 0 2 = [1] ∧ one.laneStage 1 ≠ lgRun ∧
  ((s { Port.init with wadd := some a, wown := some o }).port 0).wadd = some a ∧
  { o with reqSent := false }.sentReady = true := by decide

/-- The hypotheses of SparesReplaceFailedDuos can be met. -/
theorem witness_SparesReplaceFailedDuos :
    let s (q : Port) := (portAt 30 [] 5).upd fun m => ((m.setPort 30 q).put (F.portLstsLanes 30) 15).put (F.portLstsWidth 30) 2
  let st (k : Nat) := (s { Port.init with spSent := true }).upd fun m => m.put (F.portSpareState 30) k
  let on := (s Port.init).upd fun m => (m.put (F.portLstsSpare 30) 1).put (F.portSpareState 30) 3
  let two := on.upd fun m => m.put (F.portLstsLanes 30) 12
  let f (op : Byte) := ctlFlit 6 [op, 0]
  let w (v : Word) : Wr := ⟨1, .full, v⟩
  (s Port.init).Arrives (w 0) (F.portSpareReq 30).reg ∧ isPort 30 = true ∧ isQuadDuo 30 = true ∧ (s Port.init).isUp 30 = true ∧
  (s Port.init).spareBusy 30 = false ∧ (∀ i < 2, (s Port.init).laneStage (2 * spareOf 30 + i) ≠ lgRun) ∧ on.spareBusy 30 = true ∧ on.get (F.portSpareState 30) ≠ 1 ∧ on.get (F.portLstsSpare 30) = 1 ∧
  two.get (F.portLstsLanes 30) &&& two.laneMask 30 (fun n => n / 2 ≠ spareOf 30) = two.get (F.portLstsLanes 30) ∧
  on.laneMask 30 (fun n => n / 2 ≠ spareOf 30) = 12 ∧ on.unfailed 30 = 15 ∧ (on.port 30).sched = none ∧
  2 ^ on.logical 30 (2 - 2 * 0) + 2 ^ on.logical 30 (3 - 2 * 0) = 12 ∧
  ctlType (f 1) = some 6 ∧ flitBE (f 1) 14 1 = 1 ∧ flitBE (f 5) 14 1 = 5 ∧ sparePosOf (f 1) = 0 ∧ (st 1).get (F.portSpareState 30) = 1 ∧
  (st 2).get (F.portSpareState 30) = 2 ∧ ((st 2).port 30).spSent = true := by decide

/-- The hypotheses of LanesComeUpFailAndRecover can be met. -/
theorem witness_LanesComeUpFailAndRecover :
    let st (k : Nat) := noon.upd fun m => m.put (F.laneRxstsStage 0) k
  let two := ((st lgRun).upd fun m => m.put (F.laneRxstsStage 1) lgRun).upd fun m => (m.put (F.portLctlEn 0) 1).put (F.laneRxstsLock 0) 1
  let up := two.upd fun m => (m.put (F.portLstsState 0) lsUp).put (F.portLstsLanes 0) 3
  let w (v : Word) : Wr := ⟨1, .full, v⟩
  let bad := (st lgOff).upd fun m => m.put (F.laneRxstsFailed 0) 1
  let badUp := bad.upd fun m => m.put (F.portLstsState 0) lsUp
  (st lgPower).laneStage 0 = lgPower ∧ (st lgSignal).laneStage 0 = lgSignal ∧ ((st lgSignal).lane 0).fast = false ∧
  (st lgAdapt).get (F.laneRxctlSerWarn 0) ≤ 60 ∧ (st lgIdent).mapped 0 = [0] ∧ (st lgIdent).posOf 0 = 0 ∧
  bits ((st lgIdent).lane 0).mode 6 5 = 0 ∧ two.lstate 0 = lsDown ∧ (∀ n ∈ two.lanesOf 0, two.laneStage n = lgRun) ∧
  two.get (F.portLctlEn 0) = 1 ∧ stageLimit ((st lgAcquire).laneStage 0) false = some 3000000 ∧
  ((st lgAcquire).lane 0).stageAt + 3000000 ≤ 65536000 ∧ two.laneInUse 0 = false ∧ up.laneInUse 0 = true ∧ up.portOfLane 0 = some 0 ∧
  up.get (F.portLstsLanes 0) &&& up.laneMask 0 (fun k => decide (k ≠ 0) && decide (up.laneStage k = lgRun)) = 2 ∧
  up.get (F.laneRxstsLock 0) = 1 ∧ up.flag (F.laneRxstsDegraded 0) ≠ true ∧
  noon.Arrives (w 0) (F.laneTxeqCommit 0).reg ∧ noon.flag (F.pgLock (pgLane 0)) = false ∧
  noon.writeFits (F.laneTxeqCommit 0).reg (w 0x8050000008000000) = true ∧ txeqOk (0x8050000004000000 : Word) = true ∧
  txeqOk (0x8050000000000000 : Word) = false ∧ noon.Arrives (w 0) (F.laneRxctlRepair 0).reg ∧
  noon.writeFits (F.laneRxctlRepair 0).reg (w 0x8000282100640A00) = true ∧ bad.portOfLane 0 = some 0 ∧ bad.isUp 0 = false ∧
  bad.get (F.laneRxctlAutoRepair 0) = 1 ∧ (st lgReady).get (F.lanePgenEn 0) = 0 ∧ ((st lgReady).lane 0).added = false ∧ badUp.lanesIn 0 (2 ^ badUp.logical 0 (badUp.posOf 0)) = [0] ∧
  noon.Arrives (w 0) (F.laneScanStart 0).reg ∧ noon.writeFits (F.laneScanStart 0).reg (w 0x8400001400000000) = true ∧
  up.Arrives (w 0) (F.laneModeRate 0).reg ∧ up.writeFits (F.laneModeRate 0).reg (w 0x400) = true ∧ bits (0x400 : Word) 11 10 = 1 ∧
  up.get (F.laneModeRate 0) = 0 ∧ (noon.upd fun m => m.put (F.lanePchkEn 0) 1).get (F.lanePchkEn 0) = 1 := by decide

/-- The hypotheses of StoreAdminCommands can be met. -/
theorem witness_StoreAdminCommands :
    let s (w : List Word) (l : List (Nat × Obj)) := storeAt w l
  let c := s wStoreCreate []
  let a := s wStoreAppend [(5, objPlain)]
  let z := s (wqeOf [(0, 0xA1), (0x10, 5)]) [(5, objPlain)]
  let y := s (wqeOf [(0, 0xA3), (0x10, 5), (0x18, 4)]) [(5, objPlain)]
  let k := s wStoreCommit [(5, objPlain)]
  let r := s wStoreRead [(5, objPlain)]
  let d := s wStoreDelete [(5, objPlain)]
  let l := s wStoreList [(5, objPlain)]
  ((adminAt wStoreList).adminNext 0xA5).isSome = true ∧ (adminAt wStoreList).noStore = false ∧ (adminAt wStoreList).storeRuns = false ∧
  c.adminNext 0xA0 = some (1, adminOp wStoreCreate) ∧ c.noStore = false ∧ c.storeRuns = true ∧ c.obj 5 = none ∧
  (wqeField wStoreCreate 0x10 8, wqeField wStoreCreate 0x18 8, wqeField wStoreCreate 0x20 1) = (5, 0, 1) ∧ ceilDiv 0 unitBytes = 0 ∧
  a.adminNext 0xA1 = some (1, adminOp wStoreAppend) ∧ a.obj 5 = some objPlain ∧ objPlain.state = .opened ∧ wqeField wStoreAppend 0x20 4 = 8 ∧
  (a.wq 0).map (·.link) = some 0 ∧ a.st.feeds = [] ∧ a.stageRoom 5 7 16 8 = true ∧ a.stageSpace 5 16 8 objPlain = true ∧
  (a.tlbHit (storeReq 0 0x1000 .localRead)).map (slotResult (storeReq 0 0x1000 .localRead)) = some (.done 0x1000 false) ∧
  a.readBytes ⟨0, zeros 0x1000 1⟩ 0 0x1000 8 = some (List.replicate 8 0) ∧
  (z.adminNext 0xA1).isSome = true ∧ (y.adminNext 0xA3).isSome = true ∧ (z.wq 0).isSome = true ∧ z.st.feeds = [] ∧
  k.adminNext 0xA2 = some (1, adminOp wStoreCommit) ∧ decide (wqeBits wStoreCommit 0x18 0 0 = 1) = true ∧
  r.adminNext 0xA3 = some (1, adminOp wStoreRead) ∧ (wqeField wStoreRead 0x18 8, wqeField wStoreRead 0x28 4) = (4, 12) ∧
  r.onNand 5 objPlain 0 = false ∧
  (r.tlbHit (storeReq 0 0x1000 .localWrite)).map (slotResult (storeReq 0 0x1000 .localWrite)) = some (.done 0x1000 false) ∧
  d.adminNext 0xA4 = some (1, adminOp wStoreDelete) ∧ d.st.commits = [] ∧ l.adminNext 0xA5 = some (1, adminOp wStoreList) ∧
  ((l.st.objs.filter (fun p => decide (wqeField wStoreList 0x10 8 ≤ p.1))).take (wqeField wStoreList 0x20 4)).length = 1 := by decide

/-- The hypotheses of StorePutsAndSyncs can be met. -/
theorem witness_StorePutsAndSyncs :
    let put : Opened := { arrived wStorePut (putBody 0 16) 4 with payload := [1, 2, 3, 4], opw := dataOpw 4 true true 0 0 }
  let bad : Opened := { arrived wStorePut (putBody 0 0xFE) 4 with payload := [1, 2, 3, 4], opw := dataOpw 4 true false 0 0 }
  let req : Opened := { arrived wSyncReq (beBytes 8 (3 * 2 ^ 40 + 5 * 2 ^ 32) ++ beBytes 8 0) 0 with opw := dataOpw 0 true true 0 0 }
  let g : Region := { regionPlain with storeTarget := true, objectId := 5, length := 0x10000 }
  let s (l : List Opened) (o : Obj) := (regionAt (l.map dataSealed)).upd fun m =>
    { m with x := { m.x with regions := [(regionKey 1 3, g)] }, st := { Store.init with state := .run, objs := [(5, o)] } }
  let a : Ask := { want := .sync, rkey := pRkey req, roffset := 0, extent := 0, sig := none, aop := 0, type := 0 }
  let q := s [put, bad, req] objPlain
  (opensTo q put ∧ opensTo q bad ∧ opensTo q req) ∧ pPlen put = 4 ∧ keyIndex (pRkey put) = 3 ∧ q.noStore = false ∧
  firstFail (q.entryChecks (putAsk put .storePut) g) = none ∧ q.putChecks 5 16 4 = none ∧ q.stageSpace 5 16 4 objPlain = true ∧
  q.stageRoom 5 7 16 4 = true ∧ q.putChecks 5 16 0 = none ∧ q.stagedUnits ≤ stagingUnits ∧ pLast bad = false ∧
  firstFail (q.entryChecks (putAsk bad .storePut) g) = none ∧ q.putChecks 5 0xFE 4 = some (stStoreBounds, 0) ∧
  (connOpen.rxMsg 4).total = none ∧ (connOpen.rxMsg 4).closed = false ∧
  connOpen.canAnswer = true ∧ firstFail (q.entryChecks a g) = none ∧ q.storeRuns = true ∧ keyIndex (pRkey req) = 3 ∧
  wireAssigned wSyncRsp = true := by exact ⟨⟨opens _ _ rfl (by decide), opens _ _ rfl (by decide), opens _ _ rfl (by decide)⟩, by decide⟩

/-- The hypotheses of ProgramsEndAndRecordsStand can be met. -/
theorem witness_ProgramsEndAndRecordsStand :
    let whole : Staged := { id := 5, inc := 7, u := 0, ranges := [(0, 65536)], lastWrite := 0, due := false }
  let part : Staged := { whole with ranges := [(0, 9)] }
  let o : Obj := { objPlain with tlc := false }
  let b : Nat := 6 * 2 ^ 24 + 3
  let s (x : Obj) (f : Store → Store) : State := (storeAt wStoreCreate [(5, x)]).upd fun m => { m with st := f m.st }
  let r := s o fun t => { t with staged := [whole] }
  let y := s { o with stale := [0], parDue := [0] } id
  let a (w : List Word) (g : Prog) : State := (s o fun t => { t with progs := [g] }).upd fun m => m.adminBegin 1 (adminOp w)
  let c : Commit := ⟨3, 5, 7, .admin, false, 16, [], [], [], true, false⟩
  let k := s o fun t => { t with progs := [.record (.committed 3)], commits := [c] }
  let w := s o fun t => { t with blocks := [(b, { Block.fresh with used := true, wear := 4 })] }
  r.unitReady 5 o 0 = true ∧ r.mayProgram (unitChannel 5 0) false b = true ∧ r.storeRuns = true ∧
  y.parityReady 5 { o with stale := [0], parDue := [0] } 0 = true ∧ y.mayProgram (parityChannel 5 0) false (5 * 2 ^ 24) = true ∧
  part.lastWrite + r.get F.storeCfgUnitIdle * 1000000 ≤ max r.now (65536 * 1000000) ∧
  (a wStoreCreate (.record (.created 5 7))).objOf 5 7 = some o ∧ ((a wStoreCreate (.record (.created 5 7))).adminIs 0xA0).isSome = true ∧
  wqeField wStoreCreate 0x10 8 = 5 ∧ ((a wStoreDelete (.record (.deleted 5 7))).adminIs 0xA4).isSome = true ∧
  k.objOf c.id c.inc = some o ∧ k.st.feeds = [] ∧ k.st.reading = none ∧ k.st.stopping = false ∧ KMap.get o.placed 0 = none ∧
  KMap.get o.parity 0 = none ∧ o.anyOn (fun x => x = b) = false ∧ k.flag F.storeGdlogValid = false ∧ b < 2 ^ 31 ∧
  (w.block b).used = true ∧ w.blockLive b = false ∧ w.st.current = [] ∧ w.dieUp (blkDie b) = true := by decide

/-- The hypotheses of MediaDegradeAndStoresReplay can be met. -/
theorem witness_MediaDegradeAndStoresReplay :
    let b : Nat := 6 * 2 ^ 24 + 3
  let o : Obj := { objPlain with placed := [(0, b)], committed := some (4, []) }
  let s (f : Store → Store) : State := (storeAt wStoreRead [(5, o)]).upd fun m => { (m.adminBegin 1 (adminOp wStoreRead)) with st := f m.st }
  let r : Reading := { id := 5, inc := 7, off := 4, done := 0, len := 12, dst := 0x1000 }
  let n := s id
  let g := s fun t => { t with reading := some r }
  let k := s fun t => { t with blocks := [(b, { Block.fresh with used := true, late := true, refresh := true })] }
  let d := s fun t => { t with absent := [(6, none)], rebuilding := [6], objs := [] }
  let y := s fun t => { t with absent := [(6, some 0)], objs := [], timed := true }
  let p := s fun t => { t with state := .scanning, formatted := true }
  let w : Wr := ⟨1, .full, 0x8000000000000000⟩
  let h := s fun t => { t with state := .stopped }
  n.obj 5 = some o ∧ o.blockOf 0 = some b ∧ n.dieUp (blkDie b) = true ∧ n.st.reading = none ∧
  g.onNand 5 o 0 = true ∧ (r.off + r.done) % 4096 + (r.len - r.done) ≤ 4096 ∧ (r.off + r.done) % unitBytes / 4096 = 0 ∧
  (g.adminIs 0xA3).isSome = true ∧
  (g.tlbHit (storeReq 0 0x1000 .localWrite)).map (slotResult (storeReq 0 0x1000 .localWrite)) = some (.done 0x1000 false) ∧
  k.storeRuns = true ∧ (k.block b).used = true ∧ k.backgroundHeld = false ∧ k.mayMove b (22 * 2 ^ 24) = true ∧
  d.mayRebuild 6 (22 * 2 ^ 24) = true ∧ d.dieUp 6 = false ∧ 6 ∈ d.st.rebuilding ∧ d.backgroundHeld = false ∧
  d.st.absent.find? (fun p => p.1 = 6) = some (6, none) ∧
  y.st.timed = true ∧ (y.upd fun m => m.at ⟨0, []⟩).fabricNow - 0 ≤ y.get F.storeScrubInterval * 3600000000000 ∧
  p.noStore = false ∧ (p.st.objs.map (·.1)).Nodup ∧ k.flag F.timeStsSynced = false ∧ h.Arrives w F.storeFmtGo.reg ∧
  h.flag F.storeFmtGo = false ∧ h.mode ≠ mSmallHours ∧ bit w.value 63 = true := by decide

/-- The hypotheses of ModesAreRequested can be met. -/
theorem witness_ModesAreRequested :
    let w (c : Word) : Wr := ⟨1, .full, c⟩
  let s (k : Nat) : State := State.reset.upd fun m => m.put F.modeStsMode k
  let f := (s mSmallHours).upd fun m => m.put F.pwrStsState feRun
  let m := s mMidnight
  (s mNoon).Arrives (w 1) F.modeReqCode.reg ∧ (s mNoon).flag F.modeStsBusy = false ∧ bits (w 4).value 3 0 = 4 ∧
  (s mTwilight).Arrives (w 1) F.modeReqCode.reg ∧ (s mTwilight).get F.modeCauseCause = 0 ∧ (s mNoon).mode = mNoon ∧
  f.Arrives (w 3) F.modeReqCode.reg ∧ f.fetOn = true ∧ f.mode = mSmallHours ∧ f.y.resetLow = false ∧
  m.Arrives (w 5) F.modeReqCode.reg ∧ m.mode = mMidnight ∧ m.feState ≠ feLatched ∧ m.get F.modeStsThermLatch = 0 ∧
  (s mDusk).mode ∉ [mTwilight, mSmallHours, mMidnight] ∧ ((s mNoon).upd fun m => m.put F.modeStsBusy 1).flag F.modeStsBusy = true := by decide

/-- The hypotheses of ModesEndAndDaylightDecides can be met. -/
theorem witness_ModesEndAndDaylightDecides :
    let s (k : Nat) : State := State.reset.upd fun m => m.put F.modeStsMode k
  let d (k : Nat) := (s mDusk).upd fun m => (m.put F.modeStsTarget k).put F.pwrStsState feRun
  let r := (s mDusk).upd fun m => { m with st := { Store.init with state := .run } }
  let t := (d mSmallHours).upd fun m => m.setCrRt 0 { CrRt.init with held := [⟨.op 1, 0, 0, 0, 0, 0, 0, 0, 0, 0, 0, true⟩] }
  let n := s mNightfall
  (s mDawn).mode = mDawn ∧ (s mDawn).y.resetWait = false ∧ (s mDawn).y.bootFailed = false ∧
  (d mSmallHours).storeStopped = true ∧ (d mSmallHours).drained = true ∧ (d mSmallHours).get F.modeStsTarget = mSmallHours ∧
  (d mMidnight).fetOn = true ∧ (d mMidnight).drained = true ∧ r.storeStopped = false ∧ t.drained = false ∧ t.storeStopped = true ∧ t.y.duskLate = false ∧
  t.y.duskAt + t.get F.modeCfgDuskTo * 1000000 ≤ max t.now (65536 * 1000000) ∧ t.get F.modeStsTarget = mSmallHours ∧
  noon.mainOff = false ∧ noon.pg = false ∧ noon.noStore = false ∧
  (noon.upd fun m => { m with fuses := { m.fuses with variant := 0 } }).noStore = true ∧
  n.mode = mNightfall ∧ n.y.fe.offBy < 6 ∧ n.pg = false ∧ (n.upd fun m => m.put F.pwrStsPg 1).pg = true ∧
  (n.upd fun m => m.takeStraps 0x203).straps.due = false ∧
  n.get F.modeStsThermLatch = 0 ∧ n.feState ≠ feLatched ∧ noon.flag F.govCtlEn = true ∧
  (noon.upd fun m => m.put F.govCtlFreeze 1).flag F.govCtlFreeze = true ∧ noon.quietest = none := by decide

/-- The hypotheses of CausesLeadToTwilight can be met. -/
theorem witness_CausesLeadToTwilight :
    let w : Wr := ⟨1, .full, 0x3F⟩
  let ent (op off : Nat) : List Byte := leBytes 2 op ++ leBytes 2 (off / 0x1000) ++ leBytes 4 (off % 0x1000) ++ leBytes 8 2
  let req (op off : Nat) : Opened :=
    { pktPlain with
        nd := 0
        opcode := wMgmtReq
        flits := flitsOf 0 16
        payload := ent op off
        opw := dataOpw 16 true true 9 0 }
  let c : Conn := { connOpen with nd := 0, slot := 0 }
  let s (p : Opened) (mgr : Nat) : State := (connAt c).upd fun m =>
    { ((m.put (F.xptFmgrEn 1) mgr).put (F.xptFmgrFa 1) 2) with x := { m.x with keys := [(0, ⟨0, 99⟩)], conns := [(0, c)], inbox := [dataSealed p] } }
  let rd := req 1 F.modeStsMode.reg
  opensTo (s rd 1) rd ∧ tileKind 0 = (1, 0) ∧ (tileKind (tileOf 3 0)).1 = 3 ∧ (tileKind (tileOf 8 0)).1 = 8 ∧ noon.mainOff = false ∧ noon.mode = mNoon ∧
  noon.y.hostDownAt = some 0 ∧ noon.get F.modeCfgHostTo ≠ 0 ∧ 0 + noon.get F.modeCfgHostTo * 1000000 ≤ max noon.now (65536 * 1000000) ∧
  10 * noon.variantMax < 2501 ∧ noon.Arrives w F.modeCauseCause.reg ∧ noon.thermLevel 0 = 0 ∧ noon.get (F.thermLimWarn 0) = 95 ∧
  noon.get (F.thermLimThrottle 0) = 100 ∧ noon.get (F.thermLimTwi 0) = 105 ∧ noon.get (F.thermLimCrit 0) = 115 ∧ noon.noStore = false ∧
  (noon.upd fun m => m.put F.thermStsLevel 1).thermLevel 0 = 1 ∧
  (s rd 1).isManager 2 = true ∧ (s rd 0).isManager 2 = false ∧ ((s rd 1).keyOf 0).isSome = true ∧
  (s rd 1).cidOf rd.src rd.nd = some 0 ∧ c.canAnswer = true ∧ rd.payload.length = 16 ∧
  fieldLE rd.payload 0 1 = 1 ∧ fieldLE rd.payload 2 2 % 2 ^ 12 * 0x1000 + fieldLE rd.payload 4 2 % 2 ^ 12 = F.modeStsMode.reg ∧
  fieldLE (req 2 F.govCtlEn.reg).payload 2 2 % 2 ^ 12 * 0x1000 + fieldLE (req 2 F.govCtlEn.reg).payload 4 2 % 2 ^ 12 = F.govCtlEn.reg := by exact ⟨opens _ _ rfl (by decide), by decide⟩

/-- The hypotheses of TheFrontEndRampsAndTrips can be met. -/
theorem witness_TheFrontEndRampsAndTrips :
    let x : Meas := ⟨5400, 5400, 1000, 500, 40, 40, false, true⟩
  let z : Meas := { x with vout := 100, fold := true, enhanced := false }
  let on (k : Nat) : State := State.reset.upd fun m =>
    { ((((m.put F.pwrStsState k).put F.pwrStsPwrEn 1).put F.pwrStsInOk 1)) with y := { m.y with fe := { m.y.fe with
        waitAt := some 0
        rampAt := some 0
        inrush := true
        runAt := some 0
        rampCfg := m.word F.pwrCfgFoldW.reg
        runCfg := m.word F.pwrCfgFoldW.reg } } }
  let r := (on feRun).upd fun m => m.onFe fun f => { f with inrush := false }
  let l := r.upd fun m => m.put F.pwrStsIlim 1
  let d (m : State) (x : Meas) (t : Nat) := m.sampled x ⟨t, []⟩
  (d (on feWait) { z with fold := false } 10000000).feState = feWait ∧ (d (on feWait) { z with fold := false } 10000000).feMay = true ∧
  (d (on feWait) { z with fold := false } 10000000).y.fe.waitAt = some 0 ∧
  (d (on feRamp) z 5000000).feState = feRamp ∧ (d (on feRamp) z 5000000).y.fe.rampAt = some 0 ∧
  (d (on feRamp) { z with vout := 3000 } 5000000).feState = feRamp ∧ (d (on feRamp) z 80000000).y.fe.inrush = true ∧
  0 + bits (d (on feRamp) z 80000000).y.fe.rampCfg 63 48 * 1000000 ≤ 80000000 ∧
  (d r { x with iin := 9000 } 5).feState = feRun ∧ (d r { x with iin := 9000 } 5).flag F.pwrStsIlim = false ∧
  (d l { x with iin := 9000 } 2000000).flag F.pwrStsIlim = true ∧ (d l { x with iin := 9000 } 2000000).y.fe.runAt = some 0 ∧
  0 + bits (d l x 2000000).y.fe.runCfg 47 32 * 1000 ≤ 2000000 ∧ (d r x 5).pg = false ∧ 92 * x.vin ≤ 100 * x.vout ∧
  (d r x 5).y.fe.inrush = false ∧ r.mode = mMidnight ∧ r.straps.due = true ∧ (r.upd fun m => m.takeStraps 0x203).straps.due = false ∧ r.get F.modeStsThermLatch = 0 ∧ (d r x 5).fetOn = true ∧
  (d (r.upd fun m => m.put F.pwrStsPg 1) { x with vout := 4319 } 5).pg = true ∧ 100 * 4319 < 80 * x.vin := by decide

/-- The hypotheses of TheFetTurnsOffAndRestarts can be met. -/
theorem witness_TheFetTurnsOffAndRestarts :
    let x : Meas := ⟨5400, 5400, 1000, 500, 40, 40, false, true⟩
  let on (k : Nat) : State := State.reset.upd fun m =>
    { (m.put F.pwrStsState k) with y := { m.y with dawnWait := true, fe := { m.y.fe with
        enLowAt := some 0
        coolAt := some 0
        pgAt := some 0 } } }
  let g := (on feRun).upd fun m => m.put F.pwrStsPg 1
  let w (v : Word) : Wr := ⟨1, .full, v⟩
  ((on feLatched).sampled x ⟨10000000, []⟩).feState = feLatched ∧ ((on feLatched).sampled x ⟨10000000, []⟩).y.fe.enLowAt = some 0 ∧
  ((on feOff).sampled x ⟨5, []⟩).feState = feOff ∧ ((on feOff).sampled x ⟨5, []⟩).get F.pwrStsInOk = 0 ∧
  ((on feCool).sampled x ⟨1000000000, []⟩).y.fe.coolAt = some 0 ∧ ((on feCool).sampled x ⟨1000000000, []⟩).feState = feCool ∧
  (g.sampled x ⟨10000000000, []⟩).pg = true ∧ (g.sampled x ⟨10000000000, []⟩).y.fe.pgAt = some 0 ∧
  (g.sampled x ⟨10000000000, []⟩).feState = feRun ∧ (g.sampled x ⟨5, []⟩).y.fe.auxGone = false ∧
  (on feLatched).Arrives (w 4) F.pwrCtlSwOff.reg ∧ (on feLatched).feState = feLatched ∧ bit (4 : Word) 2 = true ∧ g.fetOn = true ∧
  bit (2 : Word) 1 = true ∧ ((on feOff).sampled x ⟨5, []⟩).y.dawnWait = true := by decide

/-- The hypotheses of ResetsClearTheirScope can be met. -/
theorem witness_ResetsClearTheirScope :
    let w (v : Word) : Wr := ⟨8, .full, v⟩
  let c : Wr := ⟨1, .full, 4⟩
  let up := (State.reset.upd fun m => { m with straps := { m.straps with sampled := some 0 } }).upd fun m => m.put F.modeStsMode 2
  let cr := (noon.upd fun m => { m with mt := { m.mt with ctxs := [(0, mctxPlain)] } }).upd fun m => m.setCr 0 crPlain
  let g := State.reset.upd fun m => (m.onFe fun f => { f with auxGone := true }).put F.pwrStsPg 1
  let x : Meas := ⟨0, 0, 0, 0, 0, 0, false, false⟩
  (State.reset.sampled x ⟨5, []⟩).pg = false ∧ g.y.fe.auxGone = true ∧ g.pg = true ∧ noon.Arrives (w 0x4000000000000000) F.rstCtlModule.reg ∧
  noon.writeFits F.rstCtlModule.reg (w 0x4000000000000000) = true ∧ noon.y.resetWait = false ∧ noon.mainOff = false ∧ noon.mode ≠ mDawn ∧
  noon.y.resetLow = false ∧ bit (writeOnes (w 0x4000000000000000)) 62 = true ∧ bit (writeOnes (w 0x8000000000000000)) 63 = true ∧
  noon.writeFits F.rstCtlModule.reg (w 0x1000000000000005) = true ∧ up.hostThere 0 = true ∧ up.running = false ∧
  noon.hostThere 0 = false ∧ (up.upd fun m => m.put F.xptConntabLink 3).get F.xptConntabLink ≠ 0 ∧
  noon.Arrives c (pgXpt 3 * 0x1000 + 0x18) ∧ noon.Arrives c (pgDtu * 0x1000 + 0x18) ∧ noon.Arrives c (pgMatch 0 * 0x1000 + 0x18) ∧
  (cr.cr 0).isSome = true ∧ mtTile 0 = 0 ∧ noon.Arrives c (pgColl 1 * 0x1000 + 0x18) ∧ noon.Arrives c (pgQctl * 0x1000 + 0x18) ∧
  noon.Arrives c (pgStore * 0x1000 + 0x18) ∧ noon.noonish = true ∧ noon.Arrives c (pgTile 63 * 0x1000 + 0x18) ∧
  (tileKind (tileOf 9 0)).1 = 9 ∧ (portAt 0 [] 0).isUp 0 = true ∧ (portAt 0 [] 0).Arrives c (pgPort 0 * 0x1000 + 0x18) ∧ isPort 0 = true ∧
  noon.Arrives c (pgLane 95 * 0x1000 + 0x18) ∧ bits (0x1000000000000005 : Word) 6 0 = 5 ∧ noon.laneInUse 5 = false ∧
  (noon.upd fun m => m.setStage 5 lgRun).laneStage 5 ≠ lgOff ∧ (noon.upd fun m => m.setStage 5 lgRun).laneInUse 5 = false := by decide

/-- The hypotheses of FirmwareIsUpdated can be met. -/
theorem witness_FirmwareIsUpdated :
    let w (v : Word) : Wr := ⟨1, .full, v⟩
  let asks (s : State) (v : Word) (k : Nat) : Prop := s.Arrives (w v) F.trustFwctlSlot.reg ∧ bit (writeOnes (w v)) (63 - k) = true ∧
    ∀ j < k, bit (writeOnes (w v)) (63 - j) = false
  let s (k : Nat) : State := (State.reset.upd fun m => m.put F.modeStsMode k).upd fun m => m.onNor fun _ => norEmpty
  msgCode [0x10, 0, 0, 0, 1] = 0x10 ∧ asks (s mSmallHours) 0x8000000000000001 0 ∧ asks (s mSmallHours) 0x4000000000000001 1 ∧
  msgCode [0x12, 0, 0, 0] = 0x10 + 2 ∧ asks (s mSmallHours) 0x1000000000000001 3 ∧ asks (s mNoon) 0x0800000000000000 4 ∧
  asks (s mNoon) 0x0400000000000000 5 ∧ (s mSmallHours).mode = mSmallHours ∧ (s mNoon).y.nor.dir = some ⟨5, 0, 0xFF, 0, 0⟩ ∧
  (s mNoon).get F.trustStsSlot = 0 ∧ headerOk ((s mSmallHours).y.nor.header 1) = false := by decide

/-- The hypotheses of SidebandAnswersAndAttests can be met. -/
theorem witness_SidebandAnswersAndAttests :
    let u (s : State) : State := s.upd fun m => { m with y := { m.y with nor := norEmpty, logDigest := List.replicate 32 0, idLimit := 1024, idNext := 5, log := [⟨1, 0xFF, 0, 0, List.replicate 32 7⟩] } }
  let x := noon.upd fun m => { m with y := { m.y with nor := norEmpty, idLimit := 2 ^ 25, idNext := 2 ^ 25, challenge := some [1, 2] } }
  let m (k : Nat) : List Byte := [BitVec.ofNat 8 k, 9, 0, 0]
  let d := State.reset.upd fun m => { m.put F.modeStsMode mDawn with y := { m.y with recovery := true } }
  let b (op off : Nat) : List Byte := [BitVec.ofNat 8 op, 0, 2, 0, BitVec.ofNat 8 off, 0, 0, 0, 1, 0, 0, 0, 0, 0, 0, 0]
  let a := (u (adminAt wAttest)).upd fun m => { m with dtu := { m.dtu with micro := [(0, [⟨0, 0, 16, 0, 0x1F⟩])] } }
  let r (k : Nat) := adminAt (wReqMode k)
  msgCode (m 0x21) = 0x21 ∧ d.mode = mDawn ∧ d.y.recovery = true ∧ noon.mode ≠ mDawn ∧ msgCode (m 1) = 1 ∧ noon.fuses.lifecycle ≠ 2 ∧
  (u noon).y.nor.limit ≤ (u noon).y.idLimit ∧ (u noon).y.logDigest.length = 32 ∧ (∀ l ∈ (u noon).y.log, l.digest.length = 32) ∧
  (u noon).y.idNext < (u noon).y.idLimit ∧ x.y.idLimit ≤ x.y.idNext ∧ 2 ^ 25 < x.y.idNext + 1024 ∧ x.y.challenge = some [1, 2] ∧
  noon.y.challenge = none ∧ ((m 4 ++ b 1 0).drop 4).length = 16 ∧ entryFits 1 0x1004 = false ∧ isMsixPage 2 = false ∧ noon.reaches 0x2000 = true ∧
  fieldLE (b 2 0x40) 0 1 = 2 ∧ a.adminNext 0xC0 = some (1, adminOp wAttest) ∧ a.wq 0 = some { wqPlain with nd := 0 } ∧
  a.reportLength false ≤ wqeField wAttest 0x18 4 ∧ wqeField wAttest 0x1C 4 ≤ 1 ∧ a.dtuOn = true ∧
  (∀ i < 4, leafFault (bodyReq 0 (0x2000 + i)) 0x1F = none) ∧
  findSlot (KMap.getD a.dtu.micro 0 []) 0 ((0x2000 + 5000) / 4096) = some ⟨0, 0, 16, 0, 0x1F⟩ ∧
  (r 4).adminNext 0xC1 = some (1, adminOp (wReqMode 4)) ∧ wqeField (wReqMode 4) 0x10 1 = 4 ∧ (r 4).mode = mNoon ∧
  (r 2).adminNext 0xC1 = some (1, adminOp (wReqMode 2)) ∧ (r 6).flag F.modeStsBusy = false ∧ wqeField (wReqMode 6) 0x10 1 = 6 := by decide

/-- The hypotheses of CountersAreSampledAndPinsAct can be met. -/
theorem witness_CountersAreSampledAndPinsAct :
    let w (v : Word) : Wr := ⟨1, .full, v⟩
  let c (x : CrCtx) : State := noon.upd fun m => m.setCr 3 x
  let good := crPlain
  let r := noon.upd fun m => (m.put F.clkNrefOk0 1).put F.clkNrefOk1 1
  let h := State.reset.upd fun m => { m with straps := { m.straps with sampled := some 0 } }.put F.modeStsMode 2
  let l := noon.upd fun m => m.setStage 7 lgRun
  noon.Arrives (w 3) F.sampleCtrFreeze.reg ∧ noon.n.lanes = [] ∧ isCounter (0x500800 : Nat) = false ∧ noon.Arrives (w 0xC003000000030000) F.sampleCfgEn.reg ∧
  (c good).cr 3 = some good ∧ good.binds = 0 ∧ good.pi % 2 = 0 ∧ good.state = .active ∧ (c good).smp.on = false ∧
  (c { good with pi := 3 }).cr 3 = some { good with pi := 3 } ∧ bits (0xC01F000000030000 : Word) 52 48 = 31 ∧
  r.nrefOk 0 = true ∧ noon.nrefOk 0 = false ∧ r.get F.clkNrefAct = 0 ∧ r.mainOff = false ∧ r.flag F.clkNrefAuto = true ∧
  r.Arrives (w 3) F.clkNrefSel.reg ∧ h.hostThere 0 = true ∧ noon.hostThere 0 = false ∧ h.linkUp 0 = false ∧ arrangedWidth h.hostMode 0 = 16 ∧
  lgAdapt ≤ l.laneStage 7 ∧ l.flag (F.laneRxctlFreeze 7) = false ∧ l.laneStage 8 < lgAdapt ∧ noon.fuses.lifecycle = 0 := by decide

/-! ## Well-formedness: an ill-formed term for each check -/

def wBad : Wr := ⟨5, .full, 0⟩
def wGood : Wr := ⟨1, .full, 0⟩
def plainPacket : Packet := barePacket pktPlain

theorem wf_ok : (Instr.groupWrite wGood).wellFormed = true := by decide
theorem wf_master : (Instr.groupWrite wBad).wellFormed = false := by decide
theorem wf_master_no_write : (Instr.stoppedDomainRead 0 0).wellFormed = false := by decide
theorem wf_host_read_aligned : (Instr.shadowPoll 0 ⟨0, [⟨0, 4, none⟩]⟩).wellFormed = false := by decide
theorem wf_host_read_64_bit : (Instr.shadowPoll 0 ⟨0, [⟨0, 2 ^ 64, none⟩]⟩).wellFormed = false := by decide
theorem wf_flit : (Instr.link 0 [] ⟨0, []⟩).wellFormed = false := by decide
theorem wf_message_short : (Instr.getCert [2, 0, 0] ⟨0, []⟩).wellFormed = false := by decide
theorem wf_message_long : msgOk (List.replicate 8193 0) = false := by
  simp only [msgOk, List.length_replicate]
  decide
theorem wf_request_write : (Instr.fwOpen (.reg wBad) ⟨0, []⟩).wellFormed = false := by decide
theorem wf_request_message : (Instr.fwOpen (.mctp []) ⟨0, []⟩).wellFormed = false := by decide
theorem wf_reset_write : (Instr.moduleReset (.reg wBad) ⟨0, []⟩).wellFormed = false := by decide
theorem wf_mmp_reset_write : (Instr.mmpReset (some wBad) ⟨0, []⟩).wellFormed = false := by decide
theorem wf_packet_ok : packetOk plainPacket = true := by decide
theorem wf_packet_addresses : packetOk { plainPacket with dst := 2 ^ 18 } = false ∧ packetOk { plainPacket with src := 2 ^ 18 } = false := by decide
theorem wf_packet_routing : packetOk { plainPacket with tc := 8 } = false ∧ packetOk { plainPacket with rmode := 4 } = false ∧
    packetOk { plainPacket with vgroup := 2 ^ 10 } = false ∧ packetOk { plainPacket with hops := 32 } = false := by decide
theorem wf_packet_sequence : packetOk { plainPacket with nd := 2 ^ 16 } = false ∧ packetOk { plainPacket with psn := 2 ^ 24 } = false ∧
    packetOk { plainPacket with opcode := 256 } = false ∧ packetOk { plainPacket with epoch := 2 ^ 32 } = false ∧
    packetOk { plainPacket with msn := 2 ^ 10 } = false ∧ packetOk { plainPacket with attempt := 256 } = false := by decide
theorem wf_packet_flits : packetOk { plainPacket with flits := 64 } = false := by decide
theorem wf_packet_payload : packetOk { plainPacket with body := List.replicate 4329 0 } = false := by
  simp only [packetOk, List.length_replicate]
  decide

/-! ## Values that the spec and published standards give -/

/-- The bytes "123456789" of R89. -/
def nine : List Byte := [0x31, 0x32, 0x33, 0x34, 0x35, 0x36, 0x37, 0x38, 0x39]

/-- R89: the check value of CRC-32, IEEE 802.3. -/
theorem crc32_check : (crcKind 0).feed 0xFFFFFFFF nine ^^^ 0xFFFFFFFF = 0xCBF43926 := by decide
/-- R89: the check value of CRC-32C. -/
theorem crc32c_check : crc32c nine = 0xE3069283 := by decide
/-- R89: the check value of CRC-64, ECMA-182 polynomial. -/
theorem crc64_check : (crcKind 2).feed 0 nine = 0x6C40DF5F0B497347 := by decide
/-- R89: the check value of CRC-16, T10-DIF polynomial. -/
theorem crc16_check : (crcKind 3).feed 0 nine = 0xD0DB := by decide

/-- FIPS 180-4: SHA-256 of "abc". -/
theorem sha256_abc : leNat ((sha256 [0x61, 0x62, 0x63]).reverse) =
    0xba7816bf8f01cfea414140de5dae2223b00361a396177a9cb410ff61f20015ad := by decide

/-- RFC 5869, test case 1: the first 32 bytes of its output. -/
theorem hkdf_vector : leNat (hkdf256 (List.replicate 22 0x0B) ((List.range 13).map (BitVec.ofNat 8))
      ((List.range 10).map fun i => BitVec.ofNat 8 (0xF0 + i))).reverse =
    0x3cb25f25faacd57a90434f64d0362f2a2d2d0a90cf1a5a4c5db02d56ecc4c5bf := by decide +kernel

/-- The GCM specification, test cases 13 and 14: AES-256 under a key and an IV of zeros, of no text and of 16 zero bytes. -/
theorem gcm_empty : beNat (gcmTag (aesKeys (List.replicate 32 0)) (List.replicate 12 0) [] []) = 0x530f8afbc74536b9a963b4f1c4cb738b := by
  decide +kernel
theorem gcm_block : beNat (gcmCrypt (aesKeys (List.replicate 32 0)) (List.replicate 12 0) (List.replicate 16 0)) =
    0xcea7403d4d606b6e074ec5d3baf39d18 := by decide +kernel
theorem gcm_block_tag : beNat (gcmTag (aesKeys (List.replicate 32 0)) (List.replicate 12 0) [] (beBytes 16 0xcea7403d4d606b6e074ec5d3baf39d18)) =
    0xd0d1c8a799996bf0265b98b5d48ab919 := by decide +kernel

/-- R197: the first 8 bytes of a header hold dst_fa, src_fa, tc, rmode, vgroup, hops, and the four flags. -/
theorem header_start : (packetBytes { plainPacket with dst := 2 ^ 17, src := 1, tc := 5, rmode := 2, hops := 17, mcast := true }).take 8 =
    [0x80, 0, 0x00, 0x00, 0x1B, 0x00, 0x11, 0x40] := by decide

/-- Chapter 08, the parity stripe: products in GF(256) under 0x11D, and their sum. -/
theorem gf_products : [gfMul 1 0x11, gfMul 2 0x22, gfMul 4 0x33, gfMul 8 0x44, gfMul 16 0x55, gfMul 32 0x66] =
    [0x11, 0x44, 0xCC, 0x1A, 0x39, 0x5C] := by decide

/-- Chapter 08, EXACT_SUM on eight modules: the leaf encodings of 1, 2^−60 and −2^53. -/
theorem exact_leaves : (Exact.of fp64 0x3FF0000000000000).encode = (0x51, leBytes 8 0x0000000100000000) ∧
    (Exact.of fp64 0x3C30000000000000).encode = (0x50, leBytes 8 0x0000001000000000) ∧
    (Exact.of fp64 0xC340000000000000).encode = (0x52, leBytes 8 0xFFFFFFFFFFE00000) := by decide

/-- The eight contributions of the example, in its order. -/
def eightValues : List Nat := [0x4340000000000000, 0x3FF0000000000000, 0x3FF0000000000000, 0xC340000000000000, 0x3FF0000000000000,
  0x3C30000000000000, 0xBFF0000000000000, 0x3FE0000000000000]

/-- The exact sum of the example rounds to 2.5. -/
theorem exact_sum_of_eight : ((eightValues.map (Exact.of fp64)).foldl Exact.add (Exact.of fp64 0)).round fp64 = 0x4004000000000000 := by decide
/-- Sums that round at every step lose the 2 (the same example). -/
theorem rounded_sum : ([0x3FF0000000000000, 0x3FF0000000000000, 0xC340000000000000, 0x3FE0000000000000].foldl fp64.add 0x4340000000000000) =
    0x3FE0000000000000 := by decide

/-- Chapter 04, the four-level walk: the slot that its leaf fills, and the address a hit in it gives. -/
theorem walk_leaf : leafSlot 0x42 0x7F3A1C2B5E80 0x0000000310E45057 = (⟨0x42, 0x7F3A1C2B0, 16, 0x310E40, 0x17⟩, false) := by decide
theorem walk_hit : slotResult { asid := 0x42, va := 0x7F3A1C2B9010, acc := .localRead, user := true, allowSe := true, engine := 0, source := 0, object := 0 }
    ⟨0x42, 0x7F3A1C2B0, 16, 0x310E40, 0x17⟩ = .done 0x310E49010 false := by decide

/-! ## Single commands -/

def env : Env := ⟨5, []⟩

/-- R89, the example of chapter 02: unit 2 computes CRC-32C of nine bytes. -/
def chkNine : State :=
  let w (v : Word) : Wr := ⟨1, .full, v⟩
  after (execChkFeed 2 .feed8 (w 0x39) (after (execChkFeed 2 .feed32 (w 0x38373635) (after (execChkFeed 2 .feed32 (w 0x34333231)
    (after (execChkStart 2 (w 5) State.reset)))))))
theorem chk_example : chkNine.shown 0x0D190 = 0xE3069283 ∧ chkNine.get (F.chkBytesBytes 2) = 9 := by decide

/-- The worked example of chapter 03: a ring of 16 whose doorbells wrap. -/
def ringOf16 : State := noon.upd fun m =>
  (((m.put (F.pgBlock pgQctl 0 0) 1).put F.qctlWqtabSize 4).put F.qctlCrtabSize 4).setWq 12
    { wqPlain with ci := 0xFFFFFFF8, piKnown := 0xFFFFFFFC }
theorem ring_full : ((after (execWqDoorbell 12 0 .lo 8 env ringOf16)).wq 12).map (·.piKnown) = some 8 := by decide

/-- R82: a free semaphore goes to the master that writes its own number. -/
theorem sem_taken : (after (exec (.semClaim 3 ⟨2, .full, 2⟩) State.reset)).get (F.semLockOwner 3) = 2 := by decide
/-- R750: in SECURE, console input is discarded before a debug unlock. -/
theorem console_closed : (after (exec (.consoleInput 0x41) (State.reset.upd fun m => { m with fuses := { m.fuses with lifecycle := 1 } }))).y.console = [] := by
  decide
/-- R748: a dynamic address, then RSTDAA. -/
theorem rstdaa_clears : (after (exec .rstdaa (after (exec (.dynamicAddressAssignment 9) State.reset)))).y.dynAddr = none := by decide
/-- R620: a request in Midnight that has no transition from it. -/
theorem request_refused : (after (exec (.requestNoon ⟨1, .full, 1⟩ env) State.reset)).get F.modeReqResult = 3 := by decide
/-- R756: the switch to the other network input. -/
theorem nref_switches : (after (exec (.nrefLost 0 env) (noon.upd fun m => (m.put F.clkNrefOk0 1).put F.clkNrefOk1 1))).get F.clkNrefAct = 1 := by
  decide
/-- R712: a firmware slot is opened in Small Hours only. -/
theorem fw_open_refused : (after (exec (.fwOpen (.mctp [0x10, 0, 0, 0, 1]) env) noon)).get F.trustFwctlResult = 1 := by decide
/-- R720: a snapshot holds what the counter held. -/
theorem snapshot_copies : Sparse.read (fun _ => 0) (after (exec (.snapshot ⟨1, .full, 2⟩ env)
    (noon.upd fun m => m.put (F.ctrValue pgQctl 1) 77))).smp.snap (F.ctrValue pgQctl 1).reg = 77 := by decide
/-- The step takes the front of the queue. -/
theorem step_front : (after (step { State.reset with pending := [.rstdaa, .consoleInput 1] })).pending = [.consoleInput 1] := by decide

end Sys2Proof.Tests
end

/-! PROOFS. The state after a cold reset: every register but DEV.IDENT holds the Reset value of its table (R15), the register file is
canonical, and no command waits. -/

namespace Sys2Proof.Machine

/-! ## The register file after reset -/

/-- R15; DEV.IDENT at 0x40 shows the fuses instead (log 1). -/
theorem Module.word_reset (a : Nat) (h : a ≠ 0x40) : Module.reset.word a = resetWord a := by
  simp [Module.word, Module.reset, Sparse.read, h]

theorem Module.get_reset (f : Fld) (h : f.reg ≠ 0x40) : Module.reset.get f = bits (resetWord f.reg) f.hi f.lo := by
  rw [Module.get, Module.word_reset f.reg h]

/-! ## Reset values of the tables -/

/-- Past the page header, in a block whose tables give every instance the same values, a register resets to the values of its
fields. -/
theorem resetWord_of_table {a inst : Nat} {b : BlkInfo} {r : RegD} (hb : blockOf (a / 0x1000) = some (b, inst))
    (hblk : b.blk ∉ [Blk.lane, .port, .therm, .gov, .tile]) (hoff : 0x40 ≤ a % 0x1000)
    (hr : (regsOf b.blk).find? (RegD.at inst (a % 0x1000)) = some r) : resetWord a = r.resetWord := by
  obtain ⟨blk, base, count, type, dom⟩ := b
  simp only [resetWord, hb, Nat.not_lt.mpr hoff, if_false]
  cases blk <;> simp_all

theorem resetWord_sem {off : Nat} {r : RegD} (h40 : 0x40 ≤ off) (hpage : off < 0x1000)
    (hr : semRegs.find? (RegD.at 0 off) = some r) : resetWord (0xC000 + off) = r.resetWord := by
  have hd : (0xC000 + off) / 0x1000 = 0xC := by omega
  have hm : (0xC000 + off) % 0x1000 = off := by omega
  have hb : blockOf ((0xC000 + off) / 0x1000) = some (⟨.sem, 0xC, 1, 0xC, .mgmt⟩, 0) := by rw [hd]; decide
  exact resetWord_of_table hb (by decide) (hm.symm ▸ h40) (hm.symm ▸ hr)

/-- SEM.LOCK[n] resets to a free semaphore that nobody waits for and that is not broken. -/
theorem resetWord_semLock (n : Nat) (h : n < 256) : resetWord (F.semLockOwner n).reg = 0 := by
  have hr : semRegs.find? (RegD.at 0 (0x800 + 8 * n)) =
      some ⟨0x800, 256, 8, none, .mgmt, [fld 31 16 .ro 0, fld 4 4 .ro 0, fld 3 0 .own 0]⟩ := by
    have hmask : ¬ (0x800 + 8 * n - 0x40) / 8 < 16 := by omega
    have hwait : ¬ (0x800 + 8 * n - 0xC0) / 8 < 1 := by omega
    have hwake : ¬ (0x800 + 8 * n - 0x100) / 8 < 64 := by omega
    simp [semRegs, RegD.at, hmask, hwait, hwake, h]
  calc resetWord (F.semLockOwner n).reg
    _ = resetWord (0xC000 + (0x800 + 8 * n)) := by rw [F.semLockOwner, ← Nat.add_assoc]
    _ = _ := resetWord_sem (by omega) (by omega) hr
    _ = 0 := by decide

/-- SEM.GMASK[g] resets to the masters 1 to 4, 8, 9 and 10. -/
theorem resetWord_semGmask (g : Nat) (h : g < 16) : resetWord (F.semGmaskMask g).reg = 0x71E := by
  have hr : semRegs.find? (RegD.at 0 (0x40 + 8 * g)) = some ⟨0x40, 16, 8, none, .mgmt, [fld 15 0 .rwl 0x71E]⟩ := by
    simp [semRegs, RegD.at, h]
  calc resetWord (F.semGmaskMask g).reg
    _ = resetWord (0xC000 + (0x40 + 8 * g)) := by rw [F.semGmaskMask, ← Nat.add_assoc]
    _ = _ := resetWord_sem (by omega) (by omega) hr
    _ = 0x71E := by decide

/-! ## Fields after reset -/

theorem Module.get_reset_semLockOwner (n : Nat) (h : n < 256) : Module.reset.get (F.semLockOwner n) = 0 := by
  have hreg : (F.semLockOwner n).reg ≠ 0x40 := by simp only [F.semLockOwner]; omega
  rw [Module.get_reset _ hreg, resetWord_semLock n h]
  exact (by decide : bits 0 3 0 = 0)

theorem Module.get_reset_semGmaskMask (g : Nat) (h : g < 16) : Module.reset.get (F.semGmaskMask g) = 0x71E := by
  have hreg : (F.semGmaskMask g).reg ≠ 0x40 := by simp only [F.semGmaskMask]; omega
  rw [Module.get_reset _ hreg, resetWord_semGmask g h]
  exact (by decide : bits 0x71E 15 0 = 0x71E)

theorem State.reset_queueOk : State.reset.QueueOk := fun _ h => nomatch h

/-- Settles O2: the two arrays of the SEM page by the rule for its table, the single registers by evaluating their reset words. -/
theorem resetState : Obligations.ResetState := by
  refine ⟨?mode, rfl, ?group, Module.get_reset_semLockOwner, Module.get_reset_semGmaskMask, ?lastValid, ?lastKind, ?lastCount,
    ?duskTo, ?hostTo, Module.word_reset, Module.reset_wf, State.reset_queueOk, rfl⟩
  all_goals decide

end Sys2Proof.Machine

/-! PROOFS. What the family "machine and addressing" needs of the state: the frame of a composed operation, folds of field writes, the
registers that events and counters leave alone, and what a register write does to the fields of its register. -/

namespace Sys2Proof.Machine

-- Proofs one after another: side by side, their waiting threads can pass the memory limit.
set_option Elab.async false

/-! ## Frames -/

/-- Nothing but the parts of a list differs between two modules: the frame of an operation on the module. -/
def Module.Frame (l : List Part) (m m' : Module) : Prop := ∀ p, p ∉ l → Part.same ⟨m, []⟩ ⟨m', []⟩ p

theorem Module.Frame.refl (l : List Part) (m : Module) : Module.Frame l m m := by
  intro p _
  cases p <;> rfl

theorem Module.Frame.trans {l : List Part} {a b c : Module} (h : Module.Frame l a b) (k : Module.Frame l b c) : Module.Frame l a c := by
  intro p hp
  have h1 := h p hp
  have k1 := k p hp
  cases p <;> exact Eq.trans k1 h1

theorem Module.Frame.mono {l l' : List Part} {a b : Module} (h : Module.Frame l a b) (hl : l ⊆ l') : Module.Frame l' a b :=
  fun p hp => h p (fun hm => hp (hl hm))

/-- The frame of a meaning is that of what it does to the module. -/
theorem Module.Frame.touches {l : List Part} {s : State} {f : Module → Module} (h : Module.Frame l s.toModule (f s.toModule)) :
    Touches l s (s.upd f) := by
  refine touches_upd l s f fun p hp => ?_
  have h1 := h p hp
  cases p <;> exact h1

theorem Module.put_frame (m : Module) (f : Fld) (v : Nat) : Module.Frame [.regs] m (m.put f v) := by
  intro p hp
  cases p <;> simp_all [Part.same]

theorem Module.setWord_frame (m : Module) (a : Nat) (w : Word) : Module.Frame [.regs] m (m.setWord a w) := by
  intro p hp
  cases p <;> simp_all [Part.same]

theorem Module.at_frame (m : Module) (e : Env) : Module.Frame [.now] m (m.at e) := by
  intro p hp
  cases p <;> simp_all [Part.same]

theorem Module.emit_frame (m : Module) (x : Emit) : Module.Frame [.out] m (m.emit x) := by
  intro p hp
  cases p <;> simp_all [Part.same]

theorem Module.raise_frame (m : Module) (page c : Nat) : Module.Frame [.regs, .msix, .out] m (m.raise page c) := by
  intro p hp
  cases p <;> simp_all [Part.same]

theorem Module.countUp_frame (m : Module) (page n k : Nat) : Module.Frame [.regs, .msix, .out] m (m.countUp page n k) := by
  intro p hp
  cases p <;> simp_all [Part.same]

theorem Module.foldl_frame {α : Type} {l : List Part} (f : Module → α → Module) (hf : ∀ m a, Module.Frame l m (f m a)) (xs : List α) :
    ∀ m, Module.Frame l m (xs.foldl f m) := by
  induction xs with
  | nil => exact Module.Frame.refl l
  | cons a xs ih => exact fun m => (hf m a).trans (ih (f m a))

/-! ## Folds of field writes -/

/-- Fields put one after another leave the other registers alone. -/
theorem Module.word_foldl_put (f : Nat → Fld) (v : Module → Nat → Nat) (l : List Nat) (a : Nat) (h : ∀ k ∈ l, a ≠ (f k).reg) :
    ∀ m : Module, (l.foldl (fun m k => m.put (f k) (v m k)) m).word a = m.word a := by
  induction l with
  | nil => exact fun _ => rfl
  | cons k l ih =>
    intro m
    rw [List.foldl_cons, ih (fun j hj => h j (List.mem_cons_of_mem _ hj)), Module.word_put_other _ _ _ _ (h k List.mem_cons_self)]

/-- Of fields of different registers put one after another, each reads what was put into it. -/
theorem Module.get_foldl_put (f : Nat → Fld) (v : Module → Nat → Nat) (l : List Nat) (k : Nat) (hk : k ∈ l) (hlo : (f k).lo ≤ (f k).hi)
    (h64 : (f k).hi < 64) (hinj : ∀ j ∈ l, j ≠ k → (f k).reg ≠ (f j).reg) (c : Nat) (hv : ∀ m, v m k = c) :
    ∀ m : Module, (l.foldl (fun m k => m.put (f k) (v m k)) m).get (f k) = c % 2 ^ ((f k).hi + 1 - (f k).lo) := by
  induction l with
  | nil => cases hk
  | cons j l ih =>
    intro m
    by_cases hl : k ∈ l
    · exact ih hl (fun i hi => hinj i (List.mem_cons_of_mem _ hi)) (m.put (f j) (v m j))
    · obtain rfl : k = j := (List.mem_cons.mp hk).resolve_right hl
      have hrest : ∀ i ∈ l, (f k).reg ≠ (f i).reg := fun i hi =>
        hinj i (List.mem_cons_of_mem _ hi) (fun e => hl (e ▸ hi))
      rw [List.foldl_cons, Module.get, Module.word_foldl_put f v l _ hrest, ← Module.get, Module.get_put_same _ _ _ hlo h64, hv]

/-! ## Registers that events and counters leave alone -/

/-- A register that is neither an EVT_PEND nor a counter, by its offset in its page (R52, R714). -/
def Quiet (a : Nat) : Prop := a % 0x1000 ≠ 0x38 ∧ a % 0x1000 < 0x800

theorem Quiet.not_eventRegs {a : Nat} (h : Quiet a) (page : Nat) : ¬ EventRegs page a := by
  obtain ⟨h38, hlow⟩ := h
  rintro (rfl | rfl | ⟨i, -, rfl⟩)
  · omega
  · omega
  · omega

@[simp] theorem Module.raise_word_quiet (m : Module) (page c a : Nat) (h : Quiet a) : (m.raise page c).word a = m.word a :=
  Module.raise_word m page c a (h.not_eventRegs page)

/-- A counter that counts leaves every quiet register as it is; a page has at most 256 counters. -/
@[simp] theorem Module.countUp_word_quiet (m : Module) (page n k a : Nat) (hn : n < 256) (h : Quiet a) :
    (m.countUp page n k).word a = m.word a := by
  refine Module.countUp_word m page n k a ?_ (h.not_eventRegs pgSample)
  obtain ⟨-, hlow⟩ := h
  omega

/-! ## Register writes -/

theorem mergeHalf_full (old new : Word) : mergeHalf .full old new = new := rfl

/-- A field's write leaves the bits apart from it as they are. -/
theorem FieldD.bits_write_apart (f : FieldD) (locked : Bool) (w : Wr) (old acc : Word) (hi lo : Nat) (hf : f.lo ≤ f.hi) (h64 : f.hi < 64)
    (ha : hi < f.lo ∨ f.hi < lo) : bits (f.write locked w old acc) hi lo = bits acc hi lo := by
  unfold FieldD.write
  cases f.acc <;> simp only [bits_setBits_apart _ _ _ _ _ _ hf h64 ha]
  cases locked <;> simp [bits_setBits_apart _ _ _ _ _ _ hf h64 ha]

/-- A field that no write sets: read-only, or written by a command of its own. -/
def FieldD.fixed (f : FieldD) : Bool := decide (f.acc = .ro) || decide (f.acc = .own)

theorem FieldD.write_fixed (f : FieldD) (locked : Bool) (w : Wr) (old acc : Word) (h : f.fixed = true) :
    f.write locked w old acc = acc := by
  unfold FieldD.write
  simp only [FieldD.fixed, Bool.or_eq_true, decide_eq_true_eq] at h
  rcases h with h | h <;> simp [h]

/-- Whether every field of a list is fixed or lies in its word apart from some bits. -/
def sparesBits (l : List FieldD) (hi lo : Nat) : Bool :=
  l.all fun f => f.fixed || (decide (f.lo ≤ f.hi) && decide (f.hi < 64) && (decide (hi < f.lo) || decide (f.hi < lo)))

theorem bits_foldl_write (locked : Bool) (w : Wr) (old : Word) (hi lo : Nat) (l : List FieldD) (h : sparesBits l hi lo = true) :
    ∀ acc, bits (l.foldl (fun acc f => f.write locked w old acc) acc) hi lo = bits acc hi lo := by
  induction l with
  | nil => exact fun _ => rfl
  | cons f l ih =>
    intro acc
    simp only [sparesBits, List.all_cons, Bool.and_eq_true, Bool.or_eq_true, decide_eq_true_eq] at h
    obtain ⟨hf, hl⟩ := h
    rw [List.foldl_cons, ih hl]
    rcases hf with hf | ⟨⟨hlo, h64⟩, hap⟩
    · rw [f.write_fixed _ _ _ _ hf]
    · exact f.bits_write_apart _ _ _ _ _ _ hlo h64 hap

/-- A register's write leaves the bits that its fields spare. -/
theorem RegD.bits_write (r : RegD) (locked : Bool) (w : Wr) (old : Word) (hi lo : Nat) (h : sparesBits r.fields hi lo = true) :
    bits (r.write locked w old) hi lo = bits old hi lo := by
  unfold RegD.write
  split
  · exact bits_foldl_write locked w old hi lo r.fields h old
  · rfl

theorem Module.bits_writtenWord (m : Module) (a : Nat) (w : Wr) (r : RegD) (hr : regAt a = some r) (hi lo : Nat)
    (h : sparesBits r.fields hi lo = true) : bits (m.writtenWord a w) hi lo = bits (m.word a) hi lo := by
  simp only [Module.writtenWord, hr]
  split
  · exact r.bits_write _ w _ hi lo h
  · rfl

/-- A write that reaches a register of the chapters' tables leaves the word of its fields. -/
theorem Module.regWrite_eq_setWord (m : Module) (a : Nat) (w : Wr) (hr : m.reaches a = true) (h8 : a % 8 = 0)
    (hmsix : isMsixPage (a / 0x1000) = false) (h40 : 0x40 ≤ a % 0x1000) : m.regWrite a w = m.setWord a (m.writtenWord a w) := by
  have hreg : regAddr a = a := Nat.div_mul_cancel (Nat.dvd_of_mod_eq_zero h8)
  have hfate : m.fate a = .applied := by
    rw [Module.reaches, hreg] at hr
    exact of_decide_eq_true hr
  simp [Module.regWrite, hreg, hfate, hmsix, Nat.not_lt.mpr h40]

/-- A write that touches bits above 31 is one of the whole register or of its upper half. -/
theorem touches_of_ne_lo {h : Half} (hh : h ≠ .lo) {hi lo : Nat} (h32 : 32 ≤ hi) : touches h hi lo = true := by
  cases h with
  | full => rfl
  | lo => exact absurd rfl hh
  | hi => exact decide_eq_true h32

theorem State.answers_run (s : State) (f : Module → Module) (P : State → Prop) (h : P (s.upd f)) : Answers (s.run f) P :=
  ⟨s.upd f, rfl, h⟩

theorem State.answers_runAs (s : State) (ms : BitVec 4) (f : Module → Module) (P : State → Prop)
    (hm : s.masterReaches ms.toNat = true) (h : P (s.upd f)) : Answers (s.runAs ms f) P :=
  ⟨s.upd f, s.runAs_eq ms f hm, h⟩

end Sys2Proof.Machine

/-! PROOFS. Straps and the fabric address (R17–R23): O6, O7 and O8. -/

namespace Sys2Proof.Machine

set_option Elab.async false

/-! ## The commands' meanings -/

theorem exec_strapSample (pins : BitVec 10) (s : State) : exec (.strapSample pins) s = execStrapSample pins s := rfl
theorem exec_strapChanged (pins : BitVec 10) (s : State) :
    exec (.strapChanged pins) s = s.run fun m => m.strapChanged pins.toNat := rfl
theorem exec_strapAgreement (s : State) :
    exec .strapAgreement s = s.run fun m => { m with straps := { m.straps with differs := false } } := rfl
theorem exec_groupWrite (w : Wr) (s : State) : exec (.groupWrite w) s = s.runAs w.master fun m => m.groupWrite w := rfl

/-! ## Taking the straps -/

/-- The registers that ROUTE.PMAP fills. -/
def PmapRegs (a : Nat) : Prop := ∃ k < 4, a = (F.routePmapMap k).reg

theorem Module.loadPmap_word (m : Module) (a : Nat) (h : ¬ PmapRegs a) : m.loadPmap.word a = m.word a := by
  unfold Module.loadPmap
  split
  · rfl
  · exact Module.word_foldl_put F.routePmapMap _ _ a (fun k hk e => h ⟨k, List.mem_range.mp hk, e⟩) m

theorem Module.loadPmap_frame (m : Module) : Module.Frame [.regs] m m.loadPmap := by
  unfold Module.loadPmap
  split
  · exact Module.Frame.refl _ m
  · exact Module.foldl_frame _ (fun m _ => m.put_frame _ _) _ m

/-- The module with the pins as its sampled straps (R19). -/
def Module.strapped (m : Module) (pins : Nat) : Module :=
  { m with straps := { due := false, sampled := some pins, differs := false, lastDiff := none } }

/-- HOST_MODE in the arrangement of every host link (R741). -/
def Module.arrange (m : Module) (mode : Nat) : Module := (List.range 4).foldl (fun m i => m.put (F.hostLstsArr i) mode) m

theorem Module.takeStraps_eq (m : Module) (pins : Nat) :
    m.takeStraps pins =
      (((m.strapped pins).put F.devFaddrFa (m.get F.devFaddrGroup * 256 + pins % 256)).arrange (pins / 256)).loadPmap := rfl

theorem Module.arrange_word (m : Module) (mode a : Nat) (h : ∀ k < 4, a ≠ (F.hostLstsArr k).reg) : (m.arrange mode).word a = m.word a :=
  Module.word_foldl_put F.hostLstsArr (fun _ _ => mode) _ a (fun k hk => h k (List.mem_range.mp hk)) m

theorem Module.get_arrange (m : Module) (mode k : Nat) (hk : k < 4) : (m.arrange mode).get (F.hostLstsArr k) = mode % 4 :=
  Module.get_foldl_put F.hostLstsArr (fun _ _ => mode) _ k (List.mem_range.mpr hk) (by simp [F.hostLstsArr]) (by simp [F.hostLstsArr])
    (fun j _ hj => by simp only [F.hostLstsArr]; omega) mode (fun _ => rfl) m

theorem Module.arrange_frame (m : Module) (mode : Nat) : Module.Frame [.regs] m (m.arrange mode) :=
  Module.foldl_frame _ (fun m _ => m.put_frame _ _) _ m

/-- The registers that taking the straps may change. -/
def StrapRegs (a : Nat) : Prop := a = 0x48 ∨ (∃ k < 4, a = (F.hostLstsArr k).reg) ∨ PmapRegs a

theorem Module.takeStraps_word (m : Module) (pins a : Nat) (h : ¬ StrapRegs a) : (m.takeStraps pins).word a = m.word a := by
  have hfa : a ≠ F.devFaddrFa.reg := fun e => h (.inl e)
  have harr : ∀ k < 4, a ≠ (F.hostLstsArr k).reg := fun k hk e => h (.inr (.inl ⟨k, hk, e⟩))
  rw [Module.takeStraps_eq, Module.loadPmap_word _ _ (fun e => h (.inr (.inr e))), Module.arrange_word _ _ _ harr,
    Module.word_put_other _ _ _ _ hfa]
  rfl

theorem Module.takeStraps_frame (m : Module) (pins : Nat) : Module.Frame [.regs, .straps] m (m.takeStraps pins) := by
  have h0 : Module.Frame [.regs, .straps] m (m.strapped pins) := by
    intro p hp
    cases p <;> simp_all [Part.same, Module.strapped]
  rw [Module.takeStraps_eq]
  exact h0.trans ((((Module.put_frame _ _ _).trans (Module.arrange_frame _ _)).trans (Module.loadPmap_frame _)).mono (by simp))

theorem Module.takeStraps_straps (m : Module) (pins : Nat) :
    (m.takeStraps pins).straps = { due := false, sampled := some pins, differs := false, lastDiff := none } := by
  have h := ((Module.put_frame (m.strapped pins) F.devFaddrFa (m.get F.devFaddrGroup * 256 + pins % 256)).trans
    (Module.arrange_frame _ (pins / 256))).trans (Module.loadPmap_frame _)
  exact h .straps (by simp)

/-- The FA is the group beside the pins of chassis and slot (R17, R18). -/
theorem Module.takeStraps_fa (m : Module) (pins : Nat) : (m.takeStraps pins).fa = m.get F.devFaddrGroup * 256 + pins % 256 := by
  have hgroup : m.get F.devFaddrGroup < 2 ^ 10 := bits_lt _ _ _
  have hpmap : ¬ PmapRegs F.devFaddrFa.reg := by
    rintro ⟨k, -, hk⟩
    simp only [F.devFaddrFa, F.routePmapMap] at hk
    omega
  have harr : ∀ k < 4, F.devFaddrFa.reg ≠ (F.hostLstsArr k).reg := by
    intro k _
    simp only [F.devFaddrFa, F.hostLstsArr]
    omega
  rw [Module.fa, Module.get, Module.takeStraps_eq, Module.loadPmap_word _ _ hpmap, Module.arrange_word _ _ _ harr, ← Module.get,
    Module.get_put_same _ _ _ (by decide) (by decide)]
  simp only [F.devFaddrFa]
  omega

theorem Module.takeStraps_arr (m : Module) (pins k : Nat) (hk : k < 4) : (m.takeStraps pins).get (F.hostLstsArr k) = pins / 256 % 4 := by
  have hpmap : ¬ PmapRegs (F.hostLstsArr k).reg := by
    rintro ⟨j, _, hj⟩
    simp only [F.hostLstsArr, F.routePmapMap] at hj
    omega
  rw [Module.takeStraps_eq, Module.get, Module.loadPmap_word _ _ hpmap, ← Module.get, Module.get_arrange _ _ _ hk]

theorem Module.hostMode_of_sampled (m : Module) (v : Nat) (h : m.straps.sampled = some v) : m.hostMode = v / 256 % 4 := by
  rw [Module.hostMode, h]

/-- Only a module in Midnight with power-good leaves for Dawn. -/
theorem Module.dawnIfGood_of_not (m : Module) (h : m.mode ≠ mMidnight ∨ m.pg = false) : m.dawnIfGood = m := by
  unfold Module.dawnIfGood
  rcases h with h | h <;> simp [h]

theorem Module.takeStraps_dawnIfGood (m : Module) (pins : Nat) (h : m.mode ≠ mMidnight ∨ m.pg = false) :
    (m.takeStraps pins).dawnIfGood = m.takeStraps pins := by
  have hreg : ∀ a, a / 0x1000 = pgMode ∨ a / 0x1000 = pgPwr → ¬ StrapRegs a := by
    rintro a ha (rfl | ⟨k, _, rfl⟩ | ⟨k, _, rfl⟩)
    all_goals simp only [F.hostLstsArr, F.routePmapMap, pgMode, pgPwr] at ha
    all_goals omega
  have hmode : (m.takeStraps pins).mode = m.mode := by
    simp only [Module.mode, Module.get, m.takeStraps_word pins _ (hreg F.modeStsMode.reg (by decide))]
  have hpg : (m.takeStraps pins).pg = m.pg := by
    rw [Module.pg, Module.flag, Module.get, m.takeStraps_word pins _ (hreg F.pwrStsPg.reg (by decide))]
    rfl
  exact Module.dawnIfGood_of_not _ (by rwa [hmode, hpg])

theorem execStrapSample_due (pins : BitVec 10) (s : State) (hdue : s.straps.due = true) (h : s.mode ≠ mMidnight ∨ s.pg = false) :
    execStrapSample pins s = .next (s.upd fun m => m.takeStraps pins.toNat) := by
  simp only [execStrapSample, State.run_eq, State.upd, hdue, if_true, Module.takeStraps_dawnIfGood _ _ h]

/-- Settles O6: a sample that is due is `takeStraps`, whose puts are read back one register at a time. -/
theorem strapsAreTaken : Obligations.StrapsAreTaken := by
  refine ⟨fun pins s hdue hdawn => ?taken, fun pins s hdue => ?notDue⟩
  case notDue => simp [exec_strapSample, execStrapSample, State.run, hdue]
  rw [exec_strapSample, execStrapSample_due pins s hdue hdawn]
  refine ⟨_, rfl, ?_⟩
  have hpins : pins.toNat < 1024 := pins.isLt
  have hst := s.takeStraps_straps pins.toNat
  refine ⟨?sampled, ?due, ?differs, ?chassis, ?slot, s.takeStraps_fa _, ?hostMode, ?arr, fun a ha => s.takeStraps_word _ _ ha,
    (s.takeStraps_frame _).touches⟩
  case sampled => exact congrArg Straps.sampled hst
  case due => exact congrArg Straps.due hst
  case differs => exact congrArg Straps.differs hst
  case chassis => simp [Module.chassis, State.upd, hst]
  case slot => simp [Module.slot, State.upd, hst]
  case hostMode =>
    rw [State.upd, Module.hostMode_of_sampled _ _ (congrArg Straps.sampled hst)]
    omega
  case arr =>
    intro k hk
    rw [State.upd, Module.takeStraps_arr _ _ _ hk]
    omega

/-! ## Differences of the straps -/

/-- A new difference is noted in the straps. -/
def Module.noteDifference (m : Module) (pins : Nat) : Module :=
  { m with straps := { m.straps with differs := true, lastDiff := some pins } }

theorem Module.strapChanged_new (m : Module) (pins v : Nat) (hv : m.straps.sampled = some v) (hdue : m.straps.due = false)
    (hne : pins ≠ v) (hnew : m.straps.differs = false) :
    m.strapChanged pins = ((m.noteDifference pins).put F.devFaddrStrapChg 1).raise pgDev Ev.strapChanged := by
  simp [Module.strapChanged, Module.noteDifference, hv, hdue, hne, hnew]

theorem Module.strapChanged_none (m : Module) (pins : Nat) (h : m.straps.sampled = none ∨ m.straps.due = true ∨
    m.straps.sampled = some pins ∨ (m.straps.differs = true ∧ m.straps.lastDiff = some pins)) : m.strapChanged pins = m := by
  unfold Module.strapChanged
  split
  · rfl
  next v hv => rcases h with h | h | h | ⟨h, h'⟩ <;> simp_all

/-- Settles O7: a new difference is one put and one event; every other case leaves the module as it is (while a sample is due, or none
has been taken, no difference is judged: log 124). -/
theorem strapDifferenceIsReported : Obligations.StrapDifferenceIsReported := by
  refine ⟨fun pins s v hv hdue hne hnew => ?new, fun pins s h => ?none, fun s => exec_strapAgreement s⟩
  case none => rw [exec_strapChanged, State.run, Module.strapChanged_none _ _ h]
  rw [exec_strapChanged]
  refine State.answers_run s _ _ ?_
  simp only [State.upd, Module.strapChanged_new s.toModule _ v hv hdue hne hnew]
  generalize hm0 : s.noteDifference pins.toNat = m0
  have hword : ∀ a, m0.word a = s.word a := fun a => by rw [← hm0]; rfl
  have hraise : ∀ f : Fld, f.reg = 0x48 → ¬ EventRegs pgDev f.reg := fun f hf =>
    Quiet.not_eventRegs (by rw [hf]; exact ⟨by decide, by decide⟩) _
  refine ⟨?chg, Module.raise_cause _ _ _ (by decide), ?fa, ?sampled, ?differs, ?regs, ?frame⟩
  case chg => rw [Module.get_raise _ _ _ _ (hraise _ rfl), Module.get_put_same _ _ _ (by decide) (by decide)]; rfl
  case fa =>
    rw [Module.fa, Module.get_raise _ _ _ _ (hraise _ rfl), Module.get_put_apart _ _ _ _ (by decide) (by decide) (by decide)]
    rw [Module.get, hword]
    rfl
  case sampled => simp [← hm0, Module.noteDifference, hv]
  case differs => simp [← hm0, Module.noteDifference]
  case regs =>
    intro a ha
    rw [Module.raise_word _ _ _ _ (fun e => ha (.inr e)), Module.word_put_other _ _ _ _ (fun e => ha (.inl e)), hword]
  case frame =>
    have hnote : Module.Frame [.straps] s.toModule m0 := by
      intro p hp
      cases p <;> simp_all [Part.same, ← hm0, Module.noteDifference]
    exact Module.Frame.touches (f := fun _ => (m0.put F.devFaddrStrapChg 1).raise pgDev Ev.strapChanged)
      (((hnote.mono (by simp)).trans ((m0.put_frame _ _).mono (by simp))).trans ((Module.raise_frame _ _ _).mono (by simp)))

/-! ## The group -/

/-- DEV.FADDR in the tables: a write sets neither valid, nor group, nor FA. -/
theorem bits_writtenWord_faddr (m : Module) (w : Wr) (f : Fld) (hf : f ∈ [F.devFaddrValid, F.devFaddrGroup, F.devFaddrFa]) :
    bits (m.writtenWord 0x48 w) f.hi f.lo = bits (m.word 0x48) f.hi f.lo := by
  refine m.bits_writtenWord 0x48 w
    ⟨0x048, 1, 8, none, .mgmt, [fld 63 63 .ro 0, fld 62 62 .w1c 0, fld 61 61 .rw 1, fld 41 32 .own 0, fld 17 0 .ro 0]⟩ (by decide) _ _ ?_
  simp only [List.mem_cons, List.not_mem_nil, or_false] at hf
  rcases hf with rfl | rfl | rfl <;> decide

theorem Module.regWrite_faddr (m : Module) (w : Wr) (hr : m.reaches 0x48 = true) :
    m.regWrite 0x48 w = m.setWord 0x48 (m.writtenWord 0x48 w) :=
  m.regWrite_eq_setWord 0x48 w hr (by decide) (by decide) (by decide)

theorem Module.get_regWrite_faddr (m : Module) (w : Wr) (hr : m.reaches 0x48 = true) (f : Fld)
    (hf : f ∈ [F.devFaddrValid, F.devFaddrGroup, F.devFaddrFa]) : (m.regWrite 0x48 w).get f = m.get f := by
  have hreg : f.reg = 0x48 := by
    simp only [List.mem_cons, List.not_mem_nil, or_false] at hf
    rcases hf with rfl | rfl | rfl <;> rfl
  rw [m.regWrite_faddr w hr, Module.get, hreg, Module.word_setWord_same, bits_writtenWord_faddr m w f hf, Module.get, hreg]

/-- The module with its group assigned (R22). -/
def Module.assignGroup (m : Module) (g : Nat) : Module :=
  let m := (m.put F.devFaddrGroup g).put F.devFaddrValid 1
  m.put F.devFaddrFa (g * 256 + m.fa % 256)

theorem Module.groupWrite_first (m : Module) (w : Wr) (hr : m.reaches 0x48 = true) (hh : w.half ≠ .lo) (hv : m.groupValid = false) :
    m.groupWrite w = (m.regWrite 0x48 w).assignGroup (bits w.value 41 32) := by
  simp [Module.groupWrite, Module.assignGroup, F.devFaddrGroup, hr, touches_of_ne_lo hh, hv]

theorem Module.groupWrite_other (m : Module) (w : Wr) (hr : m.reaches 0x48 = true) (hh : w.half ≠ .lo) (hv : m.groupValid = true)
    (hne : m.get F.devFaddrGroup ≠ bits w.value 41 32) : m.groupWrite w = m.raise pgDev Ev.faConflict := by
  have hne' : m.get ⟨0x48, 41, 32⟩ ≠ bits w.value 41 32 := hne
  simp [Module.groupWrite, F.devFaddrGroup, hr, touches_of_ne_lo hh, hv, hne']

theorem Module.groupWrite_same (m : Module) (w : Wr) (hr : m.reaches 0x48 = true) (hh : w.half ≠ .lo) (hv : m.groupValid = true)
    (he : m.get F.devFaddrGroup = bits w.value 41 32) : m.groupWrite w = m.regWrite 0x48 w := by
  have he' : m.get ⟨0x48, 41, 32⟩ = bits w.value 41 32 := he
  simp [Module.groupWrite, F.devFaddrGroup, hr, touches_of_ne_lo hh, hv, he']

theorem Module.assignGroup_word (m : Module) (g a : Nat) (h : a ≠ 0x48) : (m.assignGroup g).word a = m.word a := by
  simp only [Module.assignGroup]
  rw [Module.word_put_other _ _ _ _ h, Module.word_put_other _ _ _ _ h, Module.word_put_other _ _ _ _ h]

theorem Module.assignGroup_frame (m : Module) (g : Nat) : Module.Frame [.regs] m (m.assignGroup g) :=
  ((m.put_frame _ _).trans (Module.put_frame _ _ _)).trans (Module.put_frame _ _ _)

theorem Module.assignGroup_group (m : Module) (g : Nat) : (m.assignGroup g).get F.devFaddrGroup = g % 2 ^ 10 := by
  simp only [Module.assignGroup]
  rw [Module.get_put_apart _ _ _ _ (by decide) (by decide) (by decide), Module.get_put_apart _ _ _ _ (by decide) (by decide) (by decide),
    Module.get_put_same _ _ _ (by decide) (by decide)]
  rfl

theorem Module.groupValid_put_fa (m : Module) (fa : Nat) : ((m.put F.devFaddrValid 1).put F.devFaddrFa fa).groupValid = true := by
  simp only [Module.groupValid, Module.flag]
  rw [Module.get_put_apart _ _ _ _ (by decide) (by decide) (by decide), Module.get_put_same _ _ _ (by decide) (by decide)]
  decide

theorem Module.assignGroup_valid (m : Module) (g : Nat) : (m.assignGroup g).groupValid = true :=
  Module.groupValid_put_fa (m.put F.devFaddrGroup g) _

theorem Module.assignGroup_fa (m : Module) (g : Nat) (h : g < 2 ^ 10) : (m.assignGroup g).fa = g * 256 + m.fa % 256 := by
  simp only [Module.assignGroup, Module.fa]
  rw [Module.get_put_same _ _ _ (by decide) (by decide), Module.get_put_apart _ _ _ _ (by decide) (by decide) (by decide),
    Module.get_put_apart _ _ _ _ (by decide) (by decide) (by decide)]
  simp only [F.devFaddrFa]
  omega

/-- Settles O8: the first group is `assignGroup` behind the register write; a different one is one event; the same one is the register
write alone. -/
theorem groupIsWrittenOnce : Obligations.GroupIsWrittenOnce := by
  simp only [Obligations.GroupIsWrittenOnce, exec_groupWrite]
  refine ⟨fun w s ⟨hm, hr⟩ hh hv => State.answers_runAs s _ _ _ hm ?first,
    fun w s ⟨hm, hr⟩ hh hv hne => State.answers_runAs s _ _ _ hm ?other,
    fun w s ⟨hm, hr⟩ hfull hv he => State.answers_runAs s _ _ _ hm ?same⟩
  case first =>
    have hg : bits w.value 41 32 < 2 ^ 10 := bits_lt _ _ _
    have hset := s.regWrite_faddr w hr
    have hfa : (s.regWrite 0x48 w).fa = s.fa := s.get_regWrite_faddr w hr _ (by simp)
    have hframe : Module.Frame [.regs] s.toModule (s.groupWrite w) := by
      rw [s.groupWrite_first w hr hh hv, hset]
      exact (Module.setWord_frame _ _ _).trans (Module.assignGroup_frame _ _)
    refine ⟨?_, ?_, ?_, fun a ha => ?_, hframe.touches⟩ <;> simp only [State.upd, s.groupWrite_first w hr hh hv]
    · rw [Module.assignGroup_group, Nat.mod_eq_of_lt hg]
    · exact Module.assignGroup_valid _ _
    · rw [Module.assignGroup_fa _ _ hg, hfa]
    · rw [Module.assignGroup_word _ _ _ ha, hset, Module.word_setWord_other _ _ _ _ ha]
  case other =>
    have hraise : s.groupWrite w = s.raise pgDev Ev.faConflict := s.groupWrite_other w hr hh hv hne
    have hframe : Module.Frame [.regs, .msix, .out] s.toModule (s.groupWrite w) := hraise ▸ Module.raise_frame _ _ _
    refine ⟨?_, ?_, fun a ha => ?_, hframe.touches⟩ <;> simp only [State.upd, hraise]
    · exact Module.raise_word_quiet _ _ _ _ ⟨by decide, by decide⟩
    · exact Module.raise_cause _ _ _ (by decide)
    · exact Module.raise_word _ _ _ _ ha
  case same =>
    have hwrite : s.groupWrite w = s.regWrite 0x48 w := s.groupWrite_same w hr (by rw [hfull]; decide) hv he
    have hframe : Module.Frame [.regs] s.toModule (s.groupWrite w) := by
      rw [hwrite, s.regWrite_faddr w hr]
      exact Module.setWord_frame _ _ _
    have hget := s.get_regWrite_faddr w hr
    refine ⟨?_, ?_, ?_, hframe.touches⟩ <;> simp only [State.upd, hwrite]
    · exact hget _ (by simp)
    · rw [Module.groupValid, Module.flag, hget _ (by simp), ← Module.flag, ← Module.groupValid, hv]
    · exact hget _ (by simp)

end Sys2Proof.Machine

/-! PROOFS. The admin commands on domain keys and on contexts: the counterexamples to O27 and O28. Both statements range over every
state, and each fails in one that no run reaches: a key slot of a number above 63, a table that names a number twice. -/

namespace Sys2Proof.Machine

set_option Elab.async false

theorem exec_clearDomain (e : Env) (s : State) : exec (.clearDomain e) s = execClearDomain e s := rfl
theorem exec_destroyMatch (e : Env) (s : State) : exec (.destroyMatch e) s = execDestroyMatch e s := rfl

/-! ## A key slot beyond 63

KSLOT[k] of `farSlot` would stand where QCTL.ERRLOG does, `used` in the place of `valid`. CLEAR_DOMAIN erases the slot, and with it
ERRLOG.valid; then the domain's queue enters ERROR, which is logged in ERRLOG. -/

/-- A queue of domain 7, used as the admin queue. -/
def farWq : WqCtx :=
  { ringVa := 0x1000, size := 4, link := 0, user := false, poll := false, cr := 0, asid := 0, nd := 7, tcMask := 0xFF, pollIvl := 1,
    piShadow := 0, ciShadow := 0, ci := 0, piKnown := 0, state := .active, errCause := 0, errIdx := 0, outstanding := 0 }

/-- CLEAR_DOMAIN of domain 7, as the WQE of an operation of WQ 0. -/
def farOp : Op :=
  { wq := 0, idx := 0, wqe := [0x89, 0, 7, 0, 0, 0, 0, 0], started := false, trig := none, silent := false, finished := false,
    dead := false }

def farSlot : Nat := 15339

theorem farSlot_used : F.trustKslotUsed farSlot = F.qctlErrlogValid := by decide

/-- The queue block enabled, WQ 0 on chip, the command as operation 1, and domain 7's key in `farSlot`. -/
def farState : State :=
  State.reset.upd fun m =>
    { ((m.put (F.pgBlock pgQctl 0 0) 1).setWq 0 farWq).setOp 1 farOp with x := { m.x with keys := [(farSlot, ⟨7, 0⟩)] } }

theorem farState_adminNext : farState.AdminNext 0x89 1 farOp := ⟨by decide, rfl, rfl⟩

theorem farState_clearDomain : ∃ t, execClearDomain ⟨0, []⟩ farState = .next t ∧ t.get F.qctlErrlogValid = 1 :=
  ⟨_, rfl, by decide +kernel⟩

/-- Refutes O27: in `farState` the slot reads as used after CLEAR_DOMAIN, since its number, which the statement leaves free, names the
register of the error log. -/
theorem not_domainKeysComeAndGo : ¬ Obligations.DomainKeysComeAndGo := by
  rintro ⟨-, hClear, -⟩
  obtain ⟨t, ht, -, hused, -⟩ :=
    hClear 1 farOp ⟨0, []⟩ farState farSlot 0 farState_adminNext (by decide) (by decide) (by decide) rfl rfl rfl
  obtain ⟨t', ht', hstands⟩ := farState_clearDomain
  rw [exec_clearDomain, ht'] at ht
  cases ht
  rw [← farSlot_used, hused] at hstands
  exact absurd hstands (by decide)

/-! ## A matching context whose number stands twice in the table

In `twiceState` the table of matching contexts lists number 3 twice, and the second entry, which `Module.mctx` does not see, holds a
spilled posted entry. DESTROY_MATCH closes the first one; then `Module.refillPosted` finds the second one's spilled entry and writes that
context, ACTIVE, back under number 3. -/

/-- The posted receive of the second entry, by its place in the spill pool. -/
def twicePosted (spill : Option Nat) : Posted :=
  { tag := 0, ignore := 0, rank := 0, wq := 0, user := false, bufVa := 0, length := 0, wqeTag := 0, statusVa := 0, postSeq := 0,
    asid := 0, link := 0, spill := spill }

def twiceCtx (posted : List Posted) : Mctx :=
  { nd := 1, cr := 0, eagerLimit := 0, bounceSize := 0, bounceVa := 0, bounceCount := 0, state := .active, posted := posted,
    postSeq := 0, arrSeq := 0, cursor := 0, bounces := [], released := 0 }

/-- The second entry, and what a refill makes of it. -/
def twiceSecond : Mctx := twiceCtx [twicePosted (some 0)]
def twiceRevived : Mctx := twiceCtx [twicePosted none]

/-- The context DESTROY_MATCH leaves. -/
def twiceClosed : Mctx := { twiceCtx [] with state := .closing }

/-- The matching contexts are two of number 3, the second with a spilled entry; no message is unexpected, no completion held. -/
structure Module.TwiceThree (m : Module) (first : Mctx) : Prop where
  ctxs : m.mt.ctxs = [(3, first), (3, twiceSecond)]
  unexp : m.mt.unexp = []
  held : m.q.crRt = []

/-- A command that shows no host read shows no bus error. -/
theorem Module.readWords_isSome (m : Module) (t link n : Nat) : ∀ addr, (m.readWords ⟨t, []⟩ link n addr).isSome = true := by
  induction n with
  | zero => exact fun _ => rfl
  | succ n ih =>
    intro addr
    obtain ⟨l, hl⟩ := Option.isSome_iff_exists.mp (ih (addr + 8))
    simp [Module.readWords, Module.read8, hl]

theorem Module.spillReads_bare (m : Module) (t tile : Nat) (l : List Nat) : m.spillReads ⟨t, []⟩ tile l = true :=
  List.all_eq_true.mpr fun _ _ => m.readWords_isSome t _ _ _

/-- A refill writes the second context over the first, whose entries are none or on chip. -/
theorem Module.refillPosted_step (m : Module) (first : Mctx) (h : m.TwiceThree first) (hfirst : first = twiceClosed ∨ first = twiceRevived)
    (fuel : Nat) :
    m.refillPosted ⟨0, []⟩ 1 (fuel + 1) = (m.setMctx 3 twiceRevived).readDone.refillPosted ⟨0, []⟩ 1 fuel := by
  obtain ⟨hctxs, -, -⟩ := h
  have htile : mtTile 3 = 1 := by decide
  rcases hfirst with rfl | rfl <;>
    simp [Module.refillPosted, Module.mtCtxs, Module.postedOnChip, Module.spillReads_bare, hctxs, htile, twiceClosed, twiceRevived,
      twiceSecond, twiceCtx, twicePosted]

theorem Module.TwiceThree.refilled {m : Module} {first : Mctx} (h : m.TwiceThree first) :
    (m.setMctx 3 twiceRevived).readDone.TwiceThree twiceRevived := by
  obtain ⟨hctxs, hunexp, hheld⟩ := h
  exact ⟨by simp [Module.setMctx, Module.readDone, hctxs, KMap.put], hunexp, hheld⟩

/-- However often the second context's entry is refilled, it is there again, and the first context stays revived. -/
theorem Module.TwiceThree.refillPosted {fuel : Nat} (hfuel : fuel ≠ 0) : ∀ {m : Module} {first : Mctx}, m.TwiceThree first →
    first = twiceClosed ∨ first = twiceRevived → (m.refillPosted ⟨0, []⟩ 1 fuel).TwiceThree twiceRevived := by
  induction fuel with
  | zero => exact absurd rfl hfuel
  | succ fuel ih =>
    intro m first h hfirst
    rw [m.refillPosted_step first h hfirst]
    rcases Nat.eq_zero_or_pos fuel with rfl | hpos
    · exact h.refilled
    · exact ih hpos.ne' h.refilled (.inr rfl)

theorem Module.TwiceThree.of_frame {m m' : Module} {first : Mctx} (h : m.TwiceThree first) (hf : Module.Frame [.regs, .msix, .out] m m') :
    m'.TwiceThree first := by
  have hmt : m'.mt = m.mt := hf .mt (by simp)
  have hq : m'.q = m.q := hf .q (by simp)
  exact ⟨hmt ▸ h.ctxs, hmt ▸ h.unexp, hq ▸ h.held⟩

theorem Module.busWrite_frame (m : Module) (link addr : Nat) (bs : List Byte) :
    Module.Frame [.regs, .msix, .out] m (m.busWrite link addr bs) :=
  (((m.emit_frame _).mono (by simp)).trans (Module.countUp_frame _ _ _ _)).trans (Module.countUp_frame _ _ _ _)

theorem Module.mtUse_frame (m : Module) (t : Nat) : Module.Frame [.regs] m (m.mtUse t) :=
  ((m.put_frame _ _).trans (Module.put_frame _ _ _)).trans (Module.put_frame _ _ _)

/-- The spill pool's links follow by bus writes; the lists stay. -/
theorem Module.TwiceThree.spillSync {m : Module} {first : Mctx} (h : m.TwiceThree first) (t : Nat) : (m.spillSync t).TwiceThree first := by
  have hfold := fun (f : Module → Nat × Nat × Nat → Module) hf l => h.of_frame (Module.foldl_frame f hf l m)
  unfold Module.spillSync
  dsimp only
  refine ⟨(hfold _ (fun m w => ?_) _).ctxs, (hfold _ (fun m w => ?_) _).unexp, (hfold _ (fun m w => ?_) _).held⟩
  all_goals
    split
    · exact Module.Frame.refl _ m
    split <;> split
    · exact Module.Frame.refl _ m
    · exact Module.busWrite_frame _ _ _ _
    · exact Module.busWrite_frame _ _ _ _
    · exact (Module.busWrite_frame _ _ _ _).trans (Module.busWrite_frame _ _ _ _)

theorem Module.TwiceThree.mtUse {m : Module} {first : Mctx} (h : m.TwiceThree first) (t : Nat) : (m.mtUse t).TwiceThree first :=
  h.of_frame ((m.mtUse_frame t).mono (by simp))

theorem Module.TwiceThree.refillUnexp {m : Module} {first : Mctx} (h : m.TwiceThree first) (t fuel : Nat) :
    m.refillUnexp ⟨0, []⟩ t (fuel + 1) = m := by
  obtain ⟨-, hunexp, -⟩ := h
  simp [Module.refillUnexp, hunexp]

/-- Tile 0 has nothing to put in order, tile 1 revives the context. -/
theorem Module.TwiceThree.settle {m : Module} (h : m.TwiceThree twiceClosed) (hconns : m.x.conns = []) :
    (m.settle ⟨0, []⟩).TwiceThree twiceRevived := by
  have h0 : (m.mtSettle ⟨0, []⟩ 0).TwiceThree twiceClosed := by
    have hnone : m.refillPosted ⟨0, []⟩ 0 32768 = m := by
      have htile : mtTile 3 = 1 := by decide
      simp [Module.refillPosted, Module.mtCtxs, h.ctxs, htile]
    rw [Module.mtSettle, hnone, h.refillUnexp]
    exact (h.spillSync 0).mtUse 0
  have h1 := Module.TwiceThree.refillPosted (fuel := 32768) (by decide) h0 (.inl rfl)
  have hsettle : m.settle ⟨0, []⟩ = (m.mtSettle ⟨0, []⟩ 0).mtSettle ⟨0, []⟩ 1 := by simp [Module.settle, hconns]
  rw [hsettle, Module.mtSettle, h1.refillUnexp]
  exact (h1.spillSync 1).mtUse 1

/-- The context is back, ACTIVE, and no completion is held that could be dropped. -/
theorem Module.TwiceThree.mctx {m : Module} (h : m.TwiceThree twiceRevived) (cr : Nat) (p : Completion → Bool) :
    m.mctx 3 = some twiceRevived ∧ (m.discardHeld cr p).mctx 3 = some twiceRevived := by
  have hmctx : m.mctx 3 = some twiceRevived := by simp [Module.mctx, h.ctxs, KMap.get]
  have hnone : m.discardHeld cr p = m := by
    simp [Module.discardHeld, Module.crRt, h.held, KMap.getD, KMap.get, CrRt.init]
  exact ⟨hmctx, hnone.symm ▸ hmctx⟩

def twiceWq : WqCtx :=
  { ringVa := 0x1000, size := 4, link := 0, user := false, poll := false, cr := 0, asid := 0, nd := 0, tcMask := 0xFF, pollIvl := 1,
    piShadow := 0x1000, ciShadow := 0x1000, ci := 0, piKnown := 0, state := .active, errCause := 0, errIdx := 0, outstanding := 0 }

def twiceCr : CrCtx :=
  { ringVa := 0x1000, size := 4, link := 0, asid := 0, vector := 1, piShadow := 0x1000, ciShadow := 0x1000, pi := 0, ciKnown := 0,
    binds := 2, state := .active, armed := false, ovf := false }

/-- DESTROY_MATCH of context 3, as the WQE of an operation of WQ 0. -/
def twiceOp : Op :=
  { wq := 0, idx := 0, wqe := [0x8F, 0, 3, 0, 0, 0, 0, 0], started := false, trig := none, silent := false, finished := false,
    dead := false }

/-- The queue block enabled, WQ 0 and CR 0 on chip, and the command as operation 1. -/
def twiceState : State :=
  State.reset.upd fun m =>
    { (((m.put (F.pgBlock pgQctl 0 0) 1).setWq 0 twiceWq).setCr 0 twiceCr).setOp 1 twiceOp with
        mt := { m.mt with ctxs := [(3, twiceCtx []), (3, twiceSecond)] } }

theorem twiceState_adminNext : twiceState.AdminNext 0x8F 1 twiceOp := ⟨by decide, rfl, rfl⟩

/-- A meaning of an admin command whose WQE is the next to run. -/
theorem State.admin_of_next (s : State) (opcode id : Nat) (o : Op) (e : Env) (f : Module → List Word → Module)
    (hneed : (s.toModule.at e).needWq e 0 = s.toModule.at e) (hnext : (s.toModule.at e).adminNext opcode = some (id, o)) :
    s.admin opcode e f = .next (s.upd fun m => f ((m.at e).adminBegin id o) o.wqe) := by
  simp only [State.admin, State.run_eq, State.upd, hneed, hnext]

/-- The module with a matching context closed: what DESTROY_MATCH does to the tables where no message is unexpected. -/
def Module.closeMctx (m : Module) (x : Nat) (c : Mctx) : Module :=
  (m.setUnexp []).setMctx x { c with state := .closing, posted := [], bounces := [], released := c.posted.length }

/-- DESTROY_MATCH closes the context, puts the tiles in order, and drops what the context's ring holds for it. -/
theorem execDestroyMatch_run (e : Env) (s : State) (id : Nat) (o : Op) (x : Nat) (c : Mctx) (hneed : (s.toModule.at e).needWq e 0 = s.toModule.at e)
    (hnext : (s.toModule.at e).adminNext 0x8F = some (id, o)) (hx : wqeField o.wqe 0x10 2 = x) (hlt : x < 4096) (m : Module)
    (hm : (s.toModule.at e).adminBegin id o = m) (hctx : m.mctx x = some c) (hstate : c.state ≠ .closing) (hunexp : m.mt.unexp = [])
    (hcr : ((m.closeMctx x c).cr c.cr).isSome = true) :
    execDestroyMatch e s = .next (s.upd fun _ =>
      if ((m.closeMctx x c).settle e).crActive c.cr then (m.closeMctx x c).settle e
      else ((m.closeMctx x c).settle e).discardHeld c.cr fun k => decide (k.owner = .mctx x)) := by
  have hneedCr : (m.closeMctx x c).needCr e c.cr = m.closeMctx x c := by simp only [Module.needCr, hcr, Bool.true_or, if_true]
  have hclose : (m.setUnexp []).setMctx x { c with state := .closing, posted := [], bounces := [], released := c.posted.length } =
    m.closeMctx x c := rfl
  rw [execDestroyMatch, State.admin_of_next _ _ _ _ _ _ hneed hnext]
  simp only [State.upd, hm, hx, Module.checked, hctx, hunexp, hlt, hstate, firstFail, decide_true, List.filter_nil, List.foldl_nil, List.map_nil,
    hclose, hneedCr, ne_eq, not_false_eq_true]

theorem twiceState_destroyMatch : ∃ t, execDestroyMatch ⟨0, []⟩ twiceState = .next t ∧ t.mctx 3 = some twiceRevived := by
  have hrun := execDestroyMatch_run ⟨0, []⟩ twiceState 1 twiceOp 3 (twiceCtx []) rfl (by decide) (by decide) (by decide) _ rfl
    rfl (by decide) rfl rfl
  refine ⟨_, hrun, ?_⟩
  have hclosed : (((twiceState.toModule.at ⟨0, []⟩).adminBegin 1 twiceOp).closeMctx 3 (twiceCtx [])).TwiceThree twiceClosed := ⟨rfl, rfl, rfl⟩
  have hsettle := hclosed.settle rfl
  simp only [State.upd]
  split
  · exact (hsettle.mctx 0 fun _ => true).1
  · exact (hsettle.mctx _ _).2

/-- Refutes O28: in `twiceState` DESTROY_MATCH leaves context 3 ACTIVE. The table names a number twice, which no run reaches, but the
clause asks for no table in canonical form. -/
theorem not_groupsAndContextsAreAdministered : ¬ Obligations.GroupsAndContextsAreAdministered := by
  rintro ⟨-, -, -, -, -, -, -, hDestroy, -⟩
  obtain ⟨t, ht, ⟨c, hc, hclosing, -⟩, -⟩ :=
    hDestroy 1 twiceOp ⟨0, []⟩ twiceState (twiceCtx []) twiceState_adminNext (by decide) rfl (by decide) rfl (by decide)
  obtain ⟨t', ht', hactive⟩ := twiceState_destroyMatch
  rw [exec_destroyMatch, ht'] at ht
  cases ht
  have hnum : wqeField twiceOp.wqe 0x10 2 = 3 := by decide
  rw [hnum, hactive] at hc
  cases hc
  exact absurd hclosing (by decide)

end Sys2Proof.Machine

/-! PROOFS. What the operations on ports and lanes keep: the fields, the clock and what has been sent. -/

namespace Sys2Proof.Machine

set_option Elab.async false

/-! ## What an operation keeps -/

/-- Two fields share no bit. -/
def Apart (f g : Fld) : Prop := g.reg = f.reg → g.hi < f.lo ∨ f.hi < g.lo

/-- An operation keeps the fields of a set, those of event causes and counters apart; causes that are set stay set; it keeps the clock, and
sends after what has been sent: messages of events alone, unless it is a loud one. -/
structure Module.Keeps (K : Fld → Prop) (loud : Bool) (m m' : Module) : Prop where
  field : ∀ f, Quiet f.reg → K f → m'.get f = m.get f
  cause : ∀ p c, c < 64 → m.get (F.cause p c) = 1 → m'.get (F.cause p c) = 1
  now : m'.now = m.now
  out : ∃ x, m'.out = m.out ++ x ∧ (loud = false → x.all Emit.isEvent = true)

section
variable {K : Fld → Prop} {loud : Bool} {m a b : Module}

theorem Module.Keeps.refl (m : Module) : Module.Keeps K loud m m := ⟨fun _ _ _ => rfl, fun _ _ _ h => h, rfl, [], by simp, fun _ => rfl⟩

theorem Module.Keeps.trans (h : Module.Keeps K loud m a) (k : Module.Keeps K loud a b) : Module.Keeps K loud m b := by
  obtain ⟨x, hx, hxe⟩ := h.out
  obtain ⟨y, hy, hye⟩ := k.out
  refine ⟨fun f hq hf => (k.field f hq hf).trans (h.field f hq hf), fun p c hc hs => k.cause p c hc (h.cause p c hc hs),
    k.now.trans h.now, x ++ y, by simp [hy, hx], fun hl => ?_⟩
  simp [hxe hl, hye hl]

theorem Module.Keeps.mono {K' : Fld → Prop} (h : Module.Keeps K loud m a) (hK : ∀ f, Quiet f.reg → K' f → K f) :
    Module.Keeps K' loud m a :=
  ⟨fun f hq hf => h.field f hq (hK f hq hf), h.cause, h.now, h.out⟩

/-- A change of the parts that are neither registers, clock nor output. -/
theorem Module.Keeps.same (h : Module.Keeps K loud m a) (hr : b.regs = a.regs) (hn : b.now = a.now) (ho : b.out = a.out) :
    Module.Keeps K loud m b := by
  have hget : ∀ f, b.get f = a.get f := fun f => by simp [Module.get, Module.word, hr]
  exact h.trans ⟨fun f _ _ => hget f, fun p c _ hs => (hget _).trans hs, hn, [], by simp [ho], fun _ => rfl⟩

theorem Module.Keeps.put (h : Module.Keeps K loud m a) (f : Fld) (v : Nat) (hf : f.lo ≤ f.hi) (h64 : f.hi < 64) (hq : Quiet f.reg)
    (hK : ∀ g, K g → Apart f g) : Module.Keeps K loud m (a.put f v) := by
  refine h.trans ⟨fun g _ hg => ?_, fun p c _ hs => ?_, rfl, [], by simp, fun _ => rfl⟩
  case refine_2 =>
    rwa [a.get_put_reg f _ v (by have := hq.1; simp only [F.cause]; omega)]
  by_cases hr : g.reg = f.reg
  · exact a.get_put_apart f g v hf h64 (hK g hg hr)
  · exact a.get_put_reg f g v hr

theorem Module.Keeps.emit (h : Module.Keeps K true m a) (x : Emit) : Module.Keeps K true m (a.emit x) :=
  h.trans ⟨fun f _ _ => by simp [Module.get], fun p c _ hs => by simpa [Module.get] using hs, rfl, [x], rfl, nofun⟩

end

theorem Module.countMsg_out (m : Module) (l : Nat) : ∃ x, (m.countMsg l).out = m.out ++ x ∧ x.all Emit.isEvent = true := by
  unfold Module.countMsg
  dsimp only
  split
  · split
    · unfold Module.ovfMessage
      split
      · exact ⟨[], by simp, rfl⟩
      · exact ⟨[.mmpMsg pgSample], by simp [Module.emit_out], rfl⟩
      next link v _ =>
        split
        · exact ⟨[], by simp [Module.pendVector], rfl⟩
        · exact ⟨[(((m.addCtr (pgHost l) 4 1).put (F.cause pgSample Ev.ctrOvf) 1).msixFn link).msg link v], by simp [Module.emit_out], rfl⟩
    · exact ⟨[], by simp, rfl⟩
  · exact ⟨[], by simp, rfl⟩

theorem Module.deliver_out (m : Module) (n : Nat) : ∃ x, (m.deliver n).out = m.out ++ x ∧ x.all Emit.isEvent = true := by
  unfold Module.deliver
  split
  · exact ⟨[], by simp, rfl⟩
  · exact ⟨[.mmpMsg n], by simp [Module.emit_out], rfl⟩
  next link v _ =>
    unfold Module.sendVector
    split
    · exact ⟨[], by simp [Module.pendVector], rfl⟩
    · obtain ⟨x, hx, he⟩ := (m.emit ((m.msixFn link).msg link v)).countMsg_out link
      exact ⟨(m.msixFn link).msg link v :: x, by simp [hx, Module.emit_out], by rw [List.all_cons, he]; rfl⟩

/-- An event sends nothing but its messages. -/
theorem Module.raise_out (m : Module) (p c : Nat) : ∃ x, (m.raise p c).out = m.out ++ x ∧ x.all Emit.isEvent = true := by
  unfold Module.raise Module.onRise
  split
  · exact Module.deliver_out _ p
  · exact ⟨[], by simp, rfl⟩

theorem Module.countUp_out (m : Module) (p n k : Nat) : ∃ x, (m.countUp p n k).out = m.out ++ x ∧ x.all Emit.isEvent = true := by
  unfold Module.countUp
  dsimp only
  split
  · obtain ⟨x, hx, he⟩ := (m.addCtr p n k).raise_out pgSample Ev.ctrOvf
    exact ⟨x, by simp [hx], he⟩
  · exact ⟨[], by simp, rfl⟩

/-- A cause that is set stays set when an event occurs. -/
theorem Module.raise_cause_set (m : Module) (p c page bit : Nat) (hc : c < 64) (hb : bit < 64) (h : m.get (F.cause page bit) = 1) :
    (m.raise p c).get (F.cause page bit) = 1 := by
  by_cases he : F.cause page bit = F.cause p c
  · rw [he]
    exact m.raise_cause p c hc
  refine Module.onRise_cause _ _ _ _ _ hb ?_
  by_cases hr : (F.cause page bit).reg = (F.cause p c).reg
  · have hbit : bit ≠ c := by
      rintro rfl
      exact he (by simp only [F.cause] at hr ⊢; rw [hr])
    rwa [m.get_put_apart _ _ _ (Nat.le_refl _) hc (by simp only [F.cause]; omega)]
  · rwa [m.get_put_reg _ _ _ hr]

theorem Module.countUp_cause_set (m : Module) (p n k page bit : Nat) (hn : n < 256) (hb : bit < 64) (h : m.get (F.cause page bit) = 1) :
    (m.countUp p n k).get (F.cause page bit) = 1 := by
  have hadd : (m.addCtr p n k).get (F.cause page bit) = 1 := by
    rw [Module.get, Module.addCtr_word _ _ _ _ _ (by simp only [F.cause]; omega), ← Module.get, h]
  unfold Module.countUp
  dsimp only
  split
  · exact Module.raise_cause_set _ _ _ _ _ (by decide) hb hadd
  · exact hadd

section
variable {K : Fld → Prop} {loud : Bool} {m a : Module}

theorem Module.Keeps.raise (h : Module.Keeps K loud m a) (p c : Nat) (hc : c < 64) : Module.Keeps K loud m (a.raise p c) := by
  obtain ⟨x, hx, he⟩ := a.raise_out p c
  exact h.trans ⟨fun f hq _ => by simp [Module.get, hq], fun q d hd => a.raise_cause_set p c q d hc hd, by simp, x, hx, fun _ => he⟩

theorem Module.Keeps.countUp (h : Module.Keeps K loud m a) (p n k : Nat) (hn : n < 256) : Module.Keeps K loud m (a.countUp p n k) := by
  obtain ⟨x, hx, he⟩ := a.countUp_out p n k
  exact h.trans ⟨fun f hq _ => by simp [Module.get, hq, hn], fun q d hd => a.countUp_cause_set p n k q d hn hd, by simp, x, hx, fun _ => he⟩

theorem Module.Keeps.count (h : Module.Keeps K loud m a) (p n : Nat) (hn : n < 256) : Module.Keeps K loud m (a.count p n) :=
  h.countUp p n 1 hn

theorem Module.Keeps.setPort (h : Module.Keeps K loud m a) (p : Nat) (q : Port) : Module.Keeps K loud m (a.setPort p q) := h.same rfl rfl rfl

theorem Module.Keeps.onPort (h : Module.Keeps K loud m a) (p : Nat) (f : Port → Port) : Module.Keeps K loud m (a.onPort p f) :=
  h.setPort p _

theorem Module.Keeps.onLane (h : Module.Keeps K loud m a) (n : Nat) (f : Lane → Lane) : Module.Keeps K loud m (a.onLane n f) :=
  h.same rfl rfl rfl

end

/-! ## Lanes -/

theorem quiet_rxsts (n : Nat) : Quiet (0x100058 + 0x1000 * n) := by constructor <;> omega
theorem quiet_scan (n : Nat) : Quiet (0x100068 + 0x1000 * n) := by constructor <;> omega

/-- The fields that a lane's operations here leave alone: those of other registers than RXSTS and SCAN of the lane, and `rev`. -/
def LaneKept (n : Nat) (f : Fld) : Prop := f.reg ≠ 0x100068 + 0x1000 * n ∧ (f.reg = 0x100058 + 0x1000 * n → f.hi = 55 ∧ f.lo = 55)

/-- A field of RXSTS beside `rev`. -/
theorem LaneKept.apart_rxsts {n : Nat} {g : Fld} (h : LaneKept n g) (hi lo : Nat) (hr : hi < 55 ∨ 55 < lo) :
    Apart ⟨0x100058 + 0x1000 * n, hi, lo⟩ g := by
  intro he
  obtain ⟨rhi, rlo⟩ := h.2 he
  simp only [rhi, rlo]
  omega

theorem LaneKept.apart_scan {n : Nat} {g : Fld} (h : LaneKept n g) (hi lo : Nat) : Apart ⟨0x100068 + 0x1000 * n, hi, lo⟩ g :=
  fun he => absurd he h.1

section
variable {loud : Bool} {m a : Module} {n : Nat}

/-- A field of RXSTS other than `rev` is written. -/
theorem Module.Keeps.putRxsts (h : Module.Keeps (LaneKept n) loud m a) (hi lo v : Nat) (hw : lo ≤ hi ∧ hi < 64 ∧ (hi < 55 ∨ 55 < lo)) :
    Module.Keeps (LaneKept n) loud m (a.put ⟨0x100058 + 0x1000 * n, hi, lo⟩ v) :=
  h.put _ v hw.1 hw.2.1 (quiet_rxsts n) fun _ hg => hg.apart_rxsts hi lo hw.2.2

theorem Module.Keeps.putScan (h : Module.Keeps (LaneKept n) loud m a) (hi lo v : Nat) (hw : lo ≤ hi ∧ hi < 64) :
    Module.Keeps (LaneKept n) loud m (a.put ⟨0x100068 + 0x1000 * n, hi, lo⟩ v) :=
  h.put _ v hw.1 hw.2 (quiet_scan n) fun _ hg => hg.apart_scan hi lo

theorem Module.Keeps.abortScan (h : Module.Keeps (LaneKept n) loud m a) : Module.Keeps (LaneKept n) loud m (a.abortScan n) := by
  unfold Module.abortScan
  split
  · exact ((h.putScan 62 62 0 (by decide)).putScan 61 60 1 (by decide)).raise _ _ (by decide)
  · exact h

theorem Module.Keeps.setStage (h : Module.Keeps (LaneKept n) loud m a) (st : Nat) : Module.Keeps (LaneKept n) loud m (a.setStage n st) :=
  (h.putRxsts 63 61 st (by decide)).onLane n _

end

section
variable {K : Fld → Prop} {m a : Module}

/-- What error injection counts is in a counter. -/
theorem Module.Keeps.settleInjection {loud : Bool} (h : Module.Keeps K loud m a) (n : Nat) : Module.Keeps K loud m (a.settleInjection n) := by
  unfold Module.settleInjection
  split
  · exact h
  · exact (h.onLane n _).countUp _ _ _ (by decide)

theorem Module.Keeps.injUpdate (h : Module.Keeps K true m a) (n : Nat) : Module.Keeps K true m (a.injUpdate n) := by
  unfold Module.injUpdate
  dsimp only
  split
  · split
    · exact (h.onLane n _).emit _
    · exact h
  · split
    · exact h
    · split
      · exact ((h.settleInjection n).onLane n _).emit _
      · exact ((h.settleInjection n).onLane n _).emit _

end

section
variable {m a : Module} {n : Nat}

/-- What follows once a lane's stage is set: nothing but its counter, its injection and what it sends. -/
theorem Module.Keeps.startLane_tail {K : Fld → Prop} (h : Module.Keeps K true m a) (x : Emit) :
    Module.Keeps K true m (((a.count (pgLane n) 2).injUpdate n).emit x) := ((h.count _ 2 (by decide)).injUpdate n).emit x

theorem Module.Keeps.startLane (h : Module.Keeps (LaneKept n) true m a) (added : Bool) :
    Module.Keeps (LaneKept n) true m (a.startLane n added) := by
  unfold Module.startLane
  refine .startLane_tail (.setStage (.putRxsts (.putRxsts (.putRxsts (.putRxsts (.putRxsts (.putRxsts (.onLane h.abortScan n _)
    60 60 0 ?_) 59 59 0 ?_) 58 58 0 ?_) 56 56 0 ?_) 54 53 0 ?_) 52 52 _ ?_) lgPower) _
  all_goals decide

theorem Module.Keeps.standbyLane (h : Module.Keeps (LaneKept n) true m a) : Module.Keeps (LaneKept n) true m (a.standbyLane n) := by
  unfold Module.standbyLane
  refine .emit (.injUpdate (.setStage (.putRxsts (.putRxsts (.onLane h.abortScan n _) 60 60 0 ?_) 59 59 1 ?_) lgOff) n) _
  all_goals decide

theorem Module.Keeps.dropSaved {loud : Bool} (h : Module.Keeps (LaneKept n) loud m a) : Module.Keeps (LaneKept n) loud m (a.dropSaved n) :=
  (h.onLane n _).putRxsts 52 52 0 (by decide)

end

theorem Module.get_onLane (m : Module) (n : Nat) (l : Lane → Lane) (f : Fld) : (m.onLane n l).get f = m.get f := rfl

theorem Module.laneStage_setStage (m : Module) (n st : Nat) : (m.setStage n st).laneStage n = st % 8 := by
  rw [Module.laneStage, Module.setStage, Module.get_onLane, Module.get_put_same _ _ _ (by simp [F.laneRxstsStage]) (by simp [F.laneRxstsStage])]
  simp [F.laneRxstsStage]

/-- An operation that keeps every quiet field keeps the stage of a lane. -/
theorem Module.Keeps.laneStage {loud : Bool} {m a : Module} (h : Module.Keeps (fun _ => True) loud m a) (n : Nat) :
    a.laneStage n = m.laneStage n := h.field (F.laneRxstsStage n) (quiet_rxsts n) trivial

theorem Module.laneStage_startLane_tail (m : Module) (n : Nat) (x : Emit) :
    ((((m.setStage n lgPower).count (pgLane n) 2).injUpdate n).emit x).laneStage n = lgPower := by
  rw [((Module.Keeps.refl _).startLane_tail x).laneStage, Module.laneStage_setStage]
  rfl

theorem Module.laneStage_startLane (m : Module) (n : Nat) (added : Bool) : (m.startLane n added).laneStage n = lgPower := by
  unfold Module.startLane
  exact Module.laneStage_startLane_tail _ n _

theorem Module.laneStage_standbyLane_tail (m : Module) (n : Nat) (x : Emit) :
    (((m.setStage n lgOff).injUpdate n).emit x).laneStage n = lgOff := by
  rw [(((Module.Keeps.refl _).injUpdate n).emit x).laneStage, Module.laneStage_setStage]
  rfl

theorem Module.laneStage_standbyLane (m : Module) (n : Nat) : (m.standbyLane n).laneStage n = lgOff := by
  unfold Module.standbyLane
  exact Module.laneStage_standbyLane_tail _ n _

theorem Module.laneStage_dropSaved (m : Module) (n k : Nat) : (m.dropSaved n).laneStage k = m.laneStage k :=
  (Module.get_put_apart _ _ _ _ (by simp [F.laneRxstsSaved]) (by simp [F.laneRxstsSaved]) (by simp [F.laneRxstsSaved, F.laneRxstsStage])).trans rfl

/-! The ports of a module do not see its lanes. -/

@[simp] theorem Module.setStage_ports (m : Module) (n st : Nat) : (m.setStage n st).n.ports = m.n.ports := by simp [Module.setStage, Module.onLane]

@[simp] theorem Module.abortScan_ports (m : Module) (n : Nat) : (m.abortScan n).n.ports = m.n.ports := by
  unfold Module.abortScan
  split <;> simp

@[simp] theorem Module.settleInjection_ports (m : Module) (n : Nat) : (m.settleInjection n).n.ports = m.n.ports := by
  unfold Module.settleInjection
  split <;> simp [Module.onLane]

@[simp] theorem Module.injUpdate_ports (m : Module) (n : Nat) : (m.injUpdate n).n.ports = m.n.ports := by
  unfold Module.injUpdate
  dsimp only
  repeat' split
  all_goals simp [Module.onLane]

@[simp] theorem Module.startLane_ports (m : Module) (n : Nat) (added : Bool) : (m.startLane n added).n.ports = m.n.ports := by
  simp [Module.startLane, Module.onLane, Module.count]

@[simp] theorem Module.standbyLane_ports (m : Module) (n : Nat) : (m.standbyLane n).n.ports = m.n.ports := by
  simp [Module.standbyLane, Module.onLane]

@[simp] theorem Module.dropSaved_ports (m : Module) (n : Nat) : (m.dropSaved n).n.ports = m.n.ports := by
  simp [Module.dropSaved, Module.onLane]

end Sys2Proof.Machine

/-! PROOFS. Ports: control flits at a packet boundary, the state of a spare, and the lanes that a quad's positions name (R35–R37, R541). -/

namespace Sys2Proof.Machine

set_option Elab.async false

/-! ## Ports -/

theorem KMap.put_put {V : Type} (l : List (Nat × V)) (k : Nat) (v w : V) : KMap.put (KMap.put l k v) k w = KMap.put l k w := by
  induction l with
  | nil => simp [KMap.put]
  | cons x l ih =>
    obtain ⟨j, u⟩ := x
    rcases lt_trichotomy k j with h | rfl | h
    · simp [KMap.put, h]
    · simp [KMap.put]
    · simp [KMap.put, h.not_gt, h.ne', ih]

@[simp] theorem Module.port_setPort (m : Module) (p : Nat) (q : Port) : (m.setPort p q).port p = q := by
  simp [Module.port, Module.setPort]

@[simp] theorem Module.port_onPort (m : Module) (p : Nat) (f : Port → Port) : (m.onPort p f).port p = f (m.port p) := by
  simp [Module.onPort]

theorem Module.setPort_setPort (m : Module) (p : Nat) (q r : Port) : (m.setPort p q).setPort p r = m.setPort p r := by
  simp [Module.setPort, KMap.put_put]

/-- A module's ports are those of one with the same table of ports. -/
theorem Module.port_congr {m m' : Module} (h : m'.n.ports = m.n.ports) (p : Nat) : m'.port p = m.port p := by
  rw [Module.port, Module.port, h]

theorem Module.setPort_frame (m : Module) (p : Nat) (q : Port) : Module.Frame [.n] m (m.setPort p q) := by
  intro r hr
  cases r <;> simp_all [Part.same, Module.setPort]

/-! ## Control flits at a packet boundary -/

/-- A port that is up stands at a packet boundary and owes nothing. -/
structure Module.AtBoundary (m : Module) (p : Nat) : Prop where
  up : m.isUp p = true
  owes : (m.port p).owes = []
  busy : (m.port p).busy ≤ m.now * 1000

/-- A port that owes nothing sends a control flit: its type and body. -/
def Module.flitOut (m : Module) (p t : Nat) (b : List Byte) : Module :=
  ((m.setPort p (m.port p)).emit (.flit p (ctlFlit t b))).count (pgPort p) 0

theorem Module.flushCtl_boundary (m : Module) (p : Nat) (q : Port) (c : Ctl) (hup : m.isUp p = true) (hbusy : q.busy ≤ m.now * 1000)
    (hq : q.owes = [c]) (hc : sortOwed [c] = [c]) :
    (m.setPort p q).flushCtl p = (m.setPort p { q with owes := [] }).sendFlit p c := by
  have hst : (m.setPort p q).lstate p = lsUp := of_decide_eq_true hup
  have hnow : ¬ (m.setPort p q).now * 1000 < q.busy := Nat.not_lt.mpr hbusy
  simp only [Module.flushCtl, hst, Module.port_setPort, hnow, hq, hc, Module.setPort_setPort, List.foldl_cons, List.foldl_nil]
  simp

theorem Port.owing_nothing (q : Port) (h : q.owes = []) : { q with owes := [] } = q := by
  cases q
  cases h
  rfl

/-- What a port owes at a boundary goes out at once. -/
theorem Module.owe_boundary {m : Module} {p : Nat} (h : m.AtBoundary p) (c : Ctl) (hc : sortOwed [c] = [c]) :
    m.owe p c = (m.setPort p (m.port p)).sendFlit p c :=
  (m.flushCtl_boundary p { m.port p with owes := (m.port p).owes ++ [c] } c h.up h.busy (by simp [h.owes]) hc).trans
    (congrArg (fun q => (m.setPort p q).sendFlit p c) ((m.port p).owing_nothing h.owes))

theorem Module.owe_spare {m : Module} {p : Nat} (h : m.AtBoundary p) (op pos : Nat) :
    m.owe p (.spare op pos) = m.flitOut p 6 [BitVec.ofNat 8 op, BitVec.ofNat 8 pos] :=
  Module.owe_boundary h (.spare op pos) rfl

theorem Module.owe_width {m : Module} {p : Nat} (h : m.AtBoundary p) (op w : Nat) (forced : Bool) (mask id : Nat) :
    m.owe p (.width op w forced mask id) =
      m.flitOut p 5 [BitVec.ofNat 8 op, BitVec.ofNat 8 (w + 128 * b2n forced), BitVec.ofNat 8 mask, BitVec.ofNat 8 id] :=
  Module.owe_boundary h (.width op w forced mask id) rfl

@[simp] theorem Module.port_flitOut (m : Module) (p t : Nat) (b : List Byte) : (m.flitOut p t b).port p = m.port p := by
  have h : (m.flitOut p t b).n = (m.setPort p (m.port p)).n := by simp [Module.flitOut, Module.count]
  rw [Module.port, h]
  exact m.port_setPort p _

theorem Module.flitOut_frame (m : Module) (p t : Nat) (b : List Byte) : Module.Frame [.regs, .msix, .out, .n] m (m.flitOut p t b) :=
  (((m.setPort_frame p _).mono (by simp)).trans ((Module.emit_frame _ _).mono (by simp))).trans ((Module.countUp_frame _ _ _ _).mono (by simp))

/-- The flit goes out behind what has been sent; messages of events may follow. -/
theorem Module.flitOut_out (m : Module) (p t : Nat) (b : List Byte) :
    ∃ x, (m.flitOut p t b).out = m.out ++ [.flit p (ctlFlit t b)] ++ x ∧ x.all Emit.isEvent = true := by
  obtain ⟨x, hx, he⟩ := ((m.setPort p (m.port p)).emit (.flit p (ctlFlit t b))).countUp_out (pgPort p) 0 1
  exact ⟨x, hx, he⟩

section
variable {K : Fld → Prop} {loud : Bool} {m a : Module} {p : Nat}

theorem Module.Keeps.flitOut (h : Module.Keeps K true m a) (p t : Nat) (b : List Byte) : Module.Keeps K true m (a.flitOut p t b) :=
  (((h.setPort p _).emit _).count _ 0 (by decide))

theorem quiet_lsts (p : Nat) : Quiet (0x80040 + 0x1000 * p) := by constructor <;> omega
theorem quiet_lwid (p : Nat) : Quiet (0x80058 + 0x1000 * p) := by constructor <;> omega
theorem quiet_spare (p : Nat) : Quiet (0x80070 + 0x1000 * p) := by constructor <;> omega

theorem Module.Keeps.lstate (h : Module.Keeps K loud m a) (hK : K (F.portLstsState p)) : a.lstate p = m.lstate p :=
  h.field (F.portLstsState p) (quiet_lsts p) hK

/-- A boundary lasts while the link's state and what its port owes and sends stay. -/
theorem Module.AtBoundary.of_keeps (hb : m.AtBoundary p) (h : Module.Keeps K loud m a) (hK : K (F.portLstsState p))
    (ho : (a.port p).owes = (m.port p).owes) (hbusy : (a.port p).busy = (m.port p).busy) : a.AtBoundary p :=
  ⟨by rw [Module.isUp, h.lstate hK]; exact hb.up, ho.trans hb.owes, by rw [hbusy, h.now]; exact hb.busy⟩

end

/-! ## SPARE.state -/

/-- The fields that a change of SPARE.state leaves alone: all but `state` of SPARE, and `wchg` of LSTS. -/
def SpareKept (p : Nat) (f : Fld) : Prop :=
  (f.reg = 0x80070 + 0x1000 * p → f.hi < 59 ∨ 61 < f.lo) ∧ (f.reg = 0x80040 + 0x1000 * p → f.hi < 58 ∨ 58 < f.lo)

section
variable {K : Fld → Prop} {loud : Bool} {m a : Module} {p : Nat}

theorem Module.Keeps.showWchg (h : Module.Keeps K loud m a) (hK : ∀ f, K f → f.reg = 0x80040 + 0x1000 * p → f.hi < 58 ∨ 58 < f.lo) :
    Module.Keeps K loud m (a.showWchg p) :=
  h.put (F.portLstsWchg p) _ (by simp [F.portLstsWchg]) (by simp [F.portLstsWchg]) (quiet_lsts p) fun g hg he => hK g hg he

theorem Module.Keeps.spareState (h : Module.Keeps K loud m a) (st : Nat) (hK : ∀ f, K f → SpareKept p f) :
    Module.Keeps K loud m (a.spareState p st) :=
  ((h.put (F.portSpareState p) st (by simp [F.portSpareState]) (by simp [F.portSpareState]) (quiet_spare p)
    fun g hg he => (hK g hg).1 he).raise _ _ (by decide)).showWchg fun g hg => (hK g hg).2

end

theorem Module.showWchg_frame (m : Module) (p : Nat) : Module.Frame [.regs] m (m.showWchg p) := m.put_frame _ _

@[simp] theorem Module.showWchg_n (m : Module) (p : Nat) : (m.showWchg p).n = m.n := by simp [Module.showWchg]

@[simp] theorem Module.spareState_n (m : Module) (p st : Nat) : (m.spareState p st).n = m.n := by simp [Module.spareState]

theorem Module.spareState_frame (m : Module) (p st : Nat) : Module.Frame [.regs, .msix, .out] m (m.spareState p st) :=
  (((m.put_frame _ _).mono (by simp)).trans (Module.raise_frame _ _ _)).trans ((Module.showWchg_frame _ p).mono (by simp))

theorem Module.get_spareState (m : Module) (p st : Nat) : (m.spareState p st).get (F.portSpareState p) = st % 8 := by
  have h : Module.Keeps (fun f => f.reg = 0x80070 + 0x1000 * p) false (m.put (F.portSpareState p) st) (m.spareState p st) :=
    ((Module.Keeps.refl _).raise _ _ (by decide)).showWchg fun f hf he => by omega
  rw [h.field _ (quiet_spare p) rfl, Module.get_put_same _ _ _ (by simp [F.portSpareState]) (by simp [F.portSpareState])]
  simp [F.portSpareState]

theorem Module.cause_spareState (m : Module) (p st : Nat) : (m.spareState p st).get (F.cause (pgPort p) Ev.spare) = 1 := by
  have h : Module.Keeps (fun f => f.reg = 0x80070 + 0x1000 * p) false ((m.put (F.portSpareState p) st).raise (pgPort p) Ev.spare)
      (m.spareState p st) := (Module.Keeps.refl _).showWchg fun f hf he => by omega
  exact h.cause _ _ (by decide) (Module.raise_cause _ _ _ (by decide))

/-- While a substitution is asked for or trained, a change of the link is in progress. -/
theorem Module.wchg_spareState (m : Module) (p st : Nat) (h : st = 1 ∨ st = 2) : (m.spareState p st).get (F.portLstsWchg p) = 1 := by
  have hst : ((m.put (F.portSpareState p) st).raise (pgPort p) Ev.spare).get (F.portSpareState p) = st := by
    rw [Module.get_raise _ _ _ _ ((quiet_spare p).not_eventRegs _),
      Module.get_put_same _ _ _ (by simp [F.portSpareState]) (by simp [F.portSpareState])]
    rcases h with rfl | rfl <;> simp [F.portSpareState]
  rw [Module.spareState, Module.showWchg, Module.putFlag, Module.get_put_same _ _ _ (by simp [F.portLstsWchg]) (by simp [F.portLstsWchg]), hst]
  rcases h with rfl | rfl <;> simp [F.portLstsWchg, b2n]

/-! ## The lanes of a quad's positions -/

/-- The fields that say which lanes a port's positions name. -/
def LaneMap (p : Nat) (f : Fld) : Prop := f = F.portLstsSpare p ∨ f = F.portLstsSparePos p ∨ ∃ n, f = F.laneRxstsRev n

theorem LaneMap.quiet {p : Nat} {f : Fld} (h : LaneMap p f) : Quiet f.reg := by
  rcases h with rfl | rfl | ⟨n, rfl⟩
  · exact quiet_lsts p
  · exact quiet_lsts p
  · exact quiet_rxsts n

section
variable {m a : Module} {p : Nat}

theorem Module.laneAt_congr (h : ∀ f, LaneMap p f → a.get f = m.get f) : a.laneAt p = m.laneAt p := by
  funext pos
  unfold Module.laneAt Module.flag
  rw [h (F.portLstsSpare p) (.inl rfl), h (F.portLstsSparePos p) (.inr (.inl rfl))]

theorem Module.logical_congr (h : ∀ f, LaneMap p f → a.get f = m.get f) : a.logical p = m.logical p := by
  have hr : (fun n => a.flag (F.laneRxstsRev n)) = fun n => m.flag (F.laneRxstsRev n) := by
    funext n
    rw [Module.flag, Module.flag, h _ (.inr (.inr ⟨n, rfl⟩))]
  have hrev : a.reversed p = m.reversed p := by
    rw [Module.reversed, Module.reversed, Module.lanesOf, Module.lanesOf, Module.laneAt_congr h, hr]
  funext pos
  rw [Module.logical, Module.logical, hrev]

theorem Module.laneMask_congr (h : ∀ f, LaneMap p f → a.get f = m.get f) (f : Nat → Bool) : a.laneMask p f = m.laneMask p f := by
  rw [Module.laneMask, Module.laneMask, Module.laneAt_congr h, Module.logical_congr h]

theorem Module.lanesIn_congr (h : ∀ f, LaneMap p f → a.get f = m.get f) (mask : Nat) : a.lanesIn p mask = m.lanesIn p mask := by
  have hof : a.laneOfLogical p = m.laneOfLogical p := by
    funext pos
    rw [Module.laneOfLogical, Module.laneOfLogical, Module.laneAt_congr h, Module.logical_congr h]
  rw [Module.lanesIn, Module.lanesIn, hof]

theorem Module.Keeps.laneMap {K : Fld → Prop} {loud : Bool} (h : Module.Keeps K loud m a) (hK : ∀ f, LaneMap p f → K f) :
    ∀ f, LaneMap p f → a.get f = m.get f := fun f hf => h.field f hf.quiet (hK f hf)

end

end Sys2Proof.Machine

/-! PROOFS. A spare that is steered into a quad, or out of it (R36, R541, R542, R561). -/

namespace Sys2Proof.Machine

set_option Elab.async false

/-! ## Two lanes of a duo -/

/-- The fields that operations on two neighbouring lanes leave alone. -/
def PairKept (n : Nat) (f : Fld) : Prop := LaneKept n f ∧ LaneKept (n + 1) f

theorem laneKept_stage {n k : Nat} (h : k ≠ n) : LaneKept n (F.laneRxstsStage k) := by
  simp only [LaneKept, F.laneRxstsStage]
  omega

theorem laneKept_rev (n k : Nat) : LaneKept n (F.laneRxstsRev k) :=
  ⟨by simp only [F.laneRxstsRev]; omega, fun _ => ⟨rfl, rfl⟩⟩

/-- Registers of other pages than the lane's. -/
theorem laneKept_page {n : Nat} {f : Fld} (h : f.reg < 0x100000) : LaneKept n f := ⟨by omega, fun he => by omega⟩

theorem laneKept_map {p : Nat} (hp : p < 48) (n : Nat) {f : Fld} (h : LaneMap p f) : LaneKept n f := by
  rcases h with rfl | rfl | ⟨k, rfl⟩
  · exact laneKept_page (by simp only [F.portLstsSpare]; omega)
  · exact laneKept_page (by simp only [F.portLstsSparePos]; omega)
  · exact laneKept_rev n k

/-- A lane goes back to standby, its saved state discarded. -/
def Module.retireLane (m : Module) (n : Nat) : Module := (m.standbyLane n).dropSaved n

@[simp] theorem Module.retireLane_ports (m : Module) (n : Nat) : (m.retireLane n).n.ports = m.n.ports := by simp [Module.retireLane]

theorem Module.laneStage_retireLane (m : Module) (n : Nat) : (m.retireLane n).laneStage n = lgOff := by
  rw [Module.retireLane, Module.laneStage_dropSaved, Module.laneStage_standbyLane]

/-- Two lanes go back to standby. -/
def Module.retirePair (m : Module) (n : Nat) : Module := (m.retireLane n).retireLane (n + 1)

@[simp] theorem Module.retirePair_ports (m : Module) (n : Nat) : (m.retirePair n).n.ports = m.n.ports := by simp [Module.retirePair]

section
variable {K : Fld → Prop} {m a : Module} {n : Nat}

theorem Module.Keeps.retireLane (h : Module.Keeps K true m a) (hK : ∀ f, K f → LaneKept n f) : Module.Keeps K true m (a.retireLane n) :=
  h.trans ((Module.Keeps.refl a).standbyLane.dropSaved.mono fun f _ => hK f)

theorem Module.Keeps.retirePair (h : Module.Keeps K true m a) (hK : ∀ f, K f → PairKept n f) : Module.Keeps K true m (a.retirePair n) :=
  (h.retireLane fun f hf => (hK f hf).1).retireLane fun f hf => (hK f hf).2

/-- The saved state of two lanes is discarded. -/
theorem Module.Keeps.dropPair {loud : Bool} (h : Module.Keeps K loud m a) (hK : ∀ f, K f → PairKept n f) :
    Module.Keeps K loud m ((a.dropSaved n).dropSaved (n + 1)) :=
  (h.trans ((Module.Keeps.refl a).dropSaved.mono fun f _ hf => (hK f hf).1)).trans
    ((Module.Keeps.refl _).dropSaved.mono fun f _ hf => (hK f hf).2)

end

theorem Module.laneStage_retirePair (m : Module) (n i : Nat) (hi : i < 2) : (m.retirePair n).laneStage (n + i) = lgOff := by
  obtain rfl | rfl : i = 0 ∨ i = 1 := by omega
  · have h : Module.Keeps (fun f => f = F.laneRxstsStage n) true (m.retireLane n) (m.retirePair n) :=
      (Module.Keeps.refl _).retireLane fun f hf => hf ▸ laneKept_stage (by omega)
    exact (h.field _ (quiet_rxsts n) rfl).trans (m.laneStage_retireLane n)
  · exact Module.laneStage_retireLane _ (n + 1)

/-! ## The spare goes back -/

theorem Module.unsteer_eq (m : Module) (p : Nat) :
    m.unsteer p = (((m.retirePair (2 * spareOf p)).put (F.portLstsSpare p) 0).put (F.portLstsState (spareOf p)) lsDown).spareState p 0 := rfl

@[simp] theorem Module.unsteer_ports (m : Module) (p : Nat) : (m.unsteer p).n.ports = m.n.ports := by simp [Module.unsteer_eq]

theorem spareOf_cases (p : Nat) : spareOf p = 46 ∨ spareOf p = 47 := by
  unfold spareOf
  split <;> simp

theorem quad_lt {p : Nat} (hq : isQuadDuo p = true) : 30 ≤ p ∧ p < 46 := by simpa [isQuadDuo] using hq

/-- What the return of a spare leaves alone: the registers below its own lanes' pages, but SPARE.state, `wchg` and `spare` of LSTS, and the
state of the spare duo. -/
def UnsteerKept (p : Nat) (f : Fld) : Prop :=
  PairKept (2 * spareOf p) f ∧ Apart (F.portLstsSpare p) f ∧ Apart (F.portLstsState (spareOf p)) f ∧ SpareKept p f

theorem Module.Keeps.unsteer {K : Fld → Prop} {m a : Module} {p : Nat} (h : Module.Keeps K true m a) (hK : ∀ f, K f → UnsteerKept p f) :
    Module.Keeps K true m (a.unsteer p) := by
  rw [Module.unsteer_eq]
  refine Module.Keeps.spareState (.put (.put (h.retirePair fun f hf => (hK f hf).1) _ 0 ?_ ?_ (quiet_lsts p) fun f hf => (hK f hf).2.1)
    _ _ ?_ ?_ (quiet_lsts _) fun f hf => (hK f hf).2.2.1) 0 fun f hf => (hK f hf).2.2.2
  all_goals simp [F.portLstsSpare, F.portLstsState]

/-- The spare is back in standby. -/
structure Module.SpareBack (m : Module) (p : Nat) : Prop where
  spare : m.get (F.portLstsSpare p) = 0
  state : m.get (F.portSpareState p) = 0
  link : m.lstate (spareOf p) = lsDown
  lanes : ∀ i < 2, m.laneStage (2 * spareOf p + i) = lgOff

theorem spareKept_lsts {p : Nat} {f : Fld} (hf : f.reg ≠ 0x80070 + 0x1000 * p) (h : f.hi < 58 ∨ 58 < f.lo) : SpareKept p f :=
  ⟨fun he => absurd he hf, fun _ => h⟩

theorem Module.unsteer_spareBack (m : Module) (p : Nat) (hq : isQuadDuo p = true) : (m.unsteer p).SpareBack p := by
  obtain ⟨h30, h46⟩ := quad_lt hq
  have hsp := spareOf_cases p
  rw [Module.unsteer_eq]
  have hkeep := fun (K : Fld → Prop) (m : Module) (hK : ∀ f, K f → SpareKept p f) =>
    (Module.Keeps.refl (K := K) (loud := false) m).spareState 0 hK
  refine ⟨?spare, Module.get_spareState _ p 0, ?link, fun i hi => ?lanes⟩
  case spare =>
    rw [(hkeep (· = F.portLstsSpare p) _ fun f hf => hf ▸ spareKept_lsts (by simp only [F.portLstsSpare]; omega) (by simp [F.portLstsSpare])).field
        _ (quiet_lsts p) rfl,
      Module.get_put_reg _ _ _ _ (by simp only [F.portLstsSpare, F.portLstsState]; omega),
      Module.get_put_same _ _ _ (by simp [F.portLstsSpare]) (by simp [F.portLstsSpare])]
    simp
  case link =>
    rw [(hkeep (· = F.portLstsState (spareOf p)) _ fun f hf => hf ▸ spareKept_lsts (by simp only [F.portLstsState]; omega)
        (by simp [F.portLstsState])).lstate rfl, Module.lstate,
      Module.get_put_same _ _ _ (by simp [F.portLstsState]) (by simp [F.portLstsState])]
    simp [F.portLstsState, lsDown]
  case lanes =>
    have hstage : (F.laneRxstsStage (2 * spareOf p + i)).reg = 0x100058 + 0x1000 * (2 * spareOf p + i) := rfl
    rw [Module.laneStage, (hkeep (· = F.laneRxstsStage (2 * spareOf p + i)) _ fun f hf => hf ▸ spareKept_lsts (by omega)
        (by simp [F.laneRxstsStage])).field _ (quiet_rxsts _) rfl,
      Module.get_put_reg _ _ _ _ (by simp only [F.portLstsState]; omega), Module.get_put_reg _ _ _ _ (by simp only [F.portLstsSpare]; omega)]
    exact m.laneStage_retirePair _ i hi

/-- What the return of a spare shows stays, where an operation keeps the fields that show it. -/
theorem Module.SpareBack.of_keeps {K : Fld → Prop} {loud : Bool} {m a : Module} {p : Nat} (h : m.SpareBack p) (hk : Module.Keeps K loud m a)
    (hspare : K (F.portLstsSpare p)) (hstate : K (F.portSpareState p)) (hlink : K (F.portLstsState (spareOf p)))
    (hlanes : ∀ i < 2, K (F.laneRxstsStage (2 * spareOf p + i))) : a.SpareBack p :=
  ⟨(hk.field _ (quiet_lsts p) hspare).trans h.spare, (hk.field _ (quiet_spare p) hstate).trans h.state, (hk.lstate hlink).trans h.link,
    fun i hi => (hk.field _ (quiet_rxsts _) (hlanes i hi)).trans (h.lanes i hi)⟩

/-! ## Lanes that come up -/

/-- Lanes of a list that are not in RUN start. -/
def Module.startLanes (m : Module) (l : List Nat) : Module :=
  l.foldl (fun m n => if m.laneStage n = lgRun then m else m.startLane n true) m

theorem Module.startLanes_cons (m : Module) (n : Nat) (l : List Nat) :
    m.startLanes (n :: l) = (if m.laneStage n = lgRun then m else m.startLane n true).startLanes l := rfl

@[simp] theorem Module.startLanes_ports (l : List Nat) : ∀ m : Module, (m.startLanes l).n.ports = m.n.ports := by
  induction l with
  | nil => exact fun _ => rfl
  | cons n l ih =>
    intro m
    rw [m.startLanes_cons, ih]
    split <;> simp

theorem Module.Keeps.startLanes {K : Fld → Prop} (l : List Nat) : ∀ {m a : Module}, Module.Keeps K true m a →
    (∀ n ∈ l, ∀ f, K f → LaneKept n f) → Module.Keeps K true m (a.startLanes l) := by
  induction l with
  | nil => exact fun h _ => h
  | cons n l ih =>
    intro m a h hK
    rw [a.startLanes_cons]
    refine ih ?_ fun k hk => hK k (List.mem_cons_of_mem _ hk)
    split
    · exact h
    · exact h.trans (((Module.Keeps.refl a).startLane true).mono fun f _ => hK n List.mem_cons_self f)

/-- Two lanes that do not run stand in POWER once they have started. -/
theorem Module.laneStage_startLanes_pair (m : Module) (a b : Nat) (hab : a ≠ b) (ha : m.laneStage a ≠ lgRun) (hb : m.laneStage b ≠ lgRun) :
    (m.startLanes [a, b]).laneStage a = lgPower ∧ (m.startLanes [a, b]).laneStage b = lgPower := by
  have hkeep : ∀ (m : Module) (k n : Nat), k ≠ n → (m.startLane n true).laneStage k = m.laneStage k := fun m k n hkn =>
    ((Module.Keeps.refl m).startLane true).field _ (quiet_rxsts k) (laneKept_stage hkn)
  have hb' : (m.startLane a true).laneStage b ≠ lgRun := by rwa [hkeep m b a hab.symm]
  have heq : m.startLanes [a, b] = (m.startLane a true).startLane b true := by
    rw [Module.startLanes_cons, if_neg ha, Module.startLanes_cons, if_neg hb']
    rfl
  rw [heq]
  exact ⟨(hkeep _ a b hab).trans (m.laneStage_startLane a true), Module.laneStage_startLane _ b true⟩

/-! ## The spare goes in -/

/-- The mask of the two logical positions of a duo of a quad. -/
def Module.duoMask (m : Module) (p pos : Nat) : Nat := [2 * pos, 2 * pos + 1].foldl (fun a i => a + 2 ^ m.logical p i) 0

/-- Where the spare stands in for a position, the lanes of the position's mask are the spare's, in either order. -/
theorem Module.lanesIn_duoMask (m : Module) (p pos : Nat) (hq : isQuadDuo p = true) (hpos : pos < 2) (hspare : m.get (F.portLstsSpare p) = 1)
    (hat : m.get (F.portLstsSparePos p) = pos) :
    m.lanesIn p (m.duoMask p pos) = [2 * spareOf p, 2 * spareOf p + 1] ∨ m.lanesIn p (m.duoMask p pos) = [2 * spareOf p + 1, 2 * spareOf p] := by
  have hwidth : fullWidth p = 2 := by simp [fullWidth, hq]
  have hlane : ∀ k, m.laneAt p k = if k / 2 = pos then 2 * spareOf p + k % 2 else 60 + 2 * (p - 30) + k := fun k => by
    simp [Module.laneAt, hq, Module.flag, hspare, hat]
  have hlow : (List.range 4).filter (fun i => nbit 3 i) = [0, 1] := by decide
  have hhigh : (List.range 4).filter (fun i => nbit 12 i) = [2, 3] := by decide
  unfold Module.lanesIn Module.duoMask Module.laneOfLogical
  cases hrev : m.reversed p
  · left
    have hlog : ∀ k, m.logical p k = k := fun k => by simp [Module.logical, hrev]
    obtain rfl | rfl : pos = 0 ∨ pos = 1 := by omega
    · simp [hlog, hlane, hwidth, hlow]
    · simp [hlog, hlane, hwidth, hhigh]
  · right
    have hlog : ∀ k, m.logical p k = 3 - k := fun k => by simp [Module.logical, hrev, hwidth]
    obtain rfl | rfl : pos = 0 ∨ pos = 1 := by omega
    · simp [hlog, hlane, hwidth, hhigh]
    · simp [hlog, hlane, hwidth, hlow]

/-- A substitution begins: the position's lanes rest, LSTS names the spare, whose lanes have no saved state, and SPARE.state is 2. -/
def Module.steerIn (m : Module) (p pos : Nat) : Module :=
  (((((((m.retirePair (60 + 2 * (p - 30) + 2 * pos)).put (F.portLstsSpare p) 1).put (F.portLstsSparePos p) pos).put
    (F.portLstsState (spareOf p)) lsStandin).dropSaved (2 * spareOf p)).dropSaved (2 * spareOf p + 1)).spareState p 2)

theorem Module.Keeps.duoMask {K : Fld → Prop} {loud : Bool} {m a : Module} {p : Nat} (h : Module.Keeps K loud m a) (hK : ∀ f, LaneMap p f → K f)
    (pos : Nat) : a.duoMask p pos = m.duoMask p pos := by
  rw [Module.duoMask, Module.duoMask, Module.logical_congr (h.laneMap hK)]

theorem spareKept_rxsts (p : Nat) {n : Nat} {f : Fld} (h : f.reg = 0x100058 + 0x1000 * n) : SpareKept p f :=
  ⟨fun he => by omega, fun he => by omega⟩

theorem spareKept_map {p : Nat} {f : Fld} (h : LaneMap p f) : SpareKept p f := by
  rcases h with rfl | rfl | ⟨k, rfl⟩
  · exact spareKept_lsts (by simp only [F.portLstsSpare]; omega) (by simp [F.portLstsSpare])
  · exact spareKept_lsts (by simp only [F.portLstsSparePos]; omega) (by simp [F.portLstsSparePos])
  · exact spareKept_rxsts p rfl

theorem Module.steer_eq (m : Module) (p pos : Nat) :
    m.steer p pos = (m.steerIn p pos).addLanes p 0 (fullWidth p) ((m.steerIn p pos).duoMask p pos) true := by
  rw [Module.steerIn, (((Module.Keeps.refl (K := LaneMap p) (loud := false) _).spareState 2 fun f hf => spareKept_map hf).duoMask
    (fun f hf => hf) pos)]
  rfl

/-- What follows once LSTS names the spare keeps the fields of a set. -/
theorem Module.Keeps.steerIn_tail {K : Fld → Prop} {m a : Module} {p : Nat} (h : Module.Keeps K true m a)
    (hK : ∀ f, K f → Apart (F.portLstsState (spareOf p)) f ∧ PairKept (2 * spareOf p) f ∧ SpareKept p f) :
    Module.Keeps K true m
      ((((a.put (F.portLstsState (spareOf p)) lsStandin).dropSaved (2 * spareOf p)).dropSaved (2 * spareOf p + 1)).spareState p 2) :=
  ((h.put _ _ (by simp [F.portLstsState]) (by simp [F.portLstsState]) (quiet_lsts _) fun f hf => (hK f hf).1).dropPair
    fun f hf => (hK f hf).2.1).spareState 2 fun f hf => (hK f hf).2.2

/-- The spare stands in for a position, its lanes about to start. -/
structure Module.SteersIn (m a : Module) (p pos : Nat) : Prop where
  spare : a.get (F.portLstsSpare p) = 1
  at_ : a.get (F.portLstsSparePos p) = pos
  state : a.get (F.portSpareState p) = 2
  link : a.lstate (spareOf p) = lsStandin
  cause : a.get (F.cause (pgPort p) Ev.spare) = 1
  gone : ∀ i < 2, a.laneStage (60 + 2 * (p - 30) + 2 * pos + i) = lgOff
  lanes : ∀ i < 2, a.laneStage (2 * spareOf p + i) = m.laneStage (2 * spareOf p + i)

/-- Which position the spare is for stays shown while the steering goes on. -/
theorem steerTail_lsts {p : Nat} (hp : p < 46) {f : Fld} (hr : f.reg = 0x80040 + 0x1000 * p) (h : f.hi < 58) :
    Apart (F.portLstsState (spareOf p)) f ∧ PairKept (2 * spareOf p) f ∧ SpareKept p f := by
  have hsp := spareOf_cases p
  refine ⟨fun he => ?_, ⟨laneKept_page (by omega), laneKept_page (by omega)⟩, spareKept_lsts (by omega) (.inl h)⟩
  simp only [F.portLstsState] at he
  omega

/-- So do the stages of the lanes that are gone. -/
theorem steerTail_stage {p n : Nat} (h : n < 2 * spareOf p) :
    Apart (F.portLstsState (spareOf p)) (F.laneRxstsStage n) ∧ PairKept (2 * spareOf p) (F.laneRxstsStage n) ∧
      SpareKept p (F.laneRxstsStage n) := by
  have hsp := spareOf_cases p
  refine ⟨fun he => ?_, ⟨laneKept_stage (by omega), laneKept_stage (by omega)⟩, spareKept_rxsts p rfl⟩
  simp only [F.portLstsState, F.laneRxstsStage] at he
  omega

theorem Module.steerIn_steersIn (m : Module) (p pos : Nat) (hq : isQuadDuo p = true) (heven : p % 2 = 0) (hpos : pos < 2) :
    m.SteersIn (m.steerIn p pos) p pos := by
  obtain ⟨h30, h46⟩ := quad_lt hq
  have hsp := spareOf_cases p
  have hgone : 60 + 2 * (p - 30) + 2 * pos + 1 < 2 * spareOf p := by omega
  have htail := fun (f : Fld) hK (m : Module) => (Module.Keeps.refl (K := (· = f)) m).steerIn_tail (p := p) fun g hg => hg ▸ hK
  refine ⟨?spare, ?at_, Module.get_spareState _ p 2, ?link, Module.cause_spareState _ p 2, fun i hi => ?gone, fun i hi => ?lanes⟩
  case spare =>
    refine ((htail (F.portLstsSpare p) (steerTail_lsts h46 rfl (by simp [F.portLstsSpare])) _).field _ (quiet_lsts p) rfl).trans ?_
    rw [Module.get_put_apart _ _ _ _ (by simp [F.portLstsSparePos]) (by simp [F.portLstsSparePos]) (by simp [F.portLstsSparePos, F.portLstsSpare]),
      Module.get_put_same _ _ _ (by simp [F.portLstsSpare]) (by simp [F.portLstsSpare])]
    simp [F.portLstsSpare]
  case at_ =>
    refine ((htail (F.portLstsSparePos p) (steerTail_lsts h46 rfl (by simp [F.portLstsSparePos])) _).field _ (quiet_lsts p) rfl).trans ?_
    rw [Module.get_put_same _ _ _ (by simp [F.portLstsSparePos]) (by simp [F.portLstsSparePos])]
    simp only [F.portLstsSparePos]
    omega
  case link =>
    have hkept : PairKept (2 * spareOf p) (F.portLstsState (spareOf p)) ∧ SpareKept p (F.portLstsState (spareOf p)) :=
      ⟨⟨laneKept_page (by simp only [F.portLstsState]; omega), laneKept_page (by simp only [F.portLstsState]; omega)⟩,
        spareKept_lsts (by simp only [F.portLstsState]; omega) (by simp [F.portLstsState])⟩
    have hkeep := fun (m : Module) => ((Module.Keeps.refl (K := (· = F.portLstsState (spareOf p))) (loud := true) m).dropPair (n := 2 * spareOf p)
      fun f hf => hf ▸ hkept.1).spareState (p := p) 2 fun f hf => hf ▸ hkept.2
    refine ((hkeep _).lstate rfl).trans ?_
    rw [Module.lstate, Module.get_put_same _ _ _ (by simp [F.portLstsState]) (by simp [F.portLstsState])]
    simp [F.portLstsState, lsStandin]
  case gone =>
    refine ((htail (F.laneRxstsStage _) (steerTail_stage (by omega)) _).field _ (quiet_rxsts _) rfl).trans ?_
    rw [Module.get_put_reg _ _ _ _ (by simp only [F.portLstsSparePos, F.laneRxstsStage]; omega),
      Module.get_put_reg _ _ _ _ (by simp only [F.portLstsSpare, F.laneRxstsStage]; omega)]
    exact m.laneStage_retirePair _ i hi
  case lanes =>
    have hkeep := fun (m : Module) => (Module.Keeps.refl (K := (· = F.laneRxstsStage (2 * spareOf p + i))) (loud := true) m).spareState (p := p) 2
      fun f hf => hf ▸ spareKept_rxsts p rfl
    have hgone' : Module.Keeps (· = F.laneRxstsStage (2 * spareOf p + i)) true m (m.retirePair (60 + 2 * (p - 30) + 2 * pos)) :=
      (Module.Keeps.refl m).retirePair fun f hf => hf ▸ ⟨laneKept_stage (by omega), laneKept_stage (by omega)⟩
    refine ((hkeep _).field _ (quiet_rxsts _) rfl).trans ?_
    rw [← Module.laneStage, Module.laneStage_dropSaved, Module.laneStage_dropSaved, Module.laneStage,
      Module.get_put_reg _ _ _ _ (by simp only [F.portLstsState, F.laneRxstsStage]; omega),
      Module.get_put_reg _ _ _ _ (by simp only [F.portLstsSparePos, F.laneRxstsStage]; omega),
      Module.get_put_reg _ _ _ _ (by simp only [F.portLstsSpare, F.laneRxstsStage]; omega)]
    exact hgone'.field _ (quiet_rxsts _) rfl

/-- Added lanes that are not all in RUN send no READY yet. -/
theorem Module.checkAdded_waits (m : Module) (p : Nat) (w : WAdd) (n : Nat) (hw : (m.port p).wadd = some w) (hn : n ∈ m.lanesIn p w.mask)
    (hst : m.laneStage n ≠ lgRun) : m.checkAdded p = m := by
  have hall : (m.lanesIn p w.mask).all (fun n => decide (m.laneStage n = lgRun)) = false := by
    rw [List.all_eq_false]
    exact ⟨n, hn, by simpa using hst⟩
  simp [Module.checkAdded, hw, hall]

/-- The bring-up of some lanes, as a port keeps it until they are ready. -/
def Module.waitAdded (m : Module) (p id width mask : Nat) (spare : Bool) : Module :=
  m.onPort p fun q => { q with wadd := some { id := id, width := width, mask := mask, sentReady := false, spare := spare, since := m.now } }

theorem Module.addLanes_eq (m : Module) (p id width mask : Nat) (spare : Bool) :
    m.addLanes p id width mask spare =
      ((m.waitAdded p id width mask spare).startLanes ((m.waitAdded p id width mask spare).lanesIn p mask)).checkAdded p := rfl

theorem Module.port_waitAdded (m : Module) (p id width mask : Nat) (spare : Bool) :
    ((m.waitAdded p id width mask spare).port p).wadd =
      some { id := id, width := width, mask := mask, sentReady := false, spare := spare, since := m.now } := by
  rw [Module.waitAdded, Module.port_onPort]

theorem Module.Keeps.waitAdded {K : Fld → Prop} {loud : Bool} {m a : Module} (h : Module.Keeps K loud m a) (p id width mask : Nat)
    (spare : Bool) : Module.Keeps K loud m (a.waitAdded p id width mask spare) := h.onPort p _

/-- The spare's lanes start, and stand in POWER. -/
theorem Module.addLanes_spare (m a : Module) (p pos : Nat) (hq : isQuadDuo p = true) (hpos : pos < 2) (h : m.SteersIn a p pos)
    (hrun : ∀ i < 2, m.laneStage (2 * spareOf p + i) ≠ lgRun) :
    Module.Keeps (PairKept (2 * spareOf p)) true a (a.addLanes p 0 (fullWidth p) (a.duoMask p pos) true) ∧
      ∀ i < 2, (a.addLanes p 0 (fullWidth p) (a.duoMask p pos) true).laneStage (2 * spareOf p + i) = lgPower := by
  have hp : p < 48 := Nat.lt_trans (quad_lt hq).2 (by decide)
  generalize hn : 2 * spareOf p = n at *
  generalize hw : a.waitAdded p 0 (fullWidth p) (a.duoMask p pos) true = w
  have hkw : Module.Keeps (fun _ => True) true a w := hw ▸ (Module.Keeps.refl a).waitAdded _ _ _ _ _
  have hstage : ∀ i < 2, w.laneStage (n + i) ≠ lgRun := fun i hi => by
    rw [hkw.laneStage, ← hn, h.lanes i hi, hn]
    exact hrun i hi
  have hlist : w.lanesIn p (a.duoMask p pos) = [n, n + 1] ∨ w.lanesIn p (a.duoMask p pos) = [n + 1, n] := by
    rw [Module.lanesIn_congr (hkw.laneMap fun _ _ => trivial), ← hn]
    exact a.lanesIn_duoMask p pos hq hpos h.spare h.at_
  generalize hl : w.lanesIn p (a.duoMask p pos) = l at hlist
  have hmem : n ∈ l := by rcases hlist with rfl | rfl <;> simp
  have hpower : (w.startLanes l).laneStage n = lgPower ∧ (w.startLanes l).laneStage (n + 1) = lgPower := by
    rcases hlist with rfl | rfl
    · exact w.laneStage_startLanes_pair n (n + 1) (by omega) (hstage 0 (by decide)) (hstage 1 (by decide))
    · exact (w.laneStage_startLanes_pair (n + 1) n (by omega) (hstage 1 (by decide)) (hstage 0 (by decide))).symm
  have hstart : Module.Keeps (PairKept n) true w (w.startLanes l) := (Module.Keeps.refl w).startLanes l fun k hk f hf => by
    obtain rfl | rfl : k = n ∨ k = n + 1 := by rcases hlist with rfl | rfl <;> simpa [or_comm] using hk
    · exact hf.1
    · exact hf.2
  have hwait : (w.startLanes l).checkAdded p = w.startLanes l := by
    refine Module.checkAdded_waits _ p ⟨0, fullWidth p, a.duoMask p pos, false, true, a.now⟩ n ?_ ?_ (by rw [hpower.1]; decide)
    · rw [Module.port_congr (w.startLanes_ports l), ← hw, Module.port_waitAdded]
    · rw [Module.lanesIn_congr (hstart.laneMap fun f hf => ⟨laneKept_map hp n hf, laneKept_map hp (n + 1) hf⟩), hl]
      exact hmem
  rw [Module.addLanes_eq, hw, hl, hwait]
  refine ⟨(hkw.mono fun _ _ _ => trivial).trans hstart, fun i hi => ?_⟩
  obtain rfl | rfl : i = 0 ∨ i = 1 := by omega
  · exact hpower.1
  · exact hpower.2

theorem pairKept_lsts {p n : Nat} {f : Fld} (hp : p < 48) (hr : f.reg = 0x80040 + 0x1000 * p) : PairKept n f :=
  ⟨laneKept_page (by omega), laneKept_page (by omega)⟩

/-- The spare stands in, its lanes in POWER, and those of the position rest. -/
theorem Module.steer_spare (m : Module) (p pos : Nat) (hq : isQuadDuo p = true) (heven : p % 2 = 0) (hpos : pos < 2)
    (hrun : ∀ i < 2, m.laneStage (2 * spareOf p + i) ≠ lgRun) :
    (m.steer p pos).get (F.portLstsSpare p) = 1 ∧ (m.steer p pos).get (F.portLstsSparePos p) = pos ∧
      (m.steer p pos).get (F.portSpareState p) = 2 ∧ (m.steer p pos).lstate (spareOf p) = lsStandin ∧
      (m.steer p pos).get (F.cause (pgPort p) Ev.spare) = 1 ∧
      ∀ i < 2, (m.steer p pos).laneStage (60 + 2 * (p - 30) + 2 * pos + i) = lgOff ∧
        (m.steer p pos).laneStage (2 * spareOf p + i) = lgPower := by
  obtain ⟨h30, h46⟩ := quad_lt hq
  have hsp := spareOf_cases p
  have h := m.steerIn_steersIn p pos hq heven hpos
  obtain ⟨hk, hpower⟩ := Module.addLanes_spare m _ p pos hq hpos h hrun
  rw [m.steer_eq p pos]
  refine ⟨(hk.field _ (quiet_lsts p) (pairKept_lsts (by omega) rfl)).trans h.spare,
    (hk.field _ (quiet_lsts p) (pairKept_lsts (by omega) rfl)).trans h.at_,
    (hk.field _ (quiet_spare p) ⟨laneKept_page ?_, laneKept_page ?_⟩).trans h.state,
    (hk.lstate (pairKept_lsts (by omega) rfl)).trans h.link, hk.cause _ _ (by decide) h.cause, fun i hi => ⟨?_, hpower i hi⟩⟩
  · simp only [F.portSpareState]; omega
  · simp only [F.portSpareState]; omega
  · exact (hk.field _ (quiet_rxsts _) ⟨laneKept_stage (by omega), laneKept_stage (by omega)⟩).trans (h.gone i hi)

/-- A steering sends behind what has been sent. -/
theorem Module.Keeps.steer {m a : Module} {p pos : Nat} (h : Module.Keeps (fun _ => False) true m a) (hq : isQuadDuo p = true)
    (heven : p % 2 = 0) (hpos : pos < 2) (hrun : ∀ i < 2, a.laneStage (2 * spareOf p + i) ≠ lgRun) :
    Module.Keeps (fun _ => False) true m (a.steer p pos) := by
  obtain ⟨hk, -⟩ := Module.addLanes_spare a _ p pos hq hpos (a.steerIn_steersIn p pos hq heven hpos) hrun
  have hin : Module.Keeps (fun _ => False) true a (a.steerIn p pos) :=
    Module.Keeps.steerIn_tail (p := p) ((((Module.Keeps.refl a).retirePair nofun).put _ 1 (by simp [F.portLstsSpare]) (by simp [F.portLstsSpare])
      (quiet_lsts p) nofun).put _ pos (by simp [F.portLstsSparePos]) (by simp [F.portLstsSparePos]) (quiet_lsts p) nofun) nofun
  rw [a.steer_eq p pos]
  exact h.trans (hin.trans (hk.mono nofun))

end Sys2Proof.Machine

/-! PROOFS. A width change of a quad whose spare is back leaves the spare alone (R532–R536, R542). -/

namespace Sys2Proof.Machine

set_option Elab.async false

/-! ## What a change of the width keeps -/

/-- The fields that a change of a quad's width leaves alone: LWID, `wchg` of LSTS and the quad's own lanes apart. -/
structure WidthKept (p : Nat) (f : Fld) : Prop where
  lwid : f.reg ≠ 0x80058 + 0x1000 * p
  wchg : f.reg = 0x80040 + 0x1000 * p → f.hi < 58 ∨ 58 < f.lo
  lanes : ∀ n < 92, LaneKept n f

theorem widthKept_port {p : Nat} {f : Fld} (hp : f.reg < 0x100000) (hw : f.reg ≠ 0x80058 + 0x1000 * p)
    (hc : f.reg = 0x80040 + 0x1000 * p → f.hi < 58 ∨ 58 < f.lo) : WidthKept p f := ⟨hw, hc, fun _ _ => laneKept_page hp⟩

theorem widthKept_lsts {p k : Nat} (hk : k < 48) {f : Fld} (hr : f.reg = 0x80040 + 0x1000 * k) (h : f.hi < 58 ∨ 58 < f.lo) : WidthKept p f :=
  widthKept_port (by omega) (by omega) fun _ => h

/-- A step of a width change of a port that stands at a packet boundary. -/
structure Module.WidthWork (p : Nat) (m a : Module) : Prop where
  keeps : Module.Keeps (WidthKept p) true m a
  owes : (a.port p).owes = (m.port p).owes
  busy : (a.port p).busy = (m.port p).busy
  spBack : (m.port p).spBack = false → (a.port p).spBack = false

section
variable {p : Nat} {m a b : Module}

theorem Module.WidthWork.refl (p : Nat) (m : Module) : Module.WidthWork p m m := ⟨.refl m, rfl, rfl, id⟩

theorem Module.WidthWork.trans (h : Module.WidthWork p m a) (k : Module.WidthWork p a b) : Module.WidthWork p m b :=
  ⟨h.keeps.trans k.keeps, k.owes.trans h.owes, k.busy.trans h.busy, fun hm => k.spBack (h.spBack hm)⟩

/-- Steps that leave the port itself. -/
theorem Module.WidthWork.of_port (h : Module.Keeps (WidthKept p) true m a) (hp : a.port p = m.port p) : Module.WidthWork p m a :=
  ⟨h, by rw [hp], by rw [hp], by rw [hp]; exact id⟩

/-- The port's own record of the change. -/
theorem Module.WidthWork.onPort (m : Module) (f : Port → Port) (ho : ∀ q, (f q).owes = q.owes) (hb : ∀ q, (f q).busy = q.busy)
    (hs : ∀ q, q.spBack = false → (f q).spBack = false) : Module.WidthWork p m (m.onPort p f) :=
  ⟨(Module.Keeps.refl m).onPort p f, by rw [Module.port_onPort, ho], by rw [Module.port_onPort, hb], by rw [Module.port_onPort]; exact hs _⟩

theorem Module.WidthWork.boundary (h : Module.WidthWork p m a) (hb : m.AtBoundary p) (hp : p < 48) : a.AtBoundary p :=
  hb.of_keeps h.keeps (widthKept_lsts hp rfl (by simp [F.portLstsState])) h.owes h.busy

theorem Module.WidthWork.spare (h : Module.WidthWork p m a) (hp : p < 48) : a.get (F.portLstsSpare p) = m.get (F.portLstsSpare p) :=
  h.keeps.field _ (quiet_lsts p) (widthKept_lsts hp rfl (by simp [F.portLstsSpare]))

end

/-! ## The steps -/

theorem Module.Keeps.setWord {K : Fld → Prop} {loud : Bool} {m a : Module} (h : Module.Keeps K loud m a) (r : Nat) (w : Word) (hq : Quiet r)
    (hK : ∀ f, K f → f.reg ≠ r) : Module.Keeps K loud m (a.setWord r w) := by
  refine h.trans ⟨fun f _ hf => ?_, fun p c _ hs => ?_, rfl, [], by simp, fun _ => rfl⟩
  · rw [Module.get, Module.word_setWord_other _ _ _ _ (hK f hf), Module.get]
  · rwa [Module.get, Module.word_setWord_other _ _ _ _ (by have := hq.1; simp only [F.cause]; omega), ← Module.get]

theorem Module.widthWork_showWchg (m : Module) (p : Nat) : Module.WidthWork p m (m.showWchg p) :=
  .of_port ((Module.Keeps.refl m).showWchg fun _ hf => hf.wchg) (Module.port_congr (by simp) p)

/-- The writes of LWID that waited reach LWID. -/
theorem Module.widthWork_stage (p : Nat) (l : List Wr) : ∀ m : Module, Module.WidthWork p m
    (l.foldl (fun m w => m.setWord (F.portLwidGo p).reg (m.writtenWord (F.portLwidGo p).reg w)) m) := by
  induction l with
  | nil => exact fun m => .refl p m
  | cons w l ih => exact fun m => (Module.WidthWork.of_port ((Module.Keeps.refl m).setWord _ _ (quiet_lwid p) fun _ hf => hf.lwid) rfl).trans (ih _)

theorem Module.widthWork_put_lwid (m : Module) (p hi lo v : Nat) (hlo : lo ≤ hi) (h64 : hi < 64) :
    Module.WidthWork p m (m.put ⟨0x80058 + 0x1000 * p, hi, lo⟩ v) :=
  .of_port ((Module.Keeps.refl m).put _ v hlo h64 (quiet_lwid p) fun _ hf he => absurd he hf.lwid) (Module.port_congr (by simp) p)

theorem Module.widthWork_goEnds (m : Module) (p : Nat) : Module.WidthWork p m (m.goEnds p) :=
  ((m.widthWork_put_lwid p 63 63 0 (by decide) (by decide)).trans
    (.onPort _ (fun q => { q with lwidLate := [] }) (fun _ => rfl) (fun _ => rfl) fun _ h => h)).trans (Module.widthWork_stage p _ _)

theorem Module.widthWork_endOwn (m : Module) (p result : Nat) : Module.WidthWork p m (m.endOwn p result) := by
  have h1 : Module.WidthWork p m ((((m.onPort p fun q => { q with wown := none, spBack := q.spBack && result = 0 }).put (F.portLwidResult p)
      result).goEnds p).showWchg p) :=
    (((Module.WidthWork.onPort m (fun q => { q with wown := none, spBack := q.spBack && result = 0 }) (fun _ => rfl) (fun _ => rfl)
      fun _ h => by simp [h]).trans
      (Module.widthWork_put_lwid _ p 62 60 _ (by decide) (by decide))).trans (Module.widthWork_goEnds _ p)).trans (Module.widthWork_showWchg _ p)
  unfold Module.endOwn
  dsimp only
  split
  · exact h1.trans (.of_port ((Module.Keeps.refl _).raise _ _ (by decide)) (Module.port_congr (by simp) p))
  · exact h1

theorem Module.widthWork_flitOut (m : Module) (p t : Nat) (b : List Byte) : Module.WidthWork p m (m.flitOut p t b) :=
  .of_port ((Module.Keeps.refl m).flitOut p t b) (m.port_flitOut p t b)

theorem Module.widthWork_owe_width {m : Module} {p : Nat} (h : m.AtBoundary p) (op w : Nat) (forced : Bool) (mask id : Nat) :
    Module.WidthWork p m (m.owe p (.width op w forced mask id)) := by
  rw [Module.owe_width h]
  exact m.widthWork_flitOut p _ _

theorem Module.widthWork_tryReq {m : Module} {p : Nat} (hp : p < 48) (h : m.AtBoundary p) : Module.WidthWork p m (m.tryReq p) := by
  unfold Module.tryReq
  split
  · exact .refl p m
  next o _ =>
    split
    · exact .refl p m
    · have hown : Module.WidthWork p m (m.onPort p fun q => { q with wown := some { o with reqSent := true } }) :=
        .onPort m _ (fun _ => rfl) (fun _ => rfl) fun _ h => h
      exact hown.trans (Module.widthWork_owe_width (hown.boundary h hp) _ _ _ _ _)

theorem Module.widthWork_checkAdded {m : Module} {p : Nat} (hp : p < 48) (h : m.AtBoundary p) : Module.WidthWork p m (m.checkAdded p) := by
  unfold Module.checkAdded
  dsimp only
  split
  · exact .refl p m
  next w _ =>
    split
    · exact .refl p m
    · split
      · have hsent : Module.WidthWork p m (m.onPort p fun q => { q with wadd := none, spSent := true }) :=
          .onPort m _ (fun _ => rfl) (fun _ => rfl) fun _ h => h
        rw [Module.owe_spare (hsent.boundary h hp)]
        exact hsent.trans (Module.widthWork_flitOut _ p _ _)
      · have hsent : Module.WidthWork p m
            (m.onPort p fun q => { q with wadd := none, wown := q.wown.map fun (o : WOwn) => { o with sentReady := true } }) :=
          .onPort m _ (fun _ => rfl) (fun _ => rfl) fun _ h => h
        exact hsent.trans (Module.widthWork_owe_width (hsent.boundary h hp) _ _ _ _ _)

/-- The lanes of a quad without its spare lie below those of the spares. -/
theorem Module.lanesIn_lt (m : Module) (p mask : Nat) (hq : isQuadDuo p = true) (heven : p % 2 = 0) (hspare : m.get (F.portLstsSpare p) = 0) :
    ∀ n ∈ m.lanesIn p mask, n < 92 := by
  obtain ⟨h30, h46⟩ := quad_lt hq
  intro n hn
  obtain ⟨i, hi, rfl⟩ := List.mem_map.mp hn
  have hi4 : i < 4 := by simpa [fullWidth, hq] using (List.mem_filter.mp hi).1
  have hlog : m.logical p i < 4 := by
    simp only [Module.logical, fullWidth, hq, if_true]
    split <;> omega
  simp only [Module.laneOfLogical, Module.laneAt, hq, Module.flag, hspare]
  simp
  omega

theorem Module.widthWork_addLanes {m : Module} {p : Nat} (hq : isQuadDuo p = true) (heven : p % 2 = 0) (hspare : m.get (F.portLstsSpare p) = 0)
    (h : m.AtBoundary p) (id width mask : Nat) (spare : Bool) : Module.WidthWork p m (m.addLanes p id width mask spare) := by
  have hp : p < 48 := Nat.lt_trans (quad_lt hq).2 (by decide)
  have hwait : Module.WidthWork p m (m.waitAdded p id width mask spare) := .onPort m _ (fun _ => rfl) (fun _ => rfl) fun _ h => h
  have hstart := hwait.trans (.of_port ((Module.Keeps.refl _).startLanes _ fun n hn _ hf => hf.lanes n (Module.lanesIn_lt _ p mask hq heven
    ((hwait.spare hp).trans hspare) n hn)) (Module.port_congr (Module.startLanes_ports _ _) p))
  rw [Module.addLanes_eq]
  exact hstart.trans (Module.widthWork_checkAdded hp (hstart.boundary h hp))

/-- A width change that is asked for once the spare is back. -/
theorem Module.widthWork_askWidth {m : Module} {p : Nat} (hq : isQuadDuo p = true) (heven : p % 2 = 0) (hspare : m.get (F.portLstsSpare p) = 0)
    (h : m.AtBoundary p) (width mask : Nat) : Module.WidthWork p m (m.askWidth p width mask) := by
  have hp : p < 48 := Nat.lt_trans (quad_lt hq).2 (by decide)
  unfold Module.askWidth
  dsimp only
  generalize mask &&& (m.get (F.portLstsLanes p) ^^^ (mask ||| m.get (F.portLstsLanes p))) = added
  split
  · exact m.widthWork_endOwn p 4
  · split
    · exact m.widthWork_endOwn p 3
    · generalize WOwn.mk _ _ _ _ _ _ _ _ _ _ = o
      have hshow : Module.WidthWork p m ((m.setPort p { m.port p with wown := some o, nextId := ((m.port p).nextId + 1) % 256 }).showWchg p) :=
        (Module.WidthWork.onPort m (fun q => { q with wown := some o, nextId := (q.nextId + 1) % 256 }) (fun _ => rfl) (fun _ => rfl)
          fun _ h => h).trans (Module.widthWork_showWchg _ p)
      generalize ((m.setPort p _).showWchg p) = w at hshow ⊢
      split
      · exact hshow.trans (Module.widthWork_tryReq hp (hshow.boundary h hp))
      · have hprep := hshow.trans (Module.widthWork_owe_width (hshow.boundary h hp) 6 width false mask (m.port p).nextId)
        have hadd := hprep.trans (Module.widthWork_addLanes hq heven ((hprep.spare hp).trans hspare) (hprep.boundary h hp)
          (m.port p).nextId width added false)
        have hcheck := hadd.trans (Module.widthWork_checkAdded hp (hadd.boundary h hp))
        exact hcheck.trans (Module.widthWork_tryReq hp (hcheck.boundary h hp))

end Sys2Proof.Machine

/-! PROOFS. The exchange over a spare: SPARE.req, SPARE.release and the SPARE flits (R35–R37, R541, R542): O46. -/

namespace Sys2Proof.Machine

set_option Elab.async false

theorem exec_spareRequest (p : Fin 48) (w : Wr) (e : Env) (s : State) :
    exec (.spareRequest p w e) s = s.runAs w.master fun m => (m.at e).spareWrite p.val w := rfl
theorem exec_spareReleaseWrite (p : Fin 48) (w : Wr) (e : Env) (s : State) :
    exec (.spareReleaseWrite p w e) s = s.runAs w.master fun m => (m.at e).spareWrite p.val w := rfl
theorem exec_spareReq (p : Fin 48) (f : List Byte) (e : Env) (s : State) : exec (.spareReq p f e) s = execSpareReq p f e s := rfl
theorem exec_spareAck (p : Fin 48) (f : List Byte) (e : Env) (s : State) : exec (.spareAck p f e) s = execSpareAck p f e s := rfl
theorem exec_spareReady (p : Fin 48) (f : List Byte) (e : Env) (s : State) : exec (.spareReady p f e) s = execSpareReady p f e s := rfl
theorem exec_spareRelease (p : Fin 48) (f : List Byte) (e : Env) (s : State) : exec (.spareRelease p f e) s = execSpareRelease p f e s := rfl
theorem exec_spareRefuse (p : Fin 48) (f : List Byte) (e : Env) (s : State) : exec (.spareRefuse p f e) s = execSpareRefuse p f e s := rfl

/-! ## The register -/

/-- PORT[p].SPARE in the tables. -/
def spareReg : RegD :=
  ⟨0x070, 1, 8, none, .core, [fld 63 63 .own 0, fld 62 62 .own 0, fld 61 59 .ro 0, fld 58 58 .rw 0, fld 57 57 .rw 1]⟩

theorem regAt_spare (p : Fin 48) : regAt (0x80070 + 0x1000 * p.val) = some spareReg := by
  revert p
  decide

theorem blockOf_port (p : Fin 48) : (blockOf (pgPort p.val)).map (·.1.blk) = some .port := by
  revert p
  decide

theorem Module.writeOk_spare (m : Module) (p : Fin 48) (old new : Word) : m.writeOk (0x80070 + 0x1000 * p.val) old new = true := by
  have hpage : (0x80070 + 0x1000 * p.val) / 0x1000 = pgPort p.val := by
    simp only [pgPort]
    omega
  have hoff : (0x80070 + 0x1000 * p.val) % 0x1000 = 0x70 := by omega
  obtain ⟨⟨b, i⟩, hb, hblk⟩ := Option.map_eq_some_iff.mp (blockOf_port p)
  unfold Module.writeOk
  simp only [hpage, hoff, hb]
  dsimp only at hblk
  rw [hblk]

theorem bits_one_le (w : Word) (i : Nat) : bits w i i ≤ 1 := by
  have h := bits_lt w i i
  rw [Nat.add_sub_cancel_left] at h
  omega

/-- A write of the whole register sets `pos`. -/
theorem Module.bits_writtenWord_pos (m : Module) (p : Fin 48) (w : Wr) (hw : w.half = .full) :
    bits (m.writtenWord (0x80070 + 0x1000 * p.val) w) 58 58 = bits w.value 58 58 := by
  have hrange : ∀ old locked, spareReg.fields.all (fun f => f.inRange locked w old) = true := by
    intro old locked
    simp [spareReg, fld, FieldD.inRange, hw, mergeHalf_full, bits_one_le]
  simp only [Module.writtenWord, regAt_spare, m.writeOk_spare, if_true, RegD.write, hrange]
  have hlt := bits_lt w.value 58 58
  simp only [spareReg, fld, List.foldl_cons, List.foldl_nil, FieldD.write, hw, mergeHalf_full]
  rw [bits_setBits_apart _ _ _ _ _ _ (by decide) (by decide) (by decide), bits_setBits_same _ _ _ _ (by decide) (by decide)]
  exact Nat.mod_eq_of_lt hlt

theorem Module.regWrite_spare (m : Module) (p : Fin 48) (w : Wr) (hr : m.reaches (0x80070 + 0x1000 * p.val) = true) :
    m.regWrite (0x80070 + 0x1000 * p.val) w =
      m.setWord (0x80070 + 0x1000 * p.val) (m.writtenWord (0x80070 + 0x1000 * p.val) w) := by
  refine m.regWrite_eq_setWord _ w hr (by omega) ?_ (by omega)
  have hpage : (0x80070 + 0x1000 * p.val) / 0x1000 = 0x80 + p.val := by omega
  simp only [isMsixPage, hpage, Bool.and_eq_false_iff, decide_eq_false_iff_not]
  omega

/-- What a write of SPARE leaves: `state`, and every other register. -/
theorem Module.get_regWrite_spare (m : Module) (p : Fin 48) (w : Wr) (hr : m.reaches (0x80070 + 0x1000 * p.val) = true) (f : Fld)
    (hf : f.reg ≠ 0x80070 + 0x1000 * p.val ∨ f = F.portSpareState p) : (m.regWrite (0x80070 + 0x1000 * p.val) w).get f = m.get f := by
  rw [m.regWrite_spare p w hr]
  rcases hf with hf | rfl
  · rw [Module.get, Module.word_setWord_other _ _ _ _ hf, Module.get]
  · rw [Module.get, show (F.portSpareState p.val).reg = 0x80070 + 0x1000 * p.val from rfl, Module.word_setWord_same]
    exact m.bits_writtenWord _ w spareReg (regAt_spare p) 61 59 (by decide)

theorem Module.get_regWrite_pos (m : Module) (p : Fin 48) (w : Wr) (hr : m.reaches (0x80070 + 0x1000 * p.val) = true) (hw : w.half = .full) :
    (m.regWrite (0x80070 + 0x1000 * p.val) w).get (F.portSparePos p) = bits w.value 58 58 := by
  rw [m.regWrite_spare p w hr, Module.get, show (F.portSparePos p.val).reg = 0x80070 + 0x1000 * p.val from rfl, Module.word_setWord_same]
  exact m.bits_writtenWord_pos p w hw

/-! ## How a command on a spare begins -/

/-- The fields that a write of SPARE leaves alone: other registers, and `state`. -/
def SpareWriteKept (p : Nat) (f : Fld) : Prop := f.reg ≠ 0x80070 + 0x1000 * p ∨ f = F.portSpareState p

/-- The module once the register has been written, or the flit counted. -/
structure Module.Begun (p : Nat) (e : Env) (s m : Module) : Prop where
  get : ∀ f, Quiet f.reg → SpareWriteKept p f → m.get f = s.get f
  n : m.n = s.n
  now : m.now = max s.now e.t
  out : ∃ a, m.out = s.out ++ a ∧ a.all Emit.isEvent = true
  frame : Module.Frame [.regs, .msix, .out, .now] s m

section
variable {p : Nat} {e : Env} {s m : Module}

theorem Module.Begun.port (h : Module.Begun p e s m) (k : Nat) : m.port k = s.port k := by rw [Module.port, Module.port, h.n]

theorem Module.Begun.lsts (h : Module.Begun p e s m) {f : Fld} {k : Nat} (hf : f.reg = 0x80040 + 0x1000 * k) : m.get f = s.get f :=
  h.get f (by rw [hf]; exact quiet_lsts k) (.inl (by omega))

theorem Module.Begun.laneStage (h : Module.Begun p e s m) (n : Nat) : m.laneStage n = s.laneStage n :=
  h.get _ (quiet_rxsts n) (.inl (by simp only [F.laneRxstsStage]; omega))

theorem Module.Begun.spareState (h : Module.Begun p e s m) (k : Nat) : m.get (F.portSpareState k) = s.get (F.portSpareState k) := by
  refine h.get _ (quiet_spare k) ?_
  by_cases hk : k = p
  · exact .inr (by rw [hk])
  · exact .inl (by simp only [F.portSpareState]; omega)

theorem Module.Begun.spareBusy (h : Module.Begun p e s m) (k : Nat) : m.spareBusy k = s.spareBusy k := by
  have hflag : ∀ d, m.flag (F.portLstsSpare d) = s.flag (F.portLstsSpare d) := fun d => by rw [Module.flag, Module.flag, h.lsts rfl]
  unfold Module.spareBusy
  simp only [hflag, h.spareState]

end

theorem Module.Begun.boundary {p : Nat} {e : Env} {s : State} {m : Module} (h : Module.Begun p e s.toModule m) (hb : s.Boundary e p) :
    m.AtBoundary p := by
  obtain ⟨hup, howes, hbusy⟩ := hb
  refine ⟨?_, by rw [h.port]; exact howes, by rw [h.port, h.now]; exact hbusy⟩
  rw [Module.isUp, Module.lstate, h.lsts rfl]
  exact hup

/-- The register's write. -/
theorem begun_write (s : State) (p : Fin 48) (w : Wr) (e : Env) (hr : s.reaches (0x80070 + 0x1000 * p.val) = true) :
    Module.Begun p e s.toModule ((s.toModule.at e).regWrite (0x80070 + 0x1000 * p.val) w) := by
  have hat : ∀ f, (s.toModule.at e).get f = s.get f := fun f => by simp [Module.get]
  have hset := (s.toModule.at e).regWrite_spare p w hr
  refine ⟨fun f _ hf => ((s.toModule.at e).get_regWrite_spare p w hr f hf).trans (hat f), ?_, ?_, ⟨[], ?_, rfl⟩, ?_⟩
  all_goals rw [hset]
  · simp
  · simp [Module.at]
  · simp
  · exact ((Module.at_frame _ e).mono (by simp)).trans ((Module.setWord_frame _ _ _).mono (by simp))

/-- A flit is counted. -/
theorem begun_count (s : State) (p : Nat) (e : Env) : Module.Begun p e s.toModule ((s.toModule.at e).count (pgPort p) 1) := by
  have hk : Module.Keeps (fun _ => True) false (s.toModule.at e) ((s.toModule.at e).count (pgPort p) 1) :=
    (Module.Keeps.refl _).count _ 1 (by decide)
  obtain ⟨a, ha, he⟩ := hk.out
  refine ⟨fun f hq _ => (hk.field f hq trivial).trans (by simp [Module.get]), by simp [Module.count], ?_, ⟨a, ha, he rfl⟩, ?_⟩
  · simp [Module.count, Module.at]
  · exact ((Module.at_frame _ e).mono (by simp)).trans ((Module.countUp_frame _ _ _ _).mono (by simp))

/-- A control flit that arrives at a port at a packet boundary reaches its handler. -/
theorem Module.rxOp_eq (s : State) (p : Fin 48) (e : Env) (flit : List Byte) (type op : Nat) (f : Module → Module) (h : s.Flit e p flit type op) :
    (s.toModule.at e).rxOp p flit type op f = f ((s.toModule.at e).count (pgPort p) 1) := by
  obtain ⟨hb, hhunt, htype, hop⟩ := h
  have hbegun := begun_count s p e
  have hup : (s.toModule.at e).isUp p = true := by
    rw [Module.isUp, Module.lstate, Module.get, Module.at_word, ← Module.get]
    exact hb.1
  have hhunt' : (((s.toModule.at e).count (pgPort p) 1).port p).hunting = false := by rw [hbegun.port]; exact hhunt
  simp [Module.rxOp, Module.rxCtl, hup, htype, hop, hhunt', (hbegun.boundary hb).up]

/-! ## What is sent -/

theorem sends_of {s t : State} {m : Module} {x : Emit} (hm : ∃ a, m.out = s.out ++ a ∧ a.all Emit.isEvent = true)
    (ht : ∃ b, t.out = m.out ++ [x] ++ b ∧ b.all Emit.isEvent = true) : Sends s t x := by
  obtain ⟨a, ha, hae⟩ := hm
  obtain ⟨b, hb, hbe⟩ := ht
  exact ⟨a, b, by rw [hb, ha], by rw [List.all_append, hae, hbe]; rfl⟩

theorem sendsJust_of {s t : State} {m : Module} {x : Emit} (hx : x.isEvent = false) (hm : ∃ a, m.out = s.out ++ a ∧ a.all Emit.isEvent = true)
    (ht : ∃ b, t.out = m.out ++ [x] ++ b ∧ b.all Emit.isEvent = true) : SendsJust s t [x] := by
  obtain ⟨a, ha, hae⟩ := hm
  obtain ⟨b, hb, hbe⟩ := ht
  have hnone : ∀ l : List Emit, l.all Emit.isEvent = true → l.filter (fun x => !x.isEvent) = [] := fun l hl =>
    List.filter_eq_nil_iff.mpr fun y hy => by simpa using List.all_eq_true.mp hl y hy
  exact ⟨a ++ [x] ++ b, by rw [hb, ha]; simp, by simp [List.filter_append, hnone a hae, hnone b hbe, hx]⟩

theorem sendsFirst_of {K : Fld → Prop} {s t : State} {m n : Module} {x : Emit} (hm : ∃ a, m.out = s.out ++ a ∧ a.all Emit.isEvent = true)
    (hn : ∃ b, n.out = m.out ++ [x] ++ b ∧ b.all Emit.isEvent = true) (ht : Module.Keeps K true n t.toModule) : SendsFirst s t x := by
  obtain ⟨a, ha, hae⟩ := hm
  obtain ⟨b, hb, -⟩ := hn
  obtain ⟨c, hc, -⟩ := ht.out
  exact ⟨a, b ++ c, by rw [hc, hb, ha]; simp, hae⟩

end Sys2Proof.Machine

/-! PROOFS. The clauses of O46, one for each end of an exchange over a spare. -/

namespace Sys2Proof.Machine

set_option Elab.async false

/-! ## SPARE.req -/

/-- A substitution is asked for, the flit not sent yet. -/
def Module.asked (m : Module) (p pos : Nat) : Module :=
  ((m.onPort p fun q => { q with spAsked := true, spSent := false, spGot := false }).put (F.portLstsSparePos p) pos).spareState p 1

theorem Module.asked_keeps (m : Module) (p pos : Nat) :
    Module.Keeps (fun f => Apart (F.portLstsSparePos p) f ∧ SpareKept p f) false m (m.asked p pos) :=
  (((Module.Keeps.refl m).onPort p _).put _ pos (by simp [F.portLstsSparePos]) (by simp [F.portLstsSparePos]) (quiet_lsts p)
    fun _ hf => hf.1).spareState 1 fun _ hf => hf.2

theorem Module.port_asked (m : Module) (p pos : Nat) :
    (m.asked p pos).port p = { m.port p with spAsked := true, spSent := false, spGot := false } := by
  have hn : (m.asked p pos).n = (m.onPort p fun q => { q with spAsked := true, spSent := false, spGot := false }).n := by simp [Module.asked]
  rw [Module.port, hn, ← Module.port, Module.port_onPort]

theorem Module.asked_boundary {m : Module} {p : Nat} (h : m.AtBoundary p) (pos : Nat) : (m.asked p pos).AtBoundary p := by
  refine h.of_keeps (m.asked_keeps p pos) ⟨?_, spareKept_lsts ?_ ?_⟩ (by rw [m.port_asked]) (by rw [m.port_asked])
  · simp [Apart, F.portLstsSparePos, F.portLstsState]
  · simp only [F.portLstsState]
    omega
  · simp [F.portLstsState]

theorem Module.get_asked_pos (m : Module) (p pos : Nat) (hpos : pos < 2) : (m.asked p pos).get (F.portLstsSparePos p) = pos := by
  have hkeep := fun (m : Module) => (Module.Keeps.refl (K := (· = F.portLstsSparePos p)) (loud := false) m).spareState (p := p) 1
    fun f hf => hf ▸ spareKept_lsts (by simp only [F.portLstsSparePos]; omega) (by simp [F.portLstsSparePos])
  rw [Module.asked, (hkeep _).field _ (quiet_lsts p) rfl, Module.get_put_same _ _ _ (by simp [F.portLstsSparePos]) (by simp [F.portLstsSparePos])]
  simp only [F.portLstsSparePos]
  omega

theorem Module.asked_frame (m : Module) (p pos : Nat) : Module.Frame [.regs, .msix, .out, .n] m (m.asked p pos) :=
  (((m.setPort_frame p _).mono (by simp)).trans ((Module.put_frame _ _ _).mono (by simp))).trans ((Module.spareState_frame _ p 1).mono (by simp))

theorem Module.askSpare_busy (m : Module) (p pos : Nat) (hq : isQuadDuo p = true) (hup : m.isUp p = true) (h : m.spareBusy p = true) :
    m.askSpare p pos = m.spareState p 4 := by simp [Module.askSpare, hq, hup, h]

theorem Module.askSpare_free {m : Module} {p : Nat} (hb : m.AtBoundary p) (pos : Nat) (hq : isQuadDuo p = true) (h : m.spareBusy p = false) :
    m.askSpare p pos = (m.asked p pos).flitOut p 6 [1, BitVec.ofNat 8 pos] := by
  rw [show ([1, BitVec.ofNat 8 pos] : List Byte) = [BitVec.ofNat 8 1, BitVec.ofNat 8 pos] from rfl,
    ← Module.owe_spare (Module.asked_boundary hb pos)]
  simp [Module.askSpare, hq, hb.up, h, Module.asked]

/-- A write of SPARE with `req` and without `release` asks for a substitution. -/
theorem Module.spareWrite_req (m : Module) (p : Fin 48) (w : Wr) (hr : m.reaches (0x80070 + 0x1000 * p.val) = true) (hport : isPort p = true)
    (hfull : w.half = .full) (hreq : bit w.value 63 = true) (hrel : bit w.value 62 = false) :
    m.spareWrite p w = (m.regWrite (0x80070 + 0x1000 * p.val) w).askSpare p (bits w.value 58 58) := by
  have hpos := m.get_regWrite_pos p w hr hfull
  simp [Module.spareWrite, F.portSpareReq, hr, hport, writeOnes, hfull, mergeHalf_full, hreq, hrel, hpos]

theorem spareRequest_free (p : Fin 48) (w : Wr) (e : Env) (s : State) (harr : s.Arrives w (F.portSpareReq p).reg) (hport : isPort p = true)
    (hq : isQuadDuo p = true) (hfull : w.half = .full) (hb : s.Boundary e p) (hreq : bit w.value 63 = true) (hrel : bit w.value 62 = false)
    (hfree : s.spareBusy p = false) : Answers (exec (.spareRequest p w e) s) fun t =>
      t.get (F.portSpareState p) = 1 ∧ t.get (F.portLstsSparePos p) = bits w.value 58 58 ∧ (t.port p).spAsked = true ∧
      (t.port p).spSent = false ∧ (t.port p).spGot = false ∧ t.get (F.portLstsWchg p) = 1 ∧ t.get (F.cause (pgPort p) Ev.spare) = 1 ∧
      Sends s t (.flit p (ctlFlit 6 [1, BitVec.ofNat 8 (bits w.value 58 58)])) ∧ Touches [.regs, .msix, .out, .n, .now] s t := by
  obtain ⟨hm, hr⟩ := harr
  have hpos : bits w.value 58 58 < 2 := bits_lt _ _ _
  have hbegun := begun_write s p w e hr
  have hwrite := (s.toModule.at e).spareWrite_req p w hr hport hfull hreq hrel
  rw [Module.askSpare_free (hbegun.boundary hb) _ hq (by rw [hbegun.spareBusy]; exact hfree)] at hwrite
  rw [exec_spareRequest]
  refine State.answers_runAs s _ _ _ hm ?_
  simp only [State.upd, hwrite]
  generalize (s.toModule.at e).regWrite (0x80070 + 0x1000 * p.val) w = m at hbegun
  generalize bits w.value 58 58 = pos at *
  have hout : Module.Keeps (fun _ => True) true (m.asked p pos) ((m.asked p pos).flitOut p 6 [1, BitVec.ofNat 8 pos]) :=
    (Module.Keeps.refl _).flitOut _ _ _
  have hsaid : ∃ a, (m.asked p pos).out = s.out ++ a ∧ a.all Emit.isEvent = true := by
    obtain ⟨a, ha, hae⟩ := hbegun.out
    obtain ⟨b, hb, hbe⟩ := (m.asked_keeps p pos).out
    exact ⟨a ++ b, by rw [hb, ha, List.append_assoc], by rw [List.all_append, hae, hbe rfl]; rfl⟩
  have hframe : Module.Frame [.regs, .msix, .out, .n, .now] s.toModule ((m.asked p pos).flitOut p 6 [1, BitVec.ofNat 8 pos]) :=
    ((hbegun.frame.mono (by simp)).trans ((m.asked_frame p pos).mono (by simp))).trans
    (((m.asked p pos).flitOut_frame p 6 [1, BitVec.ofNat 8 pos]).mono (by simp))
  refine ⟨?_, ?_, ?_, ?_, ?_, ?_, ?_, sends_of hsaid (Module.flitOut_out _ _ _ _), Module.Frame.touches (f := fun _ => _) hframe⟩
  · exact (hout.field _ (quiet_spare p) trivial).trans (Module.get_spareState _ p 1)
  · exact (hout.field _ (quiet_lsts p) trivial).trans (m.get_asked_pos p pos hpos)
  · rw [Module.port_flitOut, m.port_asked]
  · rw [Module.port_flitOut, m.port_asked]
  · rw [Module.port_flitOut, m.port_asked]
  · exact (hout.field _ (quiet_lsts p) trivial).trans (Module.wchg_spareState _ p 1 (.inl rfl))
  · exact hout.cause _ _ (by decide) (Module.cause_spareState _ p 1)

theorem spareRequest_busy (p : Fin 48) (w : Wr) (e : Env) (s : State) (harr : s.Arrives w (F.portSpareReq p).reg) (hport : isPort p = true)
    (hq : isQuadDuo p = true) (hfull : w.half = .full) (hb : s.Boundary e p) (hreq : bit w.value 63 = true) (hrel : bit w.value 62 = false)
    (hbusy : s.spareBusy p = true) : Answers (exec (.spareRequest p w e) s) fun t =>
      t.get (F.portSpareState p) = 4 ∧ t.n = s.n ∧ SendsEventsOnly s t ∧ Touches [.regs, .msix, .out, .now] s t := by
  obtain ⟨hm, hr⟩ := harr
  have hbegun := begun_write s p w e hr
  have hwrite := (s.toModule.at e).spareWrite_req p w hr hport hfull hreq hrel
  rw [Module.askSpare_busy _ _ _ hq (hbegun.boundary hb).up (by rw [hbegun.spareBusy]; exact hbusy)] at hwrite
  rw [exec_spareRequest]
  refine State.answers_runAs s _ _ _ hm ?_
  simp only [State.upd, hwrite]
  generalize (s.toModule.at e).regWrite (0x80070 + 0x1000 * p.val) w = m at hbegun
  have hk : Module.Keeps (SpareKept p) false m (m.spareState p 4) := (Module.Keeps.refl m).spareState 4 fun _ hf => hf
  obtain ⟨a, ha, hae⟩ := hbegun.out
  obtain ⟨b, hb, hbe⟩ := hk.out
  refine ⟨Module.get_spareState m p 4, ?_, ⟨a ++ b, ?_, ?_⟩, Module.Frame.touches (f := fun _ => _)
    ((hbegun.frame.mono (by simp)).trans ((m.spareState_frame p 4).mono (by simp)))⟩
  · rw [Module.spareState_n, hbegun.n]
  · rw [hb, ha, List.append_assoc]
  · rw [List.all_append, hae, hbe rfl]
    rfl

/-! ## SPARE.release -/

theorem Module.Begun.laneMap {p : Nat} {e : Env} {s m : Module} (h : Module.Begun p e s m) (k : Nat) :
    ∀ f, LaneMap k f → m.get f = s.get f := by
  rintro f (rfl | rfl | ⟨n, rfl⟩)
  · exact h.lsts rfl
  · exact h.lsts rfl
  · exact h.get _ (quiet_rxsts n) (.inl (by simp only [F.laneRxstsRev]; omega))

/-- The release is noted in the port. -/
def Module.goesBack (m : Module) (p : Nat) : Module := m.onPort p fun q => { q with spBack := true }

/-- The release goes on: the position that remains carries the quad. -/
def Module.releasing (m : Module) (p : Nat) : Module :=
  ((m.goesBack p).onDayPort p fun d => { d with since := 0 }).onPort p fun q => { q with spBack := false }

theorem Module.get_goesBack (m : Module) (p : Nat) (f : Fld) : (m.goesBack p).get f = m.get f := rfl

theorem Module.port_onDayPort (m : Module) (p k : Nat) (f : DayPort → DayPort) : (m.onDayPort p f).port k = m.port k := rfl

theorem Module.port_releasing (m : Module) (p : Nat) : (m.releasing p).port p = { m.port p with spBack := false } := by
  rw [Module.releasing, Module.port_onPort, Module.port_onDayPort, Module.goesBack, Module.port_onPort]

theorem Module.releasing_boundary {m : Module} {p : Nat} (h : m.AtBoundary p) : (m.releasing p).AtBoundary p :=
  ⟨h.up, by rw [Module.port_releasing]; exact h.owes, by rw [Module.port_releasing]; exact h.busy⟩

theorem Module.afterWidth_releasing (m : Module) (p : Nat) : (m.goesBack p).afterWidth p =
    (((m.releasing p).owe p (.spare 4 (m.get (F.portLstsSparePos p)))).unsteer p).askWidth p (fullWidth p) (2 ^ 2 ^ fullWidth p - 1) := by
  have hback : ((m.goesBack p).port p).spBack = true := by rw [Module.goesBack, Module.port_onPort]
  have hpos : ((m.goesBack p).onDayPort p fun d => { d with since := 0 }).get (F.portLstsSparePos p) = m.get (F.portLstsSparePos p) := rfl
  simp [Module.afterWidth, hback, hpos, Module.releasing]

/-- A write of SPARE with `release` and without `req`, where the spare serves. -/
theorem Module.spareWrite_release (m : Module) (p : Fin 48) (w : Wr) (hr : m.reaches (0x80070 + 0x1000 * p.val) = true) (hport : isPort p = true)
    (hfull : w.half = .full) (hreq : bit w.value 63 = false) (hrel : bit w.value 62 = true) (m1 : Module)
    (hm1 : m.regWrite (0x80070 + 0x1000 * p.val) w = m1) (hspare : m1.get (F.portLstsSpare p) = 1) (hup : m1.isUp p = true) :
    m.spareWrite p w =
      if m1.get (F.portLstsLanes p) &&& m1.laneMask p (fun n => n / 2 ≠ spareOf p) = m1.get (F.portLstsLanes p) then (m1.goesBack p).afterWidth p
      else (m1.goesBack p).askWidth p 1 (2 ^ (m1.goesBack p).logical p (2 - 2 * m1.get (F.portLstsSparePos p)) +
        2 ^ (m1.goesBack p).logical p (3 - 2 * m1.get (F.portLstsSparePos p))) := by
  have hflag : m1.flag (F.portLstsSpare p) = true := by simp [Module.flag, hspare]
  simp [Module.spareWrite, F.portSpareReq, hr, hport, writeOnes, hfull, mergeHalf_full, hreq, hrel, hm1, hflag, hup, Module.goesBack]
  rfl

end Sys2Proof.Machine

/-! PROOFS. The ends of a release, and the answers to the SPARE flits: O46. -/

namespace Sys2Proof.Machine

set_option Elab.async false

/-! ## The position that remains carries the quad -/

/-- The spare goes back, and the quad asks for its full width. -/
theorem Module.released_spec {m : Module} {p : Nat} (hb : m.AtBoundary p) (hq : isQuadDuo p = true) (heven : p % 2 = 0) (pos width mask : Nat) :
    ((((m.releasing p).flitOut p 6 [4, BitVec.ofNat 8 pos]).unsteer p).askWidth p width mask).SpareBack p ∧
    (((((m.releasing p).flitOut p 6 [4, BitVec.ofNat 8 pos]).unsteer p).askWidth p width mask).port p).spBack = false ∧
    Module.Keeps (fun _ => False) true ((m.releasing p).flitOut p 6 [4, BitVec.ofNat 8 pos])
      ((((m.releasing p).flitOut p 6 [4, BitVec.ofNat 8 pos]).unsteer p).askWidth p width mask) := by
  obtain ⟨h30, h46⟩ := quad_lt hq
  have hsp := spareOf_cases p
  generalize hm4 : (m.releasing p).flitOut p 6 [4, BitVec.ofNat 8 pos] = m4
  have hport4 : m4.port p = { m.port p with spBack := false } := by rw [← hm4, Module.port_flitOut, m.port_releasing]
  have hb4 : m4.AtBoundary p := by
    have hk : Module.Keeps (fun _ => True) true (m.releasing p) m4 := hm4 ▸ (Module.Keeps.refl _).flitOut _ _ _
    have hr := Module.releasing_boundary hb
    exact hr.of_keeps hk trivial (by rw [← hm4, Module.port_flitOut]) (by rw [← hm4, Module.port_flitOut])
  have hport5 : (m4.unsteer p).port p = { m.port p with spBack := false } := (Module.port_congr (m4.unsteer_ports p) p).trans hport4
  have hstate : UnsteerKept p (F.portLstsState p) := by
    refine ⟨pairKept_lsts (by omega) rfl, ?_, ?_, spareKept_lsts ?_ ?_⟩
    all_goals simp only [Apart, F.portLstsState, F.portLstsSpare]
    all_goals omega
  have hunsteer : Module.Keeps (UnsteerKept p) true m4 (m4.unsteer p) := (Module.Keeps.refl m4).unsteer fun _ hf => hf
  have hb5 : (m4.unsteer p).AtBoundary p := hb4.of_keeps hunsteer hstate (by rw [hport5, hport4]) (by rw [hport5, hport4])
  have hback := m4.unsteer_spareBack p hq
  have hwork := Module.widthWork_askWidth hq heven hback.spare hb5 width mask
  refine ⟨hback.of_keeps hwork.keeps (widthKept_lsts (by omega) rfl (by simp [F.portLstsSpare])) ?_
    (widthKept_lsts (by omega) rfl (by simp [F.portLstsState])) fun i hi => ?_, hwork.spBack (by rw [hport5]),
    (hunsteer.mono nofun).trans (hwork.keeps.mono nofun)⟩
  · exact widthKept_port (by simp only [F.portSpareState]; omega) (by simp only [F.portSpareState]; omega)
      fun he => by simp only [F.portSpareState] at he; omega
  · exact ⟨by simp only [F.laneRxstsStage]; omega, fun he => by simp only [F.laneRxstsStage] at he; omega,
      fun n hn => laneKept_stage (by omega)⟩

theorem isPort_quad {p : Nat} (hport : isPort p = true) (hq : isQuadDuo p = true) : p % 2 = 0 := by
  obtain ⟨h30, -⟩ := quad_lt hq
  simp only [isPort, hq, Bool.true_and, Bool.or_eq_true, decide_eq_true_eq] at hport
  omega

theorem spareRelease_carried (p : Fin 48) (w : Wr) (e : Env) (s : State) (harr : s.Arrives w (F.portSpareReq p).reg) (hport : isPort p = true)
    (hq : isQuadDuo p = true) (hfull : w.half = .full) (hb : s.Boundary e p) (hreq : bit w.value 63 = false) (hrel : bit w.value 62 = true)
    (hspare : s.get (F.portLstsSpare p) = 1)
    (hrest : s.get (F.portLstsLanes p) &&& s.laneMask p (fun n => n / 2 ≠ spareOf p) = s.get (F.portLstsLanes p)) :
    Answers (exec (.spareReleaseWrite p w e) s) fun t =>
      SendsFirst s t (.flit p (ctlFlit 6 [4, BitVec.ofNat 8 (s.get (F.portLstsSparePos p))])) ∧ t.get (F.portLstsSpare p) = 0 ∧
      t.get (F.portSpareState p) = 0 ∧ t.lstate (spareOf p) = lsDown ∧ (t.port p).spBack = false ∧
      ∀ i < 2, t.laneStage (2 * spareOf p + i) = lgOff := by
  obtain ⟨hm, hr⟩ := harr
  have hbegun := begun_write s p w e hr
  generalize hm1 : (s.toModule.at e).regWrite (0x80070 + 0x1000 * p.val) w = m at hbegun
  have hbound := hbegun.boundary hb
  have hwrite := (s.toModule.at e).spareWrite_release p w hr hport hfull hreq hrel m hm1 ((hbegun.lsts rfl).trans hspare) hbound.up
  rw [if_pos (by rw [Module.laneMask_congr (hbegun.laneMap p), hbegun.lsts rfl]; exact hrest), m.afterWidth_releasing p, hbegun.lsts rfl,
    Module.owe_spare (Module.releasing_boundary hbound)] at hwrite
  rw [exec_spareReleaseWrite]
  refine State.answers_runAs s _ _ _ hm ?_
  simp only [State.upd, hwrite]
  obtain ⟨hback, hspBack, hkeeps⟩ := Module.released_spec hbound hq (isPort_quad hport hq) (s.get (F.portLstsSparePos p)) (fullWidth p)
    (2 ^ 2 ^ fullWidth p - 1)
  have hsaid : ∃ a, (m.releasing p).out = s.out ++ a ∧ a.all Emit.isEvent = true := hbegun.out
  exact ⟨sendsFirst_of hsaid (Module.flitOut_out _ _ _ _) hkeeps, hback.spare, hback.state, hback.link, hspBack, hback.lanes⟩

/-! ## The quad narrows first -/

/-- The request of a quad to narrow to two of its lanes, as the port holds it before and after the REQ has gone out. -/
def narrowing (q : Port) (mask : Nat) (sent : Bool) : Port :=
  { q with wown := some ⟨q.nextId, 1, mask, false, false, false, false, sent, false, false⟩, nextId := (q.nextId + 1) % 256 }

/-- The request is under way, the flit not sent yet. -/
def Module.asksNarrow (m : Module) (p mask : Nat) : Module :=
  ((m.setPort p (narrowing (m.port p) mask false)).showWchg p).setPort p (narrowing (m.port p) mask true)

theorem Module.asksNarrow_keeps (m : Module) (p mask : Nat) :
    Module.Keeps (fun f => f.reg = 0x80040 + 0x1000 * p → f.hi < 58 ∨ 58 < f.lo) false m (m.asksNarrow p mask) :=
  (((Module.Keeps.refl m).setPort p _).showWchg fun _ hf => hf).setPort p _

theorem Module.port_asksNarrow (m : Module) (p mask : Nat) : (m.asksNarrow p mask).port p = narrowing (m.port p) mask true := by
  rw [Module.asksNarrow, Module.port_setPort]

theorem Module.asksNarrow_boundary {m : Module} {p : Nat} (h : m.AtBoundary p) (mask : Nat) : (m.asksNarrow p mask).AtBoundary p :=
  h.of_keeps (m.asksNarrow_keeps p mask) (fun _ => by simp [F.portLstsState]) (by rw [m.port_asksNarrow]; rfl) (by rw [m.port_asksNarrow]; rfl)

/-- A request for which no lane is added goes out at once. -/
theorem Module.tryReq_plain (m : Module) (p : Nat) (o : WOwn) (ho : (m.port p).wown = some o) (hsent : o.reqSent = false) (hprep : o.prep = false) :
    m.tryReq p = (m.setPort p { m.port p with wown := some { o with reqSent := true } }).owe p (.width 1 o.width o.forced o.mask o.id) := by
  simp [Module.tryReq, ho, hsent, hprep, Module.onPort]

/-- A narrowing to usable lanes that no window forbids: the REQ goes out at once, since no lane is added. -/
theorem Module.askWidth_narrow {m : Module} {p : Nat} (hb : m.AtBoundary p) (hq : isQuadDuo p = true) (mask : Nat) (hmask : mask = 3 ∨ mask = 12)
    (hlanes : m.get (F.portLstsLanes p) = 15) (hunf : m.unfailed p = 15)
    (hsched : (m.port p).sched = none) (hnext : (m.port p).next = none) :
    m.askWidth p 1 mask = (m.asksNarrow p mask).flitOut p 5 [1, 1, BitVec.ofNat 8 mask, BitVec.ofNat 8 (m.port p).nextId] := by
  have hadded : mask &&& (15 ^^^ (mask ||| 15)) = 0 := by rcases hmask with rfl | rfl <;> decide
  have hfull : fullWidth p = 2 := by simp [fullWidth, hq]
  have hcount : popCount 4 mask = 2 := by rcases hmask with rfl | rfl <;> decide
  have hlt : ¬ 16 ≤ mask := by omega
  have husable : mask &&& m.unfailed p = mask := by
    rw [hunf]
    rcases hmask with rfl | rfl <;> decide
  have hblocked : m.narrowBlocked p 1 = false := by simp [Module.narrowBlocked, hsched, hnext]
  have hsend := Module.owe_width (Module.asksNarrow_boundary hb mask) 1 1 false mask (m.port p).nextId
  rw [show ([1, 1, BitVec.ofNat 8 mask, BitVec.ofNat 8 (m.port p).nextId] : List Byte) =
    [BitVec.ofNat 8 1, BitVec.ofNat 8 (1 + 128 * b2n false), BitVec.ofNat 8 mask, BitVec.ofNat 8 (m.port p).nextId] from rfl, ← hsend]
  have hport : ((m.setPort p (narrowing (m.port p) mask false)).showWchg p).port p = narrowing (m.port p) mask false := by
    rw [Module.showWchg, Module.port, Module.putFlag, Module.put_n, ← Module.port, Module.port_setPort]
  have hask : m.askWidth p 1 mask = ((m.setPort p (narrowing (m.port p) mask false)).showWchg p).tryReq p := by
    simp [Module.askWidth, hb.up, hfull, hcount, hlt, husable, hlanes, hadded, hblocked, narrowing]
  rw [hask, Module.tryReq_plain _ p _ (by rw [hport]; rfl) rfl rfl, hport]
  rfl

theorem Module.narrowMask_cases (m : Module) (p : Nat) (hq : isQuadDuo p = true) (pos : Nat) (hpos : pos < 2) :
    2 ^ m.logical p (2 - 2 * pos) + 2 ^ m.logical p (3 - 2 * pos) = 3 ∨ 2 ^ m.logical p (2 - 2 * pos) + 2 ^ m.logical p (3 - 2 * pos) = 12 := by
  obtain rfl | rfl : pos = 0 ∨ pos = 1 := by omega
  all_goals
    simp only [Module.logical, fullWidth, hq]
    cases m.reversed p <;> decide

theorem spareRelease_narrows (p : Fin 48) (w : Wr) (e : Env) (s : State) (harr : s.Arrives w (F.portSpareReq p).reg) (hport : isPort p = true)
    (hq : isQuadDuo p = true) (hfull : w.half = .full) (hb : s.Boundary e p) (hreq : bit w.value 63 = false) (hrel : bit w.value 62 = true)
    (hspare : s.get (F.portLstsSpare p) = 1) (mask : Nat)
    (hmask : mask = 2 ^ s.logical p (2 - 2 * s.get (F.portLstsSparePos p)) + 2 ^ s.logical p (3 - 2 * s.get (F.portLstsSparePos p)))
    (hlanes : s.get (F.portLstsLanes p) = 15)
    (hrest : s.laneMask p (fun n => n / 2 ≠ spareOf p) ≠ 15) (hrest16 : s.laneMask p (fun n => n / 2 ≠ spareOf p) < 16)
    (hunf : s.unfailed p = 15) (hsched : (s.port p).sched = none) (hnext : (s.port p).next = none) :
    Answers (exec (.spareReleaseWrite p w e) s) fun t =>
      SendsFlits s t p [(5, [1, 1, BitVec.ofNat 8 mask, BitVec.ofNat 8 (s.port p).nextId])] ∧ (t.port p).spBack = true ∧
      (t.port p).wown = some ⟨(s.port p).nextId, 1, mask, false, false, false, false, true, false, false⟩ ∧
      t.get (F.portLstsSpare p) = 1 := by
  obtain ⟨hm, hr⟩ := harr
  have hbegun := begun_write s p w e hr
  generalize hm1 : (s.toModule.at e).regWrite (0x80070 + 0x1000 * p.val) w = m at hbegun
  have hbound := hbegun.boundary hb
  have hwrite := (s.toModule.at e).spareWrite_release p w hr hport hfull hreq hrel m hm1 ((hbegun.lsts rfl).trans hspare) hbound.up
  have hfifteen : ∀ r < 16, r ≠ 15 → 15 &&& r ≠ 15 := by decide
  have hback : ∀ f, LaneMap p f → (m.goesBack p).get f = s.get f := hbegun.laneMap p
  have hport' : (m.goesBack p).port p = { s.port p with spBack := true } := by rw [Module.goesBack, Module.port_onPort, hbegun.port]
  have hunf' : (m.goesBack p).unfailed p = 15 := by
    have hfailed : ∀ n, (m.goesBack p).flag (F.laneRxstsFailed n) = s.flag (F.laneRxstsFailed n) := fun n => by
      rw [Module.flag, Module.flag, Module.get_goesBack, hbegun.get _ (quiet_rxsts n) (.inl (by simp only [F.laneRxstsFailed]; omega))]
    rw [← hunf]
    simp only [Module.unfailed, hfailed]
    exact Module.laneMask_congr hback _
  have hboundBack : (m.goesBack p).AtBoundary p := ⟨hbound.up, by rw [Module.goesBack, Module.port_onPort]; exact hbound.owes,
    by rw [Module.goesBack, Module.port_onPort]; exact hbound.busy⟩
  rw [if_neg (by rw [Module.laneMask_congr (hbegun.laneMap p), hbegun.lsts rfl, hlanes]; exact hfifteen _ hrest16 hrest),
    Module.logical_congr hback, hbegun.lsts rfl, ← hmask, Module.askWidth_narrow hboundBack hq mask
      (hmask ▸ s.narrowMask_cases p hq _ (bits_lt _ _ _)) ((hbegun.lsts rfl).trans hlanes) hunf'
      (by rw [hport']; exact hsched) (by rw [hport']; exact hnext), hport'] at hwrite
  rw [exec_spareReleaseWrite]
  refine State.answers_runAs s _ _ _ hm ?_
  simp only [State.upd, hwrite]
  have hkeep := (m.goesBack p).asksNarrow_keeps p mask
  have hsaid : ∃ a, ((m.goesBack p).asksNarrow p mask).out = s.out ++ a ∧ a.all Emit.isEvent = true := by
    obtain ⟨a, ha, hae⟩ := hbegun.out
    obtain ⟨b, hb, hbe⟩ := hkeep.out
    exact ⟨a ++ b, by rw [hb]; simp [Module.goesBack, Module.onPort, Module.setPort, ha], by rw [List.all_append, hae, hbe rfl]; rfl⟩
  refine ⟨sendsJust_of rfl hsaid (Module.flitOut_out _ _ _ _), ?_, ?_, ?_⟩
  · rw [Module.port_flitOut, Module.port_asksNarrow, hport']
    rfl
  · rw [Module.port_flitOut, Module.port_asksNarrow, hport']
    rfl
  · have hout : Module.Keeps (fun _ => True) true ((m.goesBack p).asksNarrow p mask) _ := (Module.Keeps.refl _).flitOut p 5
      [1, 1, BitVec.ofNat 8 mask, BitVec.ofNat 8 (s.port p).nextId]
    exact ((hout.field _ (quiet_lsts p) trivial).trans (hkeep.field _ (quiet_lsts p) fun _ => by simp [F.portLstsSpare])).trans
      ((hbegun.lsts rfl).trans hspare)

end Sys2Proof.Machine

/-! PROOFS. The SPARE flits that arrive (R541, R542), and O46. -/

namespace Sys2Proof.Machine

set_option Elab.async false

/-! ## REQ and ACK -/

theorem sparePosOf_lt (f : List Byte) : sparePosOf f < 2 := Nat.mod_lt _ (by decide)

theorem SpareComesUp.of_steer {s : State} {m a : Module} {p pos : Nat} (ha : a = m.steer p pos) (hq : isQuadDuo p = true) (heven : p % 2 = 0)
    (hpos : pos < 2) (hrun : ∀ i < 2, m.laneStage (2 * spareOf p + i) ≠ lgRun) : SpareComesUp { s with toModule := a } p pos := by
  subst ha
  exact m.steer_spare p pos hq heven hpos hrun

theorem spareReq_free (p : Fin 48) (f : List Byte) (e : Env) (s : State) (hq : isQuadDuo p = true) (heven : p.val % 2 = 0) (hf : s.Flit e p f 6 1)
    (hrun : ∀ i < 2, s.laneStage (2 * spareOf p + i) ≠ lgRun) (hfree : s.spareBusy p = false) :
    Answers (exec (.spareReq p f e) s) fun t => SpareComesUp t p (sparePosOf f) ∧
      SendsFirst s t (.flit p (ctlFlit 6 [2, BitVec.ofNat 8 (sparePosOf f)])) := by
  have hbegun := begun_count s p e
  rw [exec_spareReq, execSpareReq]
  refine State.answers_run s _ _ ?_
  simp only [State.upd]
  rw [Module.rxOp_eq s p e f 6 1 _ hf]
  generalize (s.toModule.at e).count (pgPort p) 1 = m at hbegun
  have hbusy : m.spareBusy p = false := by rw [hbegun.spareBusy]; exact hfree
  generalize hm2 : m.onPort p (fun q => { q with spSent := false, spGot := false }) = m2
  have hb2 : m2.AtBoundary p := by
    have hb := hbegun.boundary hf.1
    rw [← hm2]
    exact ⟨hb.up, by rw [Module.port_onPort]; exact hb.owes, by rw [Module.port_onPort]; exact hb.busy⟩
  have hsaid : ∃ a, m2.out = s.out ++ a ∧ a.all Emit.isEvent = true := hm2 ▸ hbegun.out
  have hout : Module.Keeps (fun _ => True) true m2 (m2.flitOut p 6 [2, BitVec.ofNat 8 (sparePosOf f)]) := (Module.Keeps.refl m2).flitOut _ _ _
  have hrun' : ∀ i < 2, (m2.flitOut p 6 [2, BitVec.ofNat 8 (sparePosOf f)]).laneStage (2 * spareOf p + i) ≠ lgRun := fun i hi => by
    rw [hout.laneStage, ← hm2]
    exact (hbegun.laneStage _).symm ▸ hrun i hi
  have hsteer : (if (!isQuadDuo p) = true then m
      else if (m.spareBusy p && !(decide (m.get (F.portSpareState p) = 1) && decide (m.get (F.portLstsSparePos p) = sparePosOf f))) = true then
        m.owe p (.spare 5 (sparePosOf f))
      else (m2.owe p (.spare 2 (sparePosOf f))).steer p (sparePosOf f)) =
      (m2.flitOut p 6 [2, BitVec.ofNat 8 (sparePosOf f)]).steer p (sparePosOf f) := by
    simp [hq, hbusy, Module.owe_spare hb2]
  rw [hsteer]
  exact ⟨SpareComesUp.of_steer rfl hq heven (sparePosOf_lt f) hrun', sendsFirst_of hsaid (Module.flitOut_out _ _ _ _)
    ((Module.Keeps.refl _).steer hq heven (sparePosOf_lt f) hrun')⟩

theorem spareReq_busy (p : Fin 48) (f : List Byte) (e : Env) (s : State) (hq : isQuadDuo p = true) (hf : s.Flit e p f 6 1)
    (hbusy : s.spareBusy p = true) (hstate : s.get (F.portSpareState p) ≠ 1) :
    Answers (exec (.spareReq p f e) s) fun t => SendsFlits s t p [(6, [5, BitVec.ofNat 8 (sparePosOf f)])] ∧ t.port p = s.port p ∧
      Touches [.regs, .msix, .out, .n, .now] s t := by
  have hbegun := begun_count s p e
  rw [exec_spareReq, execSpareReq]
  refine State.answers_run s _ _ ?_
  simp only [State.upd]
  rw [Module.rxOp_eq s p e f 6 1 _ hf]
  generalize (s.toModule.at e).count (pgPort p) 1 = m at hbegun
  have hbusy' : m.spareBusy p = true := by rw [hbegun.spareBusy]; exact hbusy
  have hstate' : m.get (F.portSpareState p) ≠ 1 := by rw [hbegun.spareState]; exact hstate
  simp only [hq, hbusy', hstate', Module.owe_spare (hbegun.boundary hf.1), Bool.not_true, Bool.false_eq_true, if_false, decide_false, Bool.false_and,
    Bool.not_false, Bool.and_true, if_true]
  have hframe : Module.Frame [.regs, .msix, .out, .n, .now] s.toModule (m.flitOut p 6 [BitVec.ofNat 8 5, BitVec.ofNat 8 (sparePosOf f)]) :=
    (hbegun.frame.mono (by simp)).trans ((m.flitOut_frame _ _ _).mono (by simp))
  exact ⟨sendsJust_of rfl hbegun.out (Module.flitOut_out _ _ _ _), by rw [Module.port_flitOut, hbegun.port],
    Module.Frame.touches (f := fun _ => _) hframe⟩

theorem spareAck_asked (p : Fin 48) (f : List Byte) (e : Env) (s : State) (hq : isQuadDuo p = true) (heven : p.val % 2 = 0) (hf : s.Flit e p f 6 2)
    (hstate : s.get (F.portSpareState p) = 1) (hrun : ∀ i < 2, s.laneStage (2 * spareOf p + i) ≠ lgRun) :
    Answers (exec (.spareAck p f e) s) fun t => SpareComesUp t p (s.get (F.portLstsSparePos p)) := by
  have hbegun := begun_count s p e
  rw [exec_spareAck, execSpareAck]
  refine State.answers_run s _ _ ?_
  simp only [State.upd]
  rw [Module.rxOp_eq s p e f 6 2 _ hf]
  generalize (s.toModule.at e).count (pgPort p) 1 = m at hbegun
  rw [if_pos (by rw [hbegun.spareState]; exact hstate), hbegun.lsts rfl]
  exact SpareComesUp.of_steer rfl hq heven (bits_lt _ _ _) fun i hi => (hbegun.laneStage _).symm ▸ hrun i hi

/-! ## Flits that only count -/

theorem Module.addCtr_value (m : Module) (p n k : Nat) : (m.addCtr p n k).get (F.ctrValue p n) =
    if m.flag F.sampleCtrFreeze then m.get (F.ctrValue p n) else (m.get (F.ctrValue p n) + k) % 2 ^ 48 := by
  have hput : ∀ v, (m.put (F.ctrValue p n) (v % 2 ^ 48)).get (F.ctrValue p n) = v % 2 ^ 48 := fun v => by
    rw [Module.get_put_same _ _ _ (by simp [F.ctrValue]) (by simp [F.ctrValue])]
    simp only [F.ctrValue]
    omega
  unfold Module.addCtr
  dsimp only
  split
  · rfl
  · split
    · rw [Module.get_put_apart _ _ _ _ (by simp [F.ctrOvf]) (by simp [F.ctrOvf]) (by simp [F.ctrOvf, F.ctrValue]), hput]
    · rw [hput]

/-- A counter of a port counts. -/
theorem Module.counts_port (s : State) (e : Env) (p : Nat) (hp : p < 48) :
    ((s.toModule.at e).count (pgPort p) 1).get (F.ctrValue (pgPort p) 1) =
      if s.flag F.sampleCtrFreeze then s.get (F.ctrValue (pgPort p) 1) else (s.get (F.ctrValue (pgPort p) 1) + 1) % 2 ^ 48 := by
  have hat : ∀ f, (s.toModule.at e).get f = s.get f := fun f => by simp [Module.get]
  have hquiet : ¬ EventRegs pgSample (F.ctrValue (pgPort p) 1).reg := by
    rintro (h | h | ⟨i, hi, h⟩) <;> simp only [F.ctrValue, pgPort, pgSample, pgHost] at h <;> omega
  have hadd := (s.toModule.at e).addCtr_value (pgPort p) 1 1
  rw [Module.flag, hat, hat, ← Module.flag] at hadd
  unfold Module.count Module.countUp
  dsimp only
  split
  · rw [Module.get_raise _ _ _ _ hquiet, hadd]
  · exact hadd

theorem spareAck_stray (p : Fin 48) (f : List Byte) (e : Env) (s : State) (hf : s.Flit e p f 6 2) (hstate : s.get (F.portSpareState p) ≠ 1) :
    Answers (exec (.spareAck p f e) s) fun t => Counts s t (pgPort p) 1 1 ∧ Touches [.regs, .msix, .out, .now] s t := by
  have hbegun := begun_count s p e
  have hcounts := Module.counts_port s e p p.isLt
  rw [exec_spareAck, execSpareAck]
  refine State.answers_run s _ _ ?_
  simp only [State.upd]
  rw [Module.rxOp_eq s p e f 6 2 _ hf, if_neg (by rw [hbegun.spareState]; exact hstate)]
  exact ⟨hcounts, Module.Frame.touches (f := fun _ => _) hbegun.frame⟩

/-! ## READY, RELEASE and REFUSE -/

/-- A change of SPARE.state beside one of the port. -/
theorem spareState_spec {s : State} {m a : Module} {p : Nat} {e : Env} (h : Module.Begun p e s.toModule m) (f : Port → Port) (st : Nat)
    (ha : a = (m.onPort p f).spareState p st) (hst : st < 8) :
    a.get (F.portSpareState p) = st ∧ a.port p = f (s.port p) ∧ a.get (F.cause (pgPort p) Ev.spare) = 1 ∧
      a.get (F.portLstsSpare p) = s.get (F.portLstsSpare p) ∧ Module.Frame [.regs, .msix, .out, .n, .now] s.toModule a := by
  subst ha
  have hk : Module.Keeps (SpareKept p) false (m.onPort p f) ((m.onPort p f).spareState p st) := (Module.Keeps.refl _).spareState st fun _ hf => hf
  refine ⟨?_, ?_, Module.cause_spareState _ p st, ?_, ?_⟩
  · rw [Module.get_spareState, Nat.mod_eq_of_lt hst]
  · rw [Module.port, Module.spareState_n, ← Module.port, Module.port_onPort, h.port]
  · refine (hk.field _ (quiet_lsts p) (spareKept_lsts ?_ ?_)).trans (h.lsts rfl)
    · simp only [F.portLstsSpare]
      omega
    · simp [F.portLstsSpare]
  · exact ((h.frame.mono (by simp)).trans ((m.setPort_frame p _).mono (by simp))).trans ((Module.spareState_frame _ p st).mono (by simp))

theorem spareReady_both (p : Fin 48) (f : List Byte) (e : Env) (s : State) (hf : s.Flit e p f 6 3) (hstate : s.get (F.portSpareState p) = 2)
    (hsent : (s.port p).spSent = true) (hasked : (s.port p).spAsked = false) :
    Answers (exec (.spareReady p f e) s) fun t => t.get (F.portSpareState p) = 3 ∧ t.port p = { s.port p with spGot := true } ∧
      t.get (F.cause (pgPort p) Ev.spare) = 1 ∧ t.get (F.portLstsSpare p) = s.get (F.portLstsSpare p) ∧
      Touches [.regs, .msix, .out, .n, .now] s t := by
  have hbegun := begun_count s p e
  rw [exec_spareReady, execSpareReady]
  refine State.answers_run s _ _ ?_
  simp only [State.upd]
  rw [Module.rxOp_eq s p e f 6 3 _ hf]
  generalize (s.toModule.at e).count (pgPort p) 1 = m at hbegun
  have hstate' : m.get (F.portSpareState p) = 2 := by rw [hbegun.spareState]; exact hstate
  have hcheck : (m.onPort p fun q => { q with spGot := true }).checkSpare p = (m.onPort p fun q => { q with spGot := true }).spareState p 3 := by
    have hget : (m.onPort p fun q => { q with spGot := true }).get (F.portSpareState p) = 2 := hstate'
    simp [Module.checkSpare, hget, hbegun.port, hsent, hasked]
  rw [if_pos hstate', hcheck]
  obtain ⟨hst, hport, hcause, hspare, hframe⟩ := spareState_spec hbegun (fun q => { q with spGot := true }) 3 rfl (by decide)
  exact ⟨hst, hport, hcause, hspare, Module.Frame.touches (f := fun _ => _) hframe⟩

theorem spareRelease_back (p : Fin 48) (f : List Byte) (e : Env) (s : State) (hq : isQuadDuo p = true) (hf : s.Flit e p f 6 4)
    (hspare : s.get (F.portLstsSpare p) = 1) : Answers (exec (.spareRelease p f e) s) fun t => t.get (F.portLstsSpare p) = 0 ∧
      t.get (F.portSpareState p) = 0 ∧ t.lstate (spareOf p) = lsDown ∧ ∀ i < 2, t.laneStage (2 * spareOf p + i) = lgOff := by
  have hbegun := begun_count s p e
  rw [exec_spareRelease, execSpareRelease]
  refine State.answers_run s _ _ ?_
  simp only [State.upd]
  rw [Module.rxOp_eq s p e f 6 4 _ hf]
  generalize (s.toModule.at e).count (pgPort p) 1 = m at hbegun
  have hflag : m.flag (F.portLstsSpare p) = true := by simp [Module.flag, hbegun.lsts (f := F.portLstsSpare p) rfl, hspare]
  rw [if_pos hflag]
  have hback := m.unsteer_spareBack p hq
  exact ⟨hback.spare, hback.state, hback.link, hback.lanes⟩

theorem spareRefuse_asked (p : Fin 48) (f : List Byte) (e : Env) (s : State) (hf : s.Flit e p f 6 5) (hstate : s.get (F.portSpareState p) = 1) :
    Answers (exec (.spareRefuse p f e) s) fun t => t.get (F.portSpareState p) = 4 ∧ t.port p = { s.port p with spAsked := false } ∧
      t.get (F.cause (pgPort p) Ev.spare) = 1 ∧ t.get (F.portLstsSpare p) = s.get (F.portLstsSpare p) ∧
      Touches [.regs, .msix, .out, .n, .now] s t := by
  have hbegun := begun_count s p e
  rw [exec_spareRefuse, execSpareRefuse]
  refine State.answers_run s _ _ ?_
  simp only [State.upd]
  rw [Module.rxOp_eq s p e f 6 5 _ hf]
  generalize (s.toModule.at e).count (pgPort p) 1 = m at hbegun
  rw [if_pos (by rw [hbegun.spareState]; exact hstate)]
  obtain ⟨hst, hport, hcause, hspare, hframe⟩ := spareState_spec hbegun (fun q => { q with spAsked := false }) 4 rfl (by decide)
  exact ⟨hst, hport, hcause, hspare, Module.Frame.touches (f := fun _ => _) hframe⟩

/-- Settles O46, clause by clause: SPARE.req free and busy, SPARE.release with the quad on the position that remains and before it has
narrowed, and the five SPARE flits. -/
theorem sparesReplaceFailedDuos : Obligations.SparesReplaceFailedDuos := by
  refine ⟨fun p w e s harr hport hq hfull hb => ⟨?free, ?busy, fun hreq hrel hspare => ⟨?carried, ?narrows⟩⟩,
    fun p f e s hq heven hf hrun => ⟨spareReq_free p f e s hq heven hf hrun, spareReq_busy p f e s hq hf⟩,
    fun p f e s hq heven => ⟨spareAck_asked p f e s hq heven, spareAck_stray p f e s, spareReady_both p f e s, spareRelease_back p f e s hq,
      spareRefuse_asked p f e s⟩⟩
  case free => exact spareRequest_free p w e s harr hport hq hfull hb
  case busy => exact spareRequest_busy p w e s harr hport hq hfull hb
  case carried => exact spareRelease_carried p w e s harr hport hq hfull hb hreq hrel hspare
  case narrows =>
    exact fun mask hmask hlanes _ hrest hlt hunf hsched hnext =>
      spareRelease_narrows p w e s harr hport hq hfull hb hreq hrel hspare mask hmask hlanes hrest hlt hunf hsched hnext

end Sys2Proof.Machine

/-! PROOFS. What the family "register pages, events and semaphores" shares: how a master's access answers, and which writes touch a field. -/

namespace Sys2Proof.Machine

set_option Elab.async false

/-- A write that is not of the upper half touches every field that begins below bit 32. -/
theorem touches_of_ne_hi {h : Half} (hh : h ≠ .hi) {hi lo : Nat} (h32 : lo < 32) : touches h hi lo = true := by
  cases h with
  | full => rfl
  | lo => exact decide_eq_true h32
  | hi => exact absurd rfl hh

/-- A master's access answers what holds of the module it leaves, however that module is written. -/
theorem State.answers_runAs_eq {s : State} {ms : BitVec 4} {f : Module → Module} {m : Module} {P : State → Prop}
    (hm : s.masterReaches ms.toNat = true) (hf : f s.toModule = m) (h : P (s.upd fun _ => m)) : Answers (s.runAs ms f) P := by
  refine s.answers_runAs ms f P hm ?_
  rwa [State.upd, hf]

theorem Module.Frame.touches_left {l : List Part} {s : State} {m : Module} (h : Module.Frame l s.toModule m) :
    Touches l s (s.upd fun _ => m) := Module.Frame.touches (f := fun _ => m) h

end Sys2Proof.Machine

/-! PROOFS. The CRCs of the check-value units (R89, R91) and the units themselves (R90–R94): O14 and O13. -/

namespace Sys2Proof.Machine

set_option Elab.async false

/-! ## A running value keeps to its width -/

theorem crcBitR_lt_two_pow {w poly r : Nat} (hp : poly < 2 ^ w) (h : r < 2 ^ w) : crcBitR poly r < 2 ^ w := by
  have hhalf : r / 2 < 2 ^ w := Nat.lt_of_le_of_lt (Nat.div_le_self r 2) h
  unfold crcBitR
  split
  · exact Nat.xor_lt_two_pow hhalf hp
  · exact hhalf

theorem crcBit_lt_two_pow {w poly : Nat} (hp : poly < 2 ^ w) (r : Nat) : crcBit w poly r < 2 ^ w := by
  have hshift : r * 2 % 2 ^ w < 2 ^ w := Nat.mod_lt _ (Nat.two_pow_pos w)
  unfold crcBit
  dsimp only
  split
  · exact Nat.xor_lt_two_pow hshift hp
  · exact hshift

theorem crcByteR_lt_two_pow {w poly r : Nat} (hp : poly < 2 ^ w) (h8 : 8 ≤ w) (h : r < 2 ^ w) (b : Byte) : crcByteR poly r b < 2 ^ w :=
  iterate_inv (· < 2 ^ w) _ (fun _ => crcBitR_lt_two_pow hp) 8 _
    (Nat.xor_lt_two_pow h (Nat.lt_of_lt_of_le b.isLt (Nat.pow_le_pow_right (by decide) h8)))

/-- The last of the eight bits alone brings the register into its width. -/
theorem crcByte_lt_two_pow {w poly : Nat} (hp : poly < 2 ^ w) (r : Nat) (b : Byte) : crcByte w poly r b < 2 ^ w :=
  iterate_inv (· < 2 ^ w) _ (fun r _ => crcBit_lt_two_pow hp r) 7 _ (crcBit_lt_two_pow hp _)

/-- A CRC of at least a byte's width whose polynomial has that width. -/
structure CrcKind.Fits (k : CrcKind) : Prop where
  poly : k.poly < 2 ^ k.width
  byte : 8 ≤ k.width

theorem crcKind_fits : ∀ sel, (crcKind sel).Fits
  | 0 | 1 | 2 => ⟨by decide, by decide⟩
  | _ + 3 => (by decide : 0x8BB7 < 2 ^ 16 ∧ 8 ≤ 16).elim CrcKind.Fits.mk

theorem CrcKind.feed_lt {k : CrcKind} (hk : k.Fits) (reg : Nat) (bs : List Byte) : k.feed reg bs < 2 ^ k.width := by
  refine List.foldlRecOn (motive := (· < 2 ^ k.width)) bs _ (Nat.mod_lt reg (Nat.two_pow_pos k.width)) fun r hr b _ => ?_
  split
  · exact crcByteR_lt_two_pow hk.poly hk.byte hr b
  · exact crcByte_lt_two_pow hk.poly r b

/-- What a feed leaves has the width of the CRC, so that the next feed takes it up whole. -/
theorem CrcKind.feed_append {k : CrcKind} (hk : k.Fits) (v : Nat) (a b : List Byte) : k.feed v (a ++ b) = k.feed (k.feed v a) b := by
  rw [feed, feed, Nat.mod_eq_of_lt (feed_lt hk v a), feed, List.foldl_append]

/-- Settles O14: the running value keeps to its width; the check values are evaluated. -/
theorem crcFeedsCompose : Obligations.CrcFeedsCompose :=
  ⟨fun sel => CrcKind.feed_append (crcKind_fits sel), by decide +kernel⟩

/-! ## The commands on a unit -/

theorem exec_chkStart (u : Fin 8) (w : Wr) (s : State) : exec (.chkStart u w) s = s.runAs w.master fun m => m.chkStart u.val w := rfl
theorem exec_chkSelWrite (u : Fin 8) (w : Wr) (s : State) : exec (.chkSelWrite u w) s = s.runAs w.master fun m => m.chkSel u.val w := rfl
theorem exec_chkFeed (u : Fin 8) (width : FeedWidth) (w : Wr) (s : State) :
    exec (.chkFeed u width w) s = s.runAs w.master fun m => m.chkFeed u.val width w := rfl

/-- A unit started: sel, the initial value of sel, and no byte fed (R90). -/
def Module.chkStarted (m : Module) (u sel : Nat) : Module :=
  ((m.put (F.chkCtlSel u) sel).put (F.chkValVal u) (crcKind sel).init).put (F.chkBytesBytes u) 0

/-- A unit that has taken up `n` bytes more, with the value they leave (R91). -/
def Module.chkFed (m : Module) (u v n : Nat) : Module :=
  (m.put (F.chkValVal u) v).put (F.chkBytesBytes u) (m.get (F.chkBytesBytes u) + n)

theorem Module.chkStart_eq (m : Module) (u : Nat) (w : Wr) (hr : m.reaches (F.chkCtlSel u).reg = true) (hh : w.half ≠ .hi)
    (hb : bit w.value 2 = true) : m.chkStart u w = m.chkStarted u (bits w.value 1 0) := by
  simp [Module.chkStart, Module.chkStarted, hr, touches_of_ne_hi hh, hb]

theorem Module.chkSel_eq (m : Module) (u : Nat) (w : Wr) (hr : m.reaches (F.chkCtlSel u).reg = true) (hh : w.half ≠ .hi)
    (hb : bit w.value 2 = false) : m.chkSel u w = m.put (F.chkCtlSel u) (bits w.value 1 0) := by
  simp [Module.chkSel, hr, touches_of_ne_hi hh, hb]

theorem Module.chkFeed_eq (m : Module) (u : Nat) (width : FeedWidth) (w : Wr) (hr : m.reaches (feedReg u width).1.reg = true)
    (hh : w.half ≠ .hi) :
    m.chkFeed u width w = m.chkFed u
      ((crcKind (m.get (F.chkCtlSel u))).feed (m.get (F.chkValVal u)) (leBytes (feedReg u width).2 w.value.toNat)) (feedReg u width).2 := by
  simp [Module.chkFeed, Module.chkFed, hr, touches_of_ne_hi hh]

/-! ## What a unit shows -/

theorem crcKind_init_lt : ∀ sel, (crcKind sel).init < 2 ^ 64
  | 0 | 1 | 2 => by decide
  | _ + 3 => Nat.two_pow_pos 64

/-- R94: the initial value and the final XOR cancel. -/
theorem crcKind_init_xor : ∀ sel, (crcKind sel).init ^^^ (crcKind sel).xor = 0
  | 0 | 1 | 2 => by decide
  | _ + 3 => Nat.xor_self 0

theorem Module.shown_chkResult (m : Module) (u : Fin 8) : m.shown (F.chkResultResult u).reg =
    BitVec.ofNat 64 (m.get (F.chkValVal u) ^^^ (crcKind (m.get (F.chkCtlSel u))).xor) := by
  fin_cases u <;> rfl

section
variable (m : Module) (u : Nat)

theorem Module.chkStarted_sel {sel : Nat} (h : sel < 2 ^ 2) : (m.chkStarted u sel).get (F.chkCtlSel u) = sel := by
  rw [Module.chkStarted, Module.get_put_reg _ _ _ _ (by simp [F.chkCtlSel, F.chkBytesBytes]),
    Module.get_put_reg _ _ _ _ (by simp [F.chkCtlSel, F.chkValVal]),
    Module.get_put_same _ _ _ (by decide : 0 ≤ 1) (by decide : 1 < 64)]
  exact Nat.mod_eq_of_lt h

theorem Module.chkStarted_val (sel : Nat) : (m.chkStarted u sel).get (F.chkValVal u) = (crcKind sel).init := by
  rw [Module.chkStarted, Module.get_put_reg _ _ _ _ (by simp [F.chkValVal, F.chkBytesBytes]),
    Module.get_put_same _ _ _ (by decide : 0 ≤ 63) (by decide : 63 < 64)]
  exact Nat.mod_eq_of_lt (crcKind_init_lt sel)

theorem Module.chkStarted_bytes (sel : Nat) : (m.chkStarted u sel).get (F.chkBytesBytes u) = 0 := by
  rw [Module.chkStarted, Module.get_put_same _ _ _ (by decide : 0 ≤ 47) (by decide : 47 < 64), Nat.zero_mod]

theorem Module.chkStarted_word (sel a : Nat)
    (ha : ¬ (a = (F.chkCtlSel u).reg ∨ a = (F.chkValVal u).reg ∨ a = (F.chkBytesBytes u).reg)) :
    (m.chkStarted u sel).word a = m.word a := by
  obtain ⟨hsel, hval, hbytes⟩ := not_or.mp ha |>.imp id not_or.mp
  rw [Module.chkStarted, Module.word_put_other _ _ _ _ hbytes, Module.word_put_other _ _ _ _ hval, Module.word_put_other _ _ _ _ hsel]

theorem Module.chkStarted_frame (sel : Nat) : Module.Frame [.regs] m (m.chkStarted u sel) :=
  ((m.put_frame _ _).trans (Module.put_frame _ _ _)).trans (Module.put_frame _ _ _)

theorem Module.chkFed_val (v n : Nat) : (m.chkFed u v n).get (F.chkValVal u) = v % 2 ^ 64 := by
  rw [Module.chkFed, Module.get_put_reg _ _ _ _ (by simp [F.chkValVal, F.chkBytesBytes]),
    Module.get_put_same _ _ _ (by decide : 0 ≤ 63) (by decide : 63 < 64)]
  rfl

theorem Module.chkFed_bytes (v n : Nat) : (m.chkFed u v n).get (F.chkBytesBytes u) = (m.get (F.chkBytesBytes u) + n) % 2 ^ 48 :=
  Module.get_put_same _ _ _ (by decide : 0 ≤ 47) (by decide : 47 < 64)

theorem Module.chkFed_word (v n a : Nat) (ha : ¬ (a = (F.chkValVal u).reg ∨ a = (F.chkBytesBytes u).reg)) :
    (m.chkFed u v n).word a = m.word a := by
  obtain ⟨hval, hbytes⟩ := not_or.mp ha
  rw [Module.chkFed, Module.word_put_other _ _ _ _ hbytes, Module.word_put_other _ _ _ _ hval]

theorem Module.chkFed_frame (v n : Nat) : Module.Frame [.regs] m (m.chkFed u v n) :=
  (m.put_frame _ _).trans (Module.put_frame _ _ _)

end

/-- Settles O13: each command is one change of the unit's registers, `chkStarted`, a write of sel, or `chkFed`. -/
theorem checkUnitsComputeTheirCrc : Obligations.CheckUnitsComputeTheirCrc := by
  simp only [Obligations.CheckUnitsComputeTheirCrc, exec_chkStart, exec_chkSelWrite, exec_chkFeed]
  refine ⟨fun u w s ⟨hm, hr⟩ hh hb => State.answers_runAs_eq hm (s.chkStart_eq u w hr hh hb) ?start,
    fun u w s ⟨hm, hr⟩ hh hb => State.answers_runAs_eq hm (s.chkSel_eq u w hr hh hb) ?sel,
    fun u width w s ⟨hm, hr⟩ hh => State.answers_runAs_eq hm (s.chkFeed_eq u width w hr hh) ?feed⟩
  case start =>
    have hsel := s.chkStarted_sel u (bits_lt w.value 1 0)
    refine ⟨hsel, s.chkStarted_val u _, s.chkStarted_bytes u _, ?_, s.chkStarted_word u _, (s.chkStarted_frame u _).touches_left⟩
    calc (s.chkStarted u (bits w.value 1 0)).shown (F.chkResultResult u).reg
      _ = BitVec.ofNat 64 ((crcKind (bits w.value 1 0)).init ^^^ (crcKind (bits w.value 1 0)).xor) := by
        rw [Module.shown_chkResult, hsel, Module.chkStarted_val]
      _ = 0 := by rw [crcKind_init_xor]; rfl
  case sel =>
    refine ⟨?_, fun a ha => Module.word_put_other _ _ _ _ ha, (Module.put_frame _ _ _).touches_left⟩
    calc (s.put (F.chkCtlSel u) (bits w.value 1 0)).get (F.chkCtlSel u)
      _ = bits w.value 1 0 % 4 := Module.get_put_same _ _ _ (by decide : 0 ≤ 1) (by decide : 1 < 64)
      _ = bits w.value 1 0 := Nat.mod_eq_of_lt (bits_lt _ _ _)
  case feed =>
    exact ⟨s.chkFed_val u _ _, s.chkFed_bytes u _ _, s.chkFed_word u _ _, (s.chkFed_frame u _ _).touches_left⟩

end Sys2Proof.Machine

/-! PROOFS. Accesses that fail (R64–R66, R763) and the claim of a semaphore (R82, R83): O9 and O11. -/

namespace Sys2Proof.Machine

set_option Elab.async false

/-! ## The record of an access -/

theorem exec_refusedAccess (master : BitVec 4) (addr : BitVec 24) (write : Bool) (s : State) :
    exec (.refusedAccess master addr write) s = execRefusedAccess master addr write s := rfl
theorem exec_stoppedDomainRead (master : BitVec 4) (addr : BitVec 24) (s : State) :
    exec (.stoppedDomainRead master addr) s = execStoppedDomainRead master addr s := rfl
theorem exec_stoppedDomainWrite (addr : BitVec 24) (w : Wr) (s : State) :
    exec (.stoppedDomainWrite addr w) s = execStoppedDomainWrite addr w s := rfl

/-- The fields of DEV.ACCERR that hold the recorded access. -/
def Module.recordAccess (m : Module) (write size : Bool) (master : Nat) (d : Dom) (addr : Nat) : Module :=
  let m := ((m.put F.devAccerrValid 1).putFlag F.devAccerrWrite write).putFlag F.devAccerrSize size
  let m := (m.put F.devAccerrMaster master).put F.devAccerrDomain d.code
  (m.put F.devAccerrPage (addr / 0x1000)).put F.devAccerrOffset (addr % 0x1000)

section
variable (m : Module) (write size : Bool) (master : Nat) (d : Dom) (addr : Nat)

theorem Module.accessError_standing (h : m.flag F.devAccerrValid = true) :
    m.accessError write size master d addr = (m.put F.devAccerrOverrun 1).raise pgDev Ev.regAccess := by
  simp [Module.accessError, h]

theorem Module.accessError_free (h : m.flag F.devAccerrValid = false) :
    m.accessError write size master d addr = (m.recordAccess write size master d addr).raise pgDev Ev.regAccess := by
  simp [Module.accessError, h, Module.recordAccess]

theorem Module.recordAccess_word (a : Nat) (ha : a ≠ 0x50) : (m.recordAccess write size master d addr).word a = m.word a := by
  simp [Module.recordAccess, Module.putFlag, Module.word_put_other, F.devAccerrValid, F.devAccerrWrite, F.devAccerrSize,
    F.devAccerrMaster, F.devAccerrDomain, F.devAccerrPage, F.devAccerrOffset, ha]

theorem Module.accessError_word (a : Nat) (ha : ¬ (a = 0x50 ∨ EventRegs pgDev a)) :
    (m.accessError write size master d addr).word a = m.word a := by
  obtain ⟨h50, hev⟩ := not_or.mp ha
  cases h : m.flag F.devAccerrValid with
  | true => rw [m.accessError_standing _ _ _ _ _ h, Module.raise_word _ _ _ _ hev, Module.word_put_other _ _ _ _ h50]
  | false => rw [m.accessError_free _ _ _ _ _ h, Module.raise_word _ _ _ _ hev, Module.recordAccess_word _ _ _ _ _ _ _ h50]

theorem Module.accessError_frame : Module.Frame [.regs, .msix, .out] m (m.accessError write size master d addr) := by
  intro p hp
  cases p <;> simp_all [Part.same]

theorem Module.accessError_cause : (m.accessError write size master d addr).get (F.cause pgDev Ev.regAccess) = 1 :=
  Module.raise_cause _ _ _ (by decide)

/-- The event of a failed access leaves DEV.ACCERR as recorded. -/
theorem Module.get_raise_accerr (f : Fld) (hf : f.reg = 0x50) : (m.raise pgDev Ev.regAccess).get f = m.get f :=
  m.get_raise _ _ _ (Quiet.not_eventRegs (hf ▸ ⟨by decide, by decide⟩) _)

theorem Module.recordAccess_fields (hmaster : master < 2 ^ 4) (haddr : addr < 2 ^ 24) :
    let t := m.recordAccess write size master d addr
    t.get F.devAccerrValid = 1 ∧ t.get F.devAccerrOverrun = m.get F.devAccerrOverrun ∧ t.get F.devAccerrWrite = b2n write ∧
      t.get F.devAccerrSize = b2n size ∧ t.get F.devAccerrMaster = master ∧ t.get F.devAccerrDomain = d.code ∧
      t.get F.devAccerrPage = addr / 0x1000 ∧ t.get F.devAccerrOffset = addr % 0x1000 := by
  refine ⟨?_, ?_, ?_, ?_, ?_, ?_, ?_, ?_⟩ <;>
    simp (disch := decide) only [Module.recordAccess, Module.putFlag, Module.get_put_apart, Module.get_put_same]
  · rfl
  · cases write <;> rfl
  · cases size <;> rfl
  · exact Nat.mod_eq_of_lt hmaster
  · cases d <;> rfl
  · exact Nat.mod_eq_of_lt (Nat.div_lt_of_lt_mul haddr)
  · exact Nat.mod_mod _ _

end

theorem b2n_ne_zero (b : Bool) : decide (b2n b ≠ 0) = b := by cases b <;> rfl

/-- R66, of any access that fails. -/
theorem recordedAccess_accessError (s : State) (write size : Bool) (master : BitVec 4) (addr : BitVec 24) :
    RecordedAccess s (s.upd fun _ => s.accessError write size master.toNat (domOf (regAddr addr.toNat)) addr.toNat) write size
      master.toNat addr.toNat := by
  refine ⟨fun h => ?standing, fun h => ?free, s.accessError_cause _ _ _ _ _, fun a ha => s.accessError_word _ _ _ _ _ a ha,
    (s.accessError_frame _ _ _ _ _).touches_left⟩
  case standing =>
    simp only [State.upd, s.accessError_standing _ _ _ _ _ h]
    refine ⟨?_, fun f hf => ?_⟩
    · rw [Module.get_raise_accerr _ _ rfl, Module.get_put_same _ _ _ (by decide) (by decide)]
      rfl
    · have hreg : f.reg = 0x50 ∧ (f.hi < 62 ∨ 62 < f.lo) := by
        simp only [List.mem_cons, List.not_mem_nil, or_false] at hf
        rcases hf with rfl | rfl | rfl | rfl | rfl | rfl | rfl <;> decide
      obtain ⟨h50, hap⟩ := hreg
      rw [Module.get_raise_accerr _ _ h50, Module.get_put_apart _ _ _ _ (by decide) (by decide) hap]
  case free =>
    have hfields := s.recordAccess_fields write size master.toNat (domOf (regAddr addr.toNat)) addr.toNat master.isLt addr.isLt
    simp (disch := decide) only [State.upd, s.accessError_free _ _ _ _ _ h, Module.flag, Module.get_raise_accerr]
    obtain ⟨hvalid, hover, hwrite, hsize, hrest⟩ := hfields
    rw [hwrite, hsize]
    exact ⟨hvalid, hover, b2n_ne_zero write, b2n_ne_zero size, hrest⟩

/-- Settles O9: each command is `accessError`, whose record R66 describes. -/
theorem failedAccessesAreRecorded : Obligations.FailedAccessesAreRecorded := by
  have hpage : ∀ a, regAddr a / 0x1000 = a / 0x1000 := by
    intro a
    simp only [regAddr]
    omega
  simp only [Obligations.FailedAccessesAreRecorded, exec_refusedAccess, exec_stoppedDomainRead, exec_stoppedDomainWrite]
  refine ⟨fun master addr write s hm => ?_, fun master addr s hm habs hstop => ?_, fun addr w s hm habs hstop => ?_⟩
  · exact State.answers_runAs_eq hm rfl (recordedAccess_accessError s write true master addr)
  · exact State.answers_runAs_eq hm (by simp [hpage, habs, hstop]) (recordedAccess_accessError s false false master addr)
  · exact State.answers_runAs_eq hm (by simp [hpage, habs, hstop]) (recordedAccess_accessError s true false w.master addr)

/-! ## Claiming a semaphore -/

theorem exec_semClaim (n : BitVec 8) (w : Wr) (s : State) : exec (.semClaim n w) s = s.runAs w.master fun m => m.semClaim n.toNat w := rfl

section
variable (m : Module) (n : Nat) (w : Wr)

theorem Module.semClaim_taken (hr : m.reaches (F.semLockOwner n).reg = true) (hh : w.half ≠ .hi) (h0 : bits w.value 3 0 ≠ 0)
    (hallow : m.semAllowed n w.master.toNat = true) (hid : bits w.value 3 0 = w.master.toNat) (hfree : m.get (F.semLockOwner n) = 0) :
    m.semClaim n w = m.put (F.semLockOwner n) w.master.toNat := by
  rw [hid] at h0
  simp [Module.semClaim, hr, touches_of_ne_hi hh, h0, hallow, hid, hfree]

theorem Module.semClaim_ignored (hr : m.reaches (F.semLockOwner n).reg = true) (hh : w.half ≠ .hi)
    (hallow : m.semAllowed n w.master.toNat = true) (h : bits w.value 3 0 ≠ w.master.toNat ∨ m.get (F.semLockOwner n) ≠ 0) :
    m.semClaim n w = m := by
  have hn : ¬ (bits w.value 3 0 = w.master.toNat ∧ m.get (F.semLockOwner n) = 0) := by tauto
  simp [Module.semClaim, hr, touches_of_ne_hi hh, hallow, hn]

theorem Module.semClaim_denied (hr : m.reaches (F.semLockOwner n).reg = true) (hh : w.half ≠ .hi) (h0 : bits w.value 3 0 ≠ 0)
    (hdeny : m.semAllowed n w.master.toNat = false) : m.semClaim n w = m.raise pgSem Ev.denied := by
  simp [Module.semClaim, hr, touches_of_ne_hi hh, h0, hdeny]

end

/-- Settles O11: a claim takes the semaphore, is ignored, or raises DENIED. -/
theorem semaphoreIsClaimed : Obligations.SemaphoreIsClaimed := by
  simp only [Obligations.SemaphoreIsClaimed, exec_semClaim]
  refine fun n w s ⟨hm, hr⟩ hh h0 => ⟨fun hallow hid hfree => ?taken, fun hallow h => ?ignored, fun hdeny => ?denied⟩
  case taken =>
    refine State.answers_runAs_eq hm (s.semClaim_taken _ w hr hh h0 hallow hid hfree) ⟨?_, rfl⟩
    calc (s.put (F.semLockOwner n.toNat) w.master.toNat).get (F.semLockOwner n.toNat)
      _ = w.master.toNat % 2 ^ 4 := Module.get_put_same _ _ _ (by decide : 0 ≤ 3) (by decide : 3 < 64)
      _ = w.master.toNat := Nat.mod_eq_of_lt w.master.isLt
  case ignored =>
    rw [s.runAs_eq _ _ hm, State.upd, s.semClaim_ignored _ w hr hh hallow h]
  case denied =>
    exact State.answers_runAs_eq hm (s.semClaim_denied _ w hr hh h0 hdeny)
      ⟨Module.raise_cause _ _ _ (by decide), fun a ha => Module.raise_word _ _ _ _ ha, (Module.raise_frame _ _ _).touches_left⟩

end Sys2Proof.Machine

/-! PROOFS. The counterexample to O15, in the clause of EVT_PEND_CLEAR. Its first part says that what the write leaves of EVT_PEND stands after
the command. On the SAMPLE page it need not: the further message of R76 is counted by the MSI-X counter of its host link (R726), and where
that counter wraps, CTR_OVF is set in the very EVT_PEND that was written (R715). -/

namespace Sys2Proof.Machine

set_option Elab.async false

theorem exec_evtPendClear (page : BitVec 12) (w : Wr) (s : State) :
    exec (.evtPendClear page w) s = s.runAs w.master fun m => m.pendClear page.toNat w := rfl

/-- Noon, with host link 0 up, its vector 0 unmasked and one message short of a wrap of its counter. The SAMPLE page has CTR_OVF and SAMPLE_ERR
pending and SAMPLE_ERR enabled; its source goes to vector 0. -/
def wrapState : State :=
  State.reset.upd fun m =>
    let m := { m with straps := { due := false, sampled := some 0, differs := false, lastDiff := none } }
    let m := (m.put F.modeStsMode mNoon).put (F.hostLstsUp 0) 1
    let m := (m.setMsix 0 { MsixFn.init with enable := true, table := [(8, 0)] }).put (F.ctrValue (pgHost 0) 4) (2 ^ 48 - 1)
    let m := (m.put (F.evtEn pgSample) (2 ^ Ev.sampleErr)).put (F.evtPend pgSample) (2 ^ Ev.ctrOvf + 2 ^ Ev.sampleErr)
    m.put (F.evtEnt pgSample 63 63) 1

/-- Master 1 clears CTR_OVF. -/
def clearOvf : Wr := ⟨1, .full, BitVec.ofNat 64 (2 ^ Ev.ctrOvf)⟩

theorem wrapState_arrives : wrapState.Arrives clearOvf (pgSample * 0x1000 + 0x38) := ⟨by decide, by decide +kernel⟩

/-- The clear leaves SAMPLE_ERR alone, and the message it makes sets CTR_OVF again. -/
theorem wrapState_pendClear : (wrapState.pendClear pgSample clearOvf).word (pgSample * 0x1000 + 0x38) = 3 := by decide +kernel

theorem wrapState_cleared : wrapState.word (pgSample * 0x1000 + 0x38) &&& ~~~clearOvf.value = 2 := by decide +kernel

/-- Refutes O15: in `wrapState` EVT_PEND of the SAMPLE page reads 3 after a write that clears bit 0 of 3. -/
theorem not_eventMessages : ¬ Obligations.EventMessages := by
  rintro ⟨-, -, -, hclear⟩
  obtain ⟨t, ht, hword, -⟩ := hclear (BitVec.ofNat 12 pgSample) clearOvf wrapState wrapState_arrives (by decide) rfl
  rw [exec_evtPendClear, State.runAs_eq _ _ _ wrapState_arrives.1] at ht
  have hpage : (BitVec.ofNat 12 pgSample).toNat = pgSample := rfl
  rw [← Host.Outcome.next.inj ht, State.upd, hpage, wrapState_pendClear, wrapState_cleared] at hword
  exact absurd hword (by decide)

end Sys2Proof.Machine

/-! PROOFS. What the messages of events leave as it is (R74–R81): the rules that every message keeps, and the vectors of one link. -/

namespace Sys2Proof.Machine

set_option Elab.async false

/-! ## MSI-X functions -/

@[simp] theorem Module.msixFn_setMsix_same (m : Module) (i : Nat) (f : MsixFn) : (m.setMsix i f).msixFn i = f := by
  simp [Module.msixFn, Module.setMsix]

theorem Module.msixFn_setMsix_other (m : Module) (i j : Nat) (f : MsixFn) (h : j ≠ i) : (m.setMsix i f).msixFn j = m.msixFn j := by
  simp [Module.msixFn, Module.setMsix, KMap.getD_put_other _ _ _ _ _ h]

/-- The host has written the same to two functions: they differ in pending bits alone. -/
structure MsixFn.Alike (f g : MsixFn) : Prop where
  table : g.table = f.table
  enable : g.enable = f.enable
  funcMask : g.funcMask = f.funcMask

theorem MsixFn.Alike.refl (f : MsixFn) : f.Alike f := ⟨rfl, rfl, rfl⟩

theorem MsixFn.Alike.trans {f g h : MsixFn} (a : f.Alike g) (b : g.Alike h) : f.Alike h :=
  ⟨b.table.trans a.table, b.enable.trans a.enable, b.funcMask.trans a.funcMask⟩

theorem MsixFn.Alike.word {f g : MsixFn} (h : f.Alike g) (a : Nat) : g.word a = f.word a := by simp only [MsixFn.word, h.table]

theorem MsixFn.Alike.masked {f g : MsixFn} (h : f.Alike g) (v : Nat) : g.masked v = f.masked v := by
  simp only [MsixFn.masked, h.funcMask, h.word]

theorem MsixFn.Alike.msg {f g : MsixFn} (h : f.Alike g) (link v : Nat) : g.msg link v = f.msg link v := by
  simp only [MsixFn.msg, h.word]

/-! ## Sources that are asserted -/

/-- R56: a page source is asserted by a cause that is pending and enabled. -/
theorem Module.asserted_page_iff (m : Module) {n : Nat} (hn : n < 0x240) : m.asserted n = true ↔
    m.absent n = false ∧ ∃ c < 32, m.get (F.cause n c) = 1 ∧ (m.get (F.evtEn n)).testBit c = true := by
  have hcause : ∀ c, m.get (F.cause n c) = 1 ↔ (m.word (n * 0x1000 + 0x38)).toNat.testBit c = true := by
    intro c
    simp only [Module.get, F.cause, bits, Nat.add_sub_cancel_left, Nat.shiftRight_eq_div_pow, Nat.testBit_eq_decide_div_mod_eq]
    simp
  simp only [Module.asserted, hn, if_true, Bool.and_eq_true, Bool.not_eq_true', decide_eq_true_eq, hcause]
  refine and_congr_right fun _ => ⟨fun h => ?_, fun ⟨c, hc, hpend, hen⟩ h => ?_⟩
  · obtain ⟨c, hc⟩ := Nat.exists_testBit_of_ne_zero h
    rw [Nat.testBit_and, Bool.and_eq_true, Module.get, F.evtPend, bits_testBit, Bool.and_eq_true, decide_eq_true_eq, Nat.zero_add] at hc
    exact ⟨c, hc.1.1, hc.1.2, hc.2⟩
  · have hbit : (m.get (F.evtPend n) &&& m.get (F.evtEn n)).testBit c = true := by
      rw [Nat.testBit_and, hen, Module.get, F.evtPend, bits_testBit]
      simp [hpend, hc]
    rw [h, Nat.zero_testBit] at hbit
    cases hbit

theorem Module.asserted_src (m : Module) {n : Nat} (hn : 0x240 ≤ n) : m.asserted n = m.flag (F.srcPend n) := by
  simp [Module.asserted, Nat.not_lt.mpr hn]

theorem Module.absent_congr {m m' : Module} (hf : m'.fuses = m.fuses) (hs : m'.straps = m.straps) (page : Nat) :
    m'.absent page = m.absent page := by
  simp only [Module.absent, Module.hostMode, hf, hs]

/-! ## What every message keeps -/

/-- Messages of events have been sent: registers change in the counters of messages and CTR_OVF alone, causes that are set stay set, the MSI-X
functions change in their pending bits alone, and what has been sent stands. -/
structure Module.Messages (m m' : Module) : Prop where
  frame : Module.Frame [.regs, .msix, .out] m m'
  word : ∀ a, ¬ MsgRegs a → m'.word a = m.word a
  cause : ∀ page c, c < 64 → m.get (F.cause page c) = 1 → m'.get (F.cause page c) = 1
  msixFn : ∀ j, (m.msixFn j).Alike (m'.msixFn j)
  out : ∃ x, m'.out = m.out ++ x

section
variable {m a b : Module}

theorem Module.Messages.refl (m : Module) : m.Messages m :=
  ⟨.refl _ m, fun _ _ => rfl, fun _ _ _ h => h, fun _ => .refl _, [], (List.append_nil _).symm⟩

theorem Module.Messages.trans (h : m.Messages a) (k : a.Messages b) : m.Messages b := by
  obtain ⟨x, hx⟩ := h.out
  obtain ⟨y, hy⟩ := k.out
  exact ⟨h.frame.trans k.frame, fun r hr => (k.word r hr).trans (h.word r hr), fun p c hc hs => k.cause p c hc (h.cause p c hc hs),
    fun j => (h.msixFn j).trans (k.msixFn j), x ++ y, by rw [hy, hx, List.append_assoc]⟩

theorem Module.Messages.foldl {α : Type} (f : Module → α → Module) (hf : ∀ (m : Module) x, m.Messages (f m x)) (xs : List α) :
    ∀ m : Module, m.Messages (xs.foldl f m) := by
  induction xs with
  | nil => exact Module.Messages.refl
  | cons x xs ih => exact fun m => (hf m x).trans (ih _)

theorem Module.Messages.get (h : m.Messages a) (f : Fld) (hf : ¬ MsgRegs f.reg) : a.get f = m.get f := by
  rw [Module.get, h.word _ hf, Module.get]

/-- A source that is asserted stays so. -/
theorem Module.Messages.asserted (h : m.Messages a) (n : Nat) (hn : m.asserted n = true) : a.asserted n = true := by
  by_cases hpage : n < 0x240
  · rw [Module.asserted_page_iff _ hpage] at hn ⊢
    obtain ⟨habs, c, hc, hpend, hen⟩ := hn
    have henabled : ¬ MsgRegs (F.evtEn n).reg := by
      simp only [MsgRegs, F.evtEn]
      omega
    refine ⟨?_, c, hc, h.cause _ _ (by omega) hpend, (h.get _ henabled).symm ▸ hen⟩
    rw [Module.absent_congr (h.frame .fuses (by decide)) (h.frame .straps (by decide)), habs]
  · have hsrc : ¬ MsgRegs (F.srcPend n).reg := by
      simp only [MsgRegs, F.srcPend]
      omega
    rw [Module.asserted_src _ (by omega)] at hn ⊢
    rwa [Module.flag, h.get _ hsrc]

/-- The entries of the event table stand. -/
theorem Module.Messages.evtEnt (h : m.Messages a) {n : Nat} (hn : n < 1024) (hi lo : Nat) : a.get (F.evtEnt n hi lo) = m.get (F.evtEnt n hi lo) := by
  refine h.get _ ?_
  simp only [MsgRegs, F.evtEnt, pgSample, pgHost]
  omega

theorem Module.Messages.mainOff (h : m.Messages a) : a.mainOff = m.mainOff := by
  have hmode : a.get F.modeStsMode = m.get F.modeStsMode := h.get _ (by simp only [MsgRegs, F.modeStsMode, pgSample, pgHost]; omega)
  rw [Module.mainOff, Module.mode, hmode, Module.mainOff, Module.mode]

theorem Module.Messages.canTake (h : m.Messages a) (l : Nat) : a.canTake l = m.canTake l := by
  have hup : a.get (F.hostLstsUp l) = m.get (F.hostLstsUp l) := h.get _ (by simp only [MsgRegs, F.hostLstsUp, pgSample, pgHost]; omega)
  simp only [Module.canTake, Module.linkUp, Module.flag, hup, (h.msixFn l).enable]

end

/-! ## The operations that send messages -/

theorem Module.setMsix_frame (m : Module) (i : Nat) (f : MsixFn) : Module.Frame [.msix] m (m.setMsix i f) := by
  intro p hp
  cases p <;> simp_all [Part.same]

theorem Module.addCtr_frame (m : Module) (p n k : Nat) : Module.Frame [.regs] m (m.addCtr p n k) := by
  intro p hp
  cases p <;> simp_all [Part.same]

theorem Module.messages_setMsix (m : Module) (l : Nat) (f : MsixFn) (h : (m.msixFn l).Alike f) : m.Messages (m.setMsix l f) := by
  refine ⟨(m.setMsix_frame l f).mono (by simp), fun a _ => m.setMsix_word l f a, fun p c _ hs => ?_, fun j => ?_, [], by simp⟩
  · rwa [Module.get, Module.setMsix_word]
  · by_cases hj : j = l
    · rw [hj, Module.msixFn_setMsix_same]
      exact h
    · rw [Module.msixFn_setMsix_other _ _ _ _ hj]
      exact .refl _

theorem Module.messages_pendVector (m : Module) (l v : Nat) (b : Bool) : m.Messages (m.pendVector l v b) :=
  m.messages_setMsix l _ ⟨rfl, rfl, rfl⟩

theorem Module.messages_emit (m : Module) (x : Emit) : m.Messages (m.emit x) :=
  ⟨(m.emit_frame x).mono (by simp), fun a _ => m.emit_word x a, fun p c _ hs => by rwa [Module.get, Module.emit_word], fun _ => .refl _, [x],
    m.emit_out x⟩

theorem Module.msixFn_addCtr (m : Module) (p n k j : Nat) : (m.addCtr p n k).msixFn j = m.msixFn j := by
  simp only [Module.msixFn, Module.addCtr_msix]

theorem Module.messages_addCtr (m : Module) {l : Nat} (hl : l < 4) (k : Nat) : m.Messages (m.addCtr (pgHost l) 4 k) := by
  have hword : ∀ a, a ≠ pgHost l * 0x1000 + 0x820 → (m.addCtr (pgHost l) 4 k).word a = m.word a := fun a ha => m.addCtr_word _ _ _ _ ha
  refine ⟨(m.addCtr_frame _ _ _).mono (by simp), fun a ha => hword a fun e => ha (.inr ⟨l, hl, e⟩), fun p c _ hs => ?_,
    fun j => m.msixFn_addCtr _ _ _ j ▸ .refl _, [], by simp⟩
  rwa [Module.get, hword _ (by simp only [F.cause]; omega)]

theorem Module.messages_put_ovf (m : Module) : m.Messages (m.put (F.cause pgSample Ev.ctrOvf) 1) :=
  ⟨(m.put_frame _ _).mono (by simp), fun _ ha => m.word_put_other _ _ _ fun e => ha (.inl e), fun _ _ hc hs => m.put_ovf_cause _ _ hc hs,
    fun j => .refl _, [], by simp⟩

theorem Module.messages_ovfMessage (m : Module) : m.Messages m.ovfMessage := by
  unfold Module.ovfMessage
  split
  · exact .refl m
  · exact m.messages_emit _
  next link v hd =>
    split
    · exact m.messages_pendVector _ _ _
    · exact (m.messages_addCtr (m.dest_link _ _ _ hd) 1).trans (Module.messages_emit _ _)

theorem Module.messages_countMsg (m : Module) {l : Nat} (hl : l < 4) : m.Messages (m.countMsg l) := by
  have hcount := m.messages_addCtr hl 1
  have hovf := hcount.trans (Module.messages_put_ovf _)
  unfold Module.countMsg
  dsimp only
  split
  · split
    · exact hovf.trans (Module.messages_ovfMessage _)
    · exact hovf
  · exact hcount

theorem Module.messages_sendVector (m : Module) {l : Nat} (hl : l < 4) (v : Nat) (b : Bool) : m.Messages (m.sendVector l v b) := by
  unfold Module.sendVector
  split
  · exact m.messages_pendVector _ _ _
  · exact (m.messages_emit _).trans (Module.messages_countMsg _ hl)

theorem Module.messages_deliver (m : Module) (n : Nat) : m.Messages (m.deliver n) := by
  unfold Module.deliver
  split
  · exact .refl m
  · exact m.messages_emit _
  next link v hd => exact m.messages_sendVector (m.dest_link _ _ _ hd) v false

end Sys2Proof.Machine

/-! PROOFS. The MSI-X vectors of a host link: what unmasking and enabling send (R79, R81), and that they leave the other links alone: O16. -/

namespace Sys2Proof.Machine

set_option Elab.async false

theorem exec_msixUnmask (link : Fin 4) (v : BitVec 11) (s : State) : exec (.msixUnmask link v) s = execMsixUnmask link v s := rfl
theorem exec_msixEnable (link : Fin 4) (mask : Bool) (s : State) : exec (.msixEnable link mask) s = execMsixEnable link mask s := rfl

/-! ## A pending vector that is unmasked -/

/-- The module with a vector of a link no longer pending. -/
def Module.dropPend (m : Module) (l v : Nat) : Module :=
  let f := m.msixFn l
  m.setMsix l { f with pend := f.pend.filter (· ≠ v), crPend := f.crPend.filter (· ≠ v) }

/-- Whether an asserted, enabled source is routed to a vector of a link. -/
def Module.routed (m : Module) (l v : Nat) : Bool :=
  (List.range 1024).any fun n =>
    decide (m.get (F.evtEnt n 63 63) = 1) && decide (m.get (F.evtEnt n 62 62) = 0) && decide (m.get (F.evtEnt n 57 56) = l) &&
      decide (m.get (F.evtEnt n 42 32) = v) && m.asserted n

section
variable (m : Module) (l v : Nat)

theorem Module.unmasked_idle (h : (m.msixFn l).masked v = true ∨ v ∉ (m.msixFn l).pend) : m.unmasked l v = m := by
  rcases h with h | h <;> simp [Module.unmasked, h]

theorem Module.unmasked_pending (hmask : (m.msixFn l).masked v = false) (hpend : v ∈ (m.msixFn l).pend) : m.unmasked l v =
    if (m.msixFn l).crPend.contains v || m.routed l v then ((m.dropPend l v).emit ((m.msixFn l).msg l v)).countMsg l
    else m.dropPend l v := by
  simp only [Module.unmasked, hmask, List.contains_iff_mem.mpr hpend]
  rfl

theorem Module.messages_dropPend : m.Messages (m.dropPend l v) := m.messages_setMsix l _ ⟨rfl, rfl, rfl⟩

theorem Module.messages_unmasked {l : Nat} (hl : l < 4) : m.Messages (m.unmasked l v) := by
  by_cases h : (m.msixFn l).masked v = true ∨ v ∉ (m.msixFn l).pend
  · rw [m.unmasked_idle l v h]
    exact .refl m
  · simp only [not_or, Bool.not_eq_true, not_not] at h
    rw [m.unmasked_pending l v h.1 h.2]
    have hdrop := m.messages_dropPend l v
    split
    · exact (hdrop.trans (Module.messages_emit _ _)).trans (Module.messages_countMsg _ hl)
    · exact hdrop

end

/-! ## Messages whose count does not wrap -/

theorem Module.countMsg_of_not_wraps (m : Module) (l : Nat) (h : m.wraps (pgHost l) 4 1 = false) : m.countMsg l = m.addCtr (pgHost l) 4 1 := by
  simp [Module.countMsg, h]

/-- The counter of messages of a link. -/
def Module.msgCount (m : Module) (l : Nat) : Nat := m.get (F.ctrValue (pgHost l) 4)

/-- At most `k` messages have gone out on link `l`, and the other links' functions are as they were. -/
structure Module.OnLink (l k : Nat) (m m' : Module) : Prop where
  count : m'.msgCount l ≤ m.msgCount l + k
  others : ∀ j, j ≠ l → m'.msixFn j = m.msixFn j

section
variable {l k : Nat} {m a b : Module}

theorem Module.OnLink.refl (l : Nat) (m : Module) : m.OnLink l 0 m := ⟨Nat.le_refl _, fun _ _ => rfl⟩

theorem Module.OnLink.mono {k' : Nat} (h : m.OnLink l k a) (hk : k ≤ k') : m.OnLink l k' a :=
  ⟨Nat.le_trans h.count (Nat.add_le_add_left hk _), h.others⟩

theorem Module.OnLink.trans {k' : Nat} (h : m.OnLink l k a) (h' : a.OnLink l k' b) : m.OnLink l (k + k') b :=
  ⟨by have := h.count; have := h'.count; omega, fun j hj => (h'.others j hj).trans (h.others j hj)⟩

theorem Module.onLink_setMsix (m : Module) (l : Nat) (f : MsixFn) : m.OnLink l 0 (m.setMsix l f) :=
  ⟨by simp [Module.msgCount, Module.get], fun j hj => m.msixFn_setMsix_other l j f hj⟩

theorem Module.onLink_emit (m : Module) (l : Nat) (x : Emit) : m.OnLink l 0 (m.emit x) :=
  ⟨by simp [Module.msgCount, Module.get], fun _ _ => rfl⟩

theorem Module.onLink_countMsg (m : Module) (l : Nat) (h : m.msgCount l + 1 < 2 ^ 48) : m.OnLink l 1 (m.countMsg l) := by
  have hwraps : m.wraps (pgHost l) 4 1 = false := by
    simp only [Module.wraps, Bool.and_eq_false_iff, decide_eq_false_iff_not, Nat.not_le]
    exact .inr h
  rw [m.countMsg_of_not_wraps l hwraps]
  refine ⟨?_, fun j _ => m.msixFn_addCtr _ _ _ j⟩
  rw [Module.msgCount, Module.addCtr_value]
  split
  · exact Nat.le_succ _
  · exact Nat.mod_le _ _

theorem Module.onLink_emit_countMsg (m : Module) (l : Nat) (x : Emit) (h : m.msgCount l + 1 < 2 ^ 48) : m.OnLink l 1 ((m.emit x).countMsg l) := by
  have hemit := m.onLink_emit l x
  have hcount := Module.onLink_countMsg (m.emit x) l (by have := hemit.count; omega)
  simpa using hemit.trans hcount

theorem Module.onLink_unmasked (m : Module) (l v : Nat) (h : m.msgCount l + 1 < 2 ^ 48) : m.OnLink l 1 (m.unmasked l v) := by
  by_cases hidle : (m.msixFn l).masked v = true ∨ v ∉ (m.msixFn l).pend
  · rw [m.unmasked_idle l v hidle]
    exact (Module.OnLink.refl l m).mono (Nat.zero_le 1)
  · simp only [not_or, Bool.not_eq_true, not_not] at hidle
    have hdrop : m.OnLink l 0 (m.dropPend l v) := m.onLink_setMsix l _
    rw [m.unmasked_pending l v hidle.1 hidle.2]
    split
    · simpa using hdrop.trans (Module.onLink_emit_countMsg _ l _ (by have := hdrop.count; omega))
    · exact hdrop.mono (Nat.zero_le 1)

/-- A source routed to a link sends there, to the MMP, or nothing. -/
theorem Module.onLink_deliver (m : Module) (l n : Nat) (hlink : m.get (F.evtEnt n 57 56) = l) (h : m.msgCount l + 1 < 2 ^ 48) :
    m.OnLink l 1 (m.deliver n) := by
  unfold Module.deliver
  split
  · exact (Module.OnLink.refl l m).mono (Nat.zero_le 1)
  · exact (m.onLink_emit l _).mono (Nat.zero_le 1)
  next l' v hd =>
    have hl : l' = l := by
      rw [← hlink]
      unfold Module.dest at hd
      dsimp only at hd
      repeat' split at hd
      all_goals simp at hd
      exact hd.1.symm
    subst hl
    unfold Module.sendVector
    split
    · exact (m.onLink_setMsix l' _).mono (Nat.zero_le 1)
    · exact m.onLink_emit_countMsg l' _ h

/-- Steps of one message each stay on their link while the counter has room for all of them. -/
theorem Module.onLink_foldl {α : Type} {l : Nat} (f : Module → α → Module)
    (hf : ∀ (m : Module) x, m.msgCount l + 1 < 2 ^ 48 → m.OnLink l 1 (f m x)) (xs : List α) :
    ∀ m : Module, m.msgCount l + xs.length < 2 ^ 48 → m.OnLink l xs.length (xs.foldl f m) := by
  induction xs with
  | nil => exact fun m _ => .refl l m
  | cons x xs ih =>
    intro m h
    rw [List.length_cons] at h
    have hx := hf m x (by omega)
    have hxs := ih (f m x) (by have := hx.count; omega)
    exact (hx.trans hxs).mono (by simp [Nat.add_comm])

end

/-! ## MSIX_UNMASK -/

/-- A function with the mask bit of a vector cleared. -/
def MsixFn.opened (f : MsixFn) (v : Nat) : MsixFn :=
  { f with table := Sparse.write msixDefault f.table (16 * v + 8) (setBits (f.word (16 * v + 8)) 32 32 0) }

@[simp] theorem MsixFn.opened_funcMask (f : MsixFn) (v : Nat) : (f.opened v).funcMask = f.funcMask := by cases f; rfl
@[simp] theorem MsixFn.opened_pend (f : MsixFn) (v : Nat) : (f.opened v).pend = f.pend := by cases f; rfl
@[simp] theorem MsixFn.opened_crPend (f : MsixFn) (v : Nat) : (f.opened v).crPend = f.crPend := by cases f; rfl

theorem MsixFn.opened_word (f : MsixFn) (v : Nat) : (f.opened v).word (16 * v + 8) = setBits (f.word (16 * v + 8)) 32 32 0 := by
  simp [MsixFn.word, MsixFn.opened]

theorem bit_setBits_same (w : Word) (i v : Nat) (hi : i < 64) : bit (setBits w i i v) i = v.testBit 0 := by
  simp [bit, setBits_testBit w i i v i (Nat.le_refl i) hi]

theorem MsixFn.opened_bit (f : MsixFn) (v : Nat) : bit ((f.opened v).word (16 * v + 8)) 32 = false := by
  rw [f.opened_word, bit_setBits_same _ _ _ (by decide)]
  rfl

theorem MsixFn.opened_masked (f : MsixFn) (v : Nat) : (f.opened v).masked v = f.funcMask := by
  rw [MsixFn.masked, f.opened_bit, Bool.or_false, f.opened_funcMask]

theorem MsixFn.opened_msg (f : MsixFn) (l v : Nat) : (f.opened v).msg l v = f.msg l v := by
  have haddr : (f.opened v).word (16 * v) = f.word (16 * v) := Sparse.read_write_other _ _ _ _ _ (by omega)
  rw [MsixFn.msg, f.opened_word, bits_setBits_apart _ _ _ _ _ _ (by decide) (by decide) (by decide), haddr, MsixFn.msg]

/-- The module with the mask bit of a vector cleared, before anything is sent. -/
def Module.openVector (m : Module) (l v : Nat) : Module := m.setMsix l ((m.msixFn l).opened v)

section
variable (m : Module) (l v : Nat)

theorem Module.openVector_fn : (m.openVector l v).msixFn l = (m.msixFn l).opened v := m.msixFn_setMsix_same l _

theorem Module.openVector_frame : Module.Frame [.regs, .msix, .out] m (m.openVector l v) := (m.setMsix_frame l _).mono (by simp)

/-- A vector that was pending is so no longer, with or without its message. -/
theorem Module.openVector_pending (hfunc : (m.msixFn l).funcMask = false) (hpend : v ∈ (m.msixFn l).pend) :
    (m.openVector l v).unmasked l v =
      if (m.msixFn l).crPend.contains v || m.routed l v then (((m.openVector l v).dropPend l v).emit ((m.msixFn l).msg l v)).countMsg l
      else (m.openVector l v).dropPend l v := by
  have hrouted : (m.openVector l v).routed l v = m.routed l v := rfl
  have hfn := m.openVector_fn l v
  rw [Module.unmasked_pending _ _ _ (by rw [hfn, MsixFn.opened_masked, hfunc]) (by rw [hfn, MsixFn.opened_pend]; exact hpend), hrouted,
    hfn, MsixFn.opened_msg, MsixFn.opened_crPend]

theorem Module.openVector_idle (h : (m.msixFn l).funcMask = true ∨ v ∉ (m.msixFn l).pend) :
    (m.openVector l v).unmasked l v = m.openVector l v := by
  refine Module.unmasked_idle _ _ _ ?_
  rwa [m.openVector_fn, MsixFn.opened_masked, MsixFn.opened_pend]

/-- The other functions, and the pending vectors of this one, once a vector has been opened without a wrap of the counter. -/
theorem Module.openVector_msix (h : m.wraps (pgHost l) 4 1 = false) :
    (∀ j, j ≠ l → ((m.openVector l v).unmasked l v).msixFn j = m.msixFn j) ∧
    (((m.openVector l v).unmasked l v).msixFn l).pend =
      if (m.msixFn l).funcMask then (m.msixFn l).pend else (m.msixFn l).pend.filter (· ≠ v) := by
  have hopen : ∀ j, j ≠ l → (m.openVector l v).msixFn j = m.msixFn j := fun j hj => m.msixFn_setMsix_other l j _ hj
  have hdrop : ∀ j, j ≠ l → ((m.openVector l v).dropPend l v).msixFn j = m.msixFn j := fun j hj =>
    (Module.msixFn_setMsix_other _ l j _ hj).trans (hopen j hj)
  have hpendDrop : (((m.openVector l v).dropPend l v).msixFn l).pend = (m.msixFn l).pend.filter (· ≠ v) := by
    simp only [Module.dropPend, Module.msixFn_setMsix_same, m.openVector_fn, MsixFn.opened_pend]
  by_cases hidle : (m.msixFn l).funcMask = true ∨ v ∉ (m.msixFn l).pend
  · rw [m.openVector_idle l v hidle, m.openVector_fn, MsixFn.opened_pend]
    refine ⟨hopen, ?_⟩
    split
    · rfl
    next hfunc =>
      have hv := hidle.resolve_left hfunc
      exact (List.filter_eq_self.mpr fun u hu => by simpa using ne_of_mem_of_not_mem hu hv).symm
  · simp only [not_or, Bool.not_eq_true, not_not] at hidle
    rw [m.openVector_pending l v hidle.1 hidle.2, hidle.1]
    split
    · have hwraps : (((m.openVector l v).dropPend l v).emit ((m.msixFn l).msg l v)).wraps (pgHost l) 4 1 = false := h
      rw [Module.countMsg_of_not_wraps _ _ hwraps]
      exact ⟨fun j hj => (Module.msixFn_addCtr _ _ _ _ j).trans (hdrop j hj), by rw [Module.msixFn_addCtr]; exact hpendDrop⟩
    · exact ⟨hdrop, hpendDrop⟩

theorem Module.openVector_out (h : m.wraps (pgHost l) 4 1 = false) (hfunc : (m.msixFn l).funcMask = false) (hpend : v ∈ (m.msixFn l).pend)
    (hdue : ((m.msixFn l).crPend.contains v || m.routed l v) = true) :
    ((m.openVector l v).unmasked l v).out = m.out ++ [(m.msixFn l).msg l v] := by
  have hwraps : (((m.openVector l v).dropPend l v).emit ((m.msixFn l).msg l v)).wraps (pgHost l) 4 1 = false := h
  rw [m.openVector_pending l v hfunc hpend, if_pos hdue, Module.countMsg_of_not_wraps _ _ hwraps, Module.addCtr_out]
  rfl

end

/-- The entry's en and dest, as one field of two bits. -/
theorem bits_pair (w : Word) (i : Nat) : bits w (i + 1) i = 2 * bits w (i + 1) (i + 1) + bits w i i := by
  simp only [bits, Nat.shiftRight_eq_div_pow, Nat.pow_succ, ← Nat.div_div_eq_div_mul, show i + 1 + 1 - i = 2 by omega, Nat.add_sub_cancel_left]
  omega

theorem Module.evtEnt_to_link (m : Module) (n : Nat) (h : m.get (F.evtEnt n 63 62) = 2) :
    m.get (F.evtEnt n 63 63) = 1 ∧ m.get (F.evtEnt n 62 62) = 0 := by
  have hpair : m.get (F.evtEnt n 63 62) = 2 * m.get (F.evtEnt n 63 63) + m.get (F.evtEnt n 62 62) := bits_pair _ 62
  have hdest : m.get (F.evtEnt n 62 62) ≤ 1 := bits_one_le _ _
  omega

theorem Module.routed_of_source (m : Module) {l v n : Nat} (hn : n < 1024) (hass : m.asserted n = true) (hen : m.get (F.evtEnt n 63 62) = 2)
    (hlink : m.get (F.evtEnt n 57 56) = l) (hvec : m.get (F.evtEnt n 42 32) = v) : m.routed l v = true := by
  obtain ⟨hen1, hdest⟩ := m.evtEnt_to_link n hen
  exact List.any_eq_true.mpr ⟨n, List.mem_range.mpr hn, by simp [hen1, hdest, hlink, hvec, hass]⟩

/-! ## MSIX_ENABLE -/

/-- The module with MSI-X enabled on a link and the function's mask as given, before anything is sent. -/
def Module.enableFn (m : Module) (l : Nat) (mask : Bool) : Module := m.setMsix l { m.msixFn l with enable := true, funcMask := mask }

theorem Module.enableFn_fn (m : Module) (l : Nat) (mask : Bool) :
    (m.enableFn l mask).msixFn l = { m.msixFn l with enable := true, funcMask := mask } := m.msixFn_setMsix_same l _

/-- One message of a source that is enabled, asserted and routed to a link. -/
def Module.deliverIf (m : Module) (l n : Nat) : Module :=
  if m.get (F.evtEnt n 63 63) = 1 && m.get (F.evtEnt n 62 62) = 0 && m.get (F.evtEnt n 57 56) = l && m.asserted n then m.deliver n else m

/-- What MSIX_ENABLE leaves on a link that is up: where MSI-X was enabled before, pending vectors may follow; where it was not, the sources. -/
def Module.enabledFn (m : Module) (l : Nat) (mask : Bool) : Module :=
  let f := m.msixFn l
  if f.enable then
    if f.funcMask && !mask then f.pend.foldl (fun m v => m.unmasked l v) (m.enableFn l mask) else m.enableFn l mask
  else (List.range 1024).foldl (fun m n => m.deliverIf l n) (m.enableFn l mask)

theorem Module.enabledFn_fresh (m : Module) (l : Nat) (mask : Bool) (h : (m.msixFn l).enable = false) :
    m.enabledFn l mask = (List.range 1024).foldl (fun m n => m.deliverIf l n) (m.enableFn l mask) := by
  simp [Module.enabledFn, h]

theorem execMsixEnable_up (s : State) (l : Fin 4) (mask : Bool) (h : s.linkUp l = true) :
    execMsixEnable l mask s = .next (s.upd fun _ => s.enabledFn l mask) := by
  have htakes : (s.enableFn l mask).canTake l = true := by
    rw [Module.canTake, s.enableFn_fn, Bool.and_true]
    exact h
  have htook : s.canTake l = (s.msixFn l).enable := by rw [Module.canTake, h, Bool.true_and]
  rw [Module.enableFn] at htakes
  simp only [execMsixEnable, State.run, State.upd, h, htook, htakes, Bool.not_true, Bool.and_true, Module.enabledFn]
  cases hen : (s.msixFn l).enable with
  | false => simp [Module.deliverIf, Module.enableFn]
  | true => simp [Module.enableFn]

theorem execMsixEnable_down (s : State) (l : Fin 4) (mask : Bool) (h : s.linkUp l = false) : execMsixEnable l mask s = .next s := by
  simp [execMsixEnable, State.upd, h]

theorem Module.messages_deliverIf (m : Module) (l n : Nat) : m.Messages (m.deliverIf l n) := by
  unfold Module.deliverIf
  split
  · exact m.messages_deliver n
  · exact .refl m

theorem Module.onLink_deliverIf (m : Module) (l n : Nat) (h : m.msgCount l + 1 < 2 ^ 48) : m.OnLink l 1 (m.deliverIf l n) := by
  unfold Module.deliverIf
  split
  next hif =>
    simp only [Bool.and_eq_true, decide_eq_true_eq] at hif
    obtain ⟨⟨-, hlink⟩, -⟩ := hif
    exact m.onLink_deliver l n hlink h
  · exact (Module.OnLink.refl l m).mono (Nat.zero_le 1)

theorem Module.messages_enabledFn (m : Module) {l : Nat} (hl : l < 4) (mask : Bool) : (m.enableFn l mask).Messages (m.enabledFn l mask) := by
  unfold Module.enabledFn
  dsimp only
  split
  · split
    · exact .foldl _ (fun m v => m.messages_unmasked v hl) _ _
    · exact .refl _
  · exact .foldl _ (fun m n => m.messages_deliverIf l n) _ _

/-- The other links' functions, while the counter has room for a message of each source and of each pending vector. -/
theorem Module.enabledFn_others (m : Module) (l : Nat) (mask : Bool) (h : m.msgCount l + 1024 + (m.msixFn l).pend.length < 2 ^ 48) :
    ∀ j, j ≠ l → (m.enabledFn l mask).msixFn j = m.msixFn j := by
  have hset : m.OnLink l 0 (m.enableFn l mask) := m.onLink_setMsix l _
  have hcount := hset.count
  have hstep : ∃ k, (m.enableFn l mask).OnLink l k (m.enabledFn l mask) := by
    unfold Module.enabledFn
    dsimp only
    split
    · split
      · exact ⟨_, Module.onLink_foldl _ (fun m v => m.onLink_unmasked l v) _ _ (by omega)⟩
      · exact ⟨0, .refl l _⟩
    · exact ⟨_, Module.onLink_foldl _ (fun m n => m.onLink_deliverIf l n) _ _ (by rw [List.length_range]; omega)⟩
  obtain ⟨k, hk⟩ := hstep
  exact (hset.trans hk).others

/-! ## What is sent where MSI-X was not enabled -/

/-- A source is ready for its vector's message on a link: asserted, enabled, routed there, and the vector unmasked. -/
structure Module.Ready (m : Module) (l n v : Nat) : Prop where
  asserted : m.asserted n = true
  mainOn : m.mainOff = false
  takes : m.canTake l = true
  entry : m.get (F.evtEnt n 63 62) = 2
  link : m.get (F.evtEnt n 57 56) = l
  vector : m.get (F.evtEnt n 42 32) = v
  unmasked : (m.msixFn l).masked v = false

theorem Module.Ready.after {m a : Module} {l n v : Nat} (h : m.Ready l n v) (hn : n < 1024) (k : m.Messages a) : a.Ready l n v where
  asserted := k.asserted n h.asserted
  mainOn := k.mainOff.trans h.mainOn
  takes := (k.canTake l).trans h.takes
  entry := (k.evtEnt hn _ _).trans h.entry
  link := (k.evtEnt hn _ _).trans h.link
  vector := (k.evtEnt hn _ _).trans h.vector
  unmasked := ((k.msixFn l).masked v).trans h.unmasked

theorem Module.Ready.deliverIf {m : Module} {l n v : Nat} (h : m.Ready l n v) :
    m.deliverIf l n = (m.emit ((m.msixFn l).msg l v)).countMsg l := by
  obtain ⟨hass, hmain, htakes, hentry, hlink, hvec, hmask⟩ := h
  obtain ⟨hen, hdest⟩ := m.evtEnt_to_link n hentry
  have hgoes : m.dest n = some (some (l, v)) := by simp [Module.dest, hmain, hen, hdest, hlink, htakes, hvec]
  simp [Module.deliverIf, hen, hdest, hlink, hass, Module.deliver, hgoes, Module.sendVector, hmask]

/-- R81: of the sources that are gone through, one that is ready sends its vector's message. -/
theorem Module.Ready.sends {m : Module} {l n v : Nat} (h : m.Ready l n v) (hl : l < 4) (hn : n < 1024) (ns : List Nat) (hmem : n ∈ ns) :
    (m.msixFn l).msg l v ∈ (ns.foldl (fun m n => m.deliverIf l n) m).out.drop m.out.length := by
  obtain ⟨before, rest, rfl⟩ := List.append_of_mem hmem
  have hsteps : ∀ (ns : List Nat) (m : Module), m.Messages (ns.foldl (fun m n => m.deliverIf l n) m) :=
    Module.Messages.foldl _ fun m n => m.messages_deliverIf l n
  rw [List.foldl_append, List.foldl_cons]
  generalize ha : before.foldl (fun m n => m.deliverIf l n) m = a
  have hbefore : m.Messages a := ha ▸ hsteps before m
  rw [(h.after hn hbefore).deliverIf, (hbefore.msixFn l).msg]
  obtain ⟨x, hx⟩ := hbefore.out
  obtain ⟨y, hy⟩ := ((Module.messages_countMsg (a.emit ((m.msixFn l).msg l v)) hl).trans (hsteps rest _)).out
  rw [hy, Module.emit_out, hx, List.append_assoc, List.append_assoc, List.drop_left]
  simp

/-- A source that is routed to an unmasked vector of a link that is up is ready once the function is enabled and unmasked. -/
theorem Module.enableFn_ready (m : Module) {l n : Nat} (hup : m.linkUp l = true) (hmain : m.mainOff = false) (hass : m.asserted n = true)
    (hentry : m.get (F.evtEnt n 63 62) = 2) (hlink : m.get (F.evtEnt n 57 56) = l)
    (hbit : bit ((m.msixFn l).word (16 * m.get (F.evtEnt n 42 32) + 8)) 32 = false) :
    (m.enableFn l false).Ready l n (m.get (F.evtEnt n 42 32)) where
  asserted := hass
  mainOn := hmain
  takes := by
    rw [Module.canTake, m.enableFn_fn, Bool.and_true]
    exact hup
  entry := hentry
  link := hlink
  vector := rfl
  unmasked := by
    rw [m.enableFn_fn]
    exact hbit

/-- Settles O16: MSIX_ENABLE is `enabledFn`, whose steps are messages; MSIX_UNMASK opens the vector and then sends what was pending. -/
theorem msixVectors : Obligations.MsixVectors := by
  simp only [Obligations.MsixVectors, exec_msixEnable, exec_msixUnmask]
  refine ⟨fun l mask s => ⟨fun hup => ?enable, execMsixEnable_down s l mask⟩, fun l v s => ?unmask⟩
  case enable =>
    have hsent := s.messages_enabledFn l.isLt mask
    have hfn := s.enableFn_fn l mask
    refine ⟨_, execMsixEnable_up s l mask hup, ?_, ?_, ?_, fun n hn hoff hmask hmain hass hentry hlink hbit => ?_,
      fun hroom j _ hj => s.enabledFn_others l mask hroom j hj⟩
    · exact (hsent.msixFn l).enable.trans (by rw [hfn])
    · exact (hsent.msixFn l).funcMask.trans (by rw [hfn])
    · exact Module.Frame.touches_left (((s.setMsix_frame _ _).mono (by simp)).trans hsent.frame)
    · subst hmask
      have hready := s.enableFn_ready hup hmain hass hentry hlink hbit
      have hmsg := hready.sends l.isLt hn (List.range 1024) (List.mem_range.mpr hn)
      rw [hfn] at hmsg
      rw [State.upd, s.enabledFn_fresh l false hoff]
      exact hmsg
  case unmask =>
    have hsent := (s.openVector l v.toNat).messages_unmasked v.toNat l.isLt
    refine ⟨s.upd fun _ => (s.openVector l v.toNat).unmasked l v.toNat, rfl, ?_, ?_, fun hwraps => ?_⟩
    · rw [State.upd, (hsent.msixFn l).word, s.openVector_fn]
      exact MsixFn.opened_bit _ _
    · exact Module.Frame.touches_left ((s.openVector_frame _ _).trans hsent.frame)
    · obtain ⟨hothers, hpend⟩ := s.openVector_msix l v.toNat hwraps
      refine ⟨fun hfunc => ?_, fun u hu => ?_, fun j _ => hothers j, fun hfunc hwas hdue => s.openVector_out l v.toNat hwraps hfunc hwas ?_⟩
      · simp [State.upd, hpend, hfunc]
      · rw [State.upd, hpend]
        split <;> simp [hu]
      · rcases hdue with hcr | ⟨n, hn, hass, hentry, hlink, hvec⟩
        · simp [hcr]
        · simp [s.routed_of_source hn hass hentry hlink hvec]

end Sys2Proof.Machine

/-! PROOFS. The rules of the queue block (R95–R140): what the updates of contexts read back, and what the operations under an error of a queue
leave as it is. -/

namespace Sys2Proof.Machine

set_option Elab.async false

/-! ## Contexts read back -/

section
variable (m : Module) (n : Nat)

@[simp] theorem Module.wq_setWq_same (c : WqCtx) : (m.setWq n c).wq n = some c := by simp [Module.wq, Module.setWq]
@[simp] theorem Module.cr_setCr_same (c : CrCtx) : (m.setCr n c).cr n = some c := by simp [Module.cr, Module.setCr]
@[simp] theorem Module.wqRt_setWqRt_same (c : WqRt) : (m.setWqRt n c).wqRt n = c := by simp [Module.wqRt, Module.setWqRt]

theorem Module.wq_setWq_other (c : WqCtx) {k : Nat} (h : k ≠ n) : (m.setWq n c).wq k = m.wq k := KMap.get_put_other _ _ _ _ h
theorem Module.cr_setCr_other (c : CrCtx) {k : Nat} (h : k ≠ n) : (m.setCr n c).cr k = m.cr k := KMap.get_put_other _ _ _ _ h
theorem Module.wqRt_setWqRt_other (c : WqRt) {k : Nat} (h : k ≠ n) : (m.setWqRt n c).wqRt k = m.wqRt k := KMap.getD_put_other _ _ _ _ _ h

@[simp] theorem Module.cr_setWq (c : WqCtx) (k : Nat) : (m.setWq n c).cr k = m.cr k := rfl
@[simp] theorem Module.wqRt_setWq (c : WqCtx) (k : Nat) : (m.setWq n c).wqRt k = m.wqRt k := rfl
@[simp] theorem Module.wq_setCr (c : CrCtx) (k : Nat) : (m.setCr n c).wq k = m.wq k := rfl
@[simp] theorem Module.wqRt_setCr (c : CrCtx) (k : Nat) : (m.setCr n c).wqRt k = m.wqRt k := rfl
@[simp] theorem Module.wq_setWqRt (c : WqRt) (k : Nat) : (m.setWqRt n c).wq k = m.wq k := rfl
@[simp] theorem Module.cr_setWqRt (c : WqRt) (k : Nat) : (m.setWqRt n c).cr k = m.cr k := rfl
@[simp] theorem Module.wq_setOp (o : Op) (k : Nat) : (m.setOp n o).wq k = m.wq k := rfl
@[simp] theorem Module.cr_setOp (o : Op) (k : Nat) : (m.setOp n o).cr k = m.cr k := rfl
@[simp] theorem Module.wqRt_setOp (o : Op) (k : Nat) : (m.setOp n o).wqRt k = m.wqRt k := rfl
@[simp] theorem Module.wq_poolFree (k : Nat) : (m.poolFree n).wq k = m.wq k := rfl
@[simp] theorem Module.cr_poolFree (k : Nat) : (m.poolFree n).cr k = m.cr k := rfl
@[simp] theorem Module.wqRt_poolFree (k : Nat) : (m.poolFree n).wqRt k = m.wqRt k := rfl
@[simp] theorem Module.wq_poolTake (k : Nat) : (m.poolTake n).wq k = m.wq k := rfl
@[simp] theorem Module.wqRt_poolTake (k : Nat) : (m.poolTake n).wqRt k = m.wqRt k := rfl

end

/-! What a module reads of its queues follows from the queue block alone. -/

section
variable {m m' : Module}

theorem Module.wq_congr (h : m'.q = m.q) (n : Nat) : m'.wq n = m.wq n := by rw [Module.wq, h, Module.wq]
theorem Module.cr_congr (h : m'.q = m.q) (n : Nat) : m'.cr n = m.cr n := by rw [Module.cr, h, Module.cr]
theorem Module.wqRt_congr (h : m'.q = m.q) (n : Nat) : m'.wqRt n = m.wqRt n := by rw [Module.wqRt, h, Module.wqRt]
theorem Module.crRt_congr (h : m'.q = m.q) (n : Nat) : m'.crRt n = m.crRt n := by rw [Module.crRt, h, Module.crRt]
theorem Module.op_congr (h : m'.q = m.q) (n : Nat) : m'.op n = m.op n := by rw [Module.op, h, Module.op]

end

/-! ## Frames -/

section
variable (m : Module)

theorem Module.frame_q (q : Queues) : Module.Frame [.q] m { m with q := q } := by
  intro p hp
  cases p <;> simp_all [Part.same]

theorem Module.frame_smp (x : Sampler) : Module.Frame [.smp] m { m with smp := x } := by
  intro p hp
  cases p <;> simp_all [Part.same]

theorem Module.frame_cl (x : Colls) : Module.Frame [.cl] m { m with cl := x } := by
  intro p hp
  cases p <;> simp_all [Part.same]

theorem Module.frame_dtu (x : Dtu) : Module.Frame [.dtu] m { m with dtu := x } := by
  intro p hp
  cases p <;> simp_all [Part.same]

theorem Module.frame_x (x : Xpt) : Module.Frame [.x] m { m with x := x } := by
  intro p hp
  cases p <;> simp_all [Part.same]

theorem Module.readDone_frame : Module.Frame [.reads] m m.readDone := by
  intro p hp
  cases p <;> simp_all [Part.same]

theorem Module.setWq_frame (n : Nat) (c : WqCtx) : Module.Frame [.q] m (m.setWq n c) := m.frame_q _
theorem Module.setCr_frame (n : Nat) (c : CrCtx) : Module.Frame [.q] m (m.setCr n c) := m.frame_q _
theorem Module.setWqRt_frame (n : Nat) (c : WqRt) : Module.Frame [.q] m (m.setWqRt n c) := m.frame_q _
theorem Module.setCrRt_frame (n : Nat) (c : CrRt) : Module.Frame [.q] m (m.setCrRt n c) := m.frame_q _
theorem Module.setOp_frame (n : Nat) (o : Op) : Module.Frame [.q] m (m.setOp n o) := m.frame_q _
theorem Module.poolFree_frame (k : Nat) : Module.Frame [.q] m (m.poolFree k) := m.frame_q _
theorem Module.poolTake_frame (k : Nat) : Module.Frame [.q] m (m.poolTake k) := m.frame_q _

theorem Module.setTagged_frame (l : List Tagged) : Module.Frame [.regs, .smp] m (m.setTagged l) :=
  ((m.frame_smp _).mono (by simp)).trans ((Module.put_frame _ _ _).mono (by simp))

theorem Module.sampleRelease_frame : Module.Frame [.q, .smp] m m.sampleRelease := by
  unfold Module.sampleRelease
  refine ((m.frame_smp _).mono (by simp)).trans (Module.foldl_frame _ (fun m r => ?_) _ _)
  split
  · exact .refl _ m
  · exact (m.setCr_frame _ _).mono (by simp)

end

/-! ## The end of an operation -/

section
variable (m : Module)

/-- An operation leaves `ops`, the connections that wait for it, and the holding pool (R119, R243). -/
def Module.opGone (m : Module) (id : Nat) : Module :=
  Module.poolFree { m with
    q := { m.q with ops := KMap.erase m.q.ops id }
    x := { m.x with conns := m.x.conns.map fun p => (p.1, if p.2.failOps.contains id then p.2.opOver id else p.2) } } 1

theorem Module.retire_absent {id : Nat} (h : m.op id = none) : m.retire (.op id) = m := by simp [Module.retire, h]

/-- An operation of a queue gives its outstanding count back, to the context or to what is kept beside it. -/
theorem Module.retire_op {id : Nat} {o : Op} (h : m.op id = some o) : m.retire (.op id) =
    if o.trig.isSome then m.opGone id
    else match m.wq o.wq with
      | none => (m.opGone id).setWqRt o.wq { m.wqRt o.wq with owed := (m.wqRt o.wq).owed + 1 }
      | some c => (m.opGone id).setWq o.wq { c with outstanding := c.outstanding - 1 } := by
  simp only [Module.retire, h]
  rfl

theorem Module.opGone_frame (id : Nat) : Module.Frame [.q, .x] m (m.opGone id) := by
  intro p hp
  cases p <;> simp_all [Part.same, Module.opGone, Module.poolFree]

/-- A completed operation's end touches the queue block and the connections that wait for it. -/
theorem Module.retire_frame (o : Owner) : Module.Frame [.q, .x] m (m.retire o) := by
  cases o
  case op id =>
    cases h : m.op id
    case none =>
      rw [m.retire_absent h]
      exact .refl _ m
    case some o =>
      rw [m.retire_op h]
      split
      · exact m.opGone_frame id
      · split
        · exact (m.opGone_frame id).trans ((Module.setWqRt_frame _ _ _).mono (by simp))
        · exact (m.opGone_frame id).trans ((Module.setWq_frame _ _ _).mono (by simp))
  all_goals exact (m.poolFree_frame 1).mono (by simp)

theorem Module.abandon_frame (id : Nat) : Module.Frame [.regs, .q, .smp, .x] m (m.abandon id) := by
  unfold Module.abandon
  dsimp only
  refine ((m.retire_frame (.op id)).mono (by simp)).trans ?_
  split
  · exact ((Module.setTagged_frame _ _).mono (by simp)).trans ((Module.sampleRelease_frame _).mono (by simp))
  · exact .refl _ _

theorem Module.opDone_frame (id status length info peer detail : Nat) :
    Module.Frame [.regs, .q, .smp, .x] m (m.opDone id status length info peer detail) := by
  unfold Module.opDone
  split
  · exact .refl _ m
  · split
    · exact .refl _ m
    · split
      · exact m.abandon_frame id
      · exact ((m.setOp_frame _ _).trans (Module.frame_q _ _)).mono (by simp)

theorem Module.dropFetch_frame (n : Nat) : Module.Frame [.q] m (m.dropFetch n) := by
  unfold Module.dropFetch
  split
  · exact .refl _ m
  · exact (m.setWqRt_frame _ _).trans (Module.poolFree_frame _ _)

theorem Module.collUse_frame (t : Nat) : Module.Frame [.regs] m (m.collUse t) :=
  ((m.put_frame _ _).trans (Module.put_frame _ _ _)).trans (Module.put_frame _ _ _)

theorem Module.dropLists_frame (sel : Nat → TrigList → Bool) : Module.Frame [.regs, .msix, .out, .cl] m (m.dropLists sel) := by
  unfold Module.dropLists
  exact ((m.frame_cl _).mono (by simp)).trans
    (Module.foldl_frame _ (fun a _ => ((a.collUse_frame _).mono (by simp)).trans ((Module.raise_frame _ _ _).mono (by simp))) _ _)

theorem Module.silenceFired_frame (n : Nat) : Module.Frame [.regs, .q, .smp, .x] m (m.silenceFired n) := by
  unfold Module.silenceFired
  exact ((m.frame_q _).mono (by simp)).trans (Module.foldl_frame _ (fun a id => a.abandon_frame id) _ _)

theorem Module.discardLists_frame (n : Nat) : Module.Frame [.regs, .msix, .out, .q, .smp, .x, .cl] m (m.discardLists n) :=
  ((m.dropLists_frame _).mono (by simp)).trans ((Module.silenceFired_frame _ n).mono (by simp))

theorem Module.logQueue_frame (kind cause queue index : Nat) : Module.Frame [.regs] m (m.logQueue kind cause queue index) := by
  unfold Module.logQueue
  split
  · exact m.put_frame _ _
  · exact ((((m.put_frame _ _).trans (Module.put_frame _ _ _)).trans (Module.put_frame _ _ _)).trans (Module.put_frame _ _ _)).trans
      (Module.put_frame _ _ _)

end

end Sys2Proof.Machine

/-! PROOFS. What the end of operations leaves of the contexts, and the fields that errors of queues and translations keep (R133, R181–R183). -/

namespace Sys2Proof.Machine

set_option Elab.async false

/-! ## Operations that end -/

/-- Operations have ended: the contexts have changed in nothing but the counts that an end gives back, and what is kept beside them
stands but for the counts owed. -/
structure Module.OpsEnd (m m' : Module) : Prop where
  wq : ∀ k c, m.wq k = some c → ∃ j, m'.wq k = some { c with outstanding := j }
  cr : ∀ k c, m.cr k = some c → ∃ b ≤ c.binds, m'.cr k = some { c with binds := b }
  wqRt : ∀ k, ∃ j, m'.wqRt k = { m.wqRt k with owed := j }
  crRt : ∀ k, m'.crRt k = m.crRt k
  admin : m'.q.admin = m.q.admin

section
variable {m a b : Module}

/-- A change that the contexts and what is kept beside them do not see. -/
theorem Module.OpsEnd.of_contexts (hwq : a.q.wqs = m.q.wqs) (hcr : a.q.crs = m.q.crs) (hwqRt : a.q.wqRt = m.q.wqRt)
    (hcrRt : a.q.crRt = m.q.crRt) (hadmin : a.q.admin = m.q.admin) : m.OpsEnd a where
  wq k c h := ⟨c.outstanding, by rw [Module.wq, hwq]; exact h⟩
  cr k c h := ⟨c.binds, Nat.le_refl _, by rw [Module.cr, hcr]; exact h⟩
  wqRt k := ⟨(m.wqRt k).owed, by rw [Module.wqRt, hwqRt]; rfl⟩
  crRt k := by rw [Module.crRt, hcrRt]; rfl
  admin := hadmin

theorem Module.OpsEnd.of_q (h : a.q = m.q) : m.OpsEnd a := .of_contexts (by rw [h]) (by rw [h]) (by rw [h]) (by rw [h]) (by rw [h])

theorem Module.OpsEnd.refl (m : Module) : m.OpsEnd m := .of_q rfl

theorem Module.OpsEnd.trans (h : m.OpsEnd a) (k : a.OpsEnd b) : m.OpsEnd b where
  wq n c hc := by
    obtain ⟨i, hi⟩ := h.wq n c hc
    obtain ⟨j, hj⟩ := k.wq n _ hi
    exact ⟨j, hj⟩
  cr n c hc := by
    obtain ⟨i, hle, hi⟩ := h.cr n c hc
    obtain ⟨j, hle', hj⟩ := k.cr n _ hi
    exact ⟨j, Nat.le_trans hle' hle, hj⟩
  wqRt n := by
    obtain ⟨i, hi⟩ := h.wqRt n
    obtain ⟨j, hj⟩ := k.wqRt n
    exact ⟨j, by rw [hj, hi]⟩
  crRt n := (k.crRt n).trans (h.crRt n)
  admin := k.admin.trans h.admin

theorem Module.OpsEnd.foldl {α : Type} (f : Module → α → Module) (hf : ∀ (m : Module) x, m.OpsEnd (f m x)) (xs : List α) :
    ∀ m : Module, m.OpsEnd (xs.foldl f m) := by
  induction xs with
  | nil => exact Module.OpsEnd.refl
  | cons x xs ih => exact fun m => (hf m x).trans (ih _)

end

section
variable (m : Module)

theorem Module.opsEnd_smp (x : Sampler) : m.OpsEnd { m with smp := x } := .of_q rfl

theorem Module.opsEnd_setTagged (l : List Tagged) : m.OpsEnd (m.setTagged l) := .of_q ((m.setTagged_frame l) .q (by decide))

theorem Module.opsEnd_ops (l : List (Nat × Op)) : m.OpsEnd { m with q := { m.q with ops := l } } := .of_contexts rfl rfl rfl rfl rfl

theorem Module.opsEnd_opGone (id : Nat) : m.OpsEnd (m.opGone id) := .of_contexts rfl rfl rfl rfl rfl

theorem Module.opsEnd_setWq (n : Nat) (c : WqCtx) (j : Nat) (h : m.wq n = some c) : m.OpsEnd (m.setWq n { c with outstanding := j }) where
  wq k d hd := by
    by_cases hk : k = n
    · obtain rfl : c = d := by rw [hk, h] at hd; exact Option.some.inj hd
      exact ⟨j, by rw [hk, Module.wq_setWq_same]⟩
    · exact ⟨d.outstanding, by rw [m.wq_setWq_other n _ hk]; exact hd⟩
  cr k d hd := ⟨d.binds, Nat.le_refl _, hd⟩
  wqRt k := ⟨_, rfl⟩
  crRt _ := rfl
  admin := rfl

theorem Module.opsEnd_setWqRt (n j : Nat) : m.OpsEnd (m.setWqRt n { m.wqRt n with owed := j }) where
  wq k d hd := ⟨d.outstanding, hd⟩
  cr k d hd := ⟨d.binds, Nat.le_refl _, hd⟩
  wqRt k := by
    by_cases hk : k = n
    · exact ⟨j, by rw [hk, Module.wqRt_setWqRt_same]⟩
    · exact ⟨(m.wqRt k).owed, m.wqRt_setWqRt_other n _ hk⟩
  crRt _ := rfl
  admin := rfl

theorem Module.opsEnd_setCr (n : Nat) (c : CrCtx) (b : Nat) (h : m.cr n = some c) (hb : b ≤ c.binds) :
    m.OpsEnd (m.setCr n { c with binds := b }) where
  wq k d hd := ⟨d.outstanding, hd⟩
  cr k d hd := by
    by_cases hk : k = n
    · obtain rfl : c = d := by rw [hk, h] at hd; exact Option.some.inj hd
      exact ⟨b, hb, by rw [hk, Module.cr_setCr_same]⟩
    · exact ⟨d.binds, Nat.le_refl _, by rw [m.cr_setCr_other n _ hk]; exact hd⟩
  wqRt k := ⟨_, rfl⟩
  crRt _ := rfl
  admin := rfl

theorem Module.opsEnd_retire (o : Owner) : m.OpsEnd (m.retire o) := by
  cases o
  case op id =>
    cases h : m.op id
    case none =>
      rw [m.retire_absent h]
      exact .refl m
    case some o =>
      rw [m.retire_op h]
      split
      · exact m.opsEnd_opGone id
      · split
        · exact (m.opsEnd_opGone id).trans ((m.opGone id).opsEnd_setWqRt o.wq _)
        next c hc => exact (m.opsEnd_opGone id).trans ((m.opGone id).opsEnd_setWq o.wq c _ hc)
  all_goals exact .of_contexts rfl rfl rfl rfl rfl

theorem Module.opsEnd_sampleRelease : m.OpsEnd m.sampleRelease := by
  unfold Module.sampleRelease
  refine (m.opsEnd_smp _).trans (.foldl _ (fun a r => ?_) _ _)
  split
  · exact .refl a
  next c hc => exact a.opsEnd_setCr r c _ hc (Nat.sub_le _ _)

theorem Module.opsEnd_abandon (id : Nat) : m.OpsEnd (m.abandon id) := by
  unfold Module.abandon
  refine (m.opsEnd_retire (.op id)).trans ?_
  dsimp only
  split
  · exact (Module.opsEnd_setTagged _ _).trans (Module.opsEnd_sampleRelease _)
  · exact .refl _

theorem Module.opsEnd_opDone (id status length info peer detail : Nat) : m.OpsEnd (m.opDone id status length info peer detail) := by
  unfold Module.opDone
  split
  · exact .refl m
  · split
    · exact .refl m
    · split
      · exact m.opsEnd_abandon id
      · exact .of_contexts rfl rfl rfl rfl rfl

theorem Module.dropLists_q (sel : Nat → TrigList → Bool) : (m.dropLists sel).q = m.q := (m.dropLists_frame sel) .q (by decide)

theorem Module.opsEnd_silenceFired (n : Nat) : m.OpsEnd (m.silenceFired n) := by
  unfold Module.silenceFired
  exact (m.opsEnd_ops _).trans (.foldl _ (fun a id => a.opsEnd_abandon id) _ _)

theorem Module.opsEnd_discardLists (n : Nat) : m.OpsEnd (m.discardLists n) :=
  (Module.OpsEnd.of_q (m.dropLists_q _)).trans (Module.opsEnd_silenceFired _ n)

end

/-! ## Fields that errors keep -/

/-- The registers that errors of queues and of translations record in, and that show what the sampler and the lists hold. -/
def errRegs : List Nat := [0x18058, 0x28058, 0x2A060, 0x2A068, 0x36058, 0x37058]

/-- A field of any other register. -/
def ErrKept (f : Fld) : Prop := f.reg ∉ errRegs

theorem quiet_errRegs : ∀ a ∈ errRegs, Quiet a := by
  simp only [Quiet]
  decide

section
variable {K : Fld → Prop} {loud : Bool} {m a : Module}

theorem Module.Keeps.of_frame {l : List Part} (h : Module.Frame l m a) (hr : Part.regs ∉ l) (hn : Part.now ∉ l) (ho : Part.out ∉ l) :
    Module.Keeps K loud m a := (Module.Keeps.refl m).same (h .regs hr) (h .now hn) (h .out ho)

theorem Module.Keeps.foldl {α : Type} (f : Module → α → Module) (hf : ∀ m x, Module.Keeps K loud m (f m x)) (xs : List α) :
    ∀ m, Module.Keeps K loud m (xs.foldl f m) := by
  induction xs with
  | nil => exact Module.Keeps.refl
  | cons x xs ih => exact fun m => (hf m x).trans (ih _)

theorem Module.Keeps.putErr (h : Module.Keeps ErrKept loud m a) (f : Fld) (v : Nat) (hreg : f.reg ∈ errRegs) (hw : f.lo ≤ f.hi ∧ f.hi < 64) :
    Module.Keeps ErrKept loud m (a.put f v) :=
  h.put f v hw.1 hw.2 (quiet_errRegs _ hreg) fun _ hg he => absurd (he ▸ hreg) hg

end

section
variable (m : Module) {loud : Bool}

theorem Module.keeps_setTagged (l : List Tagged) : Module.Keeps ErrKept loud m (m.setTagged l) :=
  (Module.Keeps.of_frame (m.frame_smp _) (by decide) (by decide) (by decide)).putErr _ _ (by decide) (by decide)

theorem Module.keeps_retire (o : Owner) : Module.Keeps ErrKept loud m (m.retire o) :=
  .of_frame (m.retire_frame o) (by decide) (by decide) (by decide)

theorem Module.keeps_sampleRelease : Module.Keeps ErrKept loud m m.sampleRelease :=
  .of_frame m.sampleRelease_frame (by decide) (by decide) (by decide)

theorem Module.keeps_abandon (id : Nat) : Module.Keeps ErrKept loud m (m.abandon id) := by
  unfold Module.abandon
  dsimp only
  refine (m.keeps_retire (.op id)).trans ?_
  split
  · exact (Module.keeps_setTagged _ _).trans (Module.keeps_sampleRelease _)
  · exact .refl _

theorem Module.keeps_opDone (id status length info peer detail : Nat) :
    Module.Keeps ErrKept loud m (m.opDone id status length info peer detail) := by
  unfold Module.opDone
  split
  · exact .refl m
  · split
    · exact .refl m
    · split
      · exact m.keeps_abandon id
      · exact (Module.Keeps.refl m).same rfl rfl rfl

theorem collUse_reg (t : Nat) : 0x36058 + 0x1000 * (t % 2) ∈ errRegs := by
  rcases Nat.mod_two_eq_zero_or_one t with h | h <;> simp [h, errRegs]

theorem Module.keeps_collUse (t : Nat) : Module.Keeps ErrKept loud m (m.collUse (t % 2)) :=
  (((Module.Keeps.refl m).putErr _ _ (collUse_reg t) (by simp [F.collUseBufFree])).putErr _ _ (collUse_reg t) (by simp [F.collUseLists])).putErr
    _ _ (collUse_reg t) (by simp [F.collUseEntries])

theorem Module.keeps_dropLists (sel : Nat → TrigList → Bool) : Module.Keeps ErrKept loud m (m.dropLists sel) := by
  unfold Module.dropLists
  exact (Module.Keeps.of_frame (m.frame_cl _) (by decide) (by decide) (by decide)).trans
    (.foldl _ (fun a _ => (a.keeps_collUse _).raise _ _ (by decide)) _ _)

theorem Module.keeps_silenceFired (n : Nat) : Module.Keeps ErrKept loud m (m.silenceFired n) := by
  unfold Module.silenceFired
  exact (Module.Keeps.of_frame (m.frame_q _) (by decide) (by decide) (by decide)).trans (.foldl _ (fun a id => a.keeps_abandon id) _ _)

theorem Module.keeps_discardLists (n : Nat) : Module.Keeps ErrKept loud m (m.discardLists n) :=
  (m.keeps_dropLists _).trans (Module.keeps_silenceFired _ n)

theorem Module.keeps_logQueue (kind cause queue index : Nat) : Module.Keeps ErrKept loud m (m.logQueue kind cause queue index) := by
  unfold Module.logQueue
  split
  · exact (Module.Keeps.refl m).putErr _ _ (by decide) (by decide)
  · refine .putErr (.putErr (.putErr (.putErr (.putErr (.refl m) _ _ ?_ ?_) _ _ ?_ ?_) _ _ ?_ ?_) _ _ ?_ ?_) _ _ ?_ ?_
    all_goals decide

theorem Module.keeps_logFault (r : XReq) (f : XFault) : Module.Keeps ErrKept loud m (m.logFault r f) := by
  have hcount : Module.Keeps ErrKept loud m (m.count pgDtu 5) := (Module.Keeps.refl m).count _ _ (by decide)
  unfold Module.logFault
  dsimp only
  refine Module.Keeps.raise ?_ _ _ (by decide)
  split
  · exact hcount.putErr _ _ (by decide) (by decide)
  · refine .putErr (.putErr (.putErr (.putErr (.putErr (.putErr (.putErr hcount _ _ ?_ ?_) _ _ ?_ ?_) _ _ ?_ ?_) _ _ ?_ ?_) _ _ ?_ ?_)
      _ _ ?_ ?_) _ _ ?_ ?_
    all_goals decide

end

end Sys2Proof.Machine

/-! PROOFS. Translated accesses of host memory (R161–R183): what any of them keeps, and what one does that a slot of a TLB grants. -/

namespace Sys2Proof.Machine

set_option Elab.async false

/-! ## What every translation keeps -/

/-- The parts that a translated access may touch. -/
def virtParts : List Part := [.regs, .msix, .out, .dtu, .reads]

section
variable (m : Module) (e : Env) (r : XReq) {K : Fld → Prop} {loud : Bool}

theorem Module.microFill_frame (k : Nat) (s : TlbSlot) : Module.Frame [.dtu] m (m.microFill k s) := by
  intro p hp
  cases p <;> simp_all [Part.same]

theorem Module.count_frame (p n : Nat) : Module.Frame [.regs, .msix, .out] m (m.count p n) := m.countUp_frame p n 1

theorem Module.logFault_frame (f : XFault) : Module.Frame [.regs, .msix, .out] m (m.logFault r f) := by
  have hput : ∀ (a b : Module) (g : Fld) (v : Nat), Module.Frame [.regs, .msix, .out] a b → Module.Frame [.regs, .msix, .out] a (b.put g v) :=
    fun a b g v h => h.trans ((b.put_frame g v).mono (by simp))
  unfold Module.logFault
  dsimp only
  refine Module.Frame.trans ?_ (Module.raise_frame _ _ _)
  split
  · exact hput _ _ _ _ (m.count_frame _ _)
  · exact hput _ _ _ _ (hput _ _ _ _ (hput _ _ _ _ (hput _ _ _ _ (hput _ _ _ _ (hput _ _ _ _ (hput _ _ _ _ (m.count_frame _ _)))))))

theorem Module.lookup_frame : Module.Frame [.regs, .msix, .out, .dtu] m (m.lookup r).2 := by
  unfold Module.lookup
  dsimp only
  split
  · exact (m.count_frame _ _).mono (by simp)
  · split
    · exact ((m.count_frame _ _).mono (by simp)).trans ((Module.microFill_frame _ _ _).mono (by simp))
    · exact (((m.count_frame _ _).trans (Module.count_frame _ _ _)).trans (Module.count_frame _ _ _)).mono (by simp)

theorem Module.keeps_lookup : Module.Keeps K loud m (m.lookup r).2 := by
  have hcount : Module.Keeps K loud m (m.count pgDtu 0) := (Module.Keeps.refl m).count _ _ (by decide)
  unfold Module.lookup
  dsimp only
  split
  · exact hcount
  · split
    · exact hcount.same (by simp) (by simp) (by simp)
    · exact (hcount.count _ _ (by decide)).count _ _ (by decide)

/-- A walk's read counts, and what it finds enters the caches. -/
theorem Module.walkReturn_caches (w : Walk) (d : Option (List Word)) :
    ∃ a, Module.Frame [.dtu] a (m.walkReturn w d).2 ∧ (a = m.count pgDtu 3 ∨ a = (m.count pgDtu 3).count pgDtu 4) := by
  unfold Module.walkReturn
  dsimp only
  split
  · exact ⟨_, .refl _ _, .inl rfl⟩
  split
  · exact ⟨_, .refl _ _, .inl rfl⟩
  next ws =>
    split
    · dsimp only
      refine ⟨_, ?_, .inl rfl⟩
      split
      · exact Module.frame_dtu _ _
      · exact .refl _ _
    split
    · exact ⟨_, .refl _ _, .inl rfl⟩
    split
    · exact ⟨_, .refl _ _, .inl rfl⟩
    split
    · split
      · refine ⟨if (leafSlot w.req.asid w.req.va ((ws[0]?).getD 0)).2 then (m.count pgDtu 3).count pgDtu 4 else m.count pgDtu 3, ?_, ?_⟩
        · dsimp only
          cases w.stale
          · exact (Module.frame_dtu _ _).trans (Module.microFill_frame _ _ _)
          · exact .refl _ _
        · split
          · exact .inr rfl
          · exact .inl rfl
      · exact ⟨_, .refl _ _, .inl rfl⟩
    · dsimp only
      refine ⟨_, ?_, .inl rfl⟩
      split
      · exact .refl _ _
      · exact Module.frame_dtu _ _

theorem Module.walkReturn_frame (w : Walk) (d : Option (List Word)) : Module.Frame [.regs, .msix, .out, .dtu] m (m.walkReturn w d).2 := by
  obtain ⟨a, ha, rfl | rfl⟩ := m.walkReturn_caches w d
  · exact ((m.count_frame _ _).mono (by simp)).trans (ha.mono (by simp))
  · exact (((m.count_frame _ _).trans (Module.count_frame _ _ _)).mono (by simp)).trans (ha.mono (by simp))

theorem Module.keeps_walkReturn (w : Walk) (d : Option (List Word)) : Module.Keeps K loud m (m.walkReturn w d).2 := by
  have hcount : Module.Keeps K loud m (m.count pgDtu 3) := (Module.Keeps.refl m).count _ _ (by decide)
  obtain ⟨a, ha, rfl | rfl⟩ := m.walkReturn_caches w d
  · exact hcount.trans (.of_frame ha (by decide) (by decide) (by decide))
  · exact (hcount.count _ _ (by decide)).trans (.of_frame ha (by decide) (by decide) (by decide))

theorem Module.walkAll_frame (n : Nat) : ∀ (m : Module) (s : WStep), Module.Frame virtParts m (m.walkAll e n s).2 := by
  induction n with
  | zero => exact fun m _ => .refl _ m
  | succ n ih =>
    intro m s
    cases s with
    | read w =>
      exact ((m.readDone_frame.mono (by simp [virtParts])).trans ((Module.walkReturn_frame _ _ _).mono (by simp [virtParts]))).trans (ih _ _)
    | done pa se => exact .refl _ m
    | fail f => exact .refl _ m

theorem Module.keeps_walkAll (n : Nat) : ∀ (m : Module) (s : WStep), Module.Keeps K loud m (m.walkAll e n s).2 := by
  induction n with
  | zero => exact fun m _ => .refl m
  | succ n ih =>
    intro m s
    cases s with
    | read w =>
      exact ((Module.Keeps.of_frame m.readDone_frame (by decide) (by decide) (by decide)).trans (Module.keeps_walkReturn _ _ _)).trans (ih _ _)
    | done pa se => exact .refl m
    | fail f => exact .refl m

theorem Module.translate_frame : Module.Frame virtParts m (m.translate e r).2 := by
  have hwalk : Module.Frame virtParts m ((m.lookup r).2.walkAll e 8 (m.lookup r).1).2 :=
    ((m.lookup_frame r).mono (by simp [virtParts])).trans (Module.walkAll_frame e 8 _ _)
  unfold Module.translate
  dsimp only
  split
  · exact hwalk
  · exact hwalk.trans ((Module.logFault_frame _ _ _).mono (by simp [virtParts]))
  · exact hwalk

theorem Module.keeps_translate : Module.Keeps ErrKept loud m (m.translate e r).2 := by
  have hwalk : Module.Keeps ErrKept loud m ((m.lookup r).2.walkAll e 8 (m.lookup r).1).2 :=
    (m.keeps_lookup r).trans (Module.keeps_walkAll e 8 _ _)
  unfold Module.translate
  dsimp only
  split
  · exact hwalk
  · exact hwalk.trans (Module.keeps_logFault _ _ _)
  · exact hwalk

end

/-! ## Every translated write -/

section
variable (e : Env) (link : Nat) (r : XReq)

theorem Module.writeVirtAux_frame (fuel : Nat) : ∀ (m : Module) (off : Nat) (bs : List Byte),
    Module.Frame virtParts m (m.writeVirtAux e link r fuel off bs).2 := by
  induction fuel with
  | zero => exact fun m _ _ => .refl _ m
  | succ fuel ih =>
    intro m off bs
    unfold Module.writeVirtAux
    dsimp only
    split
    · exact .refl _ m
    have htr := m.translate_frame e { r with va := (r.va + off) % 2 ^ 64 }
    split
    next m1 heq => rwa [heq] at htr
    next pa _ m1 heq =>
      rw [heq] at htr
      refine (htr.trans ?_).trans (ih _ _ _)
      exact (((Module.emit_frame _ _).mono (by simp [virtParts])).trans ((Module.countUp_frame _ _ _ _).mono (by simp [virtParts]))).trans
        ((Module.count_frame _ _ _).mono (by simp [virtParts]))

theorem Module.keeps_writeVirtAux (fuel : Nat) : ∀ (m : Module) (off : Nat) (bs : List Byte),
    Module.Keeps ErrKept true m (m.writeVirtAux e link r fuel off bs).2 := by
  induction fuel with
  | zero => exact fun m _ _ => .refl m
  | succ fuel ih =>
    intro m off bs
    unfold Module.writeVirtAux
    dsimp only
    split
    · exact .refl m
    have htr := m.keeps_translate (loud := true) e { r with va := (r.va + off) % 2 ^ 64 }
    split
    next m1 heq => rwa [heq] at htr
    next pa _ m1 heq =>
      rw [heq] at htr
      exact (((htr.emit _).countUp _ _ _ (by decide)).count _ _ (by decide)).trans (ih _ _ _)

theorem Module.writeVirt_frame (m : Module) (bs : List Byte) : Module.Frame virtParts m (m.writeVirt e link r bs).2 :=
  m.writeVirtAux_frame e link r _ 0 bs

theorem Module.keeps_writeVirt (m : Module) (bs : List Byte) : Module.Keeps ErrKept true m (m.writeVirt e link r bs).2 :=
  m.keeps_writeVirtAux e link r _ 0 bs

end

/-! ## Accesses that a slot grants -/

/-- An access of `n` bytes in one page hits a slot of a TLB that grants it: `State.Translates`, of the module alone. -/
structure Module.Hits (m : Module) (r : XReq) (n pa : Nat) : Prop where
  on : m.dtuOn = true
  va : r.va < 2 ^ 64
  pos : 0 < n
  page : r.va % 4096 + n ≤ 4096
  slot : ∃ slot se, m.tlbHit r = some slot ∧ slotResult r slot = .done pa se

theorem State.Translates.hits {s : State} {r : XReq} {n pa : Nat} (h : s.Translates r n pa) : s.toModule.Hits r n pa := by
  obtain ⟨hon, hva, hpos, hpage, hslot⟩ := h
  exact ⟨hon, hva, hpos, hpage, hslot⟩

section
variable {m a : Module} {r : XReq} {n pa : Nat}

/-- Whether the DTU translates is said in fields that errors keep. -/
theorem Module.Keeps.dtuOn {loud : Bool} (h : Module.Keeps ErrKept loud m a) : a.dtuOn = m.dtuOn := by
  have henable : a.get (F.pgEnable pgDtu) = m.get (F.pgEnable pgDtu) := h.field _ (by simp [Quiet, F.pgEnable, pgDtu]) (by simp [ErrKept, errRegs, F.pgEnable, pgDtu])
  have hsize : a.get F.dtuAstabSize = m.get F.dtuAstabSize := h.field _ (by simp [Quiet, F.dtuAstabSize]) (by simp [ErrKept, errRegs, F.dtuAstabSize])
  rw [Module.dtuOn, Module.flag, henable, hsize, Module.dtuOn, Module.flag]

theorem Module.Hits.of_keeps {loud : Bool} (h : m.Hits r n pa) (hk : Module.Keeps ErrKept loud m a) (hd : a.dtu = m.dtu) : a.Hits r n pa where
  on := hk.dtuOn.trans h.on
  va := h.va
  pos := h.pos
  page := h.page
  slot := by
    simp only [Module.tlbHit, hd]
    exact h.slot

theorem Module.lookup_hit {slot : TlbSlot} (hon : m.dtuOn = true) (hslot : m.tlbHit r = some slot) :
    m.lookup r = (slotResult r slot, (m.count pgDtu 0).microFill r.engine slot) := by
  have hon' : (m.count pgDtu 0).dtuOn = true := ((Module.Keeps.refl m).count (K := ErrKept) (loud := true) pgDtu 0 (by decide)).dtuOn.trans hon
  have hslot' : (m.count pgDtu 0).tlbHit r = some slot := by simpa [Module.tlbHit] using hslot
  simp [Module.lookup, hon', hslot']

/-- A translation that hits asks for no read. -/
theorem Module.Hits.translate (h : m.Hits r n pa) (e : Env) :
    ∃ slot se, m.translate e r = (.ok pa se, (m.count pgDtu 0).microFill r.engine slot) := by
  obtain ⟨slot, se, hslot, hdone⟩ := h.slot
  refine ⟨slot, se, ?_⟩
  unfold Module.translate
  simp only [Module.lookup_hit h.on hslot, hdone, Module.walkAll]

theorem Module.Hits.firstPage (h : m.Hits r n pa) : pagePart ((r.va + 0) % 2 ^ 64) n = n := by
  rw [Nat.add_zero, Nat.mod_eq_of_lt h.va]
  exact Nat.min_eq_left (by have := h.page; omega)

theorem Module.Hits.atStart (h : m.Hits r n pa) : { r with va := (r.va + 0) % 2 ^ 64 } = r := by
  rw [Nat.add_zero, Nat.mod_eq_of_lt h.va]

/-- What a translated write does that hits: its bytes go out, between counters. -/
def Module.wrote (m : Module) (link : Nat) (r : XReq) (slot : TlbSlot) (pa : Nat) (bs : List Byte) : Module :=
  (((((m.count pgDtu 0).microFill r.engine slot).emit (.hostWrite link pa bs)).countUp (pgHost link) 1 bs.length).count (pgHost link) 3)

theorem Module.Hits.writeVirt {bs : List Byte} (h : m.Hits r bs.length pa) (e : Env) (link : Nat) :
    ∃ slot, m.writeVirt e link r bs = (none, m.wrote link r slot pa bs) := by
  obtain ⟨slot, se, htr⟩ := h.translate e
  refine ⟨slot, ?_⟩
  have hne : bs.isEmpty = false := by
    have := h.pos
    cases bs <;> simp_all
  have hdone : ∀ (k : Module) (off : Nat), k.writeVirtAux e link r (bs.length / 4096 + 1) off [] = (none, k) := fun k off => rfl
  unfold Module.writeVirt Module.writeVirtAux
  simp only [hne, h.atStart, htr]
  simp only [h.firstPage, List.take_length, List.drop_length, hdone]
  rfl

/-- What a translated read does that hits: nothing but counters, and the read itself. -/
def Module.hasRead (m : Module) (link : Nat) (r : XReq) (slot : TlbSlot) (n : Nat) : Module :=
  ((((m.count pgDtu 0).microFill r.engine slot).count (pgHost link) 2).readDone).countUp (pgHost link) 0 n

/-- What host memory answers depends on the count of free reads alone. -/
theorem Module.readWords_congr (h : a.reads = m.reads) (e : Env) (link n : Nat) : ∀ addr, a.readWords e link n addr = m.readWords e link n addr := by
  induction n with
  | zero => exact fun _ => rfl
  | succ n ih =>
    intro addr
    simp only [Module.readWords, Module.read8, h, ih]

theorem Module.readBytes_congr (h : a.reads = m.reads) (e : Env) (link addr n : Nat) : a.readBytes e link addr n = m.readBytes e link addr n := by
  simp only [Module.readBytes, Module.readWords_congr h]

theorem Module.Hits.readVirt {bs : List Byte} (h : m.Hits r n pa) (e : Env) (link : Nat) (hb : m.readBytes e link pa n = some bs) :
    ∃ slot, m.readVirt e link r n = (.ok bs, m.hasRead link r slot n) := by
  obtain ⟨slot, se, htr⟩ := h.translate e
  refine ⟨slot, ?_⟩
  have hb' : ((m.count pgDtu 0).microFill r.engine slot).readBytes e link pa n = some bs := (Module.readBytes_congr (by simp) e link pa n).trans hb
  have hdone : ∀ (k : Module) (off : Nat) (acc : List Byte), k.readVirtAux e link r (n / 4096 + 1) off 0 acc = (.ok acc, k) := fun k off acc => rfl
  unfold Module.readVirt Module.readVirtAux
  simp only [h.pos.ne', h.atStart, htr]
  simp only [h.firstPage, hb', Nat.sub_self, hdone]
  rfl

theorem Module.wrote_frame (m : Module) (link : Nat) (r : XReq) (slot : TlbSlot) (pa : Nat) (bs : List Byte) :
    Module.Frame virtParts m (m.wrote link r slot pa bs) := by
  refine ((((m.count_frame _ _).mono ?_).trans ((Module.microFill_frame _ _ _).mono ?_)).trans ((Module.emit_frame _ _).mono ?_)).trans
    (((Module.countUp_frame _ _ _ _).trans (Module.count_frame _ _ _)).mono ?_)
  all_goals simp [virtParts]

theorem Module.hasRead_frame (m : Module) (link : Nat) (r : XReq) (slot : TlbSlot) (n : Nat) :
    Module.Frame virtParts m (m.hasRead link r slot n) := by
  refine ((((m.count_frame _ _).mono ?_).trans ((Module.microFill_frame _ _ _).mono ?_)).trans ((Module.count_frame _ _ _).mono ?_)).trans
    (((Module.readDone_frame _).mono ?_).trans ((Module.countUp_frame _ _ _ _).mono ?_))
  all_goals simp [virtParts]

/-- A write that hits sends its bytes after what a quiet operation has sent. -/
theorem Module.Keeps.wrote_out {K : Fld → Prop} (h : Module.Keeps K false m a) (link : Nat) (r : XReq) (slot : TlbSlot) (pa : Nat)
    (bs : List Byte) : ∃ x y, (a.wrote link r slot pa bs).out = m.out ++ x ++ [.hostWrite link pa bs] ++ y ∧ (x ++ y).all Emit.isEvent = true := by
  have hbefore : Module.Keeps K false m ((a.count pgDtu 0).microFill r.engine slot) := (h.count pgDtu 0 (by decide)).same (by simp) (by simp) (by simp)
  have hafter : ∀ b : Module, Module.Keeps K false b ((b.countUp (pgHost link) 1 bs.length).count (pgHost link) 3) := fun b =>
    ((Module.Keeps.refl b).countUp _ _ _ (by decide)).count _ _ (by decide)
  obtain ⟨x, hx, hxe⟩ := hbefore.out
  obtain ⟨y, hy, hye⟩ := (hafter (((a.count pgDtu 0).microFill r.engine slot).emit (.hostWrite link pa bs))).out
  exact ⟨x, y, by rw [Module.wrote, hy, Module.emit_out, hx], by rw [List.all_append, hxe rfl, hye rfl]; rfl⟩

theorem Module.keeps_hasRead {K : Fld → Prop} {loud : Bool} (m : Module) (link : Nat) (r : XReq) (slot : TlbSlot) (n : Nat) :
    Module.Keeps K loud m (m.hasRead link r slot n) := by
  have hfilled : Module.Keeps K loud m ((m.count pgDtu 0).microFill r.engine slot) :=
    ((Module.Keeps.refl m).count pgDtu 0 (by decide)).same (by simp) (by simp) (by simp)
  have hread : Module.Keeps K loud m (((m.count pgDtu 0).microFill r.engine slot).count (pgHost link) 2).readDone :=
    (hfilled.count _ _ (by decide)).trans (.of_frame (Module.readDone_frame _) (by decide) (by decide) (by decide))
  exact hread.countUp _ _ _ (by decide)

end

end Sys2Proof.Machine

/-! PROOFS. A work queue that enters ERROR (R133, R134): what becomes of its context and of its fetch, and what the error leaves alone. -/

namespace Sys2Proof.Machine

set_option Elab.async false

/-! ## The steps of an error -/

section
variable (m : Module) (n : Nat)

/-- The context goes into ERROR, with nothing in flight and nothing pushed. -/
def Module.wqHalts (m : Module) (n : Nat) (c : WqCtx) (cause idx : Nat) : Module :=
  let a := (m.dropFetch n).setWq n { c with state := .error, errCause := cause, errIdx := idx }
  a.setWqRt n { a.wqRt n with push := [], pushed := [] }

/-- WQEs that have not started are flushed, or leave without completion under a link reset (R133, R156). -/
def Module.flushUnstarted (m : Module) (n cause : Nat) : Module :=
  (m.unstarted n).foldl (fun m id => if cause = ecLinkReset then m.abandon id else m.opDone id stFlushed 0 0 0 0) m

/-- What a queue in ERROR leaves to do: its lists, its consumer shadow, the record and the event. -/
def Module.errorTail (m : Module) (e : Env) (n : Nat) (c : WqCtx) (cause idx : Nat) (shadow : Bool) : Module :=
  let a := m.discardLists n
  ((if shadow then (a.writeCi e n c).2 else a).logQueue 0 cause n idx).raise pgQctl Ev.wqError

/-- A queue that runs enters ERROR in these steps. -/
theorem Module.wqErrorAs_runs (e : Env) (cause : Nat) (idx : Option Nat) (shadow : Bool) {c : WqCtx} (h : m.wq n = some c)
    (hs : c.state = .active ∨ c.state = .stopped) : m.wqErrorAs e n cause idx shadow =
      ((m.wqHalts n c cause (idx.getD c.ci)).flushUnstarted n cause).errorTail e n c cause (idx.getD c.ci) shadow := by
  have hruns : (c.state = .active || c.state = .stopped || ((cause = ecLinkReset || cause = ecDomainCleared) && c.state = .error)) = true := by
    rcases hs with hs | hs <;> simp [hs]
  simp only [Module.wqErrorAs, h, hruns]
  rfl

/-- An error takes a queue into ERROR in these steps, or changes nothing. -/
theorem Module.wqErrorAs_cases (e : Env) (cause : Nat) (idx : Option Nat) (shadow : Bool) :
    m.wqErrorAs e n cause idx shadow = m ∨ ∃ c, m.wq n = some c ∧ m.wqErrorAs e n cause idx shadow =
      ((m.wqHalts n c cause (idx.getD c.ci)).flushUnstarted n cause).errorTail e n c cause (idx.getD c.ci) shadow := by
  unfold Module.wqErrorAs
  split
  · exact .inl rfl
  next c hc =>
    dsimp only
    split
    · exact .inl rfl
    · exact .inr ⟨c, hc, rfl⟩

theorem Module.dropFetch_fetch : ((m.dropFetch n).wqRt n).fetch = none := by
  unfold Module.dropFetch
  split
  next h => exact h
  · simp

@[simp] theorem Module.wq_dropFetch (k : Nat) : (m.dropFetch n).wq k = m.wq k := by
  unfold Module.dropFetch
  split <;> simp

/-- The queue's context and what is kept beside it, right after the halt. -/
theorem Module.wq_wqHalts (c : WqCtx) (cause idx : Nat) :
    (m.wqHalts n c cause idx).wq n = some { c with state := .error, errCause := cause, errIdx := idx } := by simp [Module.wqHalts]

theorem Module.wqRt_wqHalts (c : WqCtx) (cause idx : Nat) :
    ((m.wqHalts n c cause idx).wqRt n).fetch = none ∧ ((m.wqHalts n c cause idx).wqRt n).push = [] := by
  simp [Module.wqHalts, Module.dropFetch_fetch]

theorem Module.opsEnd_flushUnstarted (cause : Nat) : m.OpsEnd (m.flushUnstarted n cause) := by
  refine .foldl _ (fun a id => ?_) _ _
  split
  · exact a.opsEnd_abandon id
  · exact a.opsEnd_opDone id _ _ _ _ _

end

/-! ## The consumer shadow -/

section
variable (m : Module) (e : Env) (n : Nat) (c : WqCtx)

/-- The access of the consumer shadow. -/
def ciReq (n : Nat) (c : WqCtx) : XReq :=
  { asid := c.asid, va := c.ciShadow, acc := .shadowWrite, user := c.user, allowSe := true, engine := 0, source := 0, object := n }

theorem Module.writeCi_eq : m.writeCi e n c = (m.setWqRt n { m.wqRt n with ciSince := 0 }).writeVirt e c.link (ciReq n c) (leBytes 4 c.ci) := rfl

theorem Module.writeCi_q : (m.writeCi e n c).2.q = (m.setWqRt n { m.wqRt n with ciSince := 0 }).q := by
  rw [Module.writeCi_eq, Module.writeVirt_q]

theorem Module.wq_writeCi (k : Nat) : (m.writeCi e n c).2.wq k = m.wq k := Module.wq_congr (m.writeCi_q e n c) k

theorem Module.wqRt_writeCi : (m.writeCi e n c).2.wqRt n = { m.wqRt n with ciSince := 0 } := by
  rw [Module.wqRt_congr (m.writeCi_q e n c), Module.wqRt_setWqRt_same]

theorem Module.writeCi_frame : Module.Frame (.q :: virtParts) m (m.writeCi e n c).2 :=
  ((m.setWqRt_frame _ _).mono (by simp)).trans ((Module.writeVirt_frame _ _ _ _ _).mono (by simp [virtParts]))

theorem Module.keeps_writeCi : Module.Keeps ErrKept true m (m.writeCi e n c).2 :=
  (Module.Keeps.of_frame (m.setWqRt_frame _ _) (by decide) (by decide) (by decide)).trans (Module.keeps_writeVirt _ _ _ _ _)

end

/-! ## What an error does -/

/-- The parts that an error of a queue touches beside the clock. -/
def haltParts : List Part := [.regs, .msix, .out, .q, .smp, .x, .cl, .dtu, .reads]

theorem haltParts_errParts : haltParts ⊆ errParts := by simp [haltParts, errParts]

/-- A queue is in ERROR: its context is that of before but for the record and the counts of operations ended; nothing of it is in flight
or being pushed. -/
structure Module.Halted (a : Module) (n : Nat) (c : WqCtx) (cause idx : Nat) : Prop where
  wq : ∃ j, a.wq n = some { c with state := .error, errCause := cause, errIdx := idx, outstanding := j }
  fetch : (a.wqRt n).fetch = none
  push : (a.wqRt n).push = []

section
variable (m : Module) (e : Env) (n : Nat) (c : WqCtx) (cause idx : Nat) (shadow : Bool)

theorem Module.halted_wqHalts : (m.wqHalts n c cause idx).Halted n c cause idx :=
  ⟨⟨c.outstanding, m.wq_wqHalts n c cause idx⟩, (m.wqRt_wqHalts n c cause idx).1, (m.wqRt_wqHalts n c cause idx).2⟩

variable {m n c cause idx}

theorem Module.Halted.opsEnd {a : Module} (h : m.Halted n c cause idx) (k : m.OpsEnd a) : a.Halted n c cause idx := by
  obtain ⟨j, hj⟩ := h.wq
  obtain ⟨i, hi⟩ := k.wq n _ hj
  obtain ⟨o, ho⟩ := k.wqRt n
  exact ⟨⟨i, hi⟩, by rw [ho]; exact h.fetch, by rw [ho]; exact h.push⟩

theorem Module.Halted.writeCi (h : m.Halted n c cause idx) (d : WqCtx) : (m.writeCi e n d).2.Halted n c cause idx := by
  refine ⟨?_, ?_, ?_⟩
  · rw [m.wq_writeCi e n d]
    exact h.wq
  · rw [m.wqRt_writeCi e n d]
    exact h.fetch
  · rw [m.wqRt_writeCi e n d]
    exact h.push

theorem Module.Halted.errorTail (h : m.Halted n c cause idx) (d : WqCtx) (cause' idx' : Nat) :
    (m.errorTail e n d cause' idx' shadow).Halted n c cause idx := by
  have hlists := h.opsEnd (m.opsEnd_discardLists n)
  unfold Module.errorTail
  dsimp only
  have hlog : ∀ a : Module, ((a.logQueue 0 cause' n idx').raise pgQctl Ev.wqError).q = a.q := fun a => by
    rw [Module.raise_q]
    exact (a.logQueue_frame 0 cause' n idx') .q (by decide)
  split
  · exact (hlists.writeCi e d).opsEnd (.of_q (hlog _))
  · exact hlists.opsEnd (.of_q (hlog _))

variable (m n c)

/-- A queue that runs is in ERROR after an error. -/
theorem Module.halted_wqErrorAs (cause : Nat) (idx : Option Nat) (h : m.wq n = some c) (hs : c.state = .active ∨ c.state = .stopped) :
    (m.wqErrorAs e n cause idx shadow).Halted n c cause (idx.getD c.ci) := by
  rw [m.wqErrorAs_runs n e cause idx shadow h hs]
  exact ((m.halted_wqHalts n c cause _).opsEnd (Module.opsEnd_flushUnstarted _ n cause)).errorTail e shadow c cause _

/-- An error starts no fetch. -/
theorem Module.wqErrorAs_fetch (cause : Nat) (idx : Option Nat) (h : (m.wqRt n).fetch = none) :
    ((m.wqErrorAs e n cause idx shadow).wqRt n).fetch = none := by
  rcases m.wqErrorAs_cases n e cause idx shadow with heq | ⟨c, hc, heq⟩
  · rwa [heq]
  · rw [heq]
    exact (((m.halted_wqHalts n c cause _).opsEnd (Module.opsEnd_flushUnstarted _ n cause)).errorTail e shadow c cause _).fetch

theorem Module.wqHalts_frame (idx : Nat) : Module.Frame [.q] m (m.wqHalts n c cause idx) :=
  ((m.dropFetch_frame n).trans (Module.setWq_frame _ _ _)).trans (Module.setWqRt_frame _ _ _)

theorem Module.flushUnstarted_frame : Module.Frame [.regs, .q, .smp, .x] m (m.flushUnstarted n cause) := by
  refine Module.foldl_frame _ (fun a id => ?_) _ _
  split
  · exact a.abandon_frame id
  · exact a.opDone_frame id _ _ _ _ _

theorem Module.errorTail_frame (idx : Nat) : Module.Frame haltParts m (m.errorTail e n c cause idx shadow) := by
  unfold Module.errorTail
  dsimp only
  refine ((Module.Frame.trans ?_ ((Module.logQueue_frame _ _ _ _ _).mono (by simp [haltParts]))).trans
    ((Module.raise_frame _ _ _).mono (by simp [haltParts])))
  have hlists : Module.Frame haltParts m (m.discardLists n) := (m.discardLists_frame n).mono (by simp [haltParts])
  split
  · exact hlists.trans ((Module.writeCi_frame _ e n c).mono (by simp [haltParts, virtParts]))
  · exact hlists

theorem Module.wqErrorAs_frame (cause : Nat) (idx : Option Nat) : Module.Frame haltParts m (m.wqErrorAs e n cause idx shadow) := by
  rcases m.wqErrorAs_cases n e cause idx shadow with heq | ⟨c, hc, heq⟩
  · rw [heq]
    exact .refl _ m
  · rw [heq]
    exact ((((m.wqHalts_frame n c _).mono (by simp [haltParts])).trans ((Module.flushUnstarted_frame _ n).mono (by simp [haltParts]))).trans
      (Module.errorTail_frame _ e n c shadow _))

theorem Module.keeps_errorTail (idx : Nat) : Module.Keeps ErrKept true m (m.errorTail e n c cause idx shadow) := by
  unfold Module.errorTail
  dsimp only
  refine Module.Keeps.raise (Module.Keeps.trans ?_ (Module.keeps_logQueue _ _ _ _ _)) _ _ (by decide)
  split
  · exact (m.keeps_discardLists n).trans (Module.keeps_writeCi _ e n c)
  · exact m.keeps_discardLists n

theorem Module.keeps_flushUnstarted : Module.Keeps ErrKept true m (m.flushUnstarted n cause) := by
  refine Module.Keeps.foldl _ (fun a id => ?_) _ _
  split
  · exact a.keeps_abandon id
  · exact a.keeps_opDone id _ _ _ _ _

/-- An error keeps every quiet field that no record of errors holds, and every cause that is set. -/
theorem Module.keeps_wqErrorAs (cause : Nat) (idx : Option Nat) : Module.Keeps ErrKept true m (m.wqErrorAs e n cause idx shadow) := by
  rcases m.wqErrorAs_cases n e cause idx shadow with heq | ⟨c, hc, heq⟩
  · rw [heq]
    exact .refl m
  · rw [heq]
    exact ((Module.Keeps.of_frame (m.wqHalts_frame n c _) (by decide) (by decide) (by decide)).trans (Module.keeps_flushUnstarted _ n)).trans
      (Module.keeps_errorTail _ e n c shadow _)

/-- R133: a queue that runs is in ERROR with the cause. -/
theorem Module.wqErrs_wqError (cause : Nat) (idx : Option Nat) (h : m.wq n = some c) (hs : c.state = .active ∨ c.state = .stopped)
    (t : State) (ht : t.toModule = m.wqError e n cause idx) : WqErrs t n cause := by
  obtain ⟨j, hj⟩ := (m.halted_wqErrorAs e n c (decide (cause ≠ ecLinkReset)) cause idx h hs).wq
  exact ⟨_, by rw [ht]; exact hj, rfl, rfl⟩

theorem Module.wqError_frame (cause : Nat) (idx : Option Nat) : Module.Frame haltParts m (m.wqError e n cause idx) := m.wqErrorAs_frame e n _ _ _

theorem Module.wqError_fetch (cause : Nat) (idx : Option Nat) (h : (m.wqRt n).fetch = none) : ((m.wqError e n cause idx).wqRt n).fetch = none :=
  m.wqErrorAs_fetch e n _ _ _ h

theorem Module.keeps_wqError (cause : Nat) (idx : Option Nat) : Module.Keeps ErrKept true m (m.wqError e n cause idx) := m.keeps_wqErrorAs e n _ _ _

end

end Sys2Proof.Machine

/-! PROOFS. The reads of WQEs (R117–R119): what comes before a fetch starts none, and how many WQEs one takes: O22. -/

namespace Sys2Proof.Machine

set_option Elab.async false

theorem exec_wqeFetch (n : BitVec 16) (e : Env) (s : State) : exec (.wqeFetch n e) s = execWqeFetch n e s := rfl

/-! ## What comes before a fetch -/

section
variable (m : Module) (e : Env) (n : Nat)

theorem Module.wqRt_cacheWq (c : WqCtx) (k : Nat) : (m.cacheWq n c).wqRt k = m.wqRt k := by
  unfold Module.cacheWq
  dsimp only
  split
  · rfl
  · split
    · rfl
    · simp [Module.leaveWq, Module.writebackWq, Module.wqRt, Module.setWq]

theorem Module.needWq_fetch (h : (m.wqRt n).fetch = none) : ((m.needWq e n).wqRt n).fetch = none := by
  have hcached : ∀ (a : Module) (c : WqCtx), (a.wqRt n).fetch = none → ((a.cacheWq n c).wqRt n).fetch = none := fun a c ha => by
    rwa [a.wqRt_cacheWq]
  have hraised : ∀ (a : Module) (p c : Nat), (a.wqRt n).fetch = none → ((a.raise p c).wqRt n).fetch = none := fun a p c ha => by
    rwa [Module.wqRt_congr (a.raise_q p c)]
  have howed : ((m.readDone.setWqRt n { m.wqRt n with owed := 0 }).wqRt n).fetch = none := by simpa using h
  unfold Module.needWq
  split
  · exact h
  split
  · exact hraised _ _ _ (Module.wqErrorAs_fetch _ e n _ _ _ (hcached _ _ h))
  · dsimp only
    split
    · exact h
    split
    · exact hraised _ _ _ (Module.wqError_fetch _ e n _ _ (hcached _ _ howed))
    · exact hcached _ _ howed

theorem Module.sampleDraw_frame (id : Nat) (op : Op) (opcode tag : Nat) :
    Module.Frame [.regs, .msix, .out, .smp, .draws] m (m.sampleDraw id op opcode tag) := by
  have hdraw : Module.Frame [.regs, .msix, .out, .smp, .draws] m m.draw.2 := by
    intro p hp
    cases p <;> simp_all [Part.same, Module.draw]
  unfold Module.sampleDraw
  dsimp only
  generalize (if m.smp.wqSel = 0xFFFF then decide (op.wq ≠ 0) else decide (op.wq = m.smp.wqSel)) = named
  split
  · split
    · exact hdraw
    · split
      · exact (hdraw.trans ((Module.setTagged_frame _ _).mono (by simp))).trans ((Module.count_frame _ _ _).mono (by simp))
      · exact hdraw.trans ((Module.count_frame _ _ _).mono (by simp))
  · exact .refl _ m

theorem Module.sampleDraw_q (id : Nat) (op : Op) (opcode tag : Nat) : (m.sampleDraw id op opcode tag).q = m.q :=
  (m.sampleDraw_frame id op opcode tag) .q (by decide)

/-- A WQE that comes on chip is one more operation, and nothing else of the queue block. -/
theorem Module.takeWqe_q (idx : Nat) (wqe : List Word) : (m.takeWqe n idx wqe).q =
    { m.q with
      ops := KMap.put m.q.ops m.q.nextOp
        { wq := n, idx := idx, wqe := wqe, started := false, trig := none, silent := false, finished := false, dead := false }
      nextOp := m.q.nextOp + 1 } := Module.sampleDraw_q _ _ _ _ _

theorem Module.wqRt_takeWqe (idx : Nat) (wqe : List Word) (k : Nat) : (m.takeWqe n idx wqe).wqRt k = m.wqRt k := by
  rw [Module.wqRt, m.takeWqe_q n]
  rfl

theorem Module.ciShadow_fetch (h : (m.wqRt n).fetch = none) : ((m.ciShadow e n).wqRt n).fetch = none := by
  unfold Module.ciShadow
  split
  · exact h
  next c _ =>
    split
    · exact h
    have hci : ((m.writeCi e n c).2.wqRt n).fetch = none := by rw [m.wqRt_writeCi e n c]; exact h
    split
    next heq => rwa [heq] at hci
    next heq =>
      rw [heq] at hci
      exact Module.wqError_fetch _ e n _ _ hci

theorem Module.ciDue_fetch (k : Nat) (h : (m.wqRt n).fetch = none) : ((m.ciDue e n k).wqRt n).fetch = none := by
  unfold Module.ciDue
  split
  · exact m.ciShadow_fetch e n h
  · exact h

theorem Module.takePushed_fetch (fuel : Nat) : ∀ m : Module, (m.wqRt n).fetch = none → ((m.takePushed e n fuel).wqRt n).fetch = none := by
  induction fuel with
  | zero => exact fun m h => h
  | succ fuel ih =>
    intro m h
    unfold Module.takePushed
    split
    · exact h
    dsimp only
    split
    · exact h
    split
    · exact h
    · refine ih _ (Module.ciDue_fetch _ e n 1 ?_)
      rw [Module.wqRt_takeWqe]
      simpa using h

end

/-! ## How many WQEs a fetch takes -/

/-- What R118, R117 and R119 allow a read that begins at ci. -/
structure Module.Allows (m : Module) (c : WqCtx) (k : Nat) : Prop where
  eight : k ≤ 8
  known : k ≤ seqSub 32 c.piKnown c.ci
  ring : c.ci % 2 ^ c.size + k ≤ 2 ^ c.size
  outstanding : c.outstanding + k ≤ 256
  pool : m.q.pool + k ≤ 16384

theorem Module.Allows.mono {m : Module} {c : WqCtx} {k j : Nat} (h : m.Allows c k) (hj : j ≤ k) : m.Allows c j := by
  obtain ⟨h8, hk, hr, ho, hp⟩ := h
  exact ⟨by omega, by omega, by omega, by omega, by omega⟩

/-- A count that is not 0 is within every bound. -/
theorem Module.allows_fetchCount (m : Module) (n : Nat) (c : WqCtx) (h : m.fetchCount n c ≠ 0) : m.Allows c (m.fetchCount n c) := by
  have hmod : c.ci % 2 ^ c.size < 2 ^ c.size := Nat.mod_lt _ (Nat.two_pow_pos _)
  have hle : m.fetchCount n c ≤ min (min (min 8 (seqSub 32 c.piKnown c.ci))
      (min (2 ^ c.size - c.ci % 2 ^ c.size) ((4096 - (fetchReq n c c.ci).va % 4096) / 64))) (min (256 - c.outstanding) (16384 - m.q.pool)) :=
    Nat.le_trans (List.Sublist.length_le (List.takeWhile_sublist _)) (Nat.le_of_eq List.length_range)
  simp only [Nat.le_min] at hle
  obtain ⟨⟨⟨h8, hknown⟩, hring, -⟩, hout, hpool⟩ := hle
  exact ⟨h8, hknown, by omega, by omega, by omega⟩

/-! ## WQE_FETCH -/

/-- The read that a fetch starts: the WQEs from ci, at an address or behind a walk. -/
def Module.fetching (m : Module) (n : Nat) (rt : WqRt) (f : Fetch) : Module := (m.setWqRt n { rt with fetch := some f }).poolTake f.n

/-- A fetch after the translation of its first WQE. -/
def fetchTo (e : Env) (n : Nat) (c : WqCtx) (rt : WqRt) (k : Nat) : WStep × Module → Module
  | (.fail f, a) => (a.logFault (fetchReq n c c.ci) f).wqError e n ecFetchFault none
  | (.done pa se, a) => a.fetching n rt { idx := c.ci, n := if se then 1 else k, addr := pa, walk := none, stale := false }
  | (.read w, a) => a.fetching n rt { idx := c.ci, n := k, addr := 0, walk := some w, stale := false }

/-- What WQE_FETCH does once the queue's context is cached and what has been pushed is on chip. -/
def Module.fetchNow (m : Module) (e : Env) (n : Nat) : Module :=
  match m.wq n with
  | none => m
  | some c =>
    if !m.mayFetch n || (m.wqRt n).fetch.isSome || m.fetchCount n c = 0 then m
    else fetchTo e n c (m.wqRt n) (m.fetchCount n c) (m.lookup (fetchReq n c c.ci))

theorem execWqeFetch_eq (n : BitVec 16) (e : Env) (s : State) :
    execWqeFetch n e s = s.run fun m => (((m.at e).needWq e n.toNat).takePushed e n.toNat 256).fetchNow e n.toNat := by
  unfold execWqeFetch Module.fetchNow
  congr 1

/-- A fetch that starts translates its first address. -/
theorem Module.fetchNow_go (m : Module) (e : Env) (n : Nat) {c : WqCtx} (hc : m.wq n = some c) (hmay : m.mayFetch n = true)
    (hnone : (m.wqRt n).fetch = none) (h0 : m.fetchCount n c ≠ 0) :
    m.fetchNow e n = fetchTo e n c (m.wqRt n) (m.fetchCount n c) (m.lookup (fetchReq n c c.ci)) := by
  simp only [Module.fetchNow, hc, hmay, hnone, h0, Option.isSome_none, Bool.not_true, Bool.or_false, decide_false, Bool.false_eq_true, if_false]

theorem Module.fetchNow_cases (m : Module) (e : Env) (n : Nat) : m.fetchNow e n = m ∨ ∃ c, m.wq n = some c ∧ m.fetchCount n c ≠ 0 ∧
    m.fetchNow e n = fetchTo e n c (m.wqRt n) (m.fetchCount n c) (m.lookup (fetchReq n c c.ci)) := by
  cases hc : m.wq n with
  | none => exact .inl (by simp only [Module.fetchNow, hc])
  | some c =>
    by_cases hgo : (!m.mayFetch n || (m.wqRt n).fetch.isSome || m.fetchCount n c = 0) = true
    · exact .inl (by simp only [Module.fetchNow, hc, hgo, if_true])
    · refine .inr ⟨c, rfl, ?_, by simp [Module.fetchNow, hc, hgo]⟩
      simp only [Bool.or_eq_true, decide_eq_true_eq, not_or] at hgo
      exact hgo.2

/-- R117 to R119, of a fetch that stands. -/
def Module.FetchFits (a : Module) (n : Nat) (f : Fetch) : Prop :=
  (∃ c, a.wq n = some c ∧ f.idx = c.ci ∧ 1 ≤ f.n ∧ f.n ≤ 8 ∧ f.n ≤ seqSub 32 c.piKnown c.ci ∧
    c.ci % 2 ^ c.size + f.n ≤ 2 ^ c.size ∧ c.outstanding + f.n ≤ 256) ∧ a.q.pool ≤ 16384

/-- A read of as many WQEs as a module allows fits. -/
theorem Module.fetchFits_fetching {m a : Module} (hq : a.q = m.q) {n : Nat} {c : WqCtx} (hc : m.wq n = some c) (rt : WqRt) {f : Fetch}
    (h : m.Allows c f.n) (h1 : 1 ≤ f.n) (hidx : f.idx = c.ci) : (a.fetching n rt f).FetchFits n f := by
  obtain ⟨h8, hknown, hring, hout, hpool⟩ := h
  refine ⟨⟨c, (Module.wq_congr hq n).trans hc, hidx, h1, h8, hknown, hring, hout⟩, ?_⟩
  simp only [Module.fetching, Module.poolTake, Module.setWqRt, hq]
  exact hpool

/-- A fetch that stands after a translation fits, where none stood before and the count is allowed. -/
theorem fetchTo_fits {m a : Module} {e : Env} {n : Nat} {c : WqCtx} {k : Nat} {st : WStep} {f : Fetch} (hq : a.q = m.q) (hc : m.wq n = some c)
    (hnone : (m.wqRt n).fetch = none) (hk : m.Allows c k) (hpos : 1 ≤ k)
    (hf : ((fetchTo e n c (m.wqRt n) k (st, a)).wqRt n).fetch = some f) : (fetchTo e n c (m.wqRt n) k (st, a)).FetchFits n f := by
  have hset : ∀ g : Fetch, ((a.fetching n (m.wqRt n) g).wqRt n).fetch = some g := fun g => by
    rw [Module.fetching, Module.wqRt_poolTake, Module.wqRt_setWqRt_same]
  cases st with
  | fail x =>
    have hstill : ((a.logFault (fetchReq n c c.ci) x).wqRt n).fetch = none := by rwa [Module.wqRt_congr (a.logFault_q _ _), Module.wqRt_congr hq]
    exact absurd (hf.symm.trans (Module.wqError_fetch _ e n ecFetchFault none hstill)) (by simp)
  | done pa se =>
    obtain rfl := Option.some.inj ((hset _).symm.trans hf)
    have hn : (if se then 1 else k) ≤ k ∧ 1 ≤ if se then 1 else k := by split <;> omega
    exact Module.fetchFits_fetching hq hc _ (hk.mono hn.1) hn.2 rfl
  | read w =>
    obtain rfl := Option.some.inj ((hset _).symm.trans hf)
    exact Module.fetchFits_fetching hq hc _ hk hpos rfl

/-- A fetch that stands after `fetchNow` fits, where none stood before. -/
theorem Module.fetchNow_fits (m : Module) (e : Env) (n : Nat) {f : Fetch} (hnone : (m.wqRt n).fetch = none)
    (hf : ((m.fetchNow e n).wqRt n).fetch = some f) : (m.fetchNow e n).FetchFits n f := by
  rcases m.fetchNow_cases e n with heq | ⟨c, hc, h0, heq⟩
  · rw [heq, hnone] at hf
    cases hf
  · rw [heq] at hf ⊢
    exact fetchTo_fits (m.lookup_q _) hc hnone (m.allows_fetchCount n c h0) (Nat.one_le_iff_ne_zero.mpr h0) hf

/-- Settles O22: what comes before a fetch starts none (`needWq_fetch`, `takePushed_fetch`), and a fetch that stands afterwards fits. -/
theorem fetchesStayInBounds : Obligations.FetchesStayInBounds := by
  intro n e s t f hnone hexec hf
  rw [exec_wqeFetch, execWqeFetch_eq, State.run_eq] at hexec
  obtain rfl := Host.Outcome.next.inj hexec
  exact Module.fetchNow_fits _ e n.toNat (Module.takePushed_fetch e n.toNat 256 _ (Module.needWq_fetch _ e n.toNat hnone)) hf

end Sys2Proof.Machine

/-! PROOFS. Doorbells (R104–R108, R131): O19. -/

namespace Sys2Proof.Machine

set_option Elab.async false

/-! ## Contexts that are known -/

/-- Two modules agree on the contexts, on where their tables lie, and on what a read of host memory gives. -/
structure Module.SameTables (m a : Module) : Prop where
  wq : ∀ n, a.wq n = m.wq n
  cr : ∀ n, a.cr n = m.cr n
  reads : a.reads = m.reads
  get : ∀ f, f.reg ∈ [0x28020, 0x28040, 0x28048] → a.get f = m.get f

section
variable {m a : Module}

theorem Module.sameTables_at (m : Module) (e : Env) : m.SameTables (m.at e) := ⟨fun _ => rfl, fun _ => rfl, rfl, fun _ _ => rfl⟩

theorem Module.SameTables.wqInTable (h : m.SameTables a) (n : Nat) : a.wqInTable n = m.wqInTable n := by
  simp only [Module.wqInTable, Module.running, Module.flag, h.get _ (by decide : (F.pgBlock pgQctl 0 0).reg ∈ _),
    h.get _ (by decide : F.qctlWqtabSize.reg ∈ _)]

theorem Module.SameTables.crInTable (h : m.SameTables a) (n : Nat) : a.crInTable n = m.crInTable n := by
  simp only [Module.crInTable, Module.running, Module.flag, h.get _ (by decide : (F.pgBlock pgQctl 0 0).reg ∈ _),
    h.get _ (by decide : F.qctlCrtabSize.reg ∈ _)]

theorem Module.SameTables.wqLink (h : m.SameTables a) : a.get F.qctlWqtabLink = m.get F.qctlWqtabLink := h.get _ (by decide)

theorem Module.SameTables.wqAddr (h : m.SameTables a) (n : Nat) : a.wqAddr n = m.wqAddr n := by
  simp only [Module.wqAddr, h.get _ (by decide : F.qctlWqtabBase.reg ∈ _)]

theorem Module.SameTables.crAddr (h : m.SameTables a) (n : Nat) : a.crAddr n = m.crAddr n := by
  simp only [Module.crAddr, h.get _ (by decide : F.qctlCrtabBase.reg ∈ _)]

theorem Module.needWq_cached (m : Module) (e : Env) {n : Nat} {c : WqCtx} (h : m.wq n = some c) : m.needWq e n = m := by
  simp [Module.needWq, h]

theorem Module.needCr_cached (m : Module) (e : Env) {n : Nat} {c : CrCtx} (h : m.cr n = some c) : m.needCr e n = m := by
  simp [Module.needCr, h]

theorem Module.needCr_outside (m : Module) (e : Env) {n : Nat} (h : m.crInTable n = false) : m.needCr e n = m := by
  simp [Module.needCr, h]

/-- A context whose standing is known is not loaded: at most its table entry is read. -/
theorem Module.SameTables.needWq {s : State} (h : s.toModule.SameTables a) {e : Env} {n : Nat} (hk : s.WqKnown e n) :
    a.needWq e n = a ∨ a.needWq e n = a.readDone := by
  by_cases hc : (a.wq n).isSome = true
  · exact .inl (by simp [Module.needWq, hc])
  by_cases ht : a.wqInTable n = true
  case neg => exact .inl (by simp [Module.needWq, ht])
  rcases hk with hs | hout | ⟨ws, hws, hinvalid⟩
  · exact absurd (h.wq n ▸ hs) hc
  · exact absurd (h.wqInTable n ▸ ht) (by simp [hout])
  · have hread : a.readWords e (a.get F.qctlWqtabLink) 16 (a.wqAddr n) = some ws := by
      rw [Module.readWords_congr h.reads, h.wqLink, h.wqAddr]
      exact hws
    exact .inr (by simp [Module.needWq, hc, ht, hread, hinvalid])

theorem Module.SameTables.needCr {s : State} (h : s.toModule.SameTables a) {e : Env} {n : Nat} (hk : s.CrKnown e n) :
    a.needCr e n = a ∨ a.needCr e n = a.readDone := by
  by_cases hc : (a.cr n).isSome = true
  · exact .inl (by simp [Module.needCr, hc])
  by_cases ht : a.crInTable n = true
  case neg => exact .inl (by simp [Module.needCr, ht])
  rcases hk with hs | hout | ⟨ws, hws, hinvalid⟩
  · exact absurd (h.cr n ▸ hs) hc
  · exact absurd (h.crInTable n ▸ ht) (by simp [hout])
  · have hread : a.readWords e (a.get F.qctlWqtabLink) 8 (a.crAddr n) = some ws := by
      rw [Module.readWords_congr h.reads, h.wqLink, h.crAddr]
      exact hws
    exact .inr (by simp [Module.needCr, hc, ht, hread, hinvalid])

end

/-! ## Counters of the queue block -/

theorem qctlCtr_not_event {n : Nat} (hn : n < 256) (page : Nat) : ¬ EventRegs page (F.ctrValue pgQctl n).reg := by
  rintro (h | h | ⟨i, hi, h⟩) <;> simp only [F.ctrValue, pgQctl, pgSample, pgHost] at h <;> omega

/-- A counter of the queue block after it has counted. -/
theorem Module.qctl_countUp (m : Module) (n k : Nat) (hn : n < 256) : (m.countUp pgQctl n k).get (F.ctrValue pgQctl n) =
    if m.flag F.sampleCtrFreeze then m.get (F.ctrValue pgQctl n) else (m.get (F.ctrValue pgQctl n) + k) % 2 ^ 48 := by
  unfold Module.countUp
  dsimp only
  split
  · rw [Module.get_raise _ _ _ _ (qctlCtr_not_event hn _), Module.addCtr_value]
  · rw [Module.addCtr_value]

/-- What is discarded: the doorbell is counted, with its event, and nothing else of the queue block changes (R107). -/
theorem discarded_dbDiscard (s : State) (e : Env) (m : Module) (hm : m = s.toModule.at e ∨ m = (s.toModule.at e).readDone) :
    Discarded s (s.upd fun _ => m.dbDiscard) := by
  have hget : ∀ f, m.get f = s.get f := by rcases hm with rfl | rfl <;> exact fun _ => rfl
  have hq : m.q = s.q := by rcases hm with rfl | rfl <;> rfl
  have hframe : Module.Frame [.regs, .msix, .out, .reads, .now] s.toModule m := by
    rcases hm with rfl | rfl
    · exact (s.toModule.at_frame e).mono (by simp)
    · exact ((s.toModule.at_frame e).mono (by simp)).trans ((Module.readDone_frame _).mono (by simp))
  have hflag : m.flag F.sampleCtrFreeze = s.flag F.sampleCtrFreeze := by rw [Module.flag, hget, Module.flag]
  refine ⟨?_, Module.raise_cause _ _ _ (by decide), ?_, Module.Frame.touches_left ?_⟩
  · show (m.dbDiscard).get _ = _
    rw [Module.dbDiscard, Module.get_raise _ _ _ _ (qctlCtr_not_event (by decide) _), Module.count, m.qctl_countUp 3 1 (by decide), hget, hflag]
  · exact ((Module.raise_q _ _ _).trans (Module.count_q _ _ _)).trans hq
  · exact hframe.trans (((m.count_frame _ _).trans (Module.raise_frame _ _ _)).mono (by simp))

/-! ## WQ_PI -/

theorem State.run_of (s : State) (f : Module → Module) {m : Module} (h : f s.toModule = m) : s.run f = .next (s.upd fun _ => m) := by
  rw [State.run_eq, State.upd, h]
  rfl

theorem exec_wqDoorbell (n : BitVec 16) (link : Fin 4) (half : Half) (v : Word) (e : Env) (s : State) :
    exec (.wqDoorbell n link half v e) s = s.run fun m => (m.at e).wqPi e n.toNat link.val half v := rfl
theorem exec_crDoorbell (n : BitVec 16) (link : Fin 4) (half : Half) (v : Word) (e : Env) (s : State) :
    exec (.crDoorbell n link half v e) s = s.run fun m => (m.at e).crCi e n.toNat link.val half v := rfl
theorem exec_crArm (n : BitVec 16) (link : Fin 4) (v : BitVec 32) (e : Env) (s : State) :
    exec (.crArm n link v e) s = s.run fun m => (m.at e).crCi e n.toNat link.val .hi (BitVec.ofNat 64 (2 ^ 32 * v.toNat)) := rfl
theorem exec_pushWrite (n : BitVec 16) (link : Fin 4) (off : BitVec 6) (data : List Byte) (e : Env) (s : State) :
    exec (.pushWrite n link off data e) s = execPushWrite n link off data e s := rfl

section
variable (m : Module) (e : Env) (n : Nat)

theorem Module.wqPi_discarded (link : Nat) (half : Half) (v : Word) (h : half = .hi ∨ (m.needWq e n).wqTakes n link = false) :
    m.wqPi e n link half v = (m.needWq e n).dbDiscard := by
  rcases h with h | h <;> simp [Module.wqPi, h]

theorem Module.wqPi_taken {link : Nat} {half : Half} (v : Word) {c : WqCtx} (hc : m.wq n = some c) (hh : half ≠ .hi)
    (ht : m.wqTakes n link = true) : m.wqPi e n link half v = m.wqProduce e n (bits v 31 0) := by
  simp [Module.wqPi, m.needWq_cached e hc, hh, ht]

section
variable {n} {c : WqCtx} {p : Nat} (hc : m.wq n = some c)
include hc

/-- R104: a value ahead of the known one, within the ring, becomes the known one. -/
theorem Module.wqProduce_ahead (h : seqSub 32 c.piKnown c.ci < seqSub 32 p c.ci) (hring : seqSub 32 p c.ci ≤ 2 ^ c.size) :
    m.wqProduce e n p = m.setWq n { c with piKnown := p % 2 ^ 32 } := by
  simp only [Module.wqProduce, hc, Nat.ne_of_gt h, Nat.lt_asymm h, hring, if_false, if_true]

theorem Module.wqProduce_same (h : seqSub 32 p c.ci = seqSub 32 c.piKnown c.ci) : m.wqProduce e n p = m := by
  simp only [Module.wqProduce, hc, h, if_true]

theorem Module.wqProduce_behind (h : seqSub 32 p c.ci < seqSub 32 c.piKnown c.ci) : m.wqProduce e n p = m.count pgQctl 2 := by
  simp only [Module.wqProduce, hc, Nat.ne_of_lt h, h, if_false, if_true]

theorem Module.wqProduce_overrun (h : seqSub 32 c.piKnown c.ci < seqSub 32 p c.ci) (hring : 2 ^ c.size < seqSub 32 p c.ci) :
    m.wqProduce e n p = m.wqError e n ecDbOverrun none := by
  simp only [Module.wqProduce, hc, Nat.ne_of_gt h, Nat.lt_asymm h, Nat.not_le.mpr hring, if_false]

end

/-- A queue that takes doorbells runs. -/
theorem Module.runs_of_wqTakes {link : Nat} {c : WqCtx} (hc : m.wq n = some c) (h : m.wqTakes n link = true) :
    c.state = .active ∨ c.state = .stopped := by
  simp only [Module.wqTakes, hc, Bool.and_eq_true, Bool.or_eq_true, decide_eq_true_eq] at h
  exact h.1

end

/-- R104, on a queue that takes the doorbell. -/
theorem wqDoorbell_taken (n : BitVec 16) (link : Fin 4) (half : Half) (v : Word) (e : Env) (s : State) (c : WqCtx) (hc : s.wq n.toNat = some c)
    (hh : half ≠ .hi) (ht : s.wqTakes n.toNat link = true) :
    let new := seqSub 32 (bits v 31 0) c.ci
    let old := seqSub 32 c.piKnown c.ci
    (old < new → new ≤ 2 ^ c.size →
      exec (.wqDoorbell n link half v e) s = .next (s.upd fun m => (m.at e).setWq n.toNat { c with piKnown := bits v 31 0 })) ∧
    (new = old → exec (.wqDoorbell n link half v e) s = .next (s.upd fun m => m.at e)) ∧
    (new < old → Answers (exec (.wqDoorbell n link half v e) s) fun t => Counts s t pgQctl 2 1 ∧ t.q = s.q ∧
      Touches [.regs, .msix, .out, .now] s t) ∧
    (old < new → 2 ^ c.size < new → Answers (exec (.wqDoorbell n link half v e) s) fun t => WqErrs t n.toNat ecDbOverrun ∧
      Touches errParts s t) := by
  have hpi : exec (.wqDoorbell n link half v e) s = .next (s.upd fun _ => (s.toModule.at e).wqProduce e n.toNat (bits v 31 0)) := by
    rw [exec_wqDoorbell]
    exact s.run_of _ ((s.toModule.at e).wqPi_taken e n.toNat v hc hh ht)
  have hc' : (s.toModule.at e).wq n.toNat = some c := hc
  have hlt : bits v 31 0 % 2 ^ 32 = bits v 31 0 := Nat.mod_eq_of_lt (bits_lt v 31 0)
  refine ⟨fun h hring => ?_, fun h => ?_, fun h => ?_, fun h hring => ?_⟩
  · rw [hpi, Module.wqProduce_ahead _ e hc' h hring, hlt]
    rfl
  · rw [hpi, Module.wqProduce_same _ e hc' h]
    rfl
  · rw [hpi, Module.wqProduce_behind _ e hc' h]
    exact ⟨_, rfl, Module.qctl_countUp _ 2 1 (by decide), Module.count_q _ _ _,
      Module.Frame.touches_left (((s.toModule.at_frame e).mono (by simp)).trans ((Module.count_frame _ _ _).mono (by simp)))⟩
  · rw [hpi, Module.wqProduce_overrun _ e hc' h hring]
    exact ⟨_, rfl, Module.wqErrs_wqError _ e n.toNat c ecDbOverrun none hc' (s.toModule.runs_of_wqTakes n.toNat hc ht) _ rfl,
      Module.Frame.touches_left (((s.toModule.at_frame e).mono (by simp [errParts])).trans
        ((Module.wqError_frame _ e n.toNat _ _).mono haltParts_errParts))⟩

/-! ## Doorbells that are discarded -/

theorem wqDoorbell_discarded (n : BitVec 16) (link : Fin 4) (half : Half) (v : Word) (e : Env) (s : State) (hk : s.WqKnown e n.toNat)
    (h : half = .hi ∨ s.wqTakes n.toNat link = false) : Answers (exec (.wqDoorbell n link half v e) s) (Discarded s) := by
  have hneed := (s.toModule.sameTables_at e).needWq hk
  have htakes : ((s.toModule.at e).needWq e n.toNat).wqTakes n.toNat link = s.wqTakes n.toNat link := by
    rcases hneed with h | h <;> rw [h] <;> rfl
  rw [exec_wqDoorbell]
  refine State.answers_run s _ _ ?_
  rw [State.upd, Module.wqPi_discarded _ e n.toNat link.val half v (h.imp_right htakes.trans)]
  exact discarded_dbDiscard s e _ hneed

theorem pushWrite_discarded (n : BitVec 16) (link : Fin 4) (off : BitVec 6) (data : List Byte) (e : Env) (s : State) (hk : s.WqKnown e n.toNat)
    (h : s.wqTakes n.toNat link = false) : Answers (exec (.pushWrite n link off data e) s) (Discarded s) := by
  have hneed := (s.toModule.sameTables_at e).needWq hk
  have htakes : ((s.toModule.at e).needWq e n.toNat).wqTakes n.toNat link = false := by
    rcases hneed with h' | h' <;> rw [h'] <;> exact h
  rw [exec_pushWrite, execPushWrite]
  refine State.answers_run s _ _ ?_
  simp only [State.upd, htakes, Bool.not_false, if_true]
  exact discarded_dbDiscard s e _ hneed

theorem crDoorbell_discarded (n : BitVec 16) (link : Fin 4) (half : Half) (v : Word) (e : Env) (s : State) (hk : s.CrKnown e n.toNat)
    (h : s.crTakes n.toNat link = false) : Answers (exec (.crDoorbell n link half v e) s) (Discarded s) := by
  have hneed := (s.toModule.sameTables_at e).needCr hk
  have htakes : ((s.toModule.at e).needCr e n.toNat).crTakes n.toNat link = false := by
    rcases hneed with h' | h' <;> rw [h'] <;> exact h
  rw [exec_crDoorbell]
  refine State.answers_run s _ _ ?_
  simp only [State.upd, Module.crCi, htakes, Bool.not_false, if_true]
  exact discarded_dbDiscard s e _ hneed

/-! ## CR_CI -/

section
variable (m : Module) (e : Env) {n : Nat} {c : CrCtx}

theorem Module.drainHeld_nothing (h : (m.crRt n).held = []) (fuel : Nat) : m.drainHeld e n fuel = m := by
  cases fuel with
  | zero => rfl
  | succ fuel =>
    unfold Module.drainHeld
    rw [h]
    cases m.cr n <;> rfl

/-- A write of the index alone, to a ring that holds no completions. -/
theorem Module.crCi_index {link : Nat} (v : Word) (hc : m.cr n = some c) (ht : m.crTakes n link = true) (hheld : (m.crRt n).held = []) :
    m.crCi e n link .lo v = m.crConsume n (bits v 31 0) := by
  have hsame : ((m.crConsume n (bits v 31 0)).crRt n).held = [] := by
    simp only [Module.crConsume, hc]
    split
    · exact hheld
    · rw [Module.crRt_congr (m.raise_q _ _)]
      exact hheld
  simp [Module.crCi, m.needCr_cached e hc, ht, Module.drainHeld_nothing _ e hsame]

/-- R105, on a ring that takes the doorbell. -/
theorem crDoorbell_taken (n : BitVec 16) (link : Fin 4) (v : Word) (e : Env) (s : State) (c : CrCtx) (hc : s.cr n.toNat = some c)
    (ht : s.crTakes n.toNat link = true) (hheld : (s.crRt n.toNat).held = []) :
    (seqSub 32 (bits v 31 0) c.ciKnown ≤ c.used →
      exec (.crDoorbell n link .lo v e) s = .next (s.upd fun m => (m.at e).setCr n.toNat { c with ciKnown := bits v 31 0 })) ∧
    (c.used < seqSub 32 (bits v 31 0) c.ciKnown → Answers (exec (.crDoorbell n link .lo v e) s) fun t =>
      t.get (F.cause pgQctl Ev.ciInvalid) = 1 ∧ t.q = s.q ∧ Touches [.regs, .msix, .out, .now] s t) := by
  have hci : exec (.crDoorbell n link .lo v e) s = .next (s.upd fun _ => (s.toModule.at e).crConsume n.toNat (bits v 31 0)) := by
    rw [exec_crDoorbell]
    exact s.run_of _ ((s.toModule.at e).crCi_index e v hc ht hheld)
  have hc' : (s.toModule.at e).cr n.toNat = some c := hc
  refine ⟨fun h => ?_, fun h => ?_⟩
  · rw [hci]
    simp only [Module.crConsume, hc', h, if_true]
    rfl
  · rw [hci]
    simp only [Module.crConsume, hc', Nat.not_le.mpr h, if_false]
    exact ⟨_, rfl, Module.raise_cause _ _ _ (by decide), Module.raise_q _ _ _,
      Module.Frame.touches_left (((s.toModule.at_frame e).mono (by simp)).trans ((Module.raise_frame _ _ _).mono (by simp)))⟩

/-! ## Arming -/

theorem bit_arm (v : BitVec 32) (h : v.toNat % 2 = 1) : bit (BitVec.ofNat 64 (2 ^ 32 * v.toNat)) 32 = true := by
  have hval : (2 ^ 32 * v.toNat) % 2 ^ 64 / 2 ^ 32 % 2 = 1 := by
    have hlt := v.isLt
    omega
  simpa [bit, Nat.testBit_eq_decide_div_mod_eq] using hval

/-- An arm of a ring that takes it. -/
theorem Module.crCi_arm {link : Nat} (v : BitVec 32) (hc : m.cr n = some c) (ht : m.crTakes n link = true) (hv : v.toNat % 2 = 1) :
    m.crCi e n link .hi (BitVec.ofNat 64 (2 ^ 32 * v.toNat)) = (m.setCr n { c with armed := true }).crNotify n := by
  have hbit := bit_arm v hv
  generalize BitVec.ofNat 64 (2 ^ 32 * v.toNat) = w at hbit
  simp [Module.crCi, m.needCr_cached e hc, ht, hbit, Module.crArm, hc]

theorem Module.canTake_setCr (c' : CrCtx) (link : Nat) : (m.setCr n c').canTake link = m.canTake link := rfl

theorem Module.active_of_crTakes {link : Nat} (hc : m.cr n = some c) (h : m.crTakes n link = true) : c.state = .active := by
  simp only [Module.crTakes, hc, Bool.and_eq_true, decide_eq_true_eq] at h
  exact h.1

theorem Module.crNotify_empty (h : m.cr n = some c) (he : c.pi = c.ciKnown) : m.crNotify n = m := by
  simp [Module.crNotify, h, he]

/-- An armed ring that is not empty is disarmed, and its vector goes out where the link takes it (R131; log 18 where it does not). -/
theorem Module.crNotify_due (h : m.cr n = some c) (harmed : c.armed = true) (hs : c.state = .active) (hne : c.pi ≠ c.ciKnown) :
    m.crNotify n = if m.canTake c.link then (m.setCr n { c with armed := false }).sendVector c.link c.vector true
      else m.setCr n { c with armed := false } := by
  simp [Module.crNotify, h, harmed, hs, hne, Module.canTake_setCr]

end

theorem crArm_taken (n : BitVec 16) (link : Fin 4) (v : BitVec 32) (e : Env) (s : State) (c : CrCtx) (hc : s.cr n.toNat = some c)
    (ht : s.crTakes n.toNat link = true) (hv : v.toNat % 2 = 1) :
    (c.pi = c.ciKnown → exec (.crArm n link v e) s = .next (s.upd fun m => (m.at e).setCr n.toNat { c with armed := true })) ∧
    (c.pi ≠ c.ciKnown → Answers (exec (.crArm n link v e) s) fun t => t.cr n.toNat = some { c with armed := false } ∧
      Touches [.regs, .msix, .out, .q, .now] s t ∧
      (s.canTake c.link = true → (s.msixFn c.link).masked c.vector = false → s.wraps (pgHost c.link) 4 1 = false →
        t.out = s.out ++ [(s.msixFn c.link).msg c.link c.vector]) ∧
      (s.canTake c.link = false → t.out = s.out ∧ t.msix = s.msix)) := by
  have harm : exec (.crArm n link v e) s =
      .next (s.upd fun _ => ((s.toModule.at e).setCr n.toNat { c with armed := true }).crNotify n.toNat) := by
    rw [exec_crArm]
    exact s.run_of _ ((s.toModule.at e).crCi_arm e v hc ht hv)
  have harmed : ((s.toModule.at e).setCr n.toNat { c with armed := true }).cr n.toNat = some { c with armed := true } :=
    Module.cr_setCr_same _ _ _
  have hactive : c.state = .active := s.toModule.active_of_crTakes hc ht
  refine ⟨fun h => ?_, fun h => ?_⟩
  · rw [harm, Module.crNotify_empty _ harmed h]
    rfl
  rw [harm, Module.crNotify_due _ harmed rfl hactive h]
  refine ⟨_, rfl, ?_⟩
  have hcan : ((s.toModule.at e).setCr n.toNat { c with armed := true }).canTake c.link = s.canTake c.link := rfl
  simp only [hcan, State.upd]
  generalize hm : (((s.toModule.at e).setCr n.toNat { c with armed := true }).setCr n.toNat { c with armed := false }) = m
  have hcr : m.cr n.toNat = some { c with armed := false } := by rw [← hm, Module.cr_setCr_same]
  have hframe : Module.Frame [.q, .now] s.toModule m := by
    rw [← hm]
    exact (((s.toModule.at_frame e).mono (by simp)).trans ((Module.setCr_frame _ _ _).mono (by simp))).trans
      ((Module.setCr_frame _ _ _).mono (by simp))
  have hout : m.out = s.out := hframe .out (by decide)
  have hmsix : m.msix = s.msix := hframe .msix (by decide)
  have hregs : m.regs = s.regs := hframe .regs (by decide)
  split
  next hcan =>
    refine ⟨(Module.cr_congr (m.sendVector_q _ _ _) _).trans hcr, Module.Frame.touches_left ((hframe.mono (by simp)).trans ?_), fun _ hmask hwraps => ?_,
      fun hno => ?_⟩
    · intro p hp
      cases p <;> simp_all [Part.same]
    · have hfn : m.msixFn c.link = s.msixFn c.link := by rw [Module.msixFn, hmsix, Module.msixFn]
      have hw : (m.emit ((s.msixFn c.link).msg c.link c.vector)).wraps (pgHost c.link) 4 1 = false := by
        rw [← hwraps]
        simp only [Module.wraps, Module.flag, Module.get, Module.word, Module.emit_regs, hregs]
        rfl
      have hmask' : (m.msixFn c.link).masked c.vector = false := by rw [hfn]; exact hmask
      show (m.sendVector _ _ _).out = _
      rw [Module.sendVector, if_neg (by simp [hmask']), hfn, Module.countMsg_of_not_wraps _ _ hw, Module.addCtr_out, Module.emit_out, hout]
    · rw [hcan] at hno
      cases hno
  next hcan =>
    exact ⟨hcr, Module.Frame.touches_left (hframe.mono (by simp)), fun hyes => absurd hyes hcan, fun _ => ⟨hout, hmsix⟩⟩

/-- Settles O19: doorbells on queues and rings that take them, those that are discarded, and arms. -/
theorem doorbellsMoveIndices : Obligations.DoorbellsMoveIndices :=
  ⟨wqDoorbell_taken,
    fun n link half v off data e s => ⟨wqDoorbell_discarded n link half v e s, pushWrite_discarded n link off data e s,
      crDoorbell_discarded n link half v e s⟩,
    crDoorbell_taken, crArm_taken⟩

end Sys2Proof.Machine

/-! PROOFS. The ring of a completion (R126): O23 fails. -/

namespace Sys2Proof.Machine

set_option Elab.async false

/-- A completion of operation 1 that names WQ 1. -/
def strayCompletion : Completion :=
  { owner := .op 1, cr := 1, tag := 0, wq := 1, opcode := 0, status := 0, length := 0, info := 0, peerFa := 0, nd := 0, detail := 0, write := true }

/-- WQs 0 and 1 complete to rings 0 and 1, which both hold a completion; operation 1 is of WQ 0, its completion names WQ 1. -/
def strayState : State :=
  State.reset.upd fun m =>
    ((((((m.setWq 0 twiceWq).setWq 1 { twiceWq with cr := 1 }).setCr 0 twiceCr).setCr 1 twiceCr).setOp 1 twiceOp).setCrRt 0
      { CrRt.init with held := [strayCompletion] }).setCrRt 1 { CrRt.init with held := [strayCompletion] } |>.finish strayCompletion

/-- The completion is held by ring 1: ring 0 holds what it held. -/
theorem strayState_completionWrite :
    ∃ t, exec (.completionWrite 0 ⟨0, []⟩) strayState = .next t ∧ (t.crRt 0).held = [strayCompletion] :=
  ⟨_, rfl, by decide⟩

/-- Refutes O23: in `strayState` ring 0, of the operation's queue, holds no more than it held. The completion goes to the ring of the queue
that it names itself, and the clause does not say that this is the queue of its operation. -/
theorem not_completionsReachTheirRing : ¬ Obligations.CompletionsReachTheirRing := by
  rintro ⟨hWrite, -⟩
  obtain ⟨-, -, hHeld⟩ := hWrite 0 1 ⟨0, []⟩ strayState strayCompletion twiceOp twiceWq rfl rfl (by decide) rfl (by decide) (by decide)
  obtain ⟨t, ht, hgrown, -⟩ := hHeld twiceCr rfl (by decide) rfl (.inl (by decide))
  obtain ⟨t', ht', hsame⟩ := strayState_completionWrite
  obtain rfl := Host.Outcome.next.inj (ht.symm.trans ht')
  exact absurd (hsame.symm.trans hgrown) (by decide)

end Sys2Proof.Machine

/-! PROOFS. The enables of the queue block and of the DTU (R100, R101, R764): O18. -/

namespace Sys2Proof.Machine

set_option Elab.async false

theorem bits_zero_of_bit {w : Word} {b : Bool} (h : bit w 0 = b) : bits w 0 0 = b.toNat := by
  subst h
  rcases Nat.mod_two_eq_zero_or_one w.toNat with h | h <;> simp [bits, bit, Nat.testBit_zero, h]

/-! ## PG_CTL of a block whose enable has a command of its own -/

/-- The fields that a write of a page's PG_CTL keeps, where it sets lock at most (R52). -/
def CtlKept (page : Nat) (f : Fld) : Prop := Apart (F.pgLock page) f ∧ Apart (F.pgLocked page) f

section
variable (m : Module) (w : Wr) {page : Nat}

/-- A write of PG_CTL that reaches a block whose enable has a command of its own sets the lock, or nothing. -/
theorem Module.pageCtl_eq (hown : ownEnable page = true) (hmsix : isMsixPage page = false) (hr : m.reaches (page * 0x1000 + 0x18) = true) :
    m.pageCtl (page * 0x1000 + 0x18) w =
      if touches w.half 1 1 && bit w.value 1 then (m.put (F.pgLock page) 1).put (F.pgLocked page) 1 else m := by
  have hreg : regAddr (page * 0x1000 + 0x18) = page * 0x1000 + 0x18 := by
    simp only [regAddr]
    omega
  have hpage : (page * 0x1000 + 0x18) / 0x1000 = page := by omega
  have hoff : (page * 0x1000 + 0x18) % 0x1000 = 0x18 := by omega
  have hfate : m.fate (page * 0x1000 + 0x18) = .applied := by
    rw [Module.reaches, hreg] at hr
    exact of_decide_eq_true hr
  have hwrite : m.regWrite (page * 0x1000 + 0x18) w = m := by
    simp [Module.regWrite, hreg, hfate, hpage, hoff, hmsix, Module.headerWrite, hown]
  simp [Module.pageCtl, hwrite, hpage, hr, hmsix]

theorem Module.keeps_pageCtl (hown : ownEnable page = true) (hmsix : isMsixPage page = false)
    (hr : m.reaches (page * 0x1000 + 0x18) = true) : Module.Keeps (CtlKept page) false m (m.pageCtl (page * 0x1000 + 0x18) w) := by
  rw [m.pageCtl_eq w hown hmsix hr]
  split
  · exact ((Module.Keeps.refl m).put (F.pgLock page) 1 (Nat.le_refl 1) (show 1 < 64 by decide) ⟨by simp only [F.pgLock]; omega, by simp only [F.pgLock]; omega⟩
      fun _ hg => hg.1).put (F.pgLocked page) 1 (Nat.le_refl 61) (show 61 < 64 by decide) ⟨by simp only [F.pgLocked]; omega, by simp only [F.pgLocked]; omega⟩ fun _ hg => hg.2
  · exact Module.Keeps.refl m

theorem Module.pageCtl_frame (hown : ownEnable page = true) (hmsix : isMsixPage page = false)
    (hr : m.reaches (page * 0x1000 + 0x18) = true) : Module.Frame [.regs] m (m.pageCtl (page * 0x1000 + 0x18) w) := by
  rw [m.pageCtl_eq w hown hmsix hr]
  split
  · exact (Module.put_frame _ _ _).trans (Module.put_frame _ _ _)
  · exact .refl _ m

end

/-! ## The emptied block -/

/-- The fields that emptying the queue block keeps. -/
def ClearKept (f : Fld) : Prop := ErrKept f ∧ f.reg ≠ 0x29040 ∧ Apart (F.pgBlock pgQctl 0 0) f

section
variable (m : Module)

/-- No queue, ring, operation or completion is left; operation numbers run on (R101). -/
def Module.unqueued (m : Module) : Module := { m with q := { Queues.init with nextOp := m.q.nextOp }, smp := { m.smp with releasing := [] } }

/-- Beside, no command is tagged and no direction FAILING (R101, R243). -/
def Module.emptied (m : Module) : Module :=
  { m.unqueued.setTagged [] with x := { (m.unqueued.setTagged []).x with conns := (m.unqueued.setTagged []).x.conns.map fun (p : Nat × Conn) =>
      (p.1, if p.2.txState = .failing then { p.2 with txState := .idle, failOps := [] } else p.2) } }

theorem Module.queuesClear_eq : m.queuesClear =
    (((m.emptied.put (F.pgBlock pgQctl 0 0) 0).put F.adminCurBusy 0).put F.adminCurOpcode 0).put F.adminCurIndex 0 := rfl

theorem Module.emptied_frame : Module.Frame [.regs, .q, .smp, .x] m m.emptied := by
  intro p hp
  cases p <;> simp_all [Part.same, Module.emptied, Module.setTagged, Module.unqueued]

theorem Module.emptied_q : m.emptied.q = { Queues.init with nextOp := m.q.nextOp } := by simp [Module.emptied, Module.setTagged, Module.unqueued]

theorem Module.emptied_conns : m.emptied.x.conns = m.x.conns.map fun (p : Nat × Conn) =>
    (p.1, if p.2.txState = .failing then { p.2 with txState := .idle, failOps := [] } else p.2) := by
  simp [Module.emptied, Module.setTagged, Module.unqueued]

theorem Module.queuesClear_q : m.queuesClear.q = { Queues.init with nextOp := m.q.nextOp } := by
  simp only [m.queuesClear_eq, Module.put_q, m.emptied_q]

theorem Module.queuesClear_conns (h : ∀ q ∈ m.x.conns, q.2.txState ≠ .failing) : m.queuesClear.x.conns = m.x.conns := by
  have hsame : m.emptied.x.conns = m.x.conns.map id :=
    m.emptied_conns.trans (List.map_congr_left fun q hq => by rw [if_neg (h q hq)]; rfl)
  simp only [m.queuesClear_eq, Module.put_x, hsame, List.map_id]

theorem Module.queuesClear_frame : Module.Frame [.regs, .q, .smp, .x] m m.queuesClear := by
  have hput : ∀ (a : Module) f v, Module.Frame [.regs, .q, .smp, .x] a (a.put f v) := fun a f v => (a.put_frame f v).mono (by simp)
  rw [m.queuesClear_eq]
  exact (((m.emptied_frame.trans (hput _ _ _)).trans (hput _ _ _)).trans (hput _ _ _)).trans (hput _ _ _)

theorem Module.keeps_queuesClear : Module.Keeps ClearKept false m m.queuesClear := by
  have hcur : ∀ f, f.reg = 0x29040 → ∀ g, ClearKept g → Apart f g := fun f hf g hg he => absurd (he.trans hf) hg.2.1
  have hempty : Module.Keeps ClearKept false m m.emptied := by
    have hunqueued : Module.Keeps ErrKept false m m.unqueued := (Module.Keeps.refl m).same rfl rfl rfl
    exact ((hunqueued.trans (Module.keeps_setTagged _ [])).mono fun _ _ hf => hf.1).same rfl rfl rfl
  rw [m.queuesClear_eq]
  exact (((hempty.put _ _ (by decide) (by decide) ⟨by decide, by decide⟩ fun _ hg => hg.2.2).put F.adminCurBusy _ (by decide) (by decide)
    ⟨by decide, by decide⟩ (hcur _ rfl)).put F.adminCurOpcode _ (by decide) (by decide) ⟨by decide, by decide⟩ (hcur _ rfl)).put
    F.adminCurIndex _ (by decide) (by decide) ⟨by decide, by decide⟩ (hcur _ rfl)

theorem Module.queuesClear_running : m.queuesClear.running = false := by
  have hget : m.queuesClear.get (F.pgBlock pgQctl 0 0) = 0 := by
    rw [m.queuesClear_eq, Module.get_put_reg _ _ _ _ (by decide), Module.get_put_reg _ _ _ _ (by decide), Module.get_put_reg _ _ _ _ (by decide),
      Module.get_put_same _ _ _ (by decide) (by decide)]
    rfl
  rw [Module.running, Module.flag, hget]
  rfl

end

/-! ## Starting -/

/-- The block emptied and enabled, before its conditions are judged (R100). -/
def Module.freshBlock (m : Module) : Module := (m.queuesClear.put (F.pgBlock pgQctl 1 1) 0).put (F.pgEnable pgQctl) 1

/-- The block started with two contexts (R100). -/
def Module.startBlock (m : Module) (w : WqCtx) (c : CrCtx) : Module :=
  ((m.freshBlock.readDone.put (F.pgBlock pgQctl 0 0) 1).setCr 0 { c with state := .active, binds := 1, ovf := false }).setWq 0
    { w with state := .active, errCause := 0, errIdx := 0, outstanding := 0 }

/-- The start refused (R100). -/
def Module.refuseBlock (m : Module) : Module :=
  ((m.freshBlock.put (F.pgEnable pgQctl) 0).put (F.pgBlock pgQctl 1 1) 1).raise pgQctl Ev.tableErr

section
variable (m : Module) (e : Env)

theorem Module.freshBlock_eq : (m.queuesClear.put (F.pgBlock pgQctl 1 1) 0).put (F.pgEnable pgQctl) 1 = m.freshBlock := rfl

theorem Module.freshBlock_q : m.freshBlock.q = { Queues.init with nextOp := m.q.nextOp } := by
  simp only [Module.freshBlock, Module.put_q, m.queuesClear_q]

theorem Module.freshBlock_frame : Module.Frame [.regs, .q, .smp, .x] m m.freshBlock :=
  m.queuesClear_frame.trans (((Module.put_frame _ _ _).trans (Module.put_frame _ _ _)).mono (by simp))

/-- The registers of the tables are as before. -/
theorem Module.get_cleared (f : Fld) (hf : f.reg ∈ [0x28040, 0x28048]) :
    (m.queuesClear.put (F.pgBlock pgQctl 1 1) 0).get f = m.get f := by
  have hkept : ∀ r ∈ [0x28040, 0x28048], (r % 0x1000 ≠ 0x38 ∧ r % 0x1000 < 0x800) ∧ r ≠ 0x28020 ∧ r ≠ 0x29040 ∧
      r ∉ errRegs := by decide
  obtain ⟨hquiet, hsts, hcur, herr⟩ := hkept _ hf
  rw [Module.get_put_reg _ _ _ _ hsts]
  exact m.keeps_queuesClear.field f hquiet ⟨herr, hcur, fun he => absurd he hsts⟩

theorem Module.get_freshBlock (f : Fld) (hf : f.reg ∈ [0x28040, 0x28048]) : m.freshBlock.get f = m.get f := by
  have hctl : f.reg ≠ (F.pgEnable pgQctl).reg := by
    intro he
    rw [he] at hf
    exact absurd hf (by decide)
  rw [Module.freshBlock, Module.get_put_reg _ _ _ _ hctl, m.get_cleared f hf]

theorem Module.queuesEnable_starts {ws cs : List Word} (hw : 4 ≤ m.get F.qctlWqtabSize ∧ m.get F.qctlWqtabSize ≤ 16)
    (hc : 4 ≤ m.get F.qctlCrtabSize ∧ m.get F.qctlCrtabSize ≤ 16)
    (hws : m.readWords e (m.get F.qctlWqtabLink) 16 (m.wqAddr 0) = some ws)
    (hcs : m.readWords e (m.get F.qctlWqtabLink) 8 (m.crAddr 0) = some cs)
    (hok : contextsOk (WqCtx.parse ws).2 (CrCtx.parse cs).2 (WqCtx.parse ws).1 (CrCtx.parse cs).1 = true) :
    m.queuesEnable e = m.startBlock (WqCtx.parse ws).1 (CrCtx.parse cs).1 := by
  have hget := m.get_freshBlock
  have hreads : m.freshBlock.reads = m.reads := m.freshBlock_frame .reads (by decide)
  have hws' : m.freshBlock.readWords e (m.freshBlock.get F.qctlWqtabLink) 16 (m.freshBlock.wqAddr 0) = some ws := by
    rw [Module.readWords_congr hreads, Module.wqAddr, hget _ (by decide), hget _ (by decide)]
    exact hws
  have hcs' : m.freshBlock.readWords e (m.freshBlock.get F.qctlWqtabLink) 8 (m.freshBlock.crAddr 0) = some cs := by
    rw [Module.readWords_congr hreads, Module.crAddr, hget _ (by decide), hget _ (by decide)]
    exact hcs
  have hsizes : ¬ (m.get F.qctlWqtabSize < 4 ∨ 16 < m.get F.qctlWqtabSize ∨ m.get F.qctlCrtabSize < 4 ∨ 16 < m.get F.qctlCrtabSize) := by omega
  unfold Module.queuesEnable
  simp only [m.get_cleared _ (by decide : F.qctlWqtabSize.reg ∈ _), m.get_cleared _ (by decide : F.qctlCrtabSize.reg ∈ _), m.freshBlock_eq]
  rw [if_neg (by simpa [or_assoc] using hsizes)]
  simp only [hws', hcs', hok, if_true]
  rfl

theorem Module.queuesEnable_refused (h : m.get F.qctlWqtabSize < 4 ∨ 16 < m.get F.qctlWqtabSize ∨ m.get F.qctlCrtabSize < 4 ∨
    16 < m.get F.qctlCrtabSize) : m.queuesEnable e = m.refuseBlock := by
  unfold Module.queuesEnable
  simp only [m.get_cleared _ (by decide : F.qctlWqtabSize.reg ∈ _), m.get_cleared _ (by decide : F.qctlCrtabSize.reg ∈ _), m.freshBlock_eq]
  rw [if_pos (by simpa [or_assoc] using h)]
  rfl

end

theorem Module.get_setWq (m : Module) (n : Nat) (c : WqCtx) (f : Fld) : (m.setWq n c).get f = m.get f := rfl
theorem Module.get_readDone (m : Module) (f : Fld) : m.readDone.get f = m.get f := rfl
theorem Module.get_setCr (m : Module) (n : Nat) (c : CrCtx) (f : Fld) : (m.setCr n c).get f = m.get f := rfl

/-! ## The started block, and the refused -/

section
variable (m : Module) (w : WqCtx) (c : CrCtx)

theorem Module.startBlock_q : (m.startBlock w c).q = { Queues.init with
    nextOp := m.q.nextOp
    wqs := [(0, { w with state := .active, errCause := 0, errIdx := 0, outstanding := 0 })]
    crs := [(0, { c with state := .active, binds := 1, ovf := false })] } := by
  have hq : (m.freshBlock.readDone.put (F.pgBlock pgQctl 0 0) 1).q = { Queues.init with nextOp := m.q.nextOp } := by
    simp only [Module.put_q, Module.readDone_q, m.freshBlock_q]
  simp only [Module.startBlock, Module.setWq, Module.setCr, hq]
  rfl

theorem Module.startBlock_frame : Module.Frame [.regs, .q, .smp, .x, .reads] m (m.startBlock w c) :=
  ((((m.freshBlock_frame.mono (by simp)).trans ((Module.readDone_frame _).mono (by simp))).trans ((Module.put_frame _ _ _).mono (by simp))).trans
    ((Module.setCr_frame _ _ _).mono (by simp))).trans ((Module.setWq_frame _ _ _).mono (by simp))

theorem Module.startBlock_conns : (m.startBlock w c).x.conns = m.queuesClear.x.conns := by
  simp only [Module.startBlock, Module.setWq, Module.setCr, Module.put_x, Module.readDone_x, Module.freshBlock]

/-- The registers of a started block: it runs, is enabled, and shows no table error. -/
theorem Module.startBlock_regs : (m.startBlock w c).running = true ∧ (m.startBlock w c).get (F.pgEnable pgQctl) = 1 ∧
    (m.startBlock w c).get (F.pgBlock pgQctl 1 1) = 0 := by
  have hget : ∀ f, (m.startBlock w c).get f = (m.freshBlock.readDone.put (F.pgBlock pgQctl 0 0) 1).get f := fun f => by
    rw [Module.startBlock, Module.get_setWq, Module.get_setCr]
  have hread : ∀ f, m.freshBlock.readDone.get f = m.freshBlock.get f := fun f => Module.get_readDone _ f
  refine ⟨?_, ?_, ?_⟩
  · rw [Module.running, Module.flag, hget, Module.get_put_same _ _ _ (by decide) (by decide)]
    rfl
  · rw [hget, Module.get_put_reg _ _ _ _ (by decide), hread, Module.freshBlock, Module.get_put_same _ _ _ (by decide) (by decide)]
    rfl
  · rw [hget, Module.get_put_apart _ _ _ _ (by decide) (by decide) (by decide), hread, Module.freshBlock,
      Module.get_put_reg _ _ _ _ (by decide), Module.get_put_same _ _ _ (by decide) (by decide)]
    rfl

theorem Module.refuseBlock_q : m.refuseBlock.q = { Queues.init with nextOp := m.q.nextOp } := by
  simp only [Module.refuseBlock, Module.raise_q, Module.put_q, m.freshBlock_q]

/-- The registers of a block whose start was refused: a table error. -/
theorem Module.refuseBlock_regs : m.refuseBlock.running = false ∧ m.refuseBlock.get (F.pgEnable pgQctl) = 0 ∧
    m.refuseBlock.get (F.pgBlock pgQctl 1 1) = 1 ∧ m.refuseBlock.get (F.cause pgQctl Ev.tableErr) = 1 := by
  have hget : ∀ f, f.reg ∈ [0x28018, 0x28020] → m.refuseBlock.get f = ((m.freshBlock.put (F.pgEnable pgQctl) 0).put (F.pgBlock pgQctl 1 1) 1).get f := by
    intro f hf
    have hquiet : ∀ r ∈ [0x28018, 0x28020], r % 0x1000 ≠ 0x38 ∧ r % 0x1000 < 0x800 := by decide
    exact Module.get_raise _ _ _ _ (Quiet.not_eventRegs (hquiet _ hf) _)
  refine ⟨?_, ?_, ?_, Module.raise_cause _ _ _ (by decide)⟩
  · have hclear := m.queuesClear_running
    rw [Module.running, Module.flag] at hclear ⊢
    rw [hget _ (by decide), Module.get_put_apart _ _ _ _ (by decide) (by decide) (by decide), Module.get_put_reg _ _ _ _ (by decide), Module.freshBlock,
      Module.get_put_reg _ _ _ _ (by decide), Module.get_put_apart _ _ _ _ (by decide) (by decide) (by decide)]
    exact hclear
  · rw [hget _ (by decide), Module.get_put_reg _ _ _ _ (by decide), Module.get_put_same _ _ _ (by decide) (by decide)]
    rfl
  · rw [hget _ (by decide), Module.get_put_same _ _ _ (by decide) (by decide)]
    rfl

end

/-! ## The writes -/

theorem exec_queueBlockEnable (w : Wr) (e : Env) (s : State) : exec (.queueBlockEnable w e) s = execQueueBlockEnable w e s := rfl
theorem exec_queueBlockDisable (w : Wr) (e : Env) (s : State) : exec (.queueBlockDisable w e) s = execQueueBlockDisable w e s := rfl
theorem exec_dtuEnable (w : Wr) (s : State) : exec (.dtuEnable w) s = execDtuEnable w s := rfl

section
variable (m : Module) (w : Wr) (e : Env) (hr : m.reaches (pgQctl * 0x1000 + 0x18) = true) (hh : w.half ≠ .hi)
include hr hh

theorem Module.queueCtl_enables (hv : bit w.value 0 = true) (hwas : m.get (F.pgEnable pgQctl) = 0) :
    m.queueCtl w e = (m.pageCtl (pgQctl * 0x1000 + 0x18) w).queuesEnable e := by
  have hbit := bits_zero_of_bit hv
  simp [Module.queueCtl, hr, hwas, hbit, touches_of_ne_hi hh]

theorem Module.queueCtl_disables (hv : bit w.value 0 = false) (hwas : m.get (F.pgEnable pgQctl) = 1) :
    m.queueCtl w e = ((m.pageCtl (pgQctl * 0x1000 + 0x18) w).put (F.pgEnable pgQctl) 0).queuesClear := by
  have hbit := bits_zero_of_bit hv
  simp [Module.queueCtl, hr, hwas, hbit, touches_of_ne_hi hh]

end

/-- What a write of QCTL.PG_CTL leaves for the block to read. -/
theorem Module.get_pageCtl_qctl (m : Module) (w : Wr) (hr : m.reaches (pgQctl * 0x1000 + 0x18) = true) (f : Fld) (hf : f.reg ∈ [0x28040, 0x28048]) :
    (m.pageCtl (pgQctl * 0x1000 + 0x18) w).get f = m.get f := by
  have hkept : ∀ r ∈ [0x28040, 0x28048], (r % 0x1000 ≠ 0x38 ∧ r % 0x1000 < 0x800) ∧ r ≠ 0x28018 ∧ r ≠ 0x28020 := by decide
  obtain ⟨hquiet, hctl, hsts⟩ := hkept _ hf
  exact (m.keeps_pageCtl (page := pgQctl) w (by decide) (by decide) hr).field f hquiet ⟨fun he => absurd he hctl, fun he => absurd he hsts⟩

theorem queueBlockEnable_starts (w : Wr) (e : Env) (s : State) (ws cs : List Word) (harr : s.Arrives w 0x28018) (hh : w.half ≠ .hi)
    (hv : bit w.value 0 = true) (hwas : s.get (F.pgEnable pgQctl) = 0) (hw : 4 ≤ s.get F.qctlWqtabSize) (hw' : s.get F.qctlWqtabSize ≤ 16)
    (hc : 4 ≤ s.get F.qctlCrtabSize) (hc' : s.get F.qctlCrtabSize ≤ 16)
    (hws : s.readWords e (s.get F.qctlWqtabLink) 16 (s.wqAddr 0) = some ws)
    (hcs : s.readWords e (s.get F.qctlWqtabLink) 8 (s.crAddr 0) = some cs)
    (hok : contextsOk (WqCtx.parse ws).2 (CrCtx.parse cs).2 (WqCtx.parse ws).1 (CrCtx.parse cs).1 = true) :
    Answers (exec (.queueBlockEnable w e) s) fun t => t.running = true ∧ t.get (F.pgEnable pgQctl) = 1 ∧
      t.get (F.pgBlock pgQctl 1 1) = 0 ∧
      t.q.wqs = [(0, { (WqCtx.parse ws).1 with state := .active, errCause := 0, errIdx := 0, outstanding := 0 })] ∧
      t.q.crs = [(0, { (CrCtx.parse cs).1 with state := .active, binds := 1, ovf := false })] ∧ t.q.ops = [] ∧
      ((∀ q ∈ s.x.conns, q.2.txState ≠ .failing) → t.x.conns = s.x.conns) ∧ Touches [.regs, .q, .smp, .x, .reads, .now] s t := by
  obtain ⟨hm, hr⟩ := harr
  have hr' : (s.toModule.at e).reaches (pgQctl * 0x1000 + 0x18) = true := hr
  have hget := (s.toModule.at e).get_pageCtl_qctl w hr'
  have hframe := (s.toModule.at e).pageCtl_frame (page := pgQctl) w (by decide) (by decide) hr'
  have hreads : ((s.toModule.at e).pageCtl (pgQctl * 0x1000 + 0x18) w).reads = s.reads := hframe .reads (by decide)
  have hstart := Module.queuesEnable_starts ((s.toModule.at e).pageCtl (pgQctl * 0x1000 + 0x18) w) e (ws := ws) (cs := cs)
    (by rw [hget _ (by decide)]; exact ⟨hw, hw'⟩) (by rw [hget _ (by decide)]; exact ⟨hc, hc'⟩)
    (by rw [Module.readWords_congr hreads, Module.wqAddr, hget _ (by decide), hget _ (by decide)]; exact hws)
    (by rw [Module.readWords_congr hreads, Module.crAddr, hget _ (by decide), hget _ (by decide)]; exact hcs) hok
  rw [exec_queueBlockEnable, execQueueBlockEnable]
  refine State.answers_runAs s _ _ _ hm ?_
  simp only [State.upd, hv, if_true, (s.toModule.at e).queueCtl_enables w e hr' hh hv hwas, hstart]
  generalize hm1 : (s.toModule.at e).pageCtl (pgQctl * 0x1000 + 0x18) w = m1 at hframe
  have hx : m1.x = s.x := hframe .x (by decide)
  obtain ⟨hruns, hen, herr⟩ := m1.startBlock_regs (WqCtx.parse ws).1 (CrCtx.parse cs).1
  have hq := m1.startBlock_q (WqCtx.parse ws).1 (CrCtx.parse cs).1
  refine ⟨hruns, hen, herr, congrArg Queues.wqs hq, congrArg Queues.crs hq, congrArg Queues.ops hq, fun hnone => ?_, Module.Frame.touches_left ?_⟩
  · show (m1.startBlock _ _).x.conns = _
    rw [Module.startBlock_conns, Module.queuesClear_conns, hx]
    rwa [hx]
  · exact (((s.toModule.at_frame e).mono (by simp)).trans (hframe.mono (by simp))).trans ((m1.startBlock_frame _ _).mono (by simp))

theorem queueBlockEnable_refused (w : Wr) (e : Env) (s : State) (harr : s.Arrives w 0x28018) (hh : w.half ≠ .hi)
    (hv : bit w.value 0 = true) (hwas : s.get (F.pgEnable pgQctl) = 0)
    (hbad : s.get F.qctlWqtabSize < 4 ∨ 16 < s.get F.qctlWqtabSize ∨ s.get F.qctlCrtabSize < 4 ∨ 16 < s.get F.qctlCrtabSize) :
    Answers (exec (.queueBlockEnable w e) s) fun t => t.running = false ∧ t.get (F.pgEnable pgQctl) = 0 ∧
      t.get (F.pgBlock pgQctl 1 1) = 1 ∧ t.get (F.cause pgQctl Ev.tableErr) = 1 ∧ t.q.wqs = [] := by
  obtain ⟨hm, hr⟩ := harr
  have hr' : (s.toModule.at e).reaches (pgQctl * 0x1000 + 0x18) = true := hr
  have hget := (s.toModule.at e).get_pageCtl_qctl w hr'
  have hrefused := Module.queuesEnable_refused ((s.toModule.at e).pageCtl (pgQctl * 0x1000 + 0x18) w) e (by rw [hget _ (by decide), hget _ (by decide)]; exact hbad)
  rw [exec_queueBlockEnable, execQueueBlockEnable]
  refine State.answers_runAs s _ _ _ hm ?_
  simp only [State.upd, hv, if_true, (s.toModule.at e).queueCtl_enables w e hr' hh hv hwas, hrefused]
  obtain ⟨hruns, hen, herr, hcause⟩ := ((s.toModule.at e).pageCtl (pgQctl * 0x1000 + 0x18) w).refuseBlock_regs
  exact ⟨hruns, hen, herr, hcause, congrArg Queues.wqs (Module.refuseBlock_q _)⟩

theorem queueBlockDisable_stops (w : Wr) (e : Env) (s : State) (harr : s.Arrives w 0x28018) (hh : w.half ≠ .hi) (hv : bit w.value 0 = false)
    (hwas : s.get (F.pgEnable pgQctl) = 1) :
    Answers (exec (.queueBlockDisable w e) s) fun t => t.running = false ∧ t.get (F.pgEnable pgQctl) = 0 ∧
      t.q = { Queues.init with nextOp := s.q.nextOp } ∧ ((∀ q ∈ s.x.conns, q.2.txState ≠ .failing) → t.x.conns = s.x.conns) ∧
      Touches [.regs, .q, .smp, .x, .now] s t := by
  obtain ⟨hm, hr⟩ := harr
  have hr' : (s.toModule.at e).reaches (pgQctl * 0x1000 + 0x18) = true := hr
  have hpage := (s.toModule.at e).pageCtl_frame (page := pgQctl) w (by decide) (by decide) hr'
  have hframe := hpage.trans (Module.put_frame ((s.toModule.at e).pageCtl (pgQctl * 0x1000 + 0x18) w) (F.pgEnable pgQctl) 0)
  have hen := ((s.toModule.at e).pageCtl (pgQctl * 0x1000 + 0x18) w).get_put_same (F.pgEnable pgQctl) 0 (by decide) (by decide)
  rw [exec_queueBlockDisable, execQueueBlockDisable]
  refine State.answers_runAs s _ _ _ hm ?_
  simp only [State.upd, hv, (s.toModule.at e).queueCtl_disables w e hr' hh hv hwas]
  generalize ((s.toModule.at e).pageCtl (pgQctl * 0x1000 + 0x18) w).put (F.pgEnable pgQctl) 0 = m1 at hframe hen
  have hx : m1.x = s.x := hframe .x (by decide)
  have hq : m1.q = s.q := hframe .q (by decide)
  refine ⟨m1.queuesClear_running, ?_, ?_, fun hnone => ?_, Module.Frame.touches_left ?_⟩
  · exact (m1.keeps_queuesClear.field (F.pgEnable pgQctl) ⟨by decide, by decide⟩ ⟨(by decide : (F.pgEnable pgQctl).reg ∉ errRegs), by decide, fun he => absurd he (by decide)⟩).trans hen
  · show m1.queuesClear.q = _
    rw [m1.queuesClear_q, hq]
  · show m1.queuesClear.x.conns = _
    rw [m1.queuesClear_conns (by rwa [hx]), hx]
  · exact (((s.toModule.at_frame e).mono (by simp)).trans (hframe.mono (by simp))).trans (m1.queuesClear_frame.mono (by simp))

theorem dtuEnable_drops (w : Wr) (s : State) (harr : s.Arrives w 0x2A018) (hh : w.half ≠ .hi)
    (hne : bits w.value 0 0 ≠ s.get (F.pgEnable pgDtu)) :
    Answers (exec (.dtuEnable w) s) fun t => t.get (F.pgEnable pgDtu) = bits w.value 0 0 ∧ t.dtu = Dtu.init ∧ Touches [.regs, .dtu, .q] s t := by
  obtain ⟨hm, hr⟩ := harr
  have hr' : s.toModule.reaches (pgDtu * 0x1000 + 0x18) = true := hr
  have hframe := s.toModule.pageCtl_frame (page := pgDtu) w (by decide) (by decide) hr'
  have hrun : s.toModule.dtuEnable w =
      (((s.toModule.pageCtl (pgDtu * 0x1000 + 0x18) w).put (F.pgEnable pgDtu) (bits w.value 0 0)).dtuDrop).staleFetches := by
    simp [Module.dtuEnable, hr', touches_of_ne_hi hh, hne]
  rw [exec_dtuEnable, execDtuEnable]
  refine State.answers_runAs s _ _ _ hm ?_
  simp only [State.upd, hrun]
  generalize s.toModule.pageCtl (pgDtu * 0x1000 + 0x18) w = m1 at hframe
  refine ⟨?_, rfl, Module.Frame.touches_left ?_⟩
  · show (m1.put (F.pgEnable pgDtu) (bits w.value 0 0)).get _ = _
    rw [Module.get_put_same _ _ _ (by decide) (by decide)]
    exact Nat.mod_eq_of_lt (bits_lt _ _ _)
  · exact ((hframe.mono (by simp)).trans ((Module.put_frame _ _ _).mono (by simp))).trans
      (((Module.frame_dtu _ _).mono (by simp)).trans ((Module.frame_q _ _).mono (by simp)))

/-- Settles O18: the enable of the queue block with good tables and with bad sizes, its disable, and the enable of the DTU. -/
theorem queueBlockStartsAndStops : Obligations.QueueBlockStartsAndStops :=
  ⟨queueBlockEnable_starts, queueBlockEnable_refused, queueBlockDisable_stops, dtuEnable_drops⟩

end Sys2Proof.Machine

/-! PROOFS. Pushes, polls and the consumer shadow (R110–R121): O20. -/

namespace Sys2Proof.Machine

set_option Elab.async false

/-! ## The consumer shadow -/

theorem Module.Hits.at {m : Module} {r : XReq} {n pa : Nat} (h : m.Hits r n pa) (e : Env) : (m.at e).Hits r n pa :=
  ⟨h.on, h.va, h.pos, h.page, h.slot⟩

section
variable (m : Module) (e : Env) (n : Nat)

/-- A write of ci whose address hits a TLB goes out; the count of WQEs without one begins again (R121). -/
theorem Module.ciShadow_hit {c : WqCtx} {pa : Nat} (hc : m.wq n = some c) (hsince : (m.wqRt n).ciSince ≠ 0) (h : m.Hits (ciReq n c) 4 pa) :
    ∃ slot, m.ciShadow e n =
      (m.setWqRt n { m.wqRt n with ciSince := 0 }).wrote c.link (ciReq n c) slot pa (leBytes 4 c.ci) := by
  have hreset : Module.Keeps ErrKept true m (m.setWqRt n { m.wqRt n with ciSince := 0 }) :=
    .of_frame (m.setWqRt_frame n _) (by decide) (by decide) (by decide)
  have hhits : (m.setWqRt n { m.wqRt n with ciSince := 0 }).Hits (ciReq n c) (leBytes 4 c.ci).length pa := by
    rw [leBytes_length]
    exact h.of_keeps hreset rfl
  obtain ⟨slot, hw⟩ := hhits.writeVirt e c.link
  exact ⟨slot, by simp only [Module.ciShadow, hc, hsince, if_false, m.writeCi_eq e n c, hw]⟩

theorem Module.ciShadow_frame : Module.Frame haltParts m (m.ciShadow e n) := by
  unfold Module.ciShadow
  split
  · exact .refl _ m
  next c _ =>
    have hci : Module.Frame haltParts m (m.writeCi e n c).2 := (m.writeCi_frame e n c).mono (by simp [virtParts, haltParts])
    split
    · exact .refl _ m
    split
    next heq => rwa [heq] at hci
    next heq =>
      rw [heq] at hci
      exact hci.trans (Module.wqError_frame _ e n _ _)

theorem Module.ciDue_frame (k : Nat) : Module.Frame haltParts m (m.ciDue e n k) := by
  unfold Module.ciDue
  split
  · exact m.ciShadow_frame e n
  · exact .refl _ m

theorem Module.ciDue_not_due {k : Nat} (h : (m.wqRt n).ciSince + k ≤ 16) : m.ciDue e n k = m := if_neg (Nat.not_lt.mpr h)

theorem Module.ciDue_due {k : Nat} (h : 16 < (m.wqRt n).ciSince + k) : m.ciDue e n k = m.ciShadow e n := if_pos h

end

theorem exec_ciShadowWrite (n : BitVec 16) (e : Env) (s : State) : exec (.ciShadowWrite n e) s = execCiShadowWrite n e s := rfl

theorem wrote_virt_busParts {m a : Module} {s : State} (h : Module.Frame [.q, .now] s.toModule m) (hv : Module.Frame virtParts m a) :
    Touches (.q :: busParts) s (s.upd fun _ => a) :=
  Module.Frame.touches_left ((h.mono (by simp [busParts])).trans (hv.mono (by simp [virtParts, busParts])))

/-- ci is written to the translated address of the consumer shadow (R121). -/
theorem ciShadowWrite_writes (n : BitVec 16) (e : Env) (s : State) (c : WqCtx) (pa : Nat) (hc : s.wq n.toNat = some c)
    (hsince : (s.wqRt n.toNat).ciSince ≠ 0) (htr : s.Translates (ciReq n.toNat c) 4 pa) :
    Answers (exec (.ciShadowWrite n e) s) fun t => Sends s t (.hostWrite c.link pa (leBytes 4 c.ci)) ∧
      (t.wqRt n.toNat).ciSince = 0 ∧ t.wq n.toNat = some c ∧ Touches (.q :: busParts) s t := by
  have hc' : (s.toModule.at e).wq n.toNat = some c := hc
  have hhits : (s.toModule.at e).Hits (ciReq n.toNat c) 4 pa := htr.hits.at e
  obtain ⟨slot, hwrite⟩ := Module.ciShadow_hit (s.toModule.at e) e n.toNat hc' hsince hhits
  rw [exec_ciShadowWrite, execCiShadowWrite]
  refine State.answers_run s _ _ ?_
  simp only [State.upd, Module.needWq_cached _ e hc', hwrite]
  generalize hm : (s.toModule.at e).setWqRt n.toNat { (s.toModule.at e).wqRt n.toNat with ciSince := 0 } = m
  have hframe : Module.Frame [.q, .now] s.toModule m := by
    rw [← hm]
    exact ((s.toModule.at_frame e).mono (by simp)).trans ((Module.setWqRt_frame _ _ _).mono (by simp))
  have hvirt := m.wrote_frame c.link (ciReq n.toNat c) slot pa (leBytes 4 c.ci)
  have hq : (m.wrote c.link (ciReq n.toNat c) slot pa (leBytes 4 c.ci)).q = m.q := hvirt .q (by decide)
  obtain ⟨x, y, hout, hevents⟩ := (Module.Keeps.refl (K := ErrKept) (loud := false) m).wrote_out c.link (ciReq n.toNat c) slot pa (leBytes 4 c.ci)
  have hm_out : m.out = s.out := hframe .out (by decide)
  refine ⟨⟨x, y, by rw [← hm_out]; exact hout, hevents⟩, ?_, ?_, wrote_virt_busParts hframe hvirt⟩
  · show (Module.wqRt _ _).ciSince = 0
    rw [Module.wqRt_congr hq, ← hm, Module.wqRt_setWqRt_same]
  · show Module.wq _ _ = _
    rw [Module.wq_congr hq, ← hm]
    exact hc

/-! ## Polls -/

theorem exec_shadowPoll (n : BitVec 16) (e : Env) (s : State) :
    exec (.shadowPoll n e) s = s.run fun m => (m.at e).shadowPoll e n.toNat := rfl
theorem exec_hostReadReturn_pi (n : Nat) (e : Env) (s : State) :
    exec (.hostReadReturn (.pi n) e) s = s.run fun m => (m.at e).shadowPoll e n := rfl

/-- The access of a poll (R114). -/
def piReq (n : Nat) (c : WqCtx) : XReq :=
  { asid := c.asid, va := c.piShadow, acc := .shadowRead, user := c.user, allowSe := true, engine := 0, source := 0, object := n }

theorem Module.get_countUp_apart (m : Module) (p n k : Nat) (f : Fld) (h : f.reg ≠ p * 0x1000 + 0x800 + 8 * n) (he : ¬ EventRegs pgSample f.reg) :
    (m.countUp p n k).get f = m.get f := by
  simp only [Module.get, m.countUp_word p n k f.reg h he]

/-- A read through the DTU counts nothing in the queue block. -/
theorem Module.get_hasRead_polls (m : Module) (link : Nat) (r : XReq) (slot : TlbSlot) (n : Nat) :
    (m.hasRead link r slot n).get (F.ctrValue pgQctl 5) = m.get (F.ctrValue pgQctl 5) := by
  have hevent := qctlCtr_not_event (by decide : 5 < 256) pgSample
  have hhost : ∀ k < 4, (F.ctrValue pgQctl 5).reg ≠ pgHost link * 0x1000 + 0x800 + 8 * k := by
    intro k hk
    simp only [F.ctrValue, pgQctl]
    omega
  have hcached : ∀ (a : Module), (a.microFill r.engine slot).get (F.ctrValue pgQctl 5) = a.get (F.ctrValue pgQctl 5) := fun a => by
    simp only [Module.get, Module.word, Module.microFill_regs]
  rw [Module.hasRead, Module.get_countUp_apart _ _ _ _ _ (hhost 0 (by decide)) hevent, Module.get_readDone, Module.count,
    Module.get_countUp_apart _ _ _ _ _ (hhost 2 (by decide)) hevent, hcached, Module.count,
    Module.get_countUp_apart _ _ _ _ _ (by decide) hevent]

/-- What a poll does with what it has read (R114, R120). -/
def pollEnd (e : Env) (n : Nat) : Except (XFault × Nat) (List Byte) × Module → Module
  | (.error _, a) => a.wqError e n ecFetchFault none
  | (.ok bs, a) => a.wqProduce e n (leNat bs)

theorem Module.shadowPoll_eq (m : Module) (e : Env) (n : Nat) {c : WqCtx} (hc : m.wq n = some c) (hpoll : c.poll = true)
    (hactive : c.state = .active) : m.shadowPoll e n = pollEnd e n ((m.count pgQctl 5).readVirt e c.link (piReq n c) 4) := by
  unfold Module.shadowPoll
  simp only [m.needWq_cached e hc, hc, hpoll, hactive, Bool.not_true, ne_eq, not_true, decide_false, Bool.or_false, Bool.false_eq_true, if_false]
  rfl

/-- A poll of a queue whose producer shadow is read and lies ahead, within the ring (R114, R104). -/
theorem Module.shadowPoll_takes (m : Module) (e : Env) (n : Nat) {c : WqCtx} {bs : List Byte} {pa : Nat} (hc : m.wq n = some c)
    (hpoll : c.poll = true) (hactive : c.state = .active) (hlen : bs.length = 4) (hhits : m.Hits (piReq n c) 4 pa)
    (hread : m.readBytes e c.link pa 4 = some bs) (hahead : seqSub 32 c.piKnown c.ci < seqSub 32 (leNat bs) c.ci)
    (hring : seqSub 32 (leNat bs) c.ci ≤ 2 ^ c.size) :
    ∃ slot, m.shadowPoll e n = ((m.count pgQctl 5).hasRead c.link (piReq n c) slot 4).setWq n { c with piKnown := leNat bs } := by
  have hcount : Module.Keeps ErrKept true m (m.count pgQctl 5) := (Module.Keeps.refl m).count _ _ (by decide)
  have hread' : (m.count pgQctl 5).readBytes e c.link pa 4 = some bs := (Module.readBytes_congr (by simp) e c.link pa 4).trans hread
  obtain ⟨slot, hvirt⟩ := (hhits.of_keeps hcount (by simp)).readVirt e c.link hread'
  have hwq : ((m.count pgQctl 5).hasRead c.link (piReq n c) slot 4).wq n = some c := by
    rw [Module.wq_congr (Module.hasRead_frame _ _ _ _ _ .q (by decide)), Module.wq_congr (Module.count_q _ _ _)]
    exact hc
  have hlt : leNat bs % 2 ^ 32 = leNat bs := Nat.mod_eq_of_lt (by simpa [hlen] using leNat_lt bs)
  have htake := Module.wqProduce_ahead _ e hwq hahead hring
  rw [hlt] at htake
  exact ⟨slot, by rw [m.shadowPoll_eq e n hc hpoll hactive, hvirt, pollEnd, htake]⟩

theorem shadowPoll_taken (n : BitVec 16) (e : Env) (s : State) (c : WqCtx) (bs : List Byte) (hc : s.wq n.toNat = some c) (hpoll : c.poll = true)
    (hactive : c.state = .active) (hlen : bs.length = 4) (hread : s.ReadsVirt e c.link (piReq n.toNat c) bs)
    (hahead : seqSub 32 c.piKnown c.ci < seqSub 32 (leNat bs) c.ci) (hring : seqSub 32 (leNat bs) c.ci ≤ 2 ^ c.size) :
    Answers (s.run fun m => (m.at e).shadowPoll e n.toNat) fun t => t.wq n.toNat = some { c with piKnown := leNat bs } ∧
      Counts s t pgQctl 5 1 ∧ SendsEventsOnly s t ∧ Touches (.q :: busParts) s t := by
  obtain ⟨pa, htr, hbytes⟩ := hread
  rw [hlen] at htr hbytes
  have hhits : (s.toModule.at e).Hits (piReq n.toNat c) 4 pa := htr.hits.at e
  have hbytes' : (s.toModule.at e).readBytes e c.link pa 4 = some bs := (Module.readBytes_congr (m := s.toModule) (a := s.toModule.at e) rfl e c.link pa 4).trans hbytes
  obtain ⟨slot, hpolled⟩ := (s.toModule.at e).shadowPoll_takes e n.toNat hc hpoll hactive hlen hhits hbytes' hahead hring
  have hkeeps := ((Module.Keeps.refl (K := ErrKept) (loud := false) (s.toModule.at e)).count pgQctl 5 (by decide)).trans
    (Module.keeps_hasRead ((s.toModule.at e).count pgQctl 5) c.link (piReq n.toNat c) slot 4)
  have hcounts := (((s.toModule.at e).count pgQctl 5).get_hasRead_polls c.link (piReq n.toNat c) slot 4).trans
    ((s.toModule.at e).qctl_countUp 5 1 (by decide))
  have hframe := (s.toModule.at_frame e).mono (by simp [busParts] : _ ⊆ busParts) |>.trans
    (((s.toModule.at e).count_frame pgQctl 5).mono (by simp [busParts])) |>.trans
    ((((s.toModule.at e).count pgQctl 5).hasRead_frame c.link (piReq n.toNat c) slot 4).mono (by simp [busParts, virtParts]))
  refine State.answers_run s _ _ ?_
  simp only [State.upd, hpolled]
  generalize ((s.toModule.at e).count pgQctl 5).hasRead c.link (piReq n.toNat c) slot 4 = m at hkeeps hcounts hframe
  obtain ⟨x, hx, hevents⟩ := hkeeps.out
  exact ⟨m.wq_setWq_same _ _, hcounts, ⟨x, hx, hevents rfl⟩,
    Module.Frame.touches_left ((hframe.mono (by simp)).trans ((m.setWq_frame _ _).mono (by simp)))⟩

/-! ## Pushes -/

section
variable (m : Module) (e : Env) (n : Nat)

/-- Nothing is assembled, and pi_known is `p`. -/
def Module.PushedTo (m : Module) (n p : Nat) : Prop := (m.wqRt n).push = [] ∧ ∃ c, m.wq n = some c ∧ c.piKnown = p

theorem Module.PushedTo.wqError {p : Nat} (h : m.PushedTo n p) (cause : Nat) (idx : Option Nat) : (m.wqError e n cause idx).PushedTo n p := by
  obtain ⟨hpush, c, hc, hp⟩ := h
  unfold Module.wqError
  rcases m.wqErrorAs_cases n e cause idx (decide (cause ≠ ecLinkReset)) with heq | ⟨c', hc', heq⟩
  · rw [heq]
    exact ⟨hpush, c, hc, hp⟩
  · obtain rfl := Option.some.inj (hc.symm.trans hc')
    have hhalted := ((m.halted_wqHalts n c cause (idx.getD c.ci)).opsEnd (Module.opsEnd_flushUnstarted _ n cause)).errorTail e
      (decide (cause ≠ ecLinkReset)) c cause (idx.getD c.ci)
    obtain ⟨j, hj⟩ := hhalted.wq
    rw [heq]
    exact ⟨hhalted.push, _, hj, hp⟩

theorem Module.PushedTo.ciShadow {p : Nat} (h : m.PushedTo n p) : (m.ciShadow e n).PushedTo n p := by
  have hci : ∀ c, (m.writeCi e n c).2.PushedTo n p := fun c => by
    obtain ⟨hpush, hp⟩ := h
    refine ⟨?_, ?_⟩
    · rw [m.wqRt_writeCi e n c]
      exact hpush
    · rw [m.wq_writeCi e n c]
      exact hp
  unfold Module.ciShadow
  split
  · exact h
  next c _ =>
    have hwrite := hci c
    split
    · exact h
    split
    next heq => rwa [heq] at hwrite
    next heq =>
      rw [heq] at hwrite
      exact Module.PushedTo.wqError _ e n hwrite _ _

theorem Module.PushedTo.ciDue {p : Nat} (h : m.PushedTo n p) (k : Nat) : (m.ciDue e n k).PushedTo n p := by
  unfold Module.ciDue
  split
  · exact Module.PushedTo.ciShadow m e n h
  · exact h

/-- A pushed WQE at the head comes on chip, before the consumer shadow is looked at (R112). -/
def Module.tookPushed (m : Module) (n : Nat) (c : WqCtx) (w : List Word) : Module :=
  ((((m.setWqRt n { m.wqRt n with pushed := KMap.erase (m.wqRt n).pushed c.ci, ciSince := (m.wqRt n).ciSince + 1 }).setWq n
    { c with ci := (c.ci + 1) % 2 ^ 32, outstanding := c.outstanding + 1 }).poolTake 1).takeWqe n c.ci w)

theorem Module.takePushed_one : m.takePushed e n 1 = m ∨
    ∃ c w, m.wq n = some c ∧ m.takePushed e n 1 = (m.tookPushed n c w).ciDue e n 1 := by
  unfold Module.takePushed
  split
  · exact .inl rfl
  next c hc =>
    dsimp only
    split
    · exact .inl rfl
    next w _ =>
      split
      · exact .inl rfl
      · exact .inr ⟨c, w, hc, rfl⟩

theorem Module.takeWqe_frame (idx : Nat) (w : List Word) : Module.Frame [.regs, .msix, .out, .smp, .draws, .q] m (m.takeWqe n idx w) :=
  ((m.frame_q _).mono (by simp)).trans ((Module.sampleDraw_frame _ _ _ _ _).mono (by simp))

theorem Module.tookPushed_frame (c : WqCtx) (w : List Word) : Module.Frame [.regs, .msix, .out, .smp, .draws, .q] m (m.tookPushed n c w) := by
  refine Module.Frame.trans (Module.Frame.mono ?_ (by simp : [Part.q] ⊆ _)) (Module.takeWqe_frame _ _ _ _)
  exact ((m.setWqRt_frame _ _).trans (Module.setWq_frame _ _ _)).trans (Module.poolTake_frame _ _)

theorem Module.wqRt_tookPushed (c : WqCtx) (w : List Word) : (m.tookPushed n c w).wqRt n =
    { m.wqRt n with pushed := KMap.erase (m.wqRt n).pushed c.ci, ciSince := (m.wqRt n).ciSince + 1 } := by
  simp [Module.tookPushed, Module.wqRt_takeWqe, Module.wqRt_poolTake]

theorem Module.wq_takeWqe (idx : Nat) (w : List Word) (k : Nat) : (m.takeWqe n idx w).wq k = m.wq k := by
  rw [Module.wq, m.takeWqe_q n]
  rfl

theorem Module.wq_tookPushed (c : WqCtx) (w : List Word) :
    (m.tookPushed n c w).wq n = some { c with ci := (c.ci + 1) % 2 ^ 32, outstanding := c.outstanding + 1 } := by
  simp [Module.tookPushed, Module.wq_takeWqe, Module.wq_poolTake]

theorem Module.PushedTo.takePushed {p : Nat} (h : m.PushedTo n p) : (m.takePushed e n 1).PushedTo n p := by
  rcases m.takePushed_one e n with heq | ⟨c, w, hc, heq⟩
  · rwa [heq]
  · obtain ⟨hpush, c', hc', hp⟩ := h
    obtain rfl := Option.some.inj (hc.symm.trans hc')
    rw [heq]
    refine Module.PushedTo.ciDue _ e n ⟨?_, _, m.wq_tookPushed n c w, hp⟩ 1
    rw [m.wqRt_tookPushed n c w]
    exact hpush

theorem Module.takePushed_one_frame : Module.Frame (.draws :: haltParts) m (m.takePushed e n 1) := by
  rcases m.takePushed_one e n with heq | ⟨c, w, -, heq⟩
  · rw [heq]
    exact .refl _ m
  · rw [heq]
    exact ((m.tookPushed_frame n c w).mono (by simp [haltParts])).trans ((Module.ciDue_frame _ e n 1).mono (by simp))

/-- With fewer than 15 WQEs consumed since the last write of ci, a push writes none. -/
theorem Module.takePushed_one_quiet (h : (m.wqRt n).ciSince < 15) :
    Module.Frame [.regs, .msix, .out, .smp, .draws, .q] m (m.takePushed e n 1) := by
  rcases m.takePushed_one e n with heq | ⟨c, w, -, heq⟩
  · rw [heq]
    exact .refl _ m
  · rw [heq, Module.ciDue_not_due _ e n (by rw [m.wqRt_tookPushed n c w]; dsimp only; omega)]
    exact m.tookPushed_frame n c w

end

/-- One more slot is ahead by one more. -/
theorem seqSub_succ {b a : Nat} (h : seqSub 32 b a + 1 < 2 ^ 32) : seqSub 32 ((b + 1) % 2 ^ 32) a = seqSub 32 b a + 1 := by
  simp only [seqSub] at h ⊢
  omega

section
variable (m : Module) (e : Env) (n : Nat)

/-- What a complete push leaves: one more slot known, the WQE kept for its slot or dropped as a mismatch (R112). -/
theorem Module.pushDone_cases {c : WqCtx} (hc : m.wq n = some c) (hroom : seqSub 32 c.piKnown c.ci < 2 ^ c.size) (hsize : c.size ≤ 20) (bytes : List Byte) :
    let a := m.setWq n { c with piKnown := (c.piKnown + 1) % 2 ^ 32 }
    m.pushDone e n bytes = (a.count pgQctl 4).raise pgQctl Ev.pushMismatch ∨
    ∃ l, m.pushDone e n bytes = (a.setWqRt n { m.wqRt n with pushed := l }).takePushed e n 1 := by
  have hpow : 2 ^ c.size ≤ 2 ^ 20 := Nat.pow_le_pow_right (by decide) hsize
  have hnext := seqSub_succ (b := c.piKnown) (a := c.ci) (by omega)
  have hproduce : m.wqProduce e n ((c.piKnown + 1) % 2 ^ 32) = m.setWq n { c with piKnown := (c.piKnown + 1) % 2 ^ 32 } := by
    rw [Module.wqProduce_ahead m e hc (by omega) (by omega), Nat.mod_mod]
  simp only [Module.pushDone, hc, hproduce, Module.wq_setWq_same]
  split
  · exact .inl rfl
  · exact .inr ⟨_, rfl⟩

/-- A push that repeats no byte, on a queue that takes it (R110). -/
theorem pushWrite_eq (n : BitVec 16) (link : Fin 4) (off : BitVec 6) (data : List Byte) (s : State) {c : WqCtx} (hc : s.wq n.toNat = some c)
    (ht : s.wqTakes n.toNat link = true)
    (hnew : (pushBytes off.toNat data).any (fun p => (KMap.get (s.wqRt n.toNat).push p.1).isSome) = false) :
    let asm := (pushBytes off.toNat data).foldl (fun l p => KMap.put l p.1 p.2) (s.wqRt n.toNat).push
    exec (.pushWrite n link off data e) s = .next (s.upd fun _ =>
      if asm.length = 64 then
        ((s.toModule.at e).setWqRt n.toNat { s.wqRt n.toNat with push := [] }).pushDone e n.toNat (asm.map (·.2))
      else (s.toModule.at e).setWqRt n.toNat { s.wqRt n.toNat with push := asm }) := by
  have hc' : (s.toModule.at e).wq n.toNat = some c := hc
  have ht' : (s.toModule.at e).wqTakes n.toNat link = true := ht
  have hrt : (s.toModule.at e).wqRt n.toNat = s.wqRt n.toNat := rfl
  rw [exec_pushWrite, execPushWrite]
  refine s.run_of _ ?_
  simp only [Module.needWq_cached _ e hc', ht', hrt, hnew]
  rfl

end

theorem pushWrite_assembles (n : BitVec 16) (link : Fin 4) (off : BitVec 6) (data : List Byte) (e : Env) (s : State) (c : WqCtx)
    (hc : s.wq n.toNat = some c) (ht : s.wqTakes n.toNat link = true)
    (hnew : (pushBytes off.toNat data).any (fun p => (KMap.get (s.wqRt n.toNat).push p.1).isSome) = false) :
    let asm := (pushBytes off.toNat data).foldl (fun l p => KMap.put l p.1 p.2) (s.wqRt n.toNat).push
    (asm.length ≠ 64 → Answers (exec (.pushWrite n link off data e) s) fun t =>
      t.wqRt n.toNat = { s.wqRt n.toNat with push := asm } ∧ t.wq n.toNat = some c ∧ Touches [.q, .now] s t) ∧
    (asm.length = 64 → seqSub 32 c.piKnown c.ci < 2 ^ c.size → c.size ≤ 20 →
      Answers (exec (.pushWrite n link off data e) s) fun t => (t.wqRt n.toNat).push = [] ∧
        (∃ c', t.wq n.toNat = some c' ∧ c'.piKnown = (c.piKnown + 1) % 2 ^ 32) ∧ Touches (.draws :: errParts) s t ∧
        ((s.wqRt n.toNat).ciSince < 15 → Touches [.regs, .msix, .out, .q, .smp, .draws, .now] s t)) := by
  have heq := pushWrite_eq e n link off data s hc ht hnew
  dsimp only at heq ⊢
  generalize (pushBytes off.toNat data).foldl (fun l p => KMap.put l p.1 p.2) (s.wqRt n.toNat).push = asm at heq
  have hat : Module.Frame [.now] s.toModule (s.toModule.at e) := s.toModule.at_frame e
  refine ⟨fun h64 => ?_, fun h64 hroom hsize => ?_⟩
  · rw [if_neg h64] at heq
    exact ⟨_, heq, Module.wqRt_setWqRt_same _ _ _, hc,
      Module.Frame.touches_left ((hat.mono (by simp)).trans ((Module.setWqRt_frame _ _ _).mono (by simp)))⟩
  rw [if_pos h64] at heq
  refine ⟨_, heq, ?_⟩
  generalize hm : (s.toModule.at e).setWqRt n.toNat { s.wqRt n.toNat with push := [] } = m
  have hmc : m.wq n.toNat = some c := by rw [← hm]; exact hc
  have hmrt : m.wqRt n.toNat = { s.wqRt n.toNat with push := [] } := by rw [← hm, Module.wqRt_setWqRt_same]
  have hframe : Module.Frame [.q, .now] s.toModule m := by
    rw [← hm]
    exact (hat.mono (by simp)).trans ((Module.setWqRt_frame _ _ _).mono (by simp))
  have hknown : Module.Frame [.q, .now] s.toModule (m.setWq n.toNat { c with piKnown := (c.piKnown + 1) % 2 ^ 32 }) :=
    hframe.trans ((Module.setWq_frame _ _ _).mono (by simp))
  rcases m.pushDone_cases e n.toNat hmc hroom hsize (asm.map (·.2)) with hdone | ⟨l, hdone⟩
  · rw [hdone]
    generalize ha : m.setWq n.toNat { c with piKnown := (c.piKnown + 1) % 2 ^ 32 } = a at hknown
    have hcounted : Module.Frame [.regs, .msix, .out] a ((a.count pgQctl 4).raise pgQctl Ev.pushMismatch) :=
      (a.count_frame _ _).trans (Module.raise_frame _ _ _)
    have hq : ((a.count pgQctl 4).raise pgQctl Ev.pushMismatch).q = a.q := hcounted .q (by decide)
    have hac : a.wq n.toNat = some { c with piKnown := (c.piKnown + 1) % 2 ^ 32 } := by rw [← ha, Module.wq_setWq_same]
    refine ⟨?_, ⟨_, (Module.wq_congr hq _).trans hac, rfl⟩, Module.Frame.touches_left ((hknown.mono ?_).trans (hcounted.mono ?_)),
      fun _ => Module.Frame.touches_left ((hknown.mono ?_).trans (hcounted.mono ?_))⟩
    · show (((a.count pgQctl 4).raise pgQctl Ev.pushMismatch).wqRt n.toNat).push = []
      rw [Module.wqRt_congr hq, ← ha, Module.wqRt_setWq, hmrt]
    all_goals simp [errParts]
  · rw [hdone]
    generalize ha : (m.setWq n.toNat { c with piKnown := (c.piKnown + 1) % 2 ^ 32 }).setWqRt n.toNat { m.wqRt n.toNat with pushed := l } = a
    have hpushed : a.PushedTo n.toNat ((c.piKnown + 1) % 2 ^ 32) := by
      rw [← ha]
      exact ⟨by simp [hmrt], _, Module.wq_setWq_same _ _ _, rfl⟩
    have haframe : Module.Frame [.q, .now] s.toModule a := by
      rw [← ha]
      exact hknown.trans ((Module.setWqRt_frame _ _ _).mono (by simp))
    obtain ⟨hpush, hp⟩ := Module.PushedTo.takePushed a e n.toNat hpushed
    refine ⟨hpush, hp, Module.Frame.touches_left ((haframe.mono ?_).trans ((a.takePushed_one_frame e n.toNat).mono ?_)), fun hlow => ?_⟩
    · simp [errParts]
    · simp [errParts, haltParts]
    · have hsince : (a.wqRt n.toNat).ciSince < 15 := by
        rw [← ha, Module.wqRt_setWqRt_same, hmrt]
        exact hlow
      exact Module.Frame.touches_left ((haframe.mono (by simp)).trans ((a.takePushed_one_quiet e n.toNat hsince).mono (by simp)))

/-- Settles O20: pushes that assemble and complete a WQE, polls, and the write of the consumer shadow. -/
theorem pushesPollsAndShadows : Obligations.PushesPollsAndShadows :=
  ⟨pushWrite_assembles,
    fun n e s c bs hc hpoll hactive hlen hread hahead hring =>
      ⟨exec_shadowPoll n e s ▸ shadowPoll_taken n e s c bs hc hpoll hactive hlen hread hahead hring,
        exec_hostReadReturn_pi n.toNat e s ▸ shadowPoll_taken n e s c bs hc hpoll hactive hlen hread hahead hring⟩,
    ciShadowWrite_writes⟩

end Sys2Proof.Machine

/-! PROOFS. WQEs come on chip (R117–R121), and the walks of their reads (R175): O21. -/

namespace Sys2Proof.Machine

set_option Elab.async false

/-! ## WQE_FETCH -/

section
variable (m : Module) (e : Env) (n : Nat)

theorem Module.takePushed_nothing {c : WqCtx} (hc : m.wq n = some c) (h : KMap.get (m.wqRt n).pushed c.ci = none) (fuel : Nat) :
    m.takePushed e n fuel = m := by
  cases fuel with
  | zero => rfl
  | succ fuel =>
    unfold Module.takePushed
    simp only [hc, h]

end

theorem wqeFetch_starts (n : BitVec 16) (e : Env) (s : State) (c : WqCtx) (slot : TlbSlot) (pa : Nat) (se : Bool) (hc : s.wq n.toNat = some c)
    (hnone : KMap.get (s.wqRt n.toNat).pushed c.ci = none) (hmay : s.mayFetch n.toNat = true) (hfetch : (s.wqRt n.toNat).fetch = none)
    (h0 : s.fetchCount n.toNat c ≠ 0) (hon : s.dtuOn = true) (hslot : s.tlbHit (fetchReq n.toNat c c.ci) = some slot)
    (hdone : slotResult (fetchReq n.toNat c c.ci) slot = .done pa se) :
    Answers (exec (.wqeFetch n e) s) fun t =>
      (t.wqRt n.toNat).fetch =
        some { idx := c.ci, n := if se then 1 else s.fetchCount n.toNat c, addr := pa, walk := none, stale := false } ∧
      t.q.pool = s.q.pool + (if se then 1 else s.fetchCount n.toNat c) ∧ t.wq n.toNat = some c ∧ SendsEventsOnly s t ∧
      Touches [.regs, .msix, .out, .q, .dtu, .now] s t := by
  have hc' : (s.toModule.at e).wq n.toNat = some c := hc
  have hgo := Module.fetchNow_go (s.toModule.at e) e n.toNat hc' hmay hfetch h0
  rw [Module.lookup_hit (m := s.toModule.at e) hon hslot, hdone] at hgo
  have hkeeps := (Module.Keeps.refl (K := ErrKept) (loud := false) (s.toModule.at e)).count pgDtu 0 (by decide)
  have hframe := (((s.toModule.at_frame e).mono (by simp : _ ⊆ [.regs, .msix, .out, .dtu, .now])).trans
    (((s.toModule.at e).count_frame pgDtu 0).mono (by simp))).trans
    ((((s.toModule.at e).count pgDtu 0).microFill_frame (fetchReq n.toNat c c.ci).engine slot).mono (by simp))
  obtain ⟨x, hx, hevents⟩ := (hkeeps.same (b := ((s.toModule.at e).count pgDtu 0).microFill (fetchReq n.toNat c c.ci).engine slot)
    (by simp) (by simp) (by simp)).out
  rw [exec_wqeFetch, execWqeFetch_eq]
  refine State.answers_run s _ _ ?_
  simp only [State.upd, Module.needWq_cached _ e hc', Module.takePushed_nothing _ e n.toNat hc' hnone, hgo, fetchTo]
  generalize ((s.toModule.at e).count pgDtu 0).microFill (fetchReq n.toNat c c.ci).engine slot = m at hx hframe
  have hq : m.q = s.q := hframe .q (by decide)
  have hset : ∀ f : Fetch, Module.Frame [.q] m (m.fetching n.toNat (s.wqRt n.toNat) f) := fun f =>
    (m.setWqRt_frame _ _).trans (Module.poolTake_frame _ _)
  refine ⟨?_, ?_, (Module.wq_congr hq _).trans hc, ⟨x, hx, hevents rfl⟩,
    Module.Frame.touches_left ((hframe.mono (by simp)).trans ((hset _).mono (by simp)))⟩
  · show ((Module.fetching _ _ _ _).wqRt _).fetch = _
    rw [Module.fetching, Module.wqRt_poolTake, Module.wqRt_setWqRt_same]
    rfl
  · show m.q.pool + _ = _
    rw [hq]
    rfl

/-! ## WQE_FETCH_RETURN -/

/-- The WQEs of a read come on chip, in order. -/
def Module.takeAll (m : Module) (n idx : Nat) (ws : List Word) (k : Nat) : Module :=
  (List.range k).foldl (fun m i => m.takeWqe n ((idx + i) % 2 ^ 32) ((ws.drop (8 * i)).take 8)) m

/-- A read has returned: its WQEs are counted and consumed, and come on chip next (R120). -/
def Module.consumed (m : Module) (n : Nat) (c : WqCtx) (f : Fetch) : Module :=
  ((((m.count (pgHost c.link) 2).countUp (pgHost c.link) 0 (64 * f.n)).setWqRt n
    { m.wqRt n with fetch := none, ciSince := (m.wqRt n).ciSince + f.n }).setWq n
    { c with ci := (f.idx + f.n) % 2 ^ 32, outstanding := c.outstanding + f.n }).countUp pgQctl 0 f.n

/-- `k` WQEs came on chip as operations, and nothing else of the queue block changed. -/
structure Module.Came (m a : Module) (n idx : Nat) (ws : List Word) (k : Nat) : Prop where
  nextOp : a.q.nextOp = m.q.nextOp + k
  op : ∀ j < k, ∃ o, a.op (m.q.nextOp + j) = some o ∧ o.wq = n ∧ o.idx = (idx + j) % 2 ^ 32 ∧ o.wqe = (ws.drop (8 * j)).take 8 ∧ o.started = false
  wq : ∀ i, a.wq i = m.wq i
  wqRt : ∀ i, a.wqRt i = m.wqRt i
  frame : Module.Frame [.regs, .msix, .out, .smp, .draws, .q] m a

section
variable (m : Module) (e : Env) (n : Nat) (c : WqCtx)

theorem Module.takeAll_succ (idx : Nat) (ws : List Word) (k : Nat) :
    m.takeAll n idx ws (k + 1) = (m.takeAll n idx ws k).takeWqe n ((idx + k) % 2 ^ 32) ((ws.drop (8 * k)).take 8) := by
  simp [Module.takeAll, List.range_succ]

theorem Module.op_takeWqe_new (idx : Nat) (w : List Word) : (m.takeWqe n idx w).op m.q.nextOp =
    some { wq := n, idx := idx, wqe := w, started := false, trig := none, silent := false, finished := false, dead := false } := by
  rw [Module.op, m.takeWqe_q n]
  exact KMap.get_put_same _ _ _

theorem Module.op_takeWqe_old (idx : Nat) (w : List Word) {id : Nat} (h : id ≠ m.q.nextOp) : (m.takeWqe n idx w).op id = m.op id := by
  rw [Module.op, m.takeWqe_q n]
  exact KMap.get_put_other _ _ _ _ h

theorem Module.came_takeAll (idx : Nat) (ws : List Word) (k : Nat) : m.Came (m.takeAll n idx ws k) n idx ws k := by
  induction k with
  | zero => exact ⟨rfl, fun j hj => absurd hj (Nat.not_lt_zero j), fun _ => rfl, fun _ => rfl, .refl _ m⟩
  | succ k ih =>
    obtain ⟨hnext, hop, hwq, hrt, hframe⟩ := ih
    rw [m.takeAll_succ n idx ws k]
    refine ⟨?_, fun j hj => ?_, fun i => ?_, fun i => ?_, hframe.trans (Module.takeWqe_frame _ n _ _)⟩
    · rw [Module.takeWqe_q]
      exact congrArg (· + 1) hnext
    · rcases Nat.lt_succ_iff_lt_or_eq.mp hj with hlt | rfl
      · rw [Module.op_takeWqe_old _ n _ _ (by omega)]
        exact hop j hlt
      · rw [← hnext, Module.op_takeWqe_new]
        exact ⟨_, rfl, rfl, rfl, rfl, rfl⟩
    · rw [Module.wq_takeWqe, hwq]
    · rw [Module.wqRt_takeWqe, hrt]

theorem Module.keeps_sampleDraw (id : Nat) (op : Op) (opcode tag : Nat) : Module.Keeps ErrKept false m (m.sampleDraw id op opcode tag) := by
  have hdraw : Module.Keeps ErrKept false m m.draw.2 := (Module.Keeps.refl m).same rfl rfl rfl
  unfold Module.sampleDraw
  dsimp only
  generalize (if m.smp.wqSel = 0xFFFF then decide (op.wq ≠ 0) else decide (op.wq = m.smp.wqSel)) = named
  split
  · split
    · exact hdraw
    · split
      · exact (hdraw.trans (Module.keeps_setTagged _ _)).count _ _ (by decide)
      · exact hdraw.count _ _ (by decide)
  · exact .refl m

theorem Module.keeps_takeAll (idx : Nat) (ws : List Word) (k : Nat) : Module.Keeps ErrKept false m (m.takeAll n idx ws k) :=
  Module.Keeps.foldl _ (fun a _ => (Module.Keeps.of_frame (a.frame_q _) (by decide) (by decide) (by decide)).trans (Module.keeps_sampleDraw _ _ _ _ _)) _ m

variable {c}

theorem Module.consumed_frame (f : Fetch) : Module.Frame [.regs, .msix, .out, .q] m (m.consumed n c f) := by
  refine (((((m.count_frame _ _).mono ?_).trans ((Module.countUp_frame _ _ _ _).mono ?_)).trans ((Module.setWqRt_frame _ _ _).mono ?_)).trans
    ((Module.setWq_frame _ _ _).mono ?_)).trans ((Module.countUp_frame _ _ _ _).mono ?_)
  all_goals simp

theorem Module.keeps_consumed (f : Fetch) : Module.Keeps ErrKept false m (m.consumed n c f) :=
  (((((Module.Keeps.refl m).count _ _ (by decide)).countUp _ _ _ (by decide)).trans
    (.of_frame (Module.setWqRt_frame _ _ _) (by decide) (by decide) (by decide))).trans
    (.of_frame (Module.setWq_frame _ _ _) (by decide) (by decide) (by decide))).countUp _ _ _ (by decide)

theorem Module.consumed_wq (f : Fetch) :
    (m.consumed n c f).wq n = some { c with ci := (f.idx + f.n) % 2 ^ 32, outstanding := c.outstanding + f.n } := by
  rw [Module.consumed, Module.wq_congr (Module.countUp_q _ _ _ _), Module.wq_setWq_same]

theorem Module.consumed_wqRt (f : Fetch) :
    (m.consumed n c f).wqRt n = { m.wqRt n with fetch := none, ciSince := (m.wqRt n).ciSince + f.n } := by
  rw [Module.consumed, Module.wqRt_congr (Module.countUp_q _ _ _ _), Module.wqRt_setWq, Module.wqRt_setWqRt_same]

theorem Module.consumed_ops (f : Fetch) : (m.consumed n c f).q.nextOp = m.q.nextOp := by
  simp [Module.consumed, Module.setWq, Module.setWqRt, Module.count_q]

end

theorem exec_wqeFetchReturn (n : BitVec 16) (data : Option (List Word)) (e : Env) (s : State) :
    exec (.wqeFetchReturn n data e) s = execWqeFetchReturn n data e s := rfl

theorem wqeFetchReturn_eq (n : BitVec 16) (ws : List Word) (e : Env) (s : State) {c : WqCtx} {f : Fetch} (hc : s.wq n.toNat = some c)
    (hf : (s.wqRt n.toNat).fetch = some f) (hw : f.walk = none) :
    exec (.wqeFetchReturn n (some ws) e) s =
      .next (s.upd fun _ => (((s.toModule.at e).consumed n.toNat c f).takeAll n.toNat f.idx ws f.n).ciDue e n.toNat 8) := by
  have hc' : (s.toModule.at e).wq n.toNat = some c := hc
  have hf' : ((s.toModule.at e).wqRt n.toNat).fetch = some f := hf
  rw [exec_wqeFetchReturn, execWqeFetchReturn]
  refine s.run_of _ ?_
  simp only [hf', hc', hw, Option.isSome_none, Bool.false_eq_true, if_false]
  rfl

theorem wqeFetchReturn_error (n : BitVec 16) (e : Env) (s : State) {c : WqCtx} {f : Fetch} (hc : s.wq n.toNat = some c)
    (hf : (s.wqRt n.toNat).fetch = some f) (hw : f.walk = none) :
    exec (.wqeFetchReturn n none e) s = .next (s.upd fun _ =>
      (((s.toModule.at e).count (pgHost c.link) 2).logFault (fetchReq n.toNat c f.idx) ⟨ftDataAccess, 1⟩).wqError e n.toNat ecFetchFault none) := by
  have hc' : (s.toModule.at e).wq n.toNat = some c := hc
  have hf' : ((s.toModule.at e).wqRt n.toNat).fetch = some f := hf
  rw [exec_wqeFetchReturn, execWqeFetchReturn]
  refine s.run_of _ ?_
  simp only [hf', hc', hw, Option.isSome_none, Bool.false_eq_true, if_false]

/-- What the data of a read leave on chip (R120, R121). -/
theorem wqeFetchReturn_arrives (n : BitVec 16) (e : Env) (s : State) (c : WqCtx) (f : Fetch) (hc : s.wq n.toNat = some c)
    (hf : (s.wqRt n.toNat).fetch = some f) (hw : f.walk = none) (ws : List Word) :
    let arrive (t : State) : Prop :=
      t.wq n.toNat = some { c with ci := (f.idx + f.n) % 2 ^ 32, outstanding := c.outstanding + f.n } ∧
      (t.wqRt n.toNat).fetch = none ∧ t.q.nextOp = s.q.nextOp + f.n ∧
      ∀ k < f.n, ∃ o, t.op (s.q.nextOp + k) = some o ∧ o.wq = n.toNat ∧ o.idx = (f.idx + k) % 2 ^ 32 ∧
        o.wqe = (ws.drop (8 * k)).take 8 ∧ o.started = false
    ((s.wqRt n.toNat).ciSince + f.n ≤ 8 → Answers (exec (.wqeFetchReturn n (some ws) e) s) fun t => arrive t ∧
      (t.wqRt n.toNat).ciSince = (s.wqRt n.toNat).ciSince + f.n ∧ Touches [.regs, .msix, .out, .q, .smp, .draws, .now] s t) ∧
    (∀ pa, 8 < (s.wqRt n.toNat).ciSince + f.n → s.Translates (ciReq n.toNat c) 4 pa →
      Answers (exec (.wqeFetchReturn n (some ws) e) s) fun t => arrive t ∧ (t.wqRt n.toNat).ciSince = 0 ∧
        Sends s t (.hostWrite c.link pa (leBytes 4 ((f.idx + f.n) % 2 ^ 32))) ∧
        Touches [.regs, .msix, .out, .q, .smp, .draws, .dtu, .reads, .now] s t) := by
  have heq := wqeFetchReturn_eq n ws e s hc hf hw
  have hcame := ((s.toModule.at e).consumed n.toNat c f).came_takeAll n.toNat f.idx ws f.n
  have hkeeps := ((s.toModule.at e).keeps_consumed n.toNat (c := c) f).trans (Module.keeps_takeAll _ n.toNat f.idx ws f.n)
  obtain ⟨hnext, hop, hwq, hrt, hframe⟩ := hcame
  have hwq' := (hwq n.toNat).trans ((s.toModule.at e).consumed_wq n.toNat f)
  have hrt' := (hrt n.toNat).trans ((s.toModule.at e).consumed_wqRt n.toNat (c := c) f)
  have hops := (s.toModule.at e).consumed_ops n.toNat (c := c) f
  rw [hops] at hnext hop
  have hall : Module.Frame [.regs, .msix, .out, .q, .smp, .draws, .now] s.toModule
      (((s.toModule.at e).consumed n.toNat c f).takeAll n.toNat f.idx ws f.n) :=
    (((s.toModule.at_frame e).mono (by simp)).trans (((s.toModule.at e).consumed_frame n.toNat f).mono (by simp))).trans (hframe.mono (by simp))
  dsimp only
  generalize ((s.toModule.at e).consumed n.toNat c f).takeAll n.toNat f.idx ws f.n = a at heq hnext hop hwq' hrt' hkeeps hall
  have hsince : (a.wqRt n.toNat).ciSince = (s.wqRt n.toNat).ciSince + f.n := congrArg WqRt.ciSince hrt'
  have hfetch : (a.wqRt n.toNat).fetch = none := congrArg WqRt.fetch hrt'
  refine ⟨fun hlow => ?_, fun pa hhigh htr => ?_⟩
  · rw [a.ciDue_not_due e n.toNat (by omega)] at heq
    exact ⟨_, heq, ⟨hwq', hfetch, hnext, hop⟩, hsince, hall.touches_left⟩
  · have hhits : a.Hits (ciReq n.toNat { c with ci := (f.idx + f.n) % 2 ^ 32, outstanding := c.outstanding + f.n }) 4 pa :=
      (htr.hits.at e).of_keeps hkeeps (hall .dtu (by decide))
    obtain ⟨slot, hwrite⟩ := a.ciShadow_hit e n.toNat hwq' (by omega) hhits
    rw [a.ciDue_due e n.toNat (by omega), hwrite] at heq
    refine ⟨_, heq, ?_⟩
    have hreset : Module.Keeps ErrKept false (s.toModule.at e) (a.setWqRt n.toNat { a.wqRt n.toNat with ciSince := 0 }) :=
      hkeeps.trans (.of_frame (a.setWqRt_frame _ _) (by decide) (by decide) (by decide))
    obtain ⟨x, y, hout, hevents⟩ := hreset.wrote_out c.link
      (ciReq n.toNat { c with ci := (f.idx + f.n) % 2 ^ 32, outstanding := c.outstanding + f.n }) slot pa (leBytes 4 ((f.idx + f.n) % 2 ^ 32))
    have hvirt := (a.setWqRt n.toNat { a.wqRt n.toNat with ciSince := 0 }).wrote_frame c.link
      (ciReq n.toNat { c with ci := (f.idx + f.n) % 2 ^ 32, outstanding := c.outstanding + f.n }) slot pa (leBytes 4 ((f.idx + f.n) % 2 ^ 32))
    dsimp only
    generalize (a.setWqRt n.toNat { a.wqRt n.toNat with ciSince := 0 }).wrote c.link
      (ciReq n.toNat { c with ci := (f.idx + f.n) % 2 ^ 32, outstanding := c.outstanding + f.n }) slot pa (leBytes 4 ((f.idx + f.n) % 2 ^ 32)) = b
      at hout hvirt
    have hq : b.q = (a.setWqRt n.toNat { a.wqRt n.toNat with ciSince := 0 }).q := hvirt .q (by decide)
    have hbrt : b.wqRt n.toNat = { a.wqRt n.toNat with ciSince := 0 } := by rw [Module.wqRt_congr hq, Module.wqRt_setWqRt_same]
    refine ⟨⟨?_, ?_, ?_, fun k hk => ?_⟩, congrArg WqRt.ciSince hbrt, ⟨x, y, hout, hevents⟩, Module.Frame.touches_left ((hall.mono ?_).trans
      (((a.setWqRt_frame _ _).mono ?_).trans (hvirt.mono ?_)))⟩
    · exact (Module.wq_congr hq _).trans hwq'
    · exact (congrArg WqRt.fetch hbrt).trans hfetch
    · exact (congrArg Queues.nextOp hq).trans hnext
    · obtain ⟨o, ho, hrest⟩ := hop k hk
      exact ⟨o, (Module.op_congr hq _).trans ho, hrest⟩
    all_goals simp [virtParts]

/-! ## Faults of a fetch -/

theorem Module.logFault_cause (m : Module) (r : XReq) (f : XFault) : (m.logFault r f).get (F.cause pgDtu Ev.dtuFault) = 1 :=
  Module.raise_cause _ _ _ (by decide)

/-- A fetch that fails is logged, and its queue enters ERROR (R120). -/
theorem fetchFault_errs (s : State) (e : Env) (m : Module) (n : Nat) (c : WqCtx) (r : XReq) (f : XFault)
    (hframe : Module.Frame [.regs, .msix, .out, .dtu, .now] s.toModule m) (hc : s.wq n = some c) (hactive : c.state = .active) :
    let t := s.upd fun _ => (m.logFault r f).wqError e n ecFetchFault none
    WqErrs t n ecFetchFault ∧ t.get (F.cause pgDtu Ev.dtuFault) = 1 ∧ Touches errParts s t := by
  have hlog := m.logFault_frame r f
  have hq : (m.logFault r f).q = s.q := (hlog .q (by decide)).trans (hframe .q (by decide))
  refine ⟨Module.wqErrs_wqError _ e n c ecFetchFault none ((Module.wq_congr hq n).trans hc) (.inl hactive) _ rfl,
    (Module.keeps_wqError _ e n ecFetchFault none).cause _ _ (by decide) (m.logFault_cause r f), Module.Frame.touches_left ?_⟩
  exact ((hframe.mono (by simp [errParts])).trans (hlog.mono (by simp [errParts]))).trans ((Module.wqError_frame _ e n _ _).mono haltParts_errParts)

/-! ## WALK_READ_RETURN -/

theorem exec_walkReadReturn (n : BitVec 16) (data : Option (List Word)) (e : Env) (s : State) :
    exec (.walkReadReturn n data e) s = execWalkReadReturn n data e s := rfl

/-- A fetch after a read of its walk has returned. -/
def walkEnd (e : Env) (n : Nat) (f : Fetch) (w : Walk) : WStep × Module → Module
  | (.read w', a) => a.setWqRt n { a.wqRt n with fetch := some { f with walk := some w' } }
  | (.fail x, a) => (a.logFault w.req x).wqError e n ecFetchFault none
  | (.done pa se, a) =>
    (a.setWqRt n { a.wqRt n with fetch := some { f with walk := none, addr := pa, n := if se then 1 else f.n } }).poolFree (f.n - if se then 1 else f.n)

theorem walkReadReturn_eq (n : BitVec 16) (data : Option (List Word)) (e : Env) (s : State) {f : Fetch} {w : Walk}
    (hf : (s.wqRt n.toNat).fetch = some f) (hw : f.walk = some w) :
    exec (.walkReadReturn n data e) s = .next (s.upd fun _ => walkEnd e n.toNat f w ((s.toModule.at e).walkReturn w data)) := by
  have hf' : ((s.toModule.at e).wqRt n.toNat).fetch = some f := hf
  rw [exec_walkReadReturn, execWalkReadReturn]
  refine s.run_of _ ?_
  simp only [hf', hw]
  rfl

/-- A good leaf ends a walk in an address (R163, R175). -/
theorem Module.walkReturn_leaf (m : Module) (w : Walk) (d : Word) (l : List Word) {pa : Nat} {se : Bool} (hon : m.dtuOn = true) (hlevel : w.level = 1)
    (hvalid : bit d 0 = true) (h11 : bits d 11 8 = 0) (h63 : bits d 63 57 = 0) (h7 : bits d 7 6 ≠ 3)
    (hdone : slotResult w.req (leafSlot w.req.asid w.req.va d).1 = .done pa se) : (m.walkReturn w (some (d :: l))).1 = .done pa se := by
  have hon' : (m.count pgDtu 3).dtuOn = true := ((Module.Keeps.refl m).count (K := ErrKept) (loud := true) pgDtu 3 (by decide)).dtuOn.trans hon
  simp [Module.walkReturn, hon', hlevel, hvalid, h11, h63, h7, hdone]

theorem Module.walkReturn_fails (m : Module) (w : Walk) : ∃ x, (m.walkReturn w none).1 = .fail x := by
  unfold Module.walkReturn
  dsimp only
  split
  · exact ⟨_, rfl⟩
  · exact ⟨_, rfl⟩

theorem walkReadReturn_ends (n : BitVec 16) (e : Env) (s : State) (c : WqCtx) (f : Fetch) (w : Walk) (hc : s.wq n.toNat = some c)
    (hf : (s.wqRt n.toNat).fetch = some f) (hw : f.walk = some w) :
    (∀ (d : Word) (l : List Word) (pa : Nat) (se : Bool), s.dtuOn = true → w.level = 1 → bit d 0 = true → bits d 11 8 = 0 → bits d 63 57 = 0 →
      bits d 7 6 ≠ 3 → slotResult w.req (leafSlot w.req.asid w.req.va d).1 = .done pa se →
      Answers (exec (.walkReadReturn n (some (d :: l)) e) s) fun t =>
        (t.wqRt n.toNat).fetch = some { f with walk := none, addr := pa, n := if se then 1 else f.n } ∧ t.wq n.toNat = some c ∧
        Touches [.regs, .msix, .out, .q, .dtu, .now] s t) ∧
    (c.state = .active → Answers (exec (.walkReadReturn n none e) s) fun t => WqErrs t n.toNat ecFetchFault ∧
      t.get (F.cause pgDtu Ev.dtuFault) = 1 ∧ Touches errParts s t) := by
  have hframe : ∀ data, Module.Frame [.regs, .msix, .out, .dtu, .now] s.toModule ((s.toModule.at e).walkReturn w data).2 := fun data =>
    ((s.toModule.at_frame e).mono (by simp)).trans ((Module.walkReturn_frame _ w data).mono (by simp))
  refine ⟨fun d l pa se hon hlevel hvalid h11 h63 h7 hdone => ?_, fun hactive => ?_⟩
  · have heq := walkReadReturn_eq n (some (d :: l)) e s hf hw
    have hleaf := (s.toModule.at e).walkReturn_leaf w d l hon hlevel hvalid h11 h63 h7 hdone
    have hfr := hframe (some (d :: l))
    generalize (s.toModule.at e).walkReturn w (some (d :: l)) = p at heq hleaf hfr
    obtain ⟨st, a⟩ := p
    obtain rfl := hleaf
    have hq : a.q = s.q := hfr .q (by decide)
    refine ⟨_, heq, ?_, (Module.wq_congr hq _).trans hc, Module.Frame.touches_left ((hfr.mono (by simp)).trans ?_)⟩
    · show ((Module.poolFree _ _).wqRt _).fetch = _
      rw [Module.wqRt_poolFree, Module.wqRt_setWqRt_same]
    · exact ((a.setWqRt_frame _ _).mono (by simp)).trans ((Module.poolFree_frame _ _).mono (by simp))
  · have heq := walkReadReturn_eq n none e s hf hw
    obtain ⟨x, hx⟩ := (s.toModule.at e).walkReturn_fails w
    have hfr := hframe none
    generalize (s.toModule.at e).walkReturn w none = p at heq hx hfr
    obtain ⟨st, a⟩ := p
    obtain rfl := hx
    exact ⟨_, heq, fetchFault_errs s e a n.toNat c w.req x hfr hc hactive⟩

/-- Settles O21: a fetch that starts, what its data or its bus error leave, and the ends of its walk. -/
theorem wqesComeOnChip : Obligations.WqesComeOnChip :=
  ⟨wqeFetch_starts,
    fun n e s c f hc hf hw => ⟨wqeFetchReturn_arrives n e s c f hc hf hw, fun hactive => ⟨_, wqeFetchReturn_error n e s hc hf hw,
      fetchFault_errs s e _ n.toNat c _ _ (((s.toModule.at_frame e).mono (by simp)).trans ((Module.count_frame _ _ _).mono (by simp))) hc hactive⟩⟩,
    walkReadReturn_ends⟩

end Sys2Proof.Machine

/-! PROOFS. How an admin command begins, goes on and ends (R141, R142). -/

namespace Sys2Proof.Machine

set_option Elab.async false

/-! ## The next command -/

section
variable {m : Module} {id opcode : Nat} {o : Op}

theorem Module.startable_spec {c : WqCtx} (h : m.startable id opcode = some (o, c)) :
    m.op id = some o ∧ m.wq o.wq = some c ∧ m.mayStart id o = true ∧ wqeOpcode o.wqe = opcode ∧ opInvalid c o = false := by
  unfold Module.startable at h
  split at h
  · cases h
  next o' ho =>
    split at h
    · cases h
    next c' hc =>
      split at h
      next hgo =>
        cases h
        simp only [Bool.and_eq_true, decide_eq_true_eq, Bool.not_eq_true'] at hgo
        obtain ⟨⟨hmay, hcode⟩, hvalid⟩ := hgo
        exact ⟨ho, hc, hmay, hcode, hvalid⟩
      next => cases h

/-- An admin opcode is refused but on WQ 0, and in a triggered list (R125, R377). -/
theorem admin_of_valid {c : WqCtx} (h : opInvalid c o = false) (h80 : 0x80 ≤ wqeOpcode o.wqe) : o.wq = 0 ∧ o.trig = none := by
  simp only [opInvalid, wqeInvalid, Bool.or_eq_false_iff, Bool.and_eq_false_iff, decide_eq_false_iff_not, not_not] at h
  obtain ⟨⟨⟨⟨⟨-, hwq⟩, -⟩, -⟩, -⟩, htrig⟩ := h
  refine ⟨hwq.resolve_left (not_not.mpr h80), ?_⟩
  rcases htrig with htrig | ⟨-, hlow⟩
  · exact Option.isSome_eq_false_iff.mp htrig |> Option.isNone_iff_eq_none.mp
  · exact absurd h80 hlow

/-- The next admin command is an operation of WQ 0, which runs, and has not started. -/
theorem Module.adminNext_spec (h : m.adminNext opcode = some (id, o)) (h80 : 0x80 ≤ opcode) :
    m.op id = some o ∧ o.wq = 0 ∧ o.trig = none ∧ wqeOpcode o.wqe = opcode ∧ ∃ c, m.wq 0 = some c ∧ (c.state = .active ∨ c.state = .stopped) := by
  unfold Module.adminNext at h
  split at h
  · cases h
  next id' _ _ =>
    split at h
    · cases h
    next o' c hstart =>
      cases h
      obtain ⟨hop, hc, hmay, hcode, hvalid⟩ := Module.startable_spec hstart
      obtain ⟨hwq, htrig⟩ := admin_of_valid hvalid (hcode ▸ h80)
      refine ⟨hop, hwq, htrig, hcode, c, hwq ▸ hc, ?_⟩
      simp only [Module.mayStart, htrig, hc, Option.isSome_none, Bool.false_or, Bool.and_eq_true, Bool.or_eq_true, decide_eq_true_eq] at hmay
      exact hmay.2.1

end

theorem Module.needWq_admin {m : Module} {opcode id : Nat} {o : Op} (e : Env) (h : m.adminNext opcode = some (id, o)) (h80 : 0x80 ≤ opcode) :
    m.needWq e 0 = m := by
  obtain ⟨-, -, -, -, c, hc, -⟩ := Module.adminNext_spec h h80
  exact m.needWq_cached e hc

/-- A command that is the next to run begins, and does what it means. -/
theorem State.AdminNext.runs {s : State} {opcode id : Nat} {o : Op} (h : s.AdminNext opcode id o) (h80 : 0x80 ≤ opcode) (e : Env)
    (f : Module → List Word → Module) : s.admin opcode e f = .next (s.upd fun _ => f ((s.toModule.at e).adminBegin id o) o.wqe) := by
  have hnext : (s.toModule.at e).adminNext opcode = some (id, o) := h.1
  rw [s.admin_of_next opcode id o e f (Module.needWq_admin e hnext h80) hnext]
  simp only [State.upd]

/-! ## The begin of a command -/

section
variable (m : Module) (id : Nat) (o : Op)

/-- The command's operation has started, and it is the one in progress (R141). -/
def Module.adminStarted (m : Module) (id : Nat) (o : Op) : Module :=
  { m.setOp id { o with started := true } with
    q := { (m.setOp id { o with started := true }).q with admin := some { opcode := wqeOpcode o.wqe, op := id, wqe := o.wqe, count := 0 } } }

theorem Module.adminBegin_eq : m.adminBegin id o =
    (((m.adminStarted id o).put F.adminCurBusy 1).put F.adminCurOpcode (wqeOpcode o.wqe)).put F.adminCurIndex o.idx := rfl

theorem Module.adminBegin_q : (m.adminBegin id o).q =
    { m.q with
      ops := KMap.put m.q.ops id { o with started := true }
      admin := some { opcode := wqeOpcode o.wqe, op := id, wqe := o.wqe, count := 0 } } := by
  rw [m.adminBegin_eq id o, Module.put_q, Module.put_q, Module.put_q]
  rfl

theorem Module.adminBegin_frame : Module.Frame [.regs, .q] m (m.adminBegin id o) := by
  have hput : ∀ (a : Module) f v, Module.Frame [.regs, .q] a (a.put f v) := fun a f v => (a.put_frame f v).mono (by simp)
  have hstart : Module.Frame [.regs, .q] m (m.adminStarted id o) := ((m.frame_q _).trans (Module.frame_q _ _)).mono (by simp)
  rw [m.adminBegin_eq id o]
  exact ((hstart.trans (hput _ _ _)).trans (hput _ _ _)).trans (hput _ _ _)

theorem Module.get_adminBegin (f : Fld) (h : f.reg ≠ 0x29040) : (m.adminBegin id o).get f = m.get f := by
  rw [m.adminBegin_eq id o, Module.get_put_reg _ _ _ _ h, Module.get_put_reg _ _ _ _ h, Module.get_put_reg _ _ _ _ h]
  rfl

theorem Module.adminBegin_busy : (m.adminBegin id o).get F.adminCurBusy = 1 := by
  rw [m.adminBegin_eq id o, Module.get_put_apart _ _ _ _ (by decide) (by decide) (by decide),
    Module.get_put_apart _ _ _ _ (by decide) (by decide) (by decide), Module.get_put_same _ _ _ (by decide) (by decide)]
  rfl

theorem Module.wq_adminBegin (k : Nat) : (m.adminBegin id o).wq k = m.wq k := by
  rw [Module.wq, m.adminBegin_q]
  rfl

theorem Module.cr_adminBegin (k : Nat) : (m.adminBegin id o).cr k = m.cr k := by
  rw [Module.cr, m.adminBegin_q]
  rfl

theorem Module.crRt_adminBegin (k : Nat) : (m.adminBegin id o).crRt k = m.crRt k := by
  rw [Module.crRt, m.adminBegin_q]
  rfl

theorem Module.adminBegin_done : (m.adminBegin id o).q.done = m.q.done := by rw [m.adminBegin_q]

/-- The contexts' tables are as before. -/
theorem State.sameTables_adminBegin (s : State) (e : Env) : s.toModule.SameTables ((s.toModule.at e).adminBegin id o) where
  wq n := Module.wq_adminBegin _ _ _ n
  cr n := Module.cr_adminBegin _ _ _ n
  reads := Module.adminBegin_frame (s.toModule.at e) id o .reads (by decide)
  get f hf := by
    refine Module.get_adminBegin _ _ _ f fun he => ?_
    rw [he] at hf
    exact absurd hf (by decide)

theorem State.adminBegin_frame (s : State) (e : Env) : Module.Frame [.regs, .q, .now] s.toModule ((s.toModule.at e).adminBegin id o) :=
  ((s.toModule.at_frame e).mono (by simp)).trans ((Module.adminBegin_frame _ _ _).mono (by simp))

end

/-! ## The command in progress -/

/-- An admin command is in progress, with operation `id`, which completes once (R141). -/
def Module.InProgress (m : Module) (id : Nat) : Prop :=
  (∃ a, m.q.admin = some a ∧ a.op = id) ∧ ∃ o, m.op id = some o ∧ o.finished = false ∧ o.silent = false

/-- The command in progress, its operation and the completions to be written stand. -/
structure Module.Spares (id : Nat) (m a : Module) : Prop where
  admin : a.q.admin = m.q.admin
  op : a.op id = m.op id
  done : a.q.done = m.q.done

section
variable {id : Nat} {m a b : Module}

theorem Module.Spares.of_q (h : a.q = m.q) : Module.Spares id m a := ⟨congrArg Queues.admin h, Module.op_congr h _, congrArg Queues.done h⟩

theorem Module.Spares.refl (m : Module) : Module.Spares id m m := .of_q rfl

theorem Module.Spares.trans (h : Module.Spares id m a) (k : Module.Spares id a b) : Module.Spares id m b :=
  ⟨k.admin.trans h.admin, k.op.trans h.op, k.done.trans h.done⟩

theorem Module.Spares.foldl {α : Type} (f : Module → α → Module) (xs : List α) :
    (∀ x ∈ xs, ∀ m, Module.Spares id m (f m x)) → ∀ m, Module.Spares id m (xs.foldl f m) := by
  induction xs with
  | nil => exact fun _ m => .refl m
  | cons x xs ih => exact fun h m => (h x List.mem_cons_self m).trans (ih (fun y hy => h y (List.mem_cons_of_mem x hy)) _)

theorem Module.Spares.inProgress (h : Module.Spares id m a) (hp : m.InProgress id) : a.InProgress id := by
  obtain ⟨⟨c, hc, hid⟩, o, ho, hrest⟩ := hp
  exact ⟨⟨c, h.admin.trans hc, hid⟩, o, h.op.trans ho, hrest⟩

theorem Module.spares_setWq (n : Nat) (c : WqCtx) : Module.Spares id m (m.setWq n c) := ⟨rfl, rfl, rfl⟩
theorem Module.spares_setCr (n : Nat) (c : CrCtx) : Module.Spares id m (m.setCr n c) := ⟨rfl, rfl, rfl⟩
theorem Module.spares_setWqRt (n : Nat) (c : WqRt) : Module.Spares id m (m.setWqRt n c) := ⟨rfl, rfl, rfl⟩
theorem Module.spares_setCrRt (n : Nat) (c : CrRt) : Module.Spares id m (m.setCrRt n c) := ⟨rfl, rfl, rfl⟩

theorem Module.inProgress_adminBegin {o : Op} (hfin : o.finished = false) (hsil : o.silent = false) : (m.adminBegin id o).InProgress id := by
  refine ⟨⟨_, by rw [Module.adminBegin_q], rfl⟩, { o with started := true }, ?_, hfin, hsil⟩
  rw [Module.op, Module.adminBegin_q]
  exact KMap.get_put_same _ _ _

end

theorem State.AdminRuns.inProgress {s : State} {opcode : Nat} {a : AdminOp} (h : s.AdminRuns opcode a) : s.toModule.InProgress a.op :=
  ⟨⟨a, h.1, rfl⟩, h.2.2⟩

theorem State.AdminRuns.adminIs {s : State} {opcode : Nat} {a : AdminOp} (h : s.AdminRuns opcode a) (e : Env) :
    (s.toModule.at e).adminIs opcode = some a := by
  obtain ⟨hadmin, hcode, -⟩ := h
  have hadmin' : (s.toModule.at e).q.admin = some a := hadmin
  simp only [Module.adminIs, hadmin', hcode, if_true]

/-! ## The end of a command -/

/-- The completion of an admin command (R142). -/
def Module.adminCompletion (m : Module) (id : Nat) (o : Op) (status info detail : Nat) : Completion :=
  { owner := .op id, cr := ((m.wq o.wq).map (·.cr)).getD 0, tag := wqeTag o.wqe, wq := o.wq, opcode := wqeOpcode o.wqe, status := status,
    length := 0, info := info, peerFa := 0, nd := ((m.wq o.wq).map (·.nd)).getD 0, detail := detail,
    write := status ≠ 0 || wqeSig o.wqe || decide (0x80 ≤ wqeOpcode o.wqe) }

section
variable {m : Module} {id : Nat}

/-- The end of the command in progress, one field of the queue block after the other. -/
theorem Module.InProgress.ends (h : m.InProgress id) (status info detail : Nat) : ∃ (c : Completion) (o : Op),
    m.adminEnd status info detail =
      ({ m with q := { m.q with ops := KMap.put m.q.ops id o, done := m.q.done ++ [c], admin := none } }).put F.adminCurBusy 0 ∧
    c.owner = .op id ∧ c.status = status ∧ c.length = 0 ∧ c.info = info ∧ c.detail = detail := by
  obtain ⟨⟨a, ha, rfl⟩, o, ho, hfin, hsil⟩ := h
  refine ⟨m.adminCompletion a.op o status info detail, { o with started := true, finished := true }, ?_, rfl, rfl, rfl, rfl, rfl⟩
  · simp only [Module.adminEnd, ha, Module.opDone, ho, hfin, hsil, Bool.false_eq_true, if_false]
    rfl

theorem Module.InProgress.adminEnd_frame (h : m.InProgress id) (status info detail : Nat) :
    Module.Frame [.regs, .q] m (m.adminEnd status info detail) := by
  obtain ⟨c, o, heq, -⟩ := h.ends status info detail
  rw [heq]
  exact ((m.frame_q _).mono (by simp)).trans ((Module.put_frame _ _ _).mono (by simp))

theorem Module.InProgress.adminEnd_tables (h : m.InProgress id) (status info detail : Nat) :
    (m.adminEnd status info detail).q.wqs = m.q.wqs ∧ (m.adminEnd status info detail).q.crs = m.q.crs := by
  obtain ⟨c, o, heq, -⟩ := h.ends status info detail
  rw [heq]
  simp only [Module.put_q, and_self]

theorem Module.InProgress.wq_adminEnd (h : m.InProgress id) (status info detail n : Nat) : (m.adminEnd status info detail).wq n = m.wq n := by
  rw [Module.wq, (h.adminEnd_tables status info detail).1]
  rfl

theorem Module.InProgress.cr_adminEnd (h : m.InProgress id) (status info detail n : Nat) : (m.adminEnd status info detail).cr n = m.cr n := by
  rw [Module.cr, (h.adminEnd_tables status info detail).2]
  rfl

theorem Module.InProgress.adminEnd_out (h : m.InProgress id) (status info detail : Nat) : (m.adminEnd status info detail).out = m.out :=
  h.adminEnd_frame status info detail .out (by decide)

/-- The end of a command completes it (R141, R142). -/
theorem Module.InProgress.completes (h : m.InProgress id) {s : State} (hdone : m.q.done = s.q.done) (status info detail : Nat) :
    AdminCompletes s (s.upd fun _ => m.adminEnd status info detail) id status info detail := by
  obtain ⟨c, o, heq, howner, hrest⟩ := h.ends status info detail
  have hbusy := Module.get_put_same { m with q := { m.q with ops := KMap.put m.q.ops id o, done := m.q.done ++ [c], admin := none } }
    F.adminCurBusy 0 (by decide) (by decide)
  rw [heq]
  refine ⟨⟨c, ?_, howner, hrest⟩, ?_, hbusy⟩
  · show (Module.put _ _ _).q.done = _
    rw [Module.put_q, ← hdone]
  · show (Module.put _ _ _).q.admin = _
    rw [Module.put_q]

end

/-- What a command that ends at once leaves, whatever it did before that spares its operation. -/
theorem State.AdminNext.completes {s : State} {opcode id : Nat} {o : Op} (h : s.AdminNext opcode id o) (e : Env) {a : Module}
    (ha : Module.Spares id ((s.toModule.at e).adminBegin id o) a) (status info detail : Nat) :
    AdminCompletes s (s.upd fun _ => a.adminEnd status info detail) id status info detail :=
  (ha.inProgress (Module.inProgress_adminBegin h.2.1 h.2.2)).completes (ha.done.trans (Module.adminBegin_done _ _ _)) status info detail

theorem State.AdminNext.inProgress {s : State} {opcode id : Nat} {o : Op} (h : s.AdminNext opcode id o) (e : Env) {a : Module}
    (ha : Module.Spares id ((s.toModule.at e).adminBegin id o) a) : a.InProgress id :=
  ha.inProgress (Module.inProgress_adminBegin h.2.1 h.2.2)

/-- A command that has begun and goes on shows itself. -/
theorem State.AdminNext.admin {s : State} {opcode id : Nat} {o : Op} (h : s.AdminNext opcode id o) (h80 : 0x80 ≤ opcode) (e : Env) {a : Module}
    (ha : a.q.admin = ((s.toModule.at e).adminBegin id o).q.admin) : ∃ c, a.q.admin = some c ∧ c.opcode = opcode ∧ c.op = id := by
  obtain ⟨-, -, -, hcode, -⟩ := Module.adminNext_spec h.1 h80
  exact ⟨_, by rw [ha, Module.adminBegin_q], hcode, rfl⟩

/-! ## Bus writes of a command -/

/-- A bus write sends its bytes after what a quiet operation has sent. -/
theorem Module.Keeps.busWrite_out {K : Fld → Prop} {m a : Module} (h : Module.Keeps K false m a) (link addr : Nat) (bs : List Byte) :
    ∃ x y, (a.busWrite link addr bs).out = m.out ++ x ++ [.hostWrite link addr bs] ++ y ∧ (x ++ y).all Emit.isEvent = true := by
  have hafter : Module.Keeps K false (a.emit (.hostWrite link addr bs)) (a.busWrite link addr bs) :=
    ((Module.Keeps.refl _).countUp _ _ _ (by decide)).count _ _ (by decide)
  obtain ⟨x, hx, hxe⟩ := h.out
  obtain ⟨y, hy, hye⟩ := hafter.out
  exact ⟨x, y, by rw [hy, Module.emit_out, hx], by rw [List.all_append, hxe rfl, hye rfl]; rfl⟩

theorem Module.checked_pass (m : Module) {checks : List (Bool × Nat × Nat)} (ok : Module → Module) (h : firstFail checks = none) :
    m.checked checks ok = ok m := by simp only [Module.checked, h]

theorem Module.checked_fail (m : Module) {checks : List (Bool × Nat × Nat)} (ok : Module → Module) {st d : Nat} (h : firstFail checks = some (st, d)) :
    m.checked checks ok = m.adminEnd st 0 d := by simp only [Module.checked, h]

end Sys2Proof.Machine

/-! PROOFS. INVALIDATE_CONTEXT, INVALIDATE_TLB, REVOKE_REGION and NOP (R151, R187–R191, R277): O26. -/

namespace Sys2Proof.Machine

set_option Elab.async false

theorem exec_invalidateContext (e : Env) (s : State) : exec (.invalidateContext e) s = execInvalidateContext e s := rfl
theorem exec_invalidateTlb (e : Env) (s : State) : exec (.invalidateTlb e) s = execInvalidateTlb e s := rfl
theorem exec_invalidateTlbDone (e : Env) (s : State) : exec (.invalidateTlbDone e) s = execInvalidateTlbDone e s := rfl
theorem exec_revokeRegion (e : Env) (s : State) : exec (.revokeRegion e) s = execRevokeRegion e s := rfl
theorem exec_revokeDone (e : Env) (s : State) : exec (.revokeDone e) s = execRevokeDone e s := rfl
theorem exec_nop (e : Env) (s : State) : exec (.nop e) s = execNop e s := rfl

/-! ## Keyed maps -/

theorem KMap.mem_of_get {V : Type} {l : List (Nat × V)} {k : Nat} {v : V} (h : KMap.get l k = some v) : (k, v) ∈ l := by
  induction l with
  | nil => cases h
  | cons x l ih =>
    simp only [KMap.get] at h
    split at h
    next hk =>
      obtain rfl := Option.some.inj h
      rw [hk]
      exact List.mem_cons_self
    next => exact List.mem_cons_of_mem x (ih h)

theorem KMap.get_map {V W : Type} (f : V → W) (l : List (Nat × V)) (k : Nat) :
    KMap.get (l.map fun p => (p.1, f p.2)) k = (KMap.get l k).map f := by
  induction l with
  | nil => rfl
  | cons x l ih =>
    simp only [List.map_cons, KMap.get]
    split
    · rfl
    · exact ih

theorem KMap.get_erase {V : Type} (l : List (Nat × V)) (k n : Nat) : KMap.get (KMap.erase l k) n = if n = k then none else KMap.get l n := by
  split
  next h => rw [h, KMap.get_erase_same]
  next h => exact KMap.get_erase_other l k n h

/-! ## Contexts that leave the cache -/

section
variable (m : Module) (id : Nat)

theorem Module.leaveWq_q (k : Nat) (c : WqCtx) : (m.leaveWq k c).q = { m.q with
    wqs := KMap.erase m.q.wqs k
    awayWq := addNum m.q.awayWq k
    awayPoll := if c.poll then addNum m.q.awayPoll k else m.q.awayPoll } := by
  simp only [Module.leaveWq, Module.writebackWq, Module.busWrite_q]

theorem Module.dropWq_tables (k : Nat) : (m.dropWq k).q.crs = m.q.crs ∧ ∀ n, (m.dropWq k).wq n = if n = k then none else m.wq n := by
  unfold Module.dropWq
  split
  next h =>
    refine ⟨rfl, fun n => ?_⟩
    split
    next hn => rw [hn, h]
    next => rfl
  next c _ =>
    refine ⟨by rw [m.leaveWq_q], fun n => ?_⟩
    rw [Module.wq, m.leaveWq_q]
    exact KMap.get_erase _ _ _

theorem Module.dropCr_tables (k : Nat) : (m.dropCr k).q.wqs = m.q.wqs ∧ ∀ n, (m.dropCr k).cr n = if n = k then none else m.cr n := by
  unfold Module.dropCr
  split
  next h =>
    refine ⟨rfl, fun n => ?_⟩
    split
    next hn => rw [hn, h]
    next => rfl
  next c _ =>
    refine ⟨by simp only [Module.writebackCr, Module.busWrite_q], fun n => ?_⟩
    simp only [Module.cr, Module.writebackCr, Module.busWrite_q]
    exact KMap.get_erase _ _ _

theorem Module.dropWq_frame (k : Nat) : Module.Frame [.regs, .msix, .out, .q] m (m.dropWq k) := by
  unfold Module.dropWq
  split
  · exact .refl _ m
  · exact ((m.frame_q _).mono (by simp)).trans ((Module.busWrite_frame _ _ _ _).mono (by simp))

theorem Module.dropCr_frame (k : Nat) : Module.Frame [.regs, .msix, .out, .q] m (m.dropCr k) := by
  unfold Module.dropCr
  split
  · exact .refl _ m
  · exact ((m.frame_q _).mono (by simp)).trans ((Module.busWrite_frame _ _ _ _).mono (by simp))

theorem Module.spares_dropWq (k : Nat) : Module.Spares id m (m.dropWq k) := by
  unfold Module.dropWq
  split
  · exact .refl m
  · exact ⟨by rw [m.leaveWq_q], by rw [Module.op, m.leaveWq_q]; rfl, by rw [m.leaveWq_q]⟩

theorem Module.spares_dropCr (k : Nat) : Module.Spares id m (m.dropCr k) := by
  unfold Module.dropCr
  split
  · exact .refl m
  next c _ =>
    exact Module.Spares.trans (a := { m with q := { m.q with crs := KMap.erase m.q.crs k, awayCr := addNum m.q.awayCr k } }) ⟨rfl, rfl, rfl⟩
      (.of_q (by simp only [Module.writebackCr, Module.busWrite_q]))

end

theorem Module.dropWqs_tables (ws : List Nat) : ∀ m : Module, (ws.foldl (fun m q => m.dropWq q) m).q.crs = m.q.crs ∧
    ∀ n, (ws.foldl (fun m q => m.dropWq q) m).wq n = if n ∈ ws then none else m.wq n := by
  induction ws with
  | nil => exact fun m => ⟨rfl, fun n => by simp⟩
  | cons w ws ih =>
    intro m
    obtain ⟨hcr, hwq⟩ := m.dropWq_tables w
    obtain ⟨ihcr, ihwq⟩ := ih (m.dropWq w)
    refine ⟨ihcr.trans hcr, fun n => ?_⟩
    rw [List.foldl_cons, ihwq, hwq]
    by_cases hn : n ∈ ws <;> by_cases hw : n = w <;> simp [hn, hw]

theorem Module.dropCrs_tables (cs : List Nat) : ∀ m : Module, (cs.foldl (fun m q => m.dropCr q) m).q.wqs = m.q.wqs ∧
    ∀ n, (cs.foldl (fun m q => m.dropCr q) m).cr n = if n ∈ cs then none else m.cr n := by
  induction cs with
  | nil => exact fun m => ⟨rfl, fun n => by simp⟩
  | cons w cs ih =>
    intro m
    obtain ⟨hwq, hcr⟩ := m.dropCr_tables w
    obtain ⟨ihwq, ihcr⟩ := ih (m.dropCr w)
    refine ⟨ihwq.trans hwq, fun n => ?_⟩
    rw [List.foldl_cons, ihcr, hcr]
    by_cases hn : n ∈ cs <;> by_cases hw : n = w <;> simp [hn, hw]

/-- Every cached queue and ring that is not FREE is named by an INVALIDATE_CONTEXT of all (R151). -/
theorem Module.named_all (m : Module) (x : Nat) : (∀ n c, m.wq n = some c → c.state ≠ .free → n ∈ (m.named 2 x).1) ∧
    ∀ n c, m.cr n = some c → c.state ≠ .free → n ∈ (m.named 2 x).2 := by
  refine ⟨fun n c hc hs => ?_, fun n c hc hs => ?_⟩
  · exact List.mem_map.mpr ⟨(n, c), List.mem_filter.mpr ⟨KMap.mem_of_get hc, by simp [hs]⟩, rfl⟩
  · exact List.mem_map.mpr ⟨(n, c), List.mem_filter.mpr ⟨KMap.mem_of_get hc, by simp [hs]⟩, rfl⟩

/-- The named contexts have left (R151). -/
def Module.dropNamed (m : Module) (l : List Nat × List Nat) : Module := l.2.foldl (fun m q => m.dropCr q) (l.1.foldl (fun m q => m.dropWq q) m)

section
variable (m : Module) (l : List Nat × List Nat)

theorem Module.dropNamed_frame : Module.Frame [.regs, .msix, .out, .q] m (m.dropNamed l) :=
  (Module.foldl_frame _ (fun a n => a.dropWq_frame n) _ _).trans (Module.foldl_frame _ (fun a n => a.dropCr_frame n) _ _)

theorem Module.spares_dropNamed (id : Nat) : Module.Spares id m (m.dropNamed l) :=
  (Module.Spares.foldl _ _ (fun n _ a => a.spares_dropWq id n) m).trans (Module.Spares.foldl _ _ (fun n _ a => a.spares_dropCr id n) _)

theorem Module.wq_dropNamed (n : Nat) : (m.dropNamed l).wq n = if n ∈ l.1 then none else m.wq n := by
  rw [Module.dropNamed, Module.wq, (Module.dropCrs_tables l.2 _).1]
  exact (Module.dropWqs_tables l.1 m).2 n

theorem Module.cr_dropNamed (n : Nat) : (m.dropNamed l).cr n = if n ∈ l.2 then none else m.cr n := by
  rw [Module.dropNamed, (Module.dropCrs_tables l.2 _).2, Module.cr, (Module.dropWqs_tables l.1 m).1]
  rfl

end

theorem invalidateContext_eq {s : State} {id : Nat} {o : Op} (h : s.AdminNext 0x85 id o) (e : Env) (hkind : wqeField o.wqe 0x10 1 = 2)
    (hfetch : (s.named 2 (wqeField o.wqe 0x12 2)).1.any (fun q => (s.wqRt q).fetch.isSome) = false) :
    exec (.invalidateContext e) s = .next (s.upd fun _ => (((s.toModule.at e).adminBegin id o).dropNamed (s.named 2 (wqeField o.wqe 0x12 2))).adminOk
      ((s.named 2 (wqeField o.wqe 0x12 2)).1.length + (s.named 2 (wqeField o.wqe 0x12 2)).2.length)) := by
  have hnext : (s.toModule.at e).adminNext 0x85 = some (id, o) := h.1
  have hnamed : (s.toModule.at e).named 2 (wqeField o.wqe 0x12 2) = s.named 2 (wqeField o.wqe 0x12 2) := rfl
  have hrt : ∀ q, (s.toModule.at e).wqRt q = s.wqRt q := fun _ => rfl
  rw [exec_invalidateContext, execInvalidateContext]
  refine s.run_of _ ?_
  simp only [Module.needWq_admin e hnext (by decide), hnext, hkind, hnamed, hrt, hfetch]
  rw [if_neg (by simp), Module.checked_pass _ _ (by simp [firstFail])]
  rfl

theorem invalidateContext_drops (id : Nat) (o : Op) (e : Env) (s : State) (h : s.AdminNext 0x85 id o) (hkind : wqeField o.wqe 0x10 1 = 2)
    (hfetch : (s.named 2 (wqeField o.wqe 0x12 2)).1.any (fun q => (s.wqRt q).fetch.isSome) = false) :
    Answers (exec (.invalidateContext e) s) fun t => (∀ n c, t.wq n = some c → c.state = .free) ∧
      (∀ n c, t.cr n = some c → c.state = .free) ∧
      AdminCompletes s t id stSuccess ((s.named 2 (wqeField o.wqe 0x12 2)).1.length + (s.named 2 (wqeField o.wqe 0x12 2)).2.length) 0 ∧
      Touches [.regs, .msix, .out, .q, .now] s t := by
  have heq := invalidateContext_eq h e hkind hfetch
  obtain ⟨hallwq, hallcr⟩ := s.toModule.named_all (wqeField o.wqe 0x12 2)
  generalize s.named 2 (wqeField o.wqe 0x12 2) = l at heq hallwq hallcr
  have hspares := ((s.toModule.at e).adminBegin id o).spares_dropNamed l id
  have hprog := h.inProgress e hspares
  have hframe := (s.adminBegin_frame id o e).mono (by simp : _ ⊆ [.regs, .msix, .out, .q, .now]) |>.trans
    ((((s.toModule.at e).adminBegin id o).dropNamed_frame l).mono (by simp))
  refine ⟨_, heq, fun n c hc => ?_, fun n c hc => ?_, h.completes e hspares _ _ _,
    Module.Frame.touches_left (hframe.trans ((hprog.adminEnd_frame _ _ _).mono (by simp)))⟩
  · have hc' : (((s.toModule.at e).adminBegin id o).dropNamed l).wq n = some c := (hprog.wq_adminEnd _ _ _ n).symm.trans hc
    rw [Module.wq_dropNamed, Module.wq_adminBegin] at hc'
    split at hc'
    · cases hc'
    next hn =>
      by_contra hs
      exact hn (hallwq n c hc' hs)
  · have hc' : (((s.toModule.at e).adminBegin id o).dropNamed l).cr n = some c := (hprog.cr_adminEnd _ _ _ n).symm.trans hc
    rw [Module.cr_dropNamed, Module.cr_adminBegin] at hc'
    split at hc'
    · cases hc'
    next hn =>
      by_contra hs
      exact hn (hallcr n c hc' hs)

/-! ## INVALIDATE_TLB -/

/-- A fetch whose translation has been dropped (R191, R192). -/
def Fetch.marked (f : Fetch) : Fetch := { f with stale := true, walk := f.walk.map fun w => { w with stale := true } }

/-- What is kept beside a context, its fetch marked. -/
def WqRt.marked (rt : WqRt) : WqRt := { rt with fetch := rt.fetch.map Fetch.marked }

theorem Module.wqRt_staleFetches (m : Module) (n : Nat) : (m.staleFetches.wqRt n).fetch = (m.wqRt n).fetch.map Fetch.marked := by
  have hmap : m.staleFetches.q.wqRt = m.q.wqRt.map fun p => (p.1, p.2.marked) := rfl
  simp only [Module.wqRt, KMap.getD, hmap, KMap.get_map]
  cases KMap.get m.q.wqRt n <;> rfl

/-- The checks of an INVALIDATE_TLB pass (R187, R188). -/
theorem invalidateTlb_eq {s : State} {id : Nat} {o : Op} (h : s.AdminNext 0x86 id o) (e : Env) (hflags : wqeField o.wqe 0x12 2 < 4)
    (hasid : wqeField o.wqe 0x12 2 % 2 = 1 ∨ wqeField o.wqe 0x10 2 < 2 ^ s.get F.dtuAstabSize)
    (hva : wqeField o.wqe 0x12 2 ≠ 0 ∨ wqeField o.wqe 0x18 8 % 4096 = 0) :
    exec (.invalidateTlb e) s = .next (s.upd fun _ =>
      if wqeField o.wqe 0x12 2 = 0 && wqeField o.wqe 0x20 4 = 0 then ((s.toModule.at e).adminBegin id o).adminOk 0
      else ((s.toModule.at e).adminBegin id o).tlbDrop (tlbSel o.wqe)) := by
  have hsize : ((s.toModule.at e).adminBegin id o).get F.dtuAstabSize = s.get F.dtuAstabSize := Module.get_adminBegin _ _ _ _ (by decide)
  have hbits : ∀ f < 4, f ≠ 0 → (nbit f 0 || nbit f 1) = true := by decide
  have hbit : nbit (wqeField o.wqe 0x12 2) 0 = decide (wqeField o.wqe 0x12 2 % 2 = 1) := by simp [nbit, Nat.testBit_zero]
  have hsel : (nbit (wqeField o.wqe 0x12 2) 0 || nbit (wqeField o.wqe 0x12 2) 1 || decide (wqeField o.wqe 0x18 8 % 4096 = 0)) = true := by
    rcases hva with hne | hva
    · simp only [hbits _ hflags hne, Bool.true_or]
    · simp [hva]
  rw [exec_invalidateTlb, execInvalidateTlb, h.runs (by decide)]
  dsimp only
  rw [Module.checked_pass _ _ (by
    have hfirst : (nbit (wqeField o.wqe 0x12 2) 0 || decide (wqeField o.wqe 0x10 2 < 2 ^ s.get F.dtuAstabSize)) = true := by
      rw [hbit]
      simpa using hasid
    simp only [hsize, hfirst, hsel, hflags, decide_true, firstFail])]

theorem invalidateTlb_drops (id : Nat) (o : Op) (e : Env) (s : State) (h : s.AdminNext 0x86 id o) (hflags : wqeField o.wqe 0x12 2 < 4)
    (hasid : wqeField o.wqe 0x12 2 % 2 = 1 ∨ wqeField o.wqe 0x10 2 < 2 ^ s.get F.dtuAstabSize)
    (hva : wqeField o.wqe 0x12 2 ≠ 0 ∨ (wqeField o.wqe 0x18 8 % 4096 = 0 ∧ wqeField o.wqe 0x20 4 ≠ 0)) :
    Answers (exec (.invalidateTlb e) s) fun t =>
      t.dtu.tlb = s.dtu.tlb.filter (fun x => !(tlbSel o.wqe).hits x) ∧
      (∀ p ∈ t.dtu.micro, ∀ x ∈ p.2, (tlbSel o.wqe).hits x = false) ∧
      t.dtu.walkCache = s.dtu.walkCache.filter (fun x => !(tlbSel o.wqe).walkHit x.asid) ∧
      t.dtu.asidCache = s.dtu.asidCache.filter (fun p => !(tlbSel o.wqe).asidHit p.1) ∧
      (∀ n f, (t.wqRt n).fetch = some f → f.stale = true) ∧ (∃ a, t.q.admin = some a ∧ a.opcode = 0x86 ∧ a.op = id) ∧
      Touches [.regs, .q, .dtu, .now] s t := by
  have heq := invalidateTlb_eq h e hflags hasid (hva.imp_right And.left)
  have hgo : ¬ (decide (wqeField o.wqe 0x12 2 = 0) && decide (wqeField o.wqe 0x20 4 = 0)) = true := by
    simp only [Bool.and_eq_true, decide_eq_true_eq, not_and]
    exact fun h0 => (hva.resolve_left (not_not.mpr h0)).2
  rw [if_neg hgo] at heq
  have hadmin := h.admin (by decide) e (a := (s.toModule.at e).adminBegin id o) rfl
  have hframe := s.adminBegin_frame id o e
  generalize (s.toModule.at e).adminBegin id o = m at heq hadmin hframe
  have hd : m.dtu = s.dtu := hframe .dtu (by decide)
  refine ⟨_, heq, ?_, fun p hp x hx => ?_, ?_, ?_, fun n f hf => ?_, hadmin, Module.Frame.touches_left ((hframe.mono (by simp)).trans ?_)⟩
  · rw [← hd]
    rfl
  · obtain ⟨p', -, rfl⟩ := List.mem_map.mp hp
    simpa using (List.mem_filter.mp hx).2
  · rw [← hd]
    rfl
  · rw [← hd]
    rfl
  · have hf' := (Module.wqRt_staleFetches _ n).symm.trans hf
    obtain ⟨f', -, rfl⟩ := Option.map_eq_some_iff.mp hf'
    rfl
  · exact ((m.frame_dtu _).mono (by simp)).trans ((Module.frame_q _ _).mono (by simp))

theorem invalidateTlb_nothing (id : Nat) (o : Op) (e : Env) (s : State) (h : s.AdminNext 0x86 id o) (hflags : wqeField o.wqe 0x12 2 = 0)
    (hcount : wqeField o.wqe 0x20 4 = 0) (hasid : wqeField o.wqe 0x10 2 < 2 ^ s.get F.dtuAstabSize) (hva : wqeField o.wqe 0x18 8 % 4096 = 0) :
    Answers (exec (.invalidateTlb e) s) fun t => AdminCompletes s t id stSuccess 0 0 ∧ Touches [.regs, .q, .now] s t := by
  have heq := invalidateTlb_eq h e (by omega) (.inr hasid) (.inr hva)
  rw [if_pos (by simp [hflags, hcount])] at heq
  exact ⟨_, heq, h.completes e (.refl _) _ _ _,
    Module.Frame.touches_left ((s.adminBegin_frame id o e).trans (((h.inProgress e (.refl _)).adminEnd_frame _ _ _).mono (by simp)))⟩

/-- Whether a fetch in flight uses a dropped translation (R191). -/
def staleFetch (p : Nat × WqRt) : Bool :=
  match p.2.fetch with
  | none => false
  | some f => f.stale

theorem staleFetch_iff (p : Nat × WqRt) : staleFetch p = true ↔ ∃ f, p.2.fetch = some f ∧ f.stale = true := by
  unfold staleFetch
  cases p.2.fetch <;> simp

theorem invalidateTlbDone_eq {s : State} {a : AdminOp} (h : s.AdminRuns 0x86 a) (e : Env) : exec (.invalidateTlbDone e) s =
    .next (s.upd fun _ => if s.q.wqRt.any staleFetch then s.toModule.at e else (s.toModule.at e).adminOk 0) := by
  rw [exec_invalidateTlbDone, execInvalidateTlbDone]
  refine s.run_of _ ?_
  simp only [h.adminIs e]
  rfl

theorem invalidateTlbDone_waits (a : AdminOp) (e : Env) (s : State) (h : s.AdminRuns 0x86 a) :
    ((∀ p ∈ s.q.wqRt, ∀ f, p.2.fetch = some f → f.stale = false) → Answers (exec (.invalidateTlbDone e) s) fun t =>
      AdminCompletes s t a.op stSuccess 0 0 ∧ Touches [.regs, .q, .now] s t) ∧
    ((∃ p ∈ s.q.wqRt, ∃ f, p.2.fetch = some f ∧ f.stale = true) →
      exec (.invalidateTlbDone e) s = .next (s.upd fun m => m.at e)) := by
  have heq := invalidateTlbDone_eq h e
  have hprog : (s.toModule.at e).InProgress a.op := h.inProgress
  refine ⟨fun hnone => ?_, fun hsome => ?_⟩
  · have hany : s.q.wqRt.any staleFetch = false := by
      refine List.any_eq_false.mpr fun p hp hstale => ?_
      obtain ⟨f, hf, hs⟩ := (staleFetch_iff p).mp hstale
      exact absurd (hs.symm.trans (hnone p hp f hf)) (by decide)
    rw [hany] at heq
    exact ⟨_, heq, hprog.completes rfl _ _ _,
      Module.Frame.touches_left (((s.toModule.at_frame e).mono (by simp)).trans ((hprog.adminEnd_frame _ _ _).mono (by simp)))⟩
  · obtain ⟨p, hp, hstale⟩ := hsome
    rw [List.any_eq_true.mpr ⟨p, hp, (staleFetch_iff p).mpr hstale⟩] at heq
    exact heq

/-! ## REVOKE_REGION -/

theorem Module.needDir_cached (m : Module) (e : Env) {slot nd : Nat} {d : RgnDir} (h : KMap.get m.x.dirs slot = some d) :
    m.needDir e slot nd = (some d, m) := by simp only [Module.needDir, h]

theorem Module.needRegion_cached (m : Module) (e : Env) (d : RgnDir) {slot index : Nat} {g : Region}
    (h : KMap.get m.x.regions (regionKey slot index) = some g) : m.needRegion e d slot index = (.entry g, m) := by
  simp only [Module.needRegion, h]

theorem Module.keyOf_congr {m a : Module} (h : a.x = m.x) (nd : Nat) : a.keyOf nd = m.keyOf nd := by simp only [Module.keyOf, h]

theorem Module.cacheRegion_regions (m : Module) (slot index : Nat) (g : Region) :
    KMap.get (m.cacheRegion slot index g).x.regions (regionKey slot index) = some g := by
  simp only [Module.cacheRegion, KMap.get_put_same]

/-- A region's entry leaves the cache, and the reads under it end (R277, R278). -/
def Module.dropRegion (m : Module) (slot index : Nat) : Module :=
  { m.endReads slot index with
    x := { (m.endReads slot index).x with regions := KMap.erase (m.endReads slot index).x.regions (regionKey slot index) } }

theorem Module.dropRegion_frame (m : Module) (slot index : Nat) : Module.Frame [.x] m (m.dropRegion slot index) :=
  (m.frame_x _).trans (Module.frame_x _ _)

theorem Module.dropRegion_regions (m : Module) (slot index : Nat) : KMap.get (m.dropRegion slot index).x.regions (regionKey slot index) = none :=
  KMap.get_erase_same _ _

theorem revokeDone_eq {s : State} {a : AdminOp} (h : s.AdminRuns 0x87 a) (e : Env) {slot key : Nat} {d : RgnDir} {g : Region}
    (hkey : s.keyOf (revokeFields a.wqe).1 = some (slot, key)) (hdir : KMap.get s.x.dirs slot = some d)
    (hg : KMap.get s.x.regions (regionKey slot (revokeFields a.wqe).2.1) = some g) :
    exec (.revokeDone e) s = .next (s.upd fun _ => (((s.toModule.at e).busWrite d.link (d.entry (revokeFields a.wqe).2.1)
      (leBytes 8 (2 * b2n g.storeTarget + 256 * g.generation + 2 ^ 32 * g.tag))).dropRegion slot (revokeFields a.wqe).2.1).adminOk 0) := by
  have hkey' : (s.toModule.at e).keyOf (revokeFields a.wqe).1 = some (slot, key) := hkey
  have hdir' : KMap.get (s.toModule.at e).x.dirs slot = some d := hdir
  have hg' : KMap.get (s.toModule.at e).x.regions (regionKey slot (revokeFields a.wqe).2.1) = some g := hg
  rw [exec_revokeDone, execRevokeDone]
  refine s.run_of _ ?_
  simp only [h.adminIs e, hkey', Module.needDir_cached _ e hdir', Module.needRegion_cached _ e d hg']
  rfl

theorem revokeRegion_eq {s : State} {id : Nat} {o : Op} (h : s.AdminNext 0x87 id o) (e : Env) {slot key : Nat} {d : RgnDir} {ws : List Word}
    (hkey : s.keyOf (revokeFields o.wqe).1 = some (slot, key)) (hdir : KMap.get s.x.dirs slot = some d)
    (hindex : (revokeFields o.wqe).2.1 < 2 ^ d.size) (hws : s.readWords e d.link 8 (d.entry (revokeFields o.wqe).2.1) = some ws)
    (hvalid : (Region.parse ws).2 = true) (hgen : (Region.parse ws).1.generation = (revokeFields o.wqe).2.2) :
    exec (.revokeRegion e) s = .next (s.upd fun _ => ((s.toModule.at e).adminBegin id o).readDone.cacheRegion slot (revokeFields o.wqe).2.1
      { (KMap.get s.x.regions (regionKey slot (revokeFields o.wqe).2.1)).getD (Region.parse ws).1 with revoking := true }) := by
  have hframe := s.adminBegin_frame id o e
  rw [exec_revokeRegion, execRevokeRegion, h.runs (by decide) e]
  generalize (s.toModule.at e).adminBegin id o = m at hframe
  have hx : m.x = s.x := hframe .x (by decide)
  have hkey' : m.keyOf (revokeFields o.wqe).1 = some (slot, key) := (Module.keyOf_congr hx _).trans hkey
  have hdir' : KMap.get m.x.dirs slot = some d := by rw [hx, hdir]
  have hws' : m.readWords e d.link 8 (d.entry (revokeFields o.wqe).2.1) = some ws :=
    (Module.readWords_congr (hframe .reads (by decide)) e _ _ _).trans hws
  simp only [hkey', Module.needDir_cached m e hdir', Nat.not_le.mpr hindex, if_false, hws', hvalid, hgen, Module.readDone_x, hx, Bool.not_true,
    Bool.false_eq_true, ne_eq, not_true]

theorem Module.cacheRegion_frame (m : Module) (slot index : Nat) (g : Region) : Module.Frame [.x] m (m.cacheRegion slot index g) := m.frame_x _

theorem revokeRegion_marks (id : Nat) (o : Op) (e : Env) (s : State) (slot key : Nat) (d : RgnDir) (ws : List Word) (h : s.AdminNext 0x87 id o)
    (hkey : s.keyOf (revokeFields o.wqe).1 = some (slot, key)) (hdir : KMap.get s.x.dirs slot = some d)
    (hindex : (revokeFields o.wqe).2.1 < 2 ^ d.size) (hws : s.readWords e d.link 8 (d.entry (revokeFields o.wqe).2.1) = some ws)
    (hvalid : (Region.parse ws).2 = true) (hgen : (Region.parse ws).1.generation = (revokeFields o.wqe).2.2) :
    Answers (exec (.revokeRegion e) s) fun t =>
      (∃ g, KMap.get t.x.regions (regionKey slot (revokeFields o.wqe).2.1) = some g ∧ g.revoking = true ∧
        g = { (KMap.get s.x.regions (regionKey slot (revokeFields o.wqe).2.1)).getD (Region.parse ws).1 with revoking := true }) ∧
      (∃ a, t.q.admin = some a ∧ a.opcode = 0x87 ∧ a.op = id) ∧ Touches [.regs, .q, .x, .reads, .now] s t := by
  have heq := revokeRegion_eq h e hkey hdir hindex hws hvalid hgen
  have hadmin := h.admin (by decide) e (a := (s.toModule.at e).adminBegin id o) rfl
  have hframe := s.adminBegin_frame id o e
  generalize (s.toModule.at e).adminBegin id o = m at heq hadmin hframe
  have hcache := m.readDone.cacheRegion_frame slot (revokeFields o.wqe).2.1
    { (KMap.get s.x.regions (regionKey slot (revokeFields o.wqe).2.1)).getD (Region.parse ws).1 with revoking := true }
  have hentry := m.readDone.cacheRegion_regions slot (revokeFields o.wqe).2.1
    { (KMap.get s.x.regions (regionKey slot (revokeFields o.wqe).2.1)).getD (Region.parse ws).1 with revoking := true }
  generalize m.readDone.cacheRegion _ _ _ = b at heq hcache hentry
  have hcached : b.q = m.readDone.q := hcache .q (by decide)
  have hq : b.q = m.q := hcached.trans m.readDone_q
  obtain ⟨a, ha, hrest⟩ := hadmin
  exact ⟨_, heq, ⟨_, hentry, rfl, rfl⟩, ⟨a, (congrArg Queues.admin hq).trans ha, hrest⟩,
    Module.Frame.touches_left (((hframe.mono (by simp)).trans (m.readDone_frame.mono (by simp))).trans (hcache.mono (by simp)))⟩

theorem revokeDone_drops (a : AdminOp) (e : Env) (s : State) (slot key : Nat) (d : RgnDir) (g : Region) (h : s.AdminRuns 0x87 a)
    (hkey : s.keyOf (revokeFields a.wqe).1 = some (slot, key)) (hdir : KMap.get s.x.dirs slot = some d)
    (hg : KMap.get s.x.regions (regionKey slot (revokeFields a.wqe).2.1) = some g) :
    Answers (exec (.revokeDone e) s) fun t => KMap.get t.x.regions (regionKey slot (revokeFields a.wqe).2.1) = none ∧
      Sends s t (.hostWrite d.link (d.entry (revokeFields a.wqe).2.1)
        (leBytes 8 (2 * b2n g.storeTarget + 256 * g.generation + 2 ^ 32 * g.tag))) ∧
      AdminCompletes s t a.op stSuccess 0 0 ∧ Touches [.regs, .msix, .out, .q, .x, .now] s t := by
  have heq := revokeDone_eq h e hkey hdir hg
  generalize leBytes 8 (2 * b2n g.storeTarget + 256 * g.generation + 2 ^ 32 * g.tag) = bs at heq
  obtain ⟨x, y, hout, hevents⟩ := (Module.Keeps.refl (K := ErrKept) (loud := false) (s.toModule.at e)).busWrite_out d.link
    (d.entry (revokeFields a.wqe).2.1) bs
  have hbus := (s.toModule.at e).busWrite_frame d.link (d.entry (revokeFields a.wqe).2.1) bs
  generalize (s.toModule.at e).busWrite d.link (d.entry (revokeFields a.wqe).2.1) bs = m at heq hout hbus
  have hdrop := m.dropRegion_frame slot (revokeFields a.wqe).2.1
  have hgone := m.dropRegion_regions slot (revokeFields a.wqe).2.1
  generalize m.dropRegion slot (revokeFields a.wqe).2.1 = b at heq hdrop hgone
  have hq : b.q = s.q := (hdrop .q (by decide)).trans (hbus .q (by decide))
  have hprog : b.InProgress a.op := Module.Spares.inProgress (.of_q hq) h.inProgress
  have hend := hprog.adminEnd_frame stSuccess 0 0
  refine ⟨_, heq, ?_, ⟨x, y, ?_, hevents⟩, hprog.completes (congrArg Queues.done hq) _ _ _,
    Module.Frame.touches_left (((((s.toModule.at_frame e).mono ?_).trans (hbus.mono ?_)).trans (hdrop.mono ?_)).trans (hend.mono ?_))⟩
  · have hx : (b.adminEnd stSuccess 0 0).x = b.x := hend .x (by decide)
    exact (congrArg (fun x : Xpt => KMap.get x.regions _) hx).trans hgone
  · exact (hprog.adminEnd_out _ _ _).trans ((hdrop .out (by decide)).trans hout)
  all_goals simp

theorem nop_completes (id : Nat) (o : Op) (e : Env) (s : State) (h : s.AdminNext 0x90 id o) :
    Answers (exec (.nop e) s) fun t => AdminCompletes s t id stSuccess 0 0 ∧ Touches [.regs, .q, .now] s t := by
  rw [exec_nop, execNop, h.runs (by decide)]
  exact ⟨_, rfl, h.completes e (.refl _) _ _ _,
    Module.Frame.touches_left ((s.adminBegin_frame id o e).trans (((h.inProgress e (.refl _)).adminEnd_frame _ _ _).mono (by simp)))⟩

/-- Settles O26: the contexts, translations and regions that admin commands drop, and NOP. -/
theorem adminDropsWhatIsCached : Obligations.AdminDropsWhatIsCached :=
  ⟨invalidateContext_drops, invalidateTlb_drops, invalidateTlb_nothing, invalidateTlbDone_waits, revokeRegion_marks, revokeDone_drops, nop_completes⟩

end Sys2Proof.Machine

/-! PROOFS. CREATE_WQ, CREATE_CR and MODIFY_WQ (R141–R147, R773): O24. -/

namespace Sys2Proof.Machine

set_option Elab.async false

theorem exec_createWq (e : Env) (s : State) : exec (.createWq e) s = execCreateWq e s := rfl
theorem exec_createCr (e : Env) (s : State) : exec (.createCr e) s = execCreateCr e s := rfl
theorem exec_modifyWq (e : Env) (s : State) : exec (.modifyWq e) s = execModifyWq e s := rfl

/-! ## A command that has begun and knows its contexts -/

/-- An admin command has begun, and read at most a table's entry that is not valid. -/
structure State.Begun (s : State) (e : Env) (id : Nat) (o : Op) (b : Module) : Prop where
  q : b.q = ((s.toModule.at e).adminBegin id o).q
  get : ∀ f, f.reg ≠ 0x29040 → b.get f = s.get f
  frame : Module.Frame [.regs, .q, .reads, .now] s.toModule b

section
variable {s : State} {e : Env} {id : Nat} {o : Op} {b : Module}

theorem State.begun (s : State) (e : Env) (id : Nat) (o : Op) : s.Begun e id o ((s.toModule.at e).adminBegin id o) where
  q := rfl
  get f hf := Module.get_adminBegin _ _ _ f hf
  frame := (s.adminBegin_frame id o e).mono (by simp)

theorem State.Begun.readDone (h : s.Begun e id o b) : s.Begun e id o b.readDone where
  q := b.readDone_q.trans h.q
  get f hf := (b.get_readDone f).trans (h.get f hf)
  frame := h.frame.trans (b.readDone_frame.mono (by simp))

theorem State.begun_needWq (s : State) (e : Env) (id : Nat) (o : Op) {n : Nat} (hk : s.WqKnown e n) :
    s.Begun e id o (((s.toModule.at e).adminBegin id o).needWq e n) := by
  rcases (s.sameTables_adminBegin id o e).needWq hk with h | h <;> rw [h]
  · exact s.begun e id o
  · exact (s.begun e id o).readDone

theorem State.begun_needCr (s : State) (e : Env) (id : Nat) (o : Op) {n : Nat} (hk : s.CrKnown e n) :
    s.Begun e id o (((s.toModule.at e).adminBegin id o).needCr e n) := by
  rcases (s.sameTables_adminBegin id o e).needCr hk with h | h <;> rw [h]
  · exact s.begun e id o
  · exact (s.begun e id o).readDone

theorem State.Begun.wq (h : s.Begun e id o b) (n : Nat) : b.wq n = s.wq n := (Module.wq_congr h.q n).trans (Module.wq_adminBegin _ _ _ n)
theorem State.Begun.cr (h : s.Begun e id o b) (n : Nat) : b.cr n = s.cr n := (Module.cr_congr h.q n).trans (Module.cr_adminBegin _ _ _ n)
theorem State.Begun.crRt (h : s.Begun e id o b) (n : Nat) : b.crRt n = s.crRt n := (Module.crRt_congr h.q n).trans (Module.crRt_adminBegin _ _ _ n)

theorem State.Begun.tables (h : s.Begun e id o b) : b.q.wqs = s.q.wqs ∧ b.q.crs = s.q.crs := by
  rw [h.q, Module.adminBegin_q]
  exact ⟨rfl, rfl⟩

theorem State.Begun.spares (h : s.Begun e id o b) : Module.Spares id ((s.toModule.at e).adminBegin id o) b := .of_q h.q

theorem State.Begun.wqInTable (h : s.Begun e id o b) (n : Nat) : b.wqInTable n = s.wqInTable n := by
  simp only [Module.wqInTable, Module.running, Module.flag, h.get (F.pgBlock pgQctl 0 0) (by decide), h.get F.qctlWqtabSize (by decide)]

theorem State.Begun.crInTable (h : s.Begun e id o b) (n : Nat) : b.crInTable n = s.crInTable n := by
  simp only [Module.crInTable, Module.running, Module.flag, h.get (F.pgBlock pgQctl 0 0) (by decide), h.get F.qctlCrtabSize (by decide)]

theorem State.Begun.wqAddr (h : s.Begun e id o b) (n : Nat) : b.wqAddr n = s.wqAddr n := by
  simp only [Module.wqAddr, h.get F.qctlWqtabBase (by decide)]

theorem State.Begun.polled (h : s.Begun e id o b) : b.polled = s.polled := by
  rw [Module.polled, h.q, Module.adminBegin_q]
  rfl

theorem State.Begun.createWqChecks (h : s.Begun e id o b) (w : List Word) : b.createWqChecks w = s.createWqChecks w := by
  simp only [Module.createWqChecks, Module.wqFree, Module.crActive, h.wqInTable, h.crInTable, h.wq, h.cr, h.polled]

theorem State.Begun.createCrChecks (h : s.Begun e id o b) (w : List Word) : b.createCrChecks w = s.createCrChecks w := by
  simp only [Module.createCrChecks, Module.crFree, h.crInTable, h.cr]

theorem State.Begun.modifyChecks (h : s.Begun e id o b) (w : List Word) : b.modifyChecks w = s.modifyChecks w := by
  simp only [Module.modifyChecks, h.wqInTable, h.wq, h.cr, h.polled]

end

/-! ## Contexts that are loaded -/

/-- A WQ context may have left for another to be loaded (R99). -/
def Module.roomForWq (m : Module) : Module :=
  if m.q.wqs.length < 4096 then m
  else match m.q.wqs.find? (fun p => p.1 ≠ 0 && !p.2.poll && (m.wqRt p.1).fetch.isNone) with
    | none => m
    | some p => m.leaveWq p.1 p.2

/-- A CR context may have left for another to be loaded (R99). -/
def Module.roomForCr (m : Module) : Module :=
  if m.q.crs.length < 4096 then m
  else match m.q.crs.find? (fun p => p.1 ≠ 0) with
    | none => m
    | some p => ({ m with q := { m.q with crs := KMap.erase m.q.crs p.1, awayCr := addNum m.q.awayCr p.1 } }).writebackCr p.1 p.2

section
variable (m : Module) (id n : Nat)

theorem Module.cacheWq_eq (c : WqCtx) : m.cacheWq n c = ({ m.roomForWq with
    q := { m.roomForWq.q with
      awayWq := m.roomForWq.q.awayWq.filter (· ≠ n)
      awayPoll := m.roomForWq.q.awayPoll.filter (· ≠ n) } }).setWq n c := rfl

theorem Module.cacheCr_eq (c : CrCtx) : m.cacheCr n c =
    ({ m.roomForCr with q := { m.roomForCr.q with awayCr := m.roomForCr.q.awayCr.filter (· ≠ n) } }).setCr n c := rfl

theorem Module.leaveWq_frame (c : WqCtx) : Module.Frame [.regs, .msix, .out, .q] m (m.leaveWq n c) :=
  ((m.frame_q _).mono (by simp)).trans ((Module.busWrite_frame _ _ _ _).mono (by simp))

theorem Module.spares_leaveWq (c : WqCtx) : Module.Spares id m (m.leaveWq n c) :=
  ⟨by rw [m.leaveWq_q], by rw [Module.op, m.leaveWq_q]; rfl, by rw [m.leaveWq_q]⟩

theorem Module.roomForWq_frame : Module.Frame [.regs, .msix, .out, .q] m m.roomForWq := by
  unfold Module.roomForWq
  split
  · exact .refl _ m
  · split
    · exact .refl _ m
    · exact m.leaveWq_frame _ _

theorem Module.roomForCr_frame : Module.Frame [.regs, .msix, .out, .q] m m.roomForCr := by
  unfold Module.roomForCr
  split
  · exact .refl _ m
  · split
    · exact .refl _ m
    · exact ((m.frame_q _).mono (by simp)).trans ((Module.busWrite_frame _ _ _ _).mono (by simp))

theorem Module.spares_roomForWq : Module.Spares id m m.roomForWq := by
  unfold Module.roomForWq
  split
  · exact .refl m
  · split
    · exact .refl m
    · exact m.spares_leaveWq id _ _

theorem Module.spares_roomForCr : Module.Spares id m m.roomForCr := by
  unfold Module.roomForCr
  split
  · exact .refl m
  · split
    · exact .refl m
    next p _ =>
      exact Module.Spares.trans (a := { m with q := { m.q with crs := KMap.erase m.q.crs p.1, awayCr := addNum m.q.awayCr p.1 } }) ⟨rfl, rfl, rfl⟩
        (.of_q (by simp only [Module.writebackCr, Module.busWrite_q]))

theorem Module.roomForWq_crs : m.roomForWq.q.crs = m.q.crs := by
  unfold Module.roomForWq
  split
  · rfl
  · split
    · rfl
    · rw [m.leaveWq_q]

theorem Module.wq_cacheWq (c : WqCtx) : (m.cacheWq n c).wq n = some c := by
  rw [m.cacheWq_eq n c]
  exact Module.wq_setWq_same _ _ _

theorem Module.cr_cacheWq (c : WqCtx) (k : Nat) : (m.cacheWq n c).cr k = m.cr k := by
  rw [m.cacheWq_eq n c, Module.cr_setWq, Module.cr, Module.cr, m.roomForWq_crs]

theorem Module.cr_cacheCr (c : CrCtx) : (m.cacheCr n c).cr n = some c := by
  rw [m.cacheCr_eq n c]
  exact Module.cr_setCr_same _ _ _

theorem Module.cacheWq_frame (c : WqCtx) : Module.Frame [.regs, .msix, .out, .q] m (m.cacheWq n c) := by
  rw [m.cacheWq_eq n c]
  exact (m.roomForWq_frame.trans ((Module.frame_q _ _).mono (by simp))).trans ((Module.setWq_frame _ _ _).mono (by simp))

theorem Module.cacheCr_frame (c : CrCtx) : Module.Frame [.regs, .msix, .out, .q] m (m.cacheCr n c) := by
  rw [m.cacheCr_eq n c]
  exact (m.roomForCr_frame.trans ((Module.frame_q _ _).mono (by simp))).trans ((Module.setCr_frame _ _ _).mono (by simp))

theorem Module.spares_cacheWq (c : WqCtx) : Module.Spares id m (m.cacheWq n c) := by
  rw [m.cacheWq_eq n c]
  exact (m.spares_roomForWq id).trans ⟨rfl, rfl, rfl⟩

theorem Module.spares_cacheCr (c : CrCtx) : Module.Spares id m (m.cacheCr n c) := by
  rw [m.cacheCr_eq n c]
  exact (m.spares_roomForCr id).trans ⟨rfl, rfl, rfl⟩

theorem Module.spares_busWrite (link addr : Nat) (bs : List Byte) : Module.Spares id m (m.busWrite link addr bs) := .of_q (m.busWrite_q _ _ _)

theorem Module.bind_cached {r : CrCtx} (h : m.cr n = some r) : m.bind n = m.setCr n { r with binds := r.binds + 1 } := by simp only [Module.bind, h]

theorem Module.unbind_cached {r : CrCtx} (h : m.cr n = some r) : m.unbind n = m.setCr n { r with binds := r.binds - 1 } := by
  simp only [Module.unbind, h]

end

/-! ## CREATE_WQ -/

/-- A new queue: its entry is written to the table, its context loaded and its ring bound (R143, R147). -/
def Module.createdWq (m : Module) (w : List Word) : Module :=
  let n := wqeField w 0x10 2
  let c := createWqCtx w
  let m := m.busWrite (m.get F.qctlWqtabLink) (m.wqAddr n) (c.staticBytes true ++ c.dynBytes)
  ((m.cacheWq n { c with state := if (m.crRt c.cr).held.isEmpty then .active else .stopped }).setWqRt n WqRt.init).bind c.cr

section
variable (m : Module) (w : List Word)

theorem Module.createdWq_contexts {r : CrCtx} (hr : m.cr (wqeField w 0x12 2) = some r) :
    (m.createdWq w).wq (wqeField w 0x10 2) = some { createWqCtx w with
      state := if (m.crRt (wqeField w 0x12 2)).held.isEmpty then .active else .stopped } ∧
    (m.createdWq w).cr (wqeField w 0x12 2) = some { r with binds := r.binds + 1 } := by
  unfold Module.createdWq
  dsimp only
  have hbus := m.busWrite_q (m.get F.qctlWqtabLink) (m.wqAddr (wqeField w 0x10 2)) ((createWqCtx w).staticBytes true ++ (createWqCtx w).dynBytes)
  generalize m.busWrite (m.get F.qctlWqtabLink) (m.wqAddr (wqeField w 0x10 2)) ((createWqCtx w).staticBytes true ++ (createWqCtx w).dynBytes) = a at hbus
  have hrt : a.crRt (createWqCtx w).cr = m.crRt (wqeField w 0x12 2) := Module.crRt_congr hbus _
  have har : a.cr (createWqCtx w).cr = some r := (Module.cr_congr hbus _).trans hr
  rw [hrt]
  generalize hc : { createWqCtx w with state := if (m.crRt (wqeField w 0x12 2)).held.isEmpty then WqState.active else .stopped } = c
  have hbound : ((a.cacheWq (wqeField w 0x10 2) c).setWqRt (wqeField w 0x10 2) WqRt.init).cr (createWqCtx w).cr = some r :=
    (a.cr_cacheWq (wqeField w 0x10 2) c _).trans har
  rw [Module.bind_cached _ _ hbound]
  exact ⟨a.wq_cacheWq _ c, Module.cr_setCr_same _ _ _⟩

theorem Module.bind_frame (n : Nat) : Module.Frame [.q] m (m.bind n) := by
  unfold Module.bind
  split
  · exact .refl _ m
  · exact m.setCr_frame _ _

theorem Module.spares_bind (id n : Nat) : Module.Spares id m (m.bind n) := by
  unfold Module.bind
  split
  · exact .refl m
  · exact Module.spares_setCr _ _

theorem Module.createdWq_frame : Module.Frame [.regs, .msix, .out, .q] m (m.createdWq w) :=
  ((((m.busWrite_frame _ _ _).mono (by simp)).trans (Module.cacheWq_frame _ _ _)).trans ((Module.setWqRt_frame _ _ _).mono (by simp))).trans
    ((Module.bind_frame _ _).mono (by simp))

theorem Module.spares_createdWq (id : Nat) : Module.Spares id m (m.createdWq w) :=
  (((m.spares_busWrite id _ _ _).trans (Module.spares_cacheWq _ id _ _)).trans (Module.spares_setWqRt _ _)).trans (Module.spares_bind _ id _)

end

theorem createWq_eq {s : State} {id : Nat} {o : Op} (h : s.AdminNext 0x80 id o) (e : Env)
    (hcr : (s.cr (wqeField o.wqe 0x12 2)).isSome ∨ s.crInTable (wqeField o.wqe 0x12 2) = false) {b : Module}
    (hb : ((s.toModule.at e).adminBegin id o).needWq e (wqeField o.wqe 0x10 2) = b) (hbegun : s.Begun e id o b) :
    exec (.createWq e) s = .next (s.upd fun _ => b.checked (s.createWqChecks o.wqe) fun m => (m.createdWq o.wqe).adminOk 0) := by
  have hneed : b.needCr e (createWqCtx o.wqe).cr = b := by
    rcases hcr with hsome | hout
    · obtain ⟨r, hr⟩ := Option.isSome_iff_exists.mp hsome
      exact b.needCr_cached e ((hbegun.cr _).trans hr)
    · exact b.needCr_outside e ((hbegun.crInTable _).trans hout)
  rw [exec_createWq, execCreateWq, h.runs (by decide) e]
  dsimp only
  rw [hb, hneed, hbegun.createWqChecks]
  rfl

theorem createWq_creates (id : Nat) (o : Op) (e : Env) (s : State) (h : s.AdminNext 0x80 id o) (hk : s.WqKnown e (wqeField o.wqe 0x10 2))
    (hcr : (s.cr (wqeField o.wqe 0x12 2)).isSome ∨ s.crInTable (wqeField o.wqe 0x12 2) = false) :
    (∀ r, s.wq (wqeField o.wqe 0x10 2) = none → s.cr (wqeField o.wqe 0x12 2) = some r →
      firstFail (s.createWqChecks o.wqe) = none →
      Answers (exec (.createWq e) s) fun t => AdminCompletes s t id stSuccess 0 0 ∧
        t.wq (wqeField o.wqe 0x10 2) = some { createWqCtx o.wqe with
          state := if (s.crRt (wqeField o.wqe 0x12 2)).held.isEmpty then .active else .stopped } ∧
        t.cr (wqeField o.wqe 0x12 2) = some { r with binds := r.binds + 1 } ∧ Touches [.regs, .msix, .out, .q, .reads, .now] s t) ∧
    (∀ st d, firstFail (s.createWqChecks o.wqe) = some (st, d) →
      Answers (exec (.createWq e) s) fun t => AdminCompletes s t id st 0 d ∧ t.q.wqs = s.q.wqs ∧ t.q.crs = s.q.crs ∧
        Touches [.regs, .q, .reads, .now] s t) := by
  have hbegun := s.begun_needWq e id o hk
  have heq := createWq_eq h e hcr rfl hbegun
  generalize ((s.toModule.at e).adminBegin id o).needWq e (wqeField o.wqe 0x10 2) = b at heq hbegun
  refine ⟨fun r _ hr hpass => ?_, fun st d hfail => ?_⟩
  · rw [b.checked_pass _ hpass] at heq
    obtain ⟨hwq, hcr'⟩ := b.createdWq_contexts o.wqe ((hbegun.cr _).trans hr)
    rw [hbegun.crRt] at hwq
    have hspares := hbegun.spares.trans (b.spares_createdWq o.wqe id)
    have hprog := h.inProgress e hspares
    exact ⟨_, heq, h.completes e hspares _ _ _, (hprog.wq_adminEnd _ _ _ _).trans hwq, (hprog.cr_adminEnd _ _ _ _).trans hcr',
      Module.Frame.touches_left (((hbegun.frame.mono (by simp)).trans ((b.createdWq_frame o.wqe).mono (by simp))).trans
        ((hprog.adminEnd_frame _ _ _).mono (by simp)))⟩
  · rw [b.checked_fail _ hfail] at heq
    have hprog := h.inProgress e hbegun.spares
    obtain ⟨hwqs, hcrs⟩ := hprog.adminEnd_tables st 0 d
    exact ⟨_, heq, h.completes e hbegun.spares _ _ _, hwqs.trans hbegun.tables.1, hcrs.trans hbegun.tables.2,
      Module.Frame.touches_left (hbegun.frame.trans ((hprog.adminEnd_frame _ _ _).mono (by simp)))⟩

/-! ## CREATE_CR -/

/-- A new ring: its entry is written to the table and its context loaded (R143). -/
def Module.createdCr (m : Module) (w : List Word) : Module :=
  let n := wqeField w 0x10 2
  let c := createCrCtx w
  ((m.busWrite (m.get F.qctlWqtabLink) (m.crAddr n) (c.staticBytes true ++ c.dynBytes)).cacheCr n c).setCrRt n CrRt.init

theorem Module.createdCr_frame (m : Module) (w : List Word) : Module.Frame [.regs, .msix, .out, .q] m (m.createdCr w) :=
  (((m.busWrite_frame _ _ _).mono (by simp)).trans (Module.cacheCr_frame _ _ _)).trans ((Module.setCrRt_frame _ _ _).mono (by simp))

theorem Module.spares_createdCr (m : Module) (w : List Word) (id : Nat) : Module.Spares id m (m.createdCr w) :=
  ((m.spares_busWrite id _ _ _).trans (Module.spares_cacheCr _ id _ _)).trans (Module.spares_setCrRt _ _)

theorem Module.cr_setCrRt (m : Module) (n : Nat) (c : CrRt) (k : Nat) : (m.setCrRt n c).cr k = m.cr k := rfl

theorem Module.cr_createdCr (m : Module) (w : List Word) : (m.createdCr w).cr (wqeField w 0x10 2) = some (createCrCtx w) := by
  unfold Module.createdCr
  dsimp only
  rw [Module.cr_setCrRt, Module.cr_cacheCr]

theorem createCr_eq {s : State} {id : Nat} {o : Op} (h : s.AdminNext 0x83 id o) (e : Env) {b : Module}
    (hb : ((s.toModule.at e).adminBegin id o).needCr e (wqeField o.wqe 0x10 2) = b) (hbegun : s.Begun e id o b) :
    exec (.createCr e) s = .next (s.upd fun _ => b.checked (s.createCrChecks o.wqe) fun m => (m.createdCr o.wqe).adminOk 0) := by
  rw [exec_createCr, execCreateCr, h.runs (by decide) e]
  dsimp only
  rw [hb, hbegun.createCrChecks]
  rfl

theorem createCr_creates (id : Nat) (o : Op) (e : Env) (s : State) (h : s.AdminNext 0x83 id o) (hk : s.CrKnown e (wqeField o.wqe 0x10 2))
    (_ : s.cr (wqeField o.wqe 0x10 2) = none) (hpass : firstFail (s.createCrChecks o.wqe) = none) :
    Answers (exec (.createCr e) s) fun t => AdminCompletes s t id stSuccess 0 0 ∧
      t.cr (wqeField o.wqe 0x10 2) = some (createCrCtx o.wqe) ∧ Touches [.regs, .msix, .out, .q, .reads, .now] s t := by
  have hbegun := s.begun_needCr e id o hk
  have heq := createCr_eq h e rfl hbegun
  generalize ((s.toModule.at e).adminBegin id o).needCr e (wqeField o.wqe 0x10 2) = b at heq hbegun
  rw [b.checked_pass _ hpass] at heq
  have hspares := hbegun.spares.trans (b.spares_createdCr o.wqe id)
  have hprog := h.inProgress e hspares
  exact ⟨_, heq, h.completes e hspares _ _ _, (hprog.cr_adminEnd _ _ _ _).trans (b.cr_createdCr o.wqe),
    Module.Frame.touches_left (((hbegun.frame.mono (by simp)).trans ((b.createdCr_frame o.wqe).mono (by simp))).trans
      ((hprog.adminEnd_frame _ _ _).mono (by simp)))⟩

/-! ## MODIFY_WQ -/

/-- The context that a MODIFY_WQ leaves (R143, R773); `held`: the queue's ring holds completions. -/
def modifiedCtx (w : List Word) (held : Bool) (c : WqCtx) : WqCtx :=
  let which := wqeField w 0x12 2
  let c := if nbit which 0 then { c with ci := wqeField w 0x18 4, piKnown := wqeField w 0x18 4,
                                         state := if held then .stopped else .active } else c
  let c := if nbit which 1 then { c with tcMask := wqeField w 0x20 1 } else c
  if nbit which 2 then { c with poll := decide (wqeField w 0x21 1 = 1), pollIvl := wqeField w 0x22 2 } else c

theorem modifiedCtx_size (w : List Word) (held : Bool) (c : WqCtx) : (modifiedCtx w held c).size = c.size := by
  unfold modifiedCtx
  dsimp only
  cases nbit (wqeField w 0x12 2) 0 <;> cases nbit (wqeField w 0x12 2) 1 <;> cases nbit (wqeField w 0x12 2) 2 <;> rfl

section
variable {w : List Word} (held : Bool) (c : WqCtx)

theorem modifiedCtx_restart (h : wqeField w 0x12 2 = 1) : modifiedCtx w held c =
    { c with ci := wqeField w 0x18 4, piKnown := wqeField w 0x18 4, state := if held then .stopped else .active } := by
  have h0 : nbit 1 0 = true := by decide
  have h1 : nbit 1 1 = false := by decide
  have h2 : nbit 1 2 = false := by decide
  simp only [modifiedCtx, h, h0, h1, h2, if_true, Bool.false_eq_true, if_false]

theorem modifiedCtx_mask (h : wqeField w 0x12 2 = 2) : modifiedCtx w held c = { c with tcMask := wqeField w 0x20 1 } := by
  have h0 : nbit 2 0 = false := by decide
  have h1 : nbit 2 1 = true := by decide
  have h2 : nbit 2 2 = false := by decide
  simp only [modifiedCtx, h, h0, h1, h2, if_true, Bool.false_eq_true, if_false]

theorem modifiedCtx_poll (h : wqeField w 0x12 2 = 4) : modifiedCtx w held c =
    { c with poll := decide (wqeField w 0x21 1 = 1), pollIvl := wqeField w 0x22 2 } := by
  have h0 : nbit 4 0 = false := by decide
  have h1 : nbit 4 1 = false := by decide
  have h2 : nbit 4 2 = true := by decide
  simp only [modifiedCtx, h, h0, h1, h2, if_true, Bool.false_eq_true, if_false]

end

theorem modifyWq_eq {s : State} {id : Nat} {o : Op} (h : s.AdminNext 0x82 id o) (e : Env) {c : WqCtx} (hc : s.wq (wqeField o.wqe 0x10 2) = some c)
    (hcr : (s.cr c.cr).isSome) (hpass : firstFail (s.modifyChecks o.wqe) = none) (hsize : sizeOk c.size = true) {c' : WqCtx}
    (hc' : modifiedCtx o.wqe (!(s.crRt c.cr).held.isEmpty) c = c') :
    exec (.modifyWq e) s = .next (s.upd fun _ => ((((s.toModule.at e).adminBegin id o).setWq (wqeField o.wqe 0x10 2) c').busWrite
      (s.get F.qctlWqtabLink) (s.wqAddr (wqeField o.wqe 0x10 2)) (c'.staticBytes true)).adminOk 0) := by
  have hbegun := s.begun e id o
  rw [exec_modifyWq, execModifyWq, h.runs (by decide) e]
  generalize (s.toModule.at e).adminBegin id o = b at hbegun
  obtain ⟨r, hr⟩ := Option.isSome_iff_exists.mp hcr
  have hbc := (hbegun.wq _).trans hc
  have hsize' : sizeOk c'.size = true := by rw [← hc', modifiedCtx_size, hsize]
  dsimp only
  rw [b.needWq_cached e hbc]
  simp only [hbc, b.needCr_cached e ((hbegun.cr _).trans hr), hbegun.modifyChecks, b.checked_pass _ hpass, hbegun.crRt,
    hbegun.get F.qctlWqtabLink (by decide), hbegun.wqAddr]
  have hctx := hc'
  unfold modifiedCtx at hctx
  dsimp only at hctx
  rw [hctx, hsize']
  simp only [Bool.not_true, Bool.and_false, Bool.false_eq_true, if_false]

theorem modifyWq_changes (id : Nat) (o : Op) (e : Env) (s : State) (c : WqCtx) (h : s.AdminNext 0x82 id o)
    (hc : s.wq (wqeField o.wqe 0x10 2) = some c) (hcr : (s.cr c.cr).isSome) (hpass : firstFail (s.modifyChecks o.wqe) = none)
    (hsize : sizeOk c.size = true) :
    Answers (exec (.modifyWq e) s) fun t => AdminCompletes s t id stSuccess 0 0 ∧ Touches [.regs, .msix, .out, .q, .now] s t ∧
      (∃ c', t.wq (wqeField o.wqe 0x10 2) = some c' ∧
        Sends s t (.hostWrite (s.get F.qctlWqtabLink) (s.wqAddr (wqeField o.wqe 0x10 2)) (c'.staticBytes true))) ∧
      (wqeField o.wqe 0x12 2 = 1 → t.wq (wqeField o.wqe 0x10 2) =
        some { c with
          ci := wqeField o.wqe 0x18 4
          piKnown := wqeField o.wqe 0x18 4
          state := (if (s.crRt c.cr).held.isEmpty then .active else .stopped) }) ∧
      (wqeField o.wqe 0x12 2 = 2 → t.wq (wqeField o.wqe 0x10 2) = some { c with tcMask := wqeField o.wqe 0x20 1 }) ∧
      (wqeField o.wqe 0x12 2 = 4 → t.wq (wqeField o.wqe 0x10 2) =
        some { c with poll := decide (wqeField o.wqe 0x21 1 = 1), pollIvl := wqeField o.wqe 0x22 2 }) := by
  have heq := modifyWq_eq h e hc hcr hpass hsize rfl
  have hrestart := modifiedCtx_restart (w := o.wqe) (!(s.crRt c.cr).held.isEmpty) c
  have hmask := modifiedCtx_mask (w := o.wqe) (!(s.crRt c.cr).held.isEmpty) c
  have hpoll := modifiedCtx_poll (w := o.wqe) (!(s.crRt c.cr).held.isEmpty) c
  generalize modifiedCtx o.wqe (!(s.crRt c.cr).held.isEmpty) c = c' at heq hrestart hmask hpoll
  have hset : Module.Spares id ((s.toModule.at e).adminBegin id o) (((s.toModule.at e).adminBegin id o).setWq (wqeField o.wqe 0x10 2) c') :=
    Module.spares_setWq _ _
  have hframe := (s.adminBegin_frame id o e).trans ((((s.toModule.at e).adminBegin id o).setWq_frame (wqeField o.wqe 0x10 2) c').mono (by simp))
  have hwq := ((s.toModule.at e).adminBegin id o).wq_setWq_same (wqeField o.wqe 0x10 2) c'
  generalize ((s.toModule.at e).adminBegin id o).setWq (wqeField o.wqe 0x10 2) c' = a at heq hset hframe hwq
  obtain ⟨x, y, hout, hevents⟩ := (Module.Keeps.refl (K := ErrKept) (loud := false) a).busWrite_out (s.get F.qctlWqtabLink)
    (s.wqAddr (wqeField o.wqe 0x10 2)) (c'.staticBytes true)
  have hbus := a.busWrite_frame (s.get F.qctlWqtabLink) (s.wqAddr (wqeField o.wqe 0x10 2)) (c'.staticBytes true)
  have hspares := hset.trans (a.spares_busWrite id (s.get F.qctlWqtabLink) (s.wqAddr (wqeField o.wqe 0x10 2)) (c'.staticBytes true))
  generalize a.busWrite (s.get F.qctlWqtabLink) (s.wqAddr (wqeField o.wqe 0x10 2)) (c'.staticBytes true) = b at heq hout hbus hspares
  have hq : b.q = a.q := hbus .q (by decide)
  have hao : a.out = s.out := hframe .out (by decide)
  have hprog := h.inProgress e hspares
  have hctx : (b.adminEnd stSuccess 0 0).wq (wqeField o.wqe 0x10 2) = some c' := (hprog.wq_adminEnd _ _ _ _).trans ((Module.wq_congr hq _).trans hwq)
  refine ⟨_, heq, h.completes e hspares _ _ _,
    Module.Frame.touches_left (((hframe.mono (by simp)).trans (hbus.mono (by simp))).trans ((hprog.adminEnd_frame _ _ _).mono (by simp))),
    ⟨c', hctx, x, y, (hprog.adminEnd_out _ _ _).trans (hao ▸ hout), hevents⟩, fun hw => ?_, fun hw => ?_, fun hw => ?_⟩
  · refine hctx.trans ?_
    rw [hrestart hw]
    cases (s.crRt c.cr).held.isEmpty <;> rfl
  · exact hctx.trans (congrArg some (hmask hw))
  · exact hctx.trans (congrArg some (hpoll hw))

/-- Settles O24: queues and rings that are created, and queues that are changed. -/
theorem adminCreatesAndChangesQueues : Obligations.AdminCreatesAndChangesQueues :=
  ⟨createWq_creates, createCr_creates, modifyWq_changes⟩

end Sys2Proof.Machine

/-! PROOFS. DESTROY_WQ, WQ_CLOSE_DONE and DESTROY_CR (R133, R146–R148): O25. -/

namespace Sys2Proof.Machine

set_option Elab.async false

theorem exec_destroyWq (e : Env) (s : State) : exec (.destroyWq e) s = execDestroyWq e s := rfl
theorem exec_wqCloseDone (e : Env) (s : State) : exec (.wqCloseDone e) s = execWqCloseDone e s := rfl
theorem exec_destroyCr (e : Env) (s : State) : exec (.destroyCr e) s = execDestroyCr e s := rfl

/-! ## Held completions that are discarded -/

/-- The parts that discarding held completions touches (R148). -/
def discardParts : List Part := [.regs, .msix, .out, .q, .smp, .x]

section
variable (m : Module)

/-- The end of what a discarded completion belongs to. -/
def Module.endOwner (m : Module) (o : Owner) : Module :=
  match o with
  | .op id => m.abandon id
  | o => m.retire o

theorem Module.discard_eq (c : Completion) : m.discard c = ((m.endOwner c.owner).count pgQctl 7).raise pgQctl Ev.heldDiscard := by
  unfold Module.discard Module.endOwner
  cases c.owner <;> rfl

theorem Module.endOwner_cases (o : Owner) : (∃ id, o = .op id ∧ m.endOwner o = m.abandon id) ∨ m.endOwner o = m.retire o := by
  cases o with
  | op id => exact .inl ⟨id, rfl, rfl⟩
  | _ => exact .inr rfl

theorem Module.opsEnd_endOwner (o : Owner) : m.OpsEnd (m.endOwner o) := by
  rcases m.endOwner_cases o with ⟨id, -, heq⟩ | heq <;> rw [heq]
  · exact m.opsEnd_abandon id
  · exact m.opsEnd_retire o

theorem Module.keeps_endOwner {loud : Bool} (o : Owner) : Module.Keeps ErrKept loud m (m.endOwner o) := by
  rcases m.endOwner_cases o with ⟨id, -, heq⟩ | heq <;> rw [heq]
  · exact m.keeps_abandon id
  · exact m.keeps_retire o

theorem Module.endOwner_frame (o : Owner) : Module.Frame discardParts m (m.endOwner o) := by
  rcases m.endOwner_cases o with ⟨id, -, heq⟩ | heq <;> rw [heq]
  · exact (m.abandon_frame id).mono (by simp [discardParts])
  · exact (m.retire_frame o).mono (by simp [discardParts])

theorem Module.opsEnd_discard (c : Completion) : m.OpsEnd (m.discard c) := by
  rw [m.discard_eq c]
  exact (m.opsEnd_endOwner c.owner).trans (.of_q ((Module.raise_q _ _ _).trans (Module.count_q _ _ _)))

theorem Module.keeps_discard {loud : Bool} (c : Completion) : Module.Keeps ErrKept loud m (m.discard c) := by
  rw [m.discard_eq c]
  exact ((m.keeps_endOwner c.owner).count _ _ (by decide)).raise _ _ (by decide)

theorem Module.discard_frame (c : Completion) : Module.Frame discardParts m (m.discard c) := by
  rw [m.discard_eq c]
  exact (m.endOwner_frame c.owner).trans (((Module.count_frame _ _ _).trans (Module.raise_frame _ _ _)).mono (by simp [discardParts]))

/-! ## The command is spared -/

theorem Module.spares_opGone {id k : Nat} (h : k ≠ id) : Module.Spares id m (m.opGone k) :=
  ⟨rfl, KMap.get_erase_other _ _ _ h.symm, rfl⟩

theorem Module.spares_retire {id : Nat} (o : Owner) (h : o ≠ .op id) : Module.Spares id m (m.retire o) := by
  cases o
  case op k =>
    have hk : k ≠ id := fun hk => h (hk ▸ rfl)
    cases ho : m.op k
    case none =>
      rw [m.retire_absent ho]
      exact .refl m
    case some o =>
      rw [m.retire_op ho]
      split
      · exact m.spares_opGone hk
      · split
        · exact (m.spares_opGone hk).trans (Module.spares_setWqRt _ _)
        · exact (m.spares_opGone hk).trans (Module.spares_setWq _ _)
  all_goals exact ⟨rfl, rfl, rfl⟩

theorem Module.spares_smp (id : Nat) (x : Sampler) : Module.Spares id m { m with smp := x } := .of_q rfl

theorem Module.spares_sampleRelease (id : Nat) : Module.Spares id m m.sampleRelease := by
  unfold Module.sampleRelease
  refine (m.spares_smp id _).trans (.foldl _ _ (fun r _ a => ?_) _)
  split
  · exact .refl a
  · exact Module.spares_setCr _ _

theorem Module.spares_abandon {id k : Nat} (h : k ≠ id) : Module.Spares id m (m.abandon k) := by
  have hretire := m.spares_retire (id := id) (.op k) fun he => h (Owner.op.inj he)
  unfold Module.abandon
  dsimp only
  split
  · exact (hretire.trans (.of_q ((Module.setTagged_frame _ _) .q (by decide)))).trans (Module.spares_sampleRelease _ id)
  · exact hretire

theorem Module.spares_endOwner {id : Nat} (o : Owner) (h : o ≠ .op id) : Module.Spares id m (m.endOwner o) := by
  rcases m.endOwner_cases o with ⟨k, rfl, heq⟩ | heq <;> rw [heq]
  · exact m.spares_abandon fun hk => h (hk ▸ rfl)
  · exact m.spares_retire o h

theorem Module.spares_discard {id : Nat} (c : Completion) (h : c.owner ≠ .op id) : Module.Spares id m (m.discard c) := by
  rw [m.discard_eq c]
  exact (m.spares_endOwner c.owner h).trans (.of_q ((Module.raise_q _ _ _).trans (Module.count_q _ _ _)))

/-! ## A ring that holds nothing any more -/

/-- A stopped queue resumes (R136). -/
def Module.resumeWq (m : Module) (q : Nat) : Module :=
  match m.wq q with
  | none => m
  | some w => if w.state = .stopped then m.setWq q { w with state := .active } else m

/-- A ring's mark of an overflow clears (R136). -/
def Module.clearOvf (m : Module) (n : Nat) : Module :=
  match m.cr n with
  | none => m
  | some k => m.setCr n { k with ovf := false }

theorem Module.heldOver_eq (n : Nat) : m.heldOver n =
    if !(m.crRt n).held.isEmpty then m else ((m.clearOvf n).boundWqs n).foldl (fun m q => m.resumeWq q) (m.clearOvf n) := rfl

theorem Module.resumeWq_frame (q : Nat) : Module.Frame [.q] m (m.resumeWq q) := by
  unfold Module.resumeWq
  split
  · exact .refl _ m
  · split
    · exact m.setWq_frame _ _
    · exact .refl _ m

theorem Module.clearOvf_frame (n : Nat) : Module.Frame [.q] m (m.clearOvf n) := by
  unfold Module.clearOvf
  split
  · exact .refl _ m
  · exact m.setCr_frame _ _

theorem Module.spares_resumeWq (id q : Nat) : Module.Spares id m (m.resumeWq q) := by
  unfold Module.resumeWq
  split
  · exact .refl m
  · split
    · exact Module.spares_setWq _ _
    · exact .refl m

theorem Module.spares_clearOvf (id n : Nat) : Module.Spares id m (m.clearOvf n) := by
  unfold Module.clearOvf
  split
  · exact .refl m
  · exact Module.spares_setCr _ _

theorem Module.cr_resumeWq (q k : Nat) : (m.resumeWq q).cr k = m.cr k := by
  unfold Module.resumeWq
  split
  · rfl
  · split <;> rfl

theorem Module.heldOver_frame (n : Nat) : Module.Frame [.q] m (m.heldOver n) := by
  rw [m.heldOver_eq n]
  split
  · exact .refl _ m
  · exact (m.clearOvf_frame n).trans (Module.foldl_frame _ (fun a q => a.resumeWq_frame q) _ _)

theorem Module.spares_heldOver (id n : Nat) : Module.Spares id m (m.heldOver n) := by
  rw [m.heldOver_eq n]
  split
  · exact .refl m
  · exact (m.spares_clearOvf id n).trans (.foldl _ _ (fun q _ a => a.spares_resumeWq id q) _)

/-- A ring keeps its binds and its state. -/
theorem Module.cr_heldOver (n : Nat) {c : CrCtx} (h : m.cr n = some c) : ∃ v, (m.heldOver n).cr n = some { c with ovf := v } := by
  have hclear : (m.clearOvf n).cr n = some { c with ovf := false } := by
    simp only [Module.clearOvf, h]
    exact Module.cr_setCr_same _ _ _
  have hfold : ∀ (l : List Nat) (a : Module), (l.foldl (fun m q => m.resumeWq q) a).cr n = a.cr n := fun l => by
    induction l with
    | nil => exact fun _ => rfl
    | cons q l ih => exact fun a => (ih _).trans (a.cr_resumeWq q n)
  rw [m.heldOver_eq n]
  split
  · exact ⟨c.ovf, h⟩
  · exact ⟨false, (hfold _ _).trans hclear⟩

/-! ## DISCARD_HELD -/

/-- The discarded completions one after the other. -/
def Module.discardAll (m : Module) (l : List Completion) : Module := l.foldl (fun m c => m.discard c) m

theorem Module.discardHeld_cases (n : Nat) (p : Completion → Bool) : m.discardHeld n p = m ∨ ∃ rt : CrRt, m.discardHeld n p =
    ((m.setCrRt n rt).discardAll ((m.crRt n).held.filter p)).heldOver n := by
  unfold Module.discardHeld
  dsimp only
  split
  · exact .inr ⟨_, rfl⟩
  · exact .inl rfl

theorem Module.opsEnd_discardAll (l : List Completion) : m.OpsEnd (m.discardAll l) := .foldl _ (fun a c => a.opsEnd_discard c) _ _

theorem Module.discardHeld_frame (n : Nat) (p : Completion → Bool) : Module.Frame discardParts m (m.discardHeld n p) := by
  rcases m.discardHeld_cases n p with heq | ⟨rt, heq⟩ <;> rw [heq]
  · exact .refl _ m
  · exact (((m.setCrRt_frame n rt).mono (by simp [discardParts])).trans (Module.foldl_frame _ (fun a c => a.discard_frame c) _ _)).trans
      ((Module.heldOver_frame _ n).mono (by simp [discardParts]))

theorem Module.keeps_discardHeld {loud : Bool} (n : Nat) (p : Completion → Bool) : Module.Keeps ErrKept loud m (m.discardHeld n p) := by
  rcases m.discardHeld_cases n p with heq | ⟨rt, heq⟩ <;> rw [heq]
  · exact .refl m
  · exact ((Module.Keeps.of_frame (m.setCrRt_frame n rt) (by decide) (by decide) (by decide)).trans
      (Module.Keeps.foldl _ (fun a c => a.keeps_discard c) _ _)).trans (.of_frame (Module.heldOver_frame _ n) (by decide) (by decide) (by decide))

theorem Module.spares_discardHeld {id : Nat} (n : Nat) (p : Completion → Bool) (h : ∀ k ∈ (m.crRt n).held, k.owner ≠ .op id) :
    Module.Spares id m (m.discardHeld n p) := by
  rcases m.discardHeld_cases n p with heq | ⟨rt, heq⟩ <;> rw [heq]
  · exact .refl m
  · exact ((Module.spares_setCrRt n rt).trans (.foldl _ _ (fun c hc a => a.spares_discard c (h c (List.mem_filter.mp hc).1)) _)).trans
      (Module.spares_heldOver _ id n)

/-- A ring that discards what it holds keeps its state, and its binds do not rise. -/
theorem Module.cr_discardHeld (n : Nat) (p : Completion → Bool) {c : CrCtx} (h : m.cr n = some c) :
    ∃ b ≤ c.binds, ∃ v, (m.discardHeld n p).cr n = some { c with binds := b, ovf := v } := by
  rcases m.discardHeld_cases n p with heq | ⟨rt, heq⟩ <;> rw [heq]
  · exact ⟨c.binds, Nat.le_refl _, c.ovf, h⟩
  · have hset : (m.setCrRt n rt).cr n = some c := h
    obtain ⟨b, hb, hcr⟩ := (Module.opsEnd_discardAll (m.setCrRt n rt) ((m.crRt n).held.filter p)).cr n c hset
    obtain ⟨v, hv⟩ := Module.cr_heldOver _ n hcr
    exact ⟨b, hb, v, hv⟩

end

/-! ## A queue that closes -/

/-- A queue is in the cache, CLOSING. -/
def Module.ClosingAt (m : Module) (n : Nat) : Prop := ∃ c, m.wq n = some c ∧ c.state = .closing

/-- A closing queue stays so, the command in progress goes on, and the fields that errors keep stand. -/
structure Module.ClosesOn (n : Nat) (m a : Module) : Prop where
  closing : m.ClosingAt n → a.ClosingAt n
  admin : a.q.admin = m.q.admin
  keeps : Module.Keeps ErrKept true m a
  frame : Module.Frame haltParts m a

section
variable {n : Nat} {m a b : Module}

theorem Module.ClosesOn.trans (h : Module.ClosesOn n m a) (k : Module.ClosesOn n a b) : Module.ClosesOn n m b :=
  ⟨fun hm => k.closing (h.closing hm), k.admin.trans h.admin, h.keeps.trans k.keeps, h.frame.trans k.frame⟩

theorem Module.ClosesOn.refl (n : Nat) (m : Module) : Module.ClosesOn n m m := ⟨fun h => h, rfl, .refl m, .refl _ m⟩

theorem Module.ClosesOn.of_opsEnd (h : m.OpsEnd a) (hk : Module.Keeps ErrKept true m a) (hf : Module.Frame haltParts m a) : Module.ClosesOn n m a where
  closing := fun ⟨c, hc, hs⟩ => by
    obtain ⟨j, hj⟩ := h.wq n c hc
    exact ⟨_, hj, hs⟩
  admin := h.admin
  keeps := hk
  frame := hf

/-- A change of the queue block alone. -/
theorem Module.ClosesOn.of_q (hwq : m.ClosingAt n → a.ClosingAt n) (hadmin : a.q.admin = m.q.admin) (hf : Module.Frame [.q] m a) :
    Module.ClosesOn n m a :=
  ⟨hwq, hadmin, .of_frame hf (by decide) (by decide) (by decide), hf.mono (by simp [haltParts])⟩

variable (m)

theorem Module.closesOn_discardAll (l : List Completion) : Module.ClosesOn n m (m.discardAll l) :=
  .of_opsEnd (m.opsEnd_discardAll l) (.foldl _ (fun a c => a.keeps_discard c) _ _)
    ((Module.foldl_frame _ (fun a c => a.discard_frame c) l m).mono (by simp [discardParts, haltParts]))

theorem Module.closesOn_resumeWq (q : Nat) : Module.ClosesOn n m (m.resumeWq q) := by
  refine .of_q (fun ⟨c, hc, hs⟩ => ?_) ?_ (m.resumeWq_frame q)
  · unfold Module.resumeWq
    split
    · exact ⟨c, hc, hs⟩
    next w hw =>
      split
      next hstop =>
        by_cases hn : n = q
        · rw [hn, hw] at hc
          obtain rfl := Option.some.inj hc
          rw [hs] at hstop
          cases hstop
        · exact ⟨c, (m.wq_setWq_other q _ hn).trans hc, hs⟩
      next => exact ⟨c, hc, hs⟩
  · exact (m.spares_resumeWq 0 q).admin

theorem Module.closesOn_heldOver (k : Nat) : Module.ClosesOn n m (m.heldOver k) := by
  have hclear : Module.ClosesOn n m (m.clearOvf k) := by
    refine .of_q (fun h => ?_) (m.spares_clearOvf 0 k).admin (m.clearOvf_frame k)
    unfold Module.clearOvf
    split
    · exact h
    · exact h
  have hresume : ∀ (l : List Nat) (a : Module), Module.ClosesOn n a (l.foldl (fun m q => m.resumeWq q) a) := fun l => by
    induction l with
    | nil => exact fun a => .refl n a
    | cons q l ih => exact fun a => (a.closesOn_resumeWq q).trans (ih _)
  rw [m.heldOver_eq k]
  split
  · exact .refl n m
  · exact hclear.trans (hresume _ _)

theorem Module.closesOn_discardHeld (k : Nat) (p : Completion → Bool) : Module.ClosesOn n m (m.discardHeld k p) := by
  rcases m.discardHeld_cases k p with heq | ⟨rt, heq⟩ <;> rw [heq]
  · exact .refl n m
  · have hset : Module.ClosesOn n m (m.setCrRt k rt) := .of_q (fun h => h) rfl (m.setCrRt_frame k rt)
    exact (hset.trans (Module.closesOn_discardAll (m.setCrRt k rt) _)).trans (Module.closesOn_heldOver _ k)

theorem Module.closesOn_writeCi (e : Env) (c : WqCtx) : Module.ClosesOn n m (m.writeCi e n c).2 where
  closing := fun ⟨d, hd, hs⟩ => ⟨d, (m.wq_writeCi e n c n).trans hd, hs⟩
  admin := by
    rw [m.writeCi_q e n c]
    rfl
  keeps := m.keeps_writeCi e n c
  frame := (m.writeCi_frame e n c).mono (by simp [virtParts, haltParts])

end

/-! ## DESTROY_WQ -/

/-- A queue starts to close: nothing of it is in flight or being pushed, and what had not started is flushed (R133, R146). -/
def Module.closeWq (m : Module) (n : Nat) (c : WqCtx) : Module :=
  let fl := m.unstarted n
  let m := (m.dropFetch n).setWq n { c with state := .closing }
  let m := m.setWqRt n { m.wqRt n with push := [], pushed := [], flushed := fl.length }
  (fl.foldl (fun m id => m.opDone id stFlushed 0 0 0 0) m).discardLists n

/-- ci is written where the link is there (R134, R156). -/
def Module.closeCi (m : Module) (e : Env) (n : Nat) (c : WqCtx) : Module :=
  if c.errCause = ecLinkReset && c.state = .error then m else (m.writeCi e n c).2

/-- What a ring that is not ACTIVE holds of the queue is discarded (R148). -/
def Module.closeHeld (m : Module) (n cr : Nat) : Module := if m.crActive cr then m else m.discardHeld cr (m.ofWq n)

section
variable (m : Module) (n : Nat) (c : WqCtx)

theorem Module.closeWq_spec : (m.closeWq n c).ClosingAt n ∧ (m.closeWq n c).q.admin = m.q.admin ∧ Module.Keeps ErrKept true m (m.closeWq n c) ∧
    Module.Frame haltParts m (m.closeWq n c) ∧ ∀ k r, m.cr k = some r → ((m.closeWq n c).cr k).isSome = true := by
  unfold Module.closeWq
  dsimp only
  generalize m.unstarted n = fl
  generalize hrt : { ((m.dropFetch n).setWq n { c with state := .closing }).wqRt n with push := [], pushed := [], flushed := fl.length } = rt
  have hset : Module.Frame [.q] m (((m.dropFetch n).setWq n { c with state := .closing }).setWqRt n rt) :=
    ((m.dropFetch_frame n).trans (Module.setWq_frame _ _ _)).trans (Module.setWqRt_frame _ _ _)
  have hfetch : (m.dropFetch n).q.admin = m.q.admin ∧ ∀ k, (m.dropFetch n).cr k = m.cr k := by
    unfold Module.dropFetch
    split <;> exact ⟨rfl, fun _ => rfl⟩
  have hclosing : (((m.dropFetch n).setWq n { c with state := .closing }).setWqRt n rt).ClosingAt n := ⟨_, Module.wq_setWq_same _ _ _, rfl⟩
  have hadmin : (((m.dropFetch n).setWq n { c with state := .closing }).setWqRt n rt).q.admin = m.q.admin := hfetch.1
  have hcr : ∀ k, (((m.dropFetch n).setWq n { c with state := .closing }).setWqRt n rt).cr k = m.cr k := hfetch.2
  generalize ((m.dropFetch n).setWq n { c with state := .closing }).setWqRt n rt = a at hset hclosing hadmin hcr
  have hends : a.OpsEnd ((fl.foldl (fun m id => m.opDone id stFlushed 0 0 0 0) a).discardLists n) :=
    (Module.OpsEnd.foldl _ (fun b id => b.opsEnd_opDone id _ _ _ _ _) fl a).trans (Module.opsEnd_discardLists _ n)
  have hkeeps : Module.Keeps ErrKept true a ((fl.foldl (fun m id => m.opDone id stFlushed 0 0 0 0) a).discardLists n) :=
    (Module.Keeps.foldl _ (fun b id => b.keeps_opDone id _ _ _ _ _) fl a).trans (Module.keeps_discardLists _ n)
  have hframe : Module.Frame haltParts a ((fl.foldl (fun m id => m.opDone id stFlushed 0 0 0 0) a).discardLists n) :=
    ((Module.foldl_frame _ (fun b id => b.opDone_frame id _ _ _ _ _) fl a).mono (by simp [haltParts])).trans
      ((Module.discardLists_frame _ n).mono (by simp [haltParts]))
  have hcloses : Module.ClosesOn n a _ := .of_opsEnd hends hkeeps hframe
  refine ⟨hcloses.closing hclosing, hcloses.admin.trans hadmin, (Module.Keeps.of_frame hset (by decide) (by decide) (by decide)).trans hkeeps,
    (hset.mono (by simp [haltParts])).trans hframe, fun k r hr => ?_⟩
  obtain ⟨b, -, hb⟩ := hends.cr k r ((hcr k).trans hr)
  rw [hb]
  rfl

theorem Module.closesOn_closeCi (e : Env) : Module.ClosesOn n m (m.closeCi e n c) := by
  unfold Module.closeCi
  split
  · exact .refl n m
  · exact m.closesOn_writeCi e c

theorem Module.cr_closeCi (e : Env) (k : Nat) : (m.closeCi e n c).cr k = m.cr k := by
  unfold Module.closeCi
  split
  · rfl
  · exact Module.cr_congr (m.writeCi_q e n c) k

theorem Module.closesOn_closeHeld (cr : Nat) : Module.ClosesOn n m (m.closeHeld n cr) := by
  unfold Module.closeHeld
  split
  · exact .refl n m
  · exact m.closesOn_discardHeld cr _

end

theorem destroyWq_eq {s : State} {id : Nat} {o : Op} (h : s.AdminNext 0x81 id o) (e : Env) {c : WqCtx}
    (htab : s.wqInTable (wqeField o.wqe 0x10 2) = true) (hc : s.wq (wqeField o.wqe 0x10 2) = some c) (hfree : c.state ≠ .free)
    (hn : wqeField o.wqe 0x10 2 ≠ 0) (hcr : (s.cr c.cr).isSome) {b : Module} (hb : (s.toModule.at e).adminBegin id o = b) :
    exec (.destroyWq e) s = .next (s.upd fun _ =>
      ((b.closeWq (wqeField o.wqe 0x10 2) c).closeCi e (wqeField o.wqe 0x10 2) c).closeHeld (wqeField o.wqe 0x10 2) c.cr) := by
  have hbegun := s.begun e id o
  rw [hb] at hbegun
  obtain ⟨r, hr⟩ := Option.isSome_iff_exists.mp hcr
  have hbc := (hbegun.wq _).trans hc
  have hpass : firstFail [(b.wqInTable (wqeField o.wqe 0x10 2), stAdminInvalid, 0x10),
      (!b.wqFree (wqeField o.wqe 0x10 2) && decide (wqeField o.wqe 0x10 2 ≠ 0), stAdminState, 0x10)] = none := by
    have hused : b.wqFree (wqeField o.wqe 0x10 2) = false := by simp [Module.wqFree, hbc, hfree]
    simp [firstFail, hbegun.wqInTable, htab, hused, hn]
  rw [exec_destroyWq, execDestroyWq, h.runs (by decide) e, hb]
  dsimp only
  rw [b.needWq_cached e hbc, b.checked_pass _ hpass]
  simp only [hbc]
  obtain ⟨r', hr'⟩ := Option.isSome_iff_exists.mp ((b.closeWq_spec (wqeField o.wqe 0x10 2) c).2.2.2.2 c.cr r ((hbegun.cr _).trans hr))
  have hneed := Module.needCr_cached _ e ((Module.cr_closeCi _ (wqeField o.wqe 0x10 2) c e c.cr).trans hr')
  exact congrArg (fun m => Host.Outcome.next (s.upd fun _ => Module.closeHeld m (wqeField o.wqe 0x10 2) c.cr)) hneed

theorem destroyWq_closes (id : Nat) (o : Op) (e : Env) (s : State) (c : WqCtx) (h : s.AdminNext 0x81 id o)
    (htab : s.wqInTable (wqeField o.wqe 0x10 2) = true) (hc : s.wq (wqeField o.wqe 0x10 2) = some c) (hfree : c.state ≠ .free)
    (hn : wqeField o.wqe 0x10 2 ≠ 0) (hcr : (s.cr c.cr).isSome) :
    Answers (exec (.destroyWq e) s) fun t => (∃ c', t.wq (wqeField o.wqe 0x10 2) = some c' ∧ c'.state = .closing) ∧
      (∀ link, t.wqTakes (wqeField o.wqe 0x10 2) link = false) ∧ (∃ a, t.q.admin = some a ∧ a.opcode = 0x81 ∧ a.op = id) ∧
      t.get F.adminCurBusy = 1 ∧ Touches errParts s t := by
  have heq := destroyWq_eq h e htab hc hfree hn hcr rfl
  have hadmin := h.admin (by decide) e (a := (s.toModule.at e).adminBegin id o) rfl
  have hbusy := (s.toModule.at e).adminBegin_busy id o
  have hframe := s.adminBegin_frame id o e
  generalize (s.toModule.at e).adminBegin id o = b at heq hadmin hbusy hframe
  obtain ⟨hclosing, hclosed, hkeeps, hframe', -⟩ := b.closeWq_spec (wqeField o.wqe 0x10 2) c
  have hrest := ((b.closeWq (wqeField o.wqe 0x10 2) c).closesOn_closeCi (wqeField o.wqe 0x10 2) c e).trans
    (Module.closesOn_closeHeld _ (wqeField o.wqe 0x10 2) c.cr)
  generalize ((b.closeWq (wqeField o.wqe 0x10 2) c).closeCi e (wqeField o.wqe 0x10 2) c).closeHeld (wqeField o.wqe 0x10 2) c.cr = t at heq hrest
  obtain ⟨c', hc', hs⟩ := hrest.closing hclosing
  obtain ⟨a, ha, hcommand⟩ := hadmin
  have htakes : ∀ link, t.wqTakes (wqeField o.wqe 0x10 2) link = false := fun link => by simp [Module.wqTakes, hc', hs]
  have hbusy' : t.get F.adminCurBusy = 1 := ((hkeeps.trans hrest.keeps).field _ ⟨by decide, by decide⟩ (by decide : F.adminCurBusy.reg ∉ errRegs)).trans hbusy
  exact ⟨_, heq, ⟨c', hc', hs⟩, htakes, ⟨a, (hrest.admin.trans hclosed).trans ha, hcommand⟩, hbusy',
    Module.Frame.touches_left (((hframe.mono (by simp [errParts])).trans (hframe'.mono haltParts_errParts)).trans (hrest.frame.mono haltParts_errParts))⟩

/-! ## WQ_CLOSE_DONE -/

/-- A closed queue goes: its entry is written back invalid, its context leaves, its ring's binds goes down (R133, R147). -/
def Module.removeWq (m : Module) (e : Env) (n : Nat) (c : WqCtx) : Module :=
  let c1 : WqCtx := { c with state := .free }
  let m := m.busWrite (m.get F.qctlWqtabLink) (m.wqAddr n) (c1.staticBytes false ++ c1.dynBytes)
  let m := { m with q := { m.q with wqs := KMap.erase m.q.wqs n, wqRt := KMap.erase m.q.wqRt n } }
  (m.needCr e c.cr).unbind c.cr

theorem Module.removeWq_eq (m : Module) (e : Env) (n : Nat) (c : WqCtx) {r : CrCtx} (hr : m.cr c.cr = some r) : ∃ a : Module,
    m.removeWq e n c = a.setCr c.cr { r with binds := r.binds - 1 } ∧
    a.q = { m.q with wqs := KMap.erase m.q.wqs n, wqRt := KMap.erase m.q.wqRt n } ∧ Module.Frame [.regs, .msix, .out, .q] m a := by
  unfold Module.removeWq
  dsimp only
  have hbus := m.busWrite_frame (m.get F.qctlWqtabLink) (m.wqAddr n)
    (({ c with state := .free } : WqCtx).staticBytes false ++ ({ c with state := .free } : WqCtx).dynBytes)
  generalize m.busWrite (m.get F.qctlWqtabLink) (m.wqAddr n)
    (({ c with state := .free } : WqCtx).staticBytes false ++ ({ c with state := .free } : WqCtx).dynBytes) = b at hbus
  have hq : b.q = m.q := hbus .q (by decide)
  have hcr : ({ b with q := { b.q with wqs := KMap.erase b.q.wqs n, wqRt := KMap.erase b.q.wqRt n } } : Module).cr c.cr = some r :=
    (Module.cr_congr hq _).trans hr
  refine ⟨{ b with q := { b.q with wqs := KMap.erase b.q.wqs n, wqRt := KMap.erase b.q.wqRt n } }, ?_, by rw [hq], ?_⟩
  · rw [Module.needCr_cached _ e hcr, Module.unbind_cached _ _ hcr]
  · exact (hbus.mono (by simp)).trans ((b.frame_q _).mono (by simp))

theorem wqCloseDone_eq {s : State} {a : AdminOp} (h : s.AdminRuns 0x81 a) (e : Env) {c : WqCtx} (hc : s.wq (wqeField a.wqe 0x10 2) = some c) :
    exec (.wqCloseDone e) s = .next (s.upd fun _ =>
      if decide (c.state ≠ .closing) || decide (c.outstanding ≠ 0) || s.q.ops.any (fun p => p.2.wq = wqeField a.wqe 0x10 2) then s.toModule.at e
      else ((s.toModule.at e).removeWq e (wqeField a.wqe 0x10 2) c).adminOk (s.wqRt (wqeField a.wqe 0x10 2)).flushed) := by
  have hc' : (s.toModule.at e).wq (wqeField a.wqe 0x10 2) = some c := hc
  have hrt : ∀ x y z, ((s.toModule.at e).busWrite x y z).wqRt (wqeField a.wqe 0x10 2) = s.wqRt (wqeField a.wqe 0x10 2) := fun x y z =>
    Module.wqRt_congr (m := s.toModule) ((s.toModule.at e).busWrite_q x y z) _
  rw [exec_wqCloseDone, execWqCloseDone]
  refine s.run_of _ ?_
  simp only [h.adminIs e, hc', hrt]
  rfl

theorem wqCloseDone_removes (a : AdminOp) (e : Env) (s : State) (c : WqCtx) (h : s.AdminRuns 0x81 a)
    (hc : s.wq (wqeField a.wqe 0x10 2) = some c) :
    (∀ r, c.state = .closing → c.outstanding = 0 → (∀ p ∈ s.q.ops, p.2.wq ≠ wqeField a.wqe 0x10 2) → s.cr c.cr = some r →
      Answers (exec (.wqCloseDone e) s) fun t => t.wq (wqeField a.wqe 0x10 2) = none ∧
        t.cr c.cr = some { r with binds := r.binds - 1 } ∧
        AdminCompletes s t a.op stSuccess (s.wqRt (wqeField a.wqe 0x10 2)).flushed 0 ∧ Touches [.regs, .msix, .out, .q, .now] s t) ∧
    (c.state ≠ .closing ∨ c.outstanding ≠ 0 ∨ (∃ p ∈ s.q.ops, p.2.wq = wqeField a.wqe 0x10 2) →
      exec (.wqCloseDone e) s = .next (s.upd fun m => m.at e)) := by
  have heq := wqCloseDone_eq h e hc
  refine ⟨fun r hs hout hops hr => ?_, fun hwait => ?_⟩
  · rw [if_neg (by simpa [hs, hout] using hops)] at heq
    have hr' : (s.toModule.at e).cr c.cr = some r := hr
    obtain ⟨b, hremove, hq, hframe⟩ := (s.toModule.at e).removeWq_eq e (wqeField a.wqe 0x10 2) c hr'
    rw [hremove] at heq
    have hspares : Module.Spares a.op (s.toModule.at e) (b.setCr c.cr { r with binds := r.binds - 1 }) :=
      Module.Spares.trans (a := b) ⟨by rw [hq], by rw [Module.op, hq]; rfl, by rw [hq]⟩ (Module.spares_setCr _ _)
    have hprog := hspares.inProgress (show (s.toModule.at e).InProgress a.op from h.inProgress)
    refine ⟨_, heq, (hprog.wq_adminEnd _ _ _ _).trans ?_, (hprog.cr_adminEnd _ _ _ _).trans (Module.cr_setCr_same _ _ _), hprog.completes hspares.done _ _ _,
      Module.Frame.touches_left (((((s.toModule.at_frame e).mono ?_).trans (hframe.mono ?_)).trans ((b.setCr_frame _ _).mono ?_)).trans
        ((hprog.adminEnd_frame _ _ _).mono ?_))⟩
    · rw [Module.wq_setCr, Module.wq, hq]
      exact KMap.get_erase_same _ _
    all_goals simp
  · rw [if_pos (by simpa [or_assoc] using hwait)] at heq
    exact heq

/-! ## DESTROY_CR -/

/-- A ring that is not ACTIVE discards what it holds (R148). -/
def Module.emptyCr (m : Module) (n : Nat) : Module := if m.crActive n then m else m.discardHeld n fun _ => true

/-- A ring goes: its entry is written back invalid and its context leaves (R146). -/
def Module.removeCr (m : Module) (n : Nat) (c : CrCtx) : Module :=
  let c1 : CrCtx := { c with state := .free }
  let m := m.busWrite (m.get F.qctlWqtabLink) (m.crAddr n) (c1.staticBytes false ++ c1.dynBytes)
  { m with q := { m.q with crs := KMap.erase m.q.crs n, crRt := KMap.erase m.q.crRt n } }

section
variable (m : Module) (n : Nat)

theorem Module.emptyCr_frame : Module.Frame discardParts m (m.emptyCr n) := by
  unfold Module.emptyCr
  split
  · exact .refl _ m
  · exact m.discardHeld_frame n _

theorem Module.keeps_emptyCr : Module.Keeps ErrKept true m (m.emptyCr n) := by
  unfold Module.emptyCr
  split
  · exact .refl m
  · exact m.keeps_discardHeld n _

theorem Module.spares_emptyCr {id : Nat} (h : ∀ k ∈ (m.crRt n).held, k.owner ≠ .op id) : Module.Spares id m (m.emptyCr n) := by
  unfold Module.emptyCr
  split
  · exact .refl m
  · exact m.spares_discardHeld n _ h

/-- A ring without binds that holds nothing while ACTIVE can go. -/
theorem Module.cr_emptyCr {c : CrCtx} (hc : m.cr n = some c) (hbinds : c.binds = 0) (hheld : c.state = .active → (m.crRt n).held = []) :
    ∃ v, (m.emptyCr n).cr n = some { c with ovf := v } ∧ ((m.emptyCr n).crActive n && !((m.emptyCr n).crRt n).held.isEmpty) = false := by
  have hactive : m.crActive n = decide (c.state = .active) := by simp only [Module.crActive, hc]
  unfold Module.emptyCr
  rw [hactive]
  by_cases hs : c.state = .active
  · rw [if_pos (by simp [hs])]
    exact ⟨c.ovf, hc, by simp [hheld hs]⟩
  · rw [if_neg (by simp [hs])]
    obtain ⟨b, hb, v, hv⟩ := m.cr_discardHeld n (fun _ => true) hc
    obtain rfl : b = c.binds := by omega
    exact ⟨v, hv, by simp [Module.crActive, hv, hs]⟩

theorem Module.removeCr_spec (c : CrCtx) : (m.removeCr n c).cr n = none ∧ Module.Frame [.regs, .msix, .out, .q] m (m.removeCr n c) ∧
    ∀ id, Module.Spares id m (m.removeCr n c) := by
  refine ⟨KMap.get_erase_same _ _, ((m.busWrite_frame _ _ _).mono (by simp)).trans ((Module.frame_q _ _).mono (by simp)), fun id => ?_⟩
  exact (m.spares_busWrite id _ _ _).trans ⟨rfl, rfl, rfl⟩

end

theorem destroyCr_eq {s : State} {id : Nat} {o : Op} (h : s.AdminNext 0x84 id o) (e : Env) {c : CrCtx}
    (htab : s.crInTable (wqeField o.wqe 0x10 2) = true) (hc : s.cr (wqeField o.wqe 0x10 2) = some c) (hfree : c.state ≠ .free)
    (hn : wqeField o.wqe 0x10 2 ≠ 0) (hbinds : c.binds = 0) (hheld : c.state = .active → (s.crRt (wqeField o.wqe 0x10 2)).held = [])
    {b : Module} (hb : (s.toModule.at e).adminBegin id o = b) :
    ∃ v, exec (.destroyCr e) s = .next (s.upd fun _ =>
      ((b.emptyCr (wqeField o.wqe 0x10 2)).removeCr (wqeField o.wqe 0x10 2) { c with ovf := v }).adminOk 0) := by
  have hbegun := s.begun e id o
  rw [hb] at hbegun
  have hbc := (hbegun.cr _).trans hc
  have hkeeps := b.keeps_emptyCr (wqeField o.wqe 0x10 2)
  obtain ⟨v, hv, hempty⟩ := b.cr_emptyCr (wqeField o.wqe 0x10 2) hbc hbinds (by rw [hbegun.crRt]; exact hheld)
  have htab' : (b.emptyCr (wqeField o.wqe 0x10 2)).crInTable (wqeField o.wqe 0x10 2) = true := by
    have hget : ∀ f, f.reg = 0x28020 ∨ f.reg = 0x28048 → (b.emptyCr (wqeField o.wqe 0x10 2)).get f = b.get f := by
      intro f hf
      refine hkeeps.field f ?_ ?_
      · rcases hf with hf | hf <;> rw [hf] <;> exact ⟨by decide, by decide⟩
      · rcases hf with hf | hf <;> rw [ErrKept, hf] <;> decide
    rw [← htab, ← hbegun.crInTable]
    simp only [Module.crInTable, Module.running, Module.flag, hget (F.pgBlock pgQctl 0 0) (.inl rfl), hget F.qctlCrtabSize (.inr rfl)]
  refine ⟨v, ?_⟩
  rw [exec_destroyCr, execDestroyCr, h.runs (by decide) e, hb]
  dsimp only
  rw [b.needCr_cached e hbc]
  have hif : (if b.crActive (wqeField o.wqe 0x10 2) then b else b.discardHeld (wqeField o.wqe 0x10 2) fun _ => true) =
    b.emptyCr (wqeField o.wqe 0x10 2) := rfl
  rw [hif]
  generalize b.emptyCr (wqeField o.wqe 0x10 2) = a at hv hempty htab'
  have hused : a.crFree (wqeField o.wqe 0x10 2) = false := by simp [Module.crFree, hv, hfree]
  simp only [hv]
  rw [a.checked_pass _ (by simp [firstFail, htab', hused, hn, hbinds, hempty])]
  simp only [hv]
  rfl

theorem destroyCr_removes (id : Nat) (o : Op) (e : Env) (s : State) (c : CrCtx) (h : s.AdminNext 0x84 id o)
    (htab : s.crInTable (wqeField o.wqe 0x10 2) = true) (hc : s.cr (wqeField o.wqe 0x10 2) = some c) (hfree : c.state ≠ .free)
    (hn : wqeField o.wqe 0x10 2 ≠ 0) (hbinds : c.binds = 0) (hheld : c.state = .active → (s.crRt (wqeField o.wqe 0x10 2)).held = [])
    (howners : ∀ k ∈ (s.crRt (wqeField o.wqe 0x10 2)).held, k.owner ≠ .op id) :
    Answers (exec (.destroyCr e) s) fun t => t.cr (wqeField o.wqe 0x10 2) = none ∧ AdminCompletes s t id stSuccess 0 0 ∧
      Touches [.regs, .msix, .out, .q, .x, .smp, .now] s t := by
  obtain ⟨v, heq⟩ := destroyCr_eq h e htab hc hfree hn hbinds hheld rfl
  have hempty := ((s.toModule.at e).adminBegin id o).spares_emptyCr (wqeField o.wqe 0x10 2) (id := id) (by rw [Module.crRt_adminBegin]; exact howners)
  have hframe := (s.adminBegin_frame id o e).mono (by simp : _ ⊆ [.regs, .msix, .out, .q, .x, .smp, .now]) |>.trans
    ((((s.toModule.at e).adminBegin id o).emptyCr_frame (wqeField o.wqe 0x10 2)).mono (by simp [discardParts]))
  generalize ((s.toModule.at e).adminBegin id o).emptyCr (wqeField o.wqe 0x10 2) = a at heq hempty hframe
  obtain ⟨hnone, hremove, hspares⟩ := a.removeCr_spec (wqeField o.wqe 0x10 2) { c with ovf := v }
  have hall := hempty.trans (hspares id)
  have hprog := h.inProgress e hall
  exact ⟨_, heq, (hprog.cr_adminEnd _ _ _ _).trans hnone, h.completes e hall _ _ _,
    Module.Frame.touches_left ((hframe.trans (hremove.mono (by simp))).trans ((hprog.adminEnd_frame _ _ _).mono (by simp)))⟩

/-- Settles O25: a queue that closes, one that goes, and a ring that goes. -/
theorem adminDestroysQueues : Obligations.AdminDestroysQueues := ⟨destroyWq_closes, wqCloseDone_removes, destroyCr_removes⟩

end Sys2Proof.Machine

/-! PROOFS. Connections and the packets of the inbox: the rules that the family "transport" shares (R201, R204, R214). -/

namespace Sys2Proof.Machine

set_option Elab.async false

/-! ## Connections of the cache -/

section
variable (m : Module) {cid : Nat} {c : Conn} {remote nd slot : Nat}

@[simp] theorem Module.conn_setConn_same : (m.setConn cid c).conn cid = some c := KMap.get_put_same _ _ _

@[simp] theorem Module.conn_setConn_other {other : Nat} (h : other ≠ cid) : (m.setConn cid c).conn other = m.conn other :=
  KMap.get_put_other _ _ _ _ h

theorem Module.conn_congr {a : Module} (h : a.x = m.x) (cid : Nat) : a.conn cid = m.conn cid := by rw [Module.conn, h, Module.conn]

theorem Module.onConn_cached (f : Conn → Conn) (h : m.conn cid = some c) : m.onConn cid f = m.setConn cid (f c) := by
  rw [Module.onConn, h]

theorem Module.needConn_cached (hcid : m.cidOf remote nd = some cid) (hc : m.conn cid = some c) :
    m.needConn remote nd slot = (some cid, m) := by
  simp [Module.needConn, Module.haveConn, hcid, hc]

theorem Module.ctlConn_cached {p : Packet} (hkey : (m.keyOf p.nd).isSome) (hcid : m.cidOf p.src p.nd = some cid) (hc : m.conn cid = some c) :
    m.ctlConn p = some (cid, c, m) := by
  obtain ⟨⟨slot, key⟩, hkey⟩ := Option.isSome_iff_exists.1 hkey
  simp [Module.ctlConn, hcid, hkey, m.needConn_cached hcid hc, hc]

end

/-! ## Packets taken from the inbox -/

section
variable {s : State} {k cid : Nat} {p : Packet} {c : Conn}

theorem State.arrivingRaw_whole (h : s.Whole k p) {opcode : Nat} (hop : p.opcode = opcode) (e : Env) (f : Module → Packet → Module) :
    s.arrivingRaw k opcode e f = .next (s.upd fun _ => f (s.took k e).toModule p) := by
  obtain ⟨hin, hgood, htrim, hmc⟩ := h
  refine s.run_of _ ?_
  have htake : (s.toModule.at e).takeInbox k (fun p => p.opcode = opcode && !malformed p && !p.trimmed) =
      some (p, (s.took k e).toModule) := by
    simp only [Module.takeInbox, show (s.toModule.at e).x = s.x from rfl, hin]
    simp [hop, hgood, htrim, State.took, State.upd]
  simp [htake, hmc]

theorem State.Inbox.arriving {p : Opened} (h : s.Inbox k p) {opcode : Nat} (hop : p.opcode = opcode) (e : Env) (f : Module → Opened → Module) :
    s.arriving k opcode e f = .next (s.upd fun _ => f (s.took k e).toModule p) := by
  obtain ⟨hwhole, hview⟩ := h
  have hview' : (s.took k e).view p.toPacket = p := hview
  rw [State.arriving, State.arrivingRaw_whole hwhole hop, hview']

end

/-! ## Packets sealed and opened -/

/-- A packet as it travels, sealed under a key, with what that key opens. -/
def Opened.sealed (p : Opened) (key : List Byte) : Opened :=
  { toPacket := sealPacket key false p, opw := p.opw, ext := p.ext, payload := p.payload, auth := true }

theorem Opened.open_sealed {key : List Byte} (p : Opened) (hkey : key.length = 32) (hfits : p.Fits) :
    openPacket key false (p.sealed key).toPacket = some (p.sealed key) := openPacket_sealPacket key false p hkey hfits

theorem Opened.sealed_whole {key : List Byte} (p : Opened) (hkey : key.length = 32) (hop : wireAssigned p.opcode = true)
    (hr : p.rsvd = 0) (hrl : p.rsvdLow = 0) (hnd : p.nd ≠ 0xFFFF) (hf : p.flits = flitsOf p.ext.length p.payload.length) :
    malformed (p.sealed key).toPacket = false := by
  have hbody : (p.sealed key).body.length = 128 * flitsOf p.ext.length p.payload.length - 24 := sealPacket_length key false p hkey
  have hflits : (p.sealed key).flits = ceilDiv (24 + (p.sealed key).body.length) 128 := by
    rw [hbody, show (p.sealed key).flits = p.flits from rfl, hf, flitsOf, ceilDiv, ceilDiv]
    omega
  simp only [malformed, ← hflits]
  simp [Opened.sealed, sealPacket, hop, hr, hrl, hnd]

end Sys2Proof.Machine

/-! PROOFS. The counterexamples to O30 and O31. Both statements range over every state, and each fails in one that no run reaches: past
the key slots of R205, the word that holds a slot's injection profile (R409) is a counter of XPT[0], which the command counts before
it asks the injection shaper. -/

namespace Sys2Proof.Machine

set_option Elab.async false

/-! ## A key slot whose profile is a counter -/

/-- A connection of a key slot to module 2 in ND 7, open both ways. -/
def openConn (slot : Nat) : Conn :=
  { remote := 2, nd := 7, slot := slot, txState := .open, rxState := .open, peerNonce := 0, txEpoch := 0, rxEpoch := 0, txNext := 0,
    txBase := 0, txMsn := 0, rxBase := 0, rxCsn := 0, rxMsn := 0, srtt := 0, rttvar := 0, sampled := false, rto := 0, rsnSent := 0,
    rsnRcvd := 0, lastChal := 0, chalFree := 0, probes := 0, probeDue := 0, probeRnr := none, failOps := [], greeted := false,
    bitmap := [], msgs := [], tx := [], rnrDelay := 0, ndRun := none, ackPend := 0, ackTc := 0, ackDue := 0, ackQuiet := 0,
    rxMsgs := [], seen := [], anew := false, rsnAhead := [], trims := [] }

/-- A packet of TC 7 to this module in ND 7, with an opcode and an operation part, and nothing behind them. -/
def barePart (src opcode : Nat) (opw : Word) : Opened :=
  { dst := 0, src := src, tc := 7, rmode := 0, vgroup := 0, hops := 0, trimmed := false, mcast := false, ordered := false,
    cmark := false, flits := 1, msn := 0, rsvd := 0, nd := 7, psn := 0, attempt := 0, opcode := opcode, epoch := 0, rsvdLow := 0,
    body := [], opw := opw, ext := [], payload := [], auth := true }

/-- The descriptor of a packet of the module to itself that waits for its acknowledgement. -/
def sentPkt : TxPkt :=
  { psn := 0, epoch := 0, msg := 0, off := 0, pkt := barePart 0 0x10 0, sentAt := 0, acked := false, reread := false, rnr := none,
    held := false }

/-- A connection of a key slot with that packet on its way, and packets in the inbox. The bucket pair of profile 1 is empty, and its
peak rate the least. -/
def shapedConn (slot : Nat) : Conn := { openConn slot with tx := [sentPkt] }
def shapedState (slot : Nat) (l : List Packet) : State :=
  State.reset.upd fun m =>
    { (m.put ⟨injReg 1 7, 63, 0⟩ 0) with
      x := { m.x with keys := [(slot, ⟨7, 99⟩)], conns := [(0, shapedConn slot)], inbox := l }
      n := { m.n with inj := [(15, ⟨0, 0, 0⟩)] } }

theorem shapedConn_msgs_all (slot : Nat) (P : Msg → Prop) : ∀ g ∈ (shapedConn slot).msgs, P g := List.forall_mem_nil P

theorem shapedState_settled (slot : Nat) (l : List Packet) : (shapedState slot l).Settled :=
  ⟨by simp [shapedState, State.upd, shapedConn, openConn], rfl, nofun, nofun⟩

/-! ## O30: counter 2 counts timeouts -/

theorem exec_retransmitTimeout (cid : Nat) (e : Env) (s : State) : exec (.retransmitTimeout cid e) s = execRetransmitTimeout cid e s := rfl

theorem shaped_timeout_holds : ∃ t, execRetransmitTimeout 0 ⟨0, []⟩ (shapedState 3744 []) = .next t ∧
    (t.conn 0).map (fun k => k.tx.map (·.held)) = some [true] :=
  ⟨_, rfl, by decide +kernel⟩

/-- Refutes O30: the timeout of a connection of slot 3,744 counts in the register of its profile, and the shaper, which admitted the
packet before the command, holds it under profile 1. -/
theorem not_packetsGoOut : ¬ Obligations.PacketsGoOut := by
  rintro ⟨-, hAgain, -⟩
  have hcase := hAgain 0 ⟨0, []⟩ (shapedState 3744 []) (shapedConn 3744) sentPkt (directionKey 99 0 7 0 2 0) rfl rfl rfl rfl rfl rfl
    (by decide) (shapedState_settled _ _) (shapedConn_msgs_all 3744 _) rfl (by decide +kernel)
  obtain ⟨t, ht, ⟨⟨k, x, hk, hx, -, -, -, hfree⟩, -⟩, -⟩ := hcase.1 rfl (by decide)
  obtain ⟨t', ht', hheld⟩ := shaped_timeout_holds
  rw [exec_retransmitTimeout, ht'] at ht
  cases ht
  simp [hk, hx, hfree] at hheld

/-! ## O31: counter 11 counts NACKs -/

section
variable {s : State} {k cid : Nat} {p : Opened} {c : Conn}

theorem Module.slotKey_congr {m a : Module} (h : a.x.keys = m.x.keys) (slot : Nat) : a.slotKey slot = m.slotKey slot := by
  rw [Module.slotKey, h, Module.slotKey]

theorem Module.openControl_count (m : Module) (tile n : Nat) (hn : n < 256) (c : Conn) (p : Packet) :
    (m.count (pgXpt tile) n).openControl c p = m.openControl c p := by
  have hfa : (m.count (pgXpt tile) n).fa = m.fa := by
    simp only [Module.fa, Module.get, Module.count, m.countUp_word_quiet (pgXpt tile) n 1 _ hn (⟨by decide, by decide⟩ : Quiet F.devFaddrFa.reg)]
  simp only [Module.openControl, Module.sendKey, hfa]
  simp [Module.slotKey, Module.count]

/-- A tagged NACK that its direction takes (R214, R226). -/
theorem State.Controls.nack (h : s.Controls k p cid c) (hop : p.opcode = wNack) (htag : untagged p.toPacket = false) (e : Env) :
    execNack k e s = .next (s.upd fun _ => ((((s.took k e).count (pgXpt (tileOfCid cid)) 11).nacked e cid c (bits p.opw 63 40)
      (bits p.opw 39 32) (bits p.opw 31 24)).completeMsgs e cid msgFuel).settle e) := by
  obtain ⟨hwhole, hkey, hcid, hc, hsend, hep, hopen, -⟩ := h
  rw [execNack, State.arrivingRaw_whole hwhole hop]
  have hctl : (s.took k e).ctlConn p.toPacket = some (cid, c, (s.took k e).toModule) := Module.ctlConn_cached _ hkey hcid hc
  have hopened : ((s.took k e).count (pgXpt (tileOfCid cid)) 11).openControl c p.toPacket = some p :=
    (Module.openControl_count _ _ _ (by decide) _ _).trans hopen
  simp [hctl, htag, hsend, hep, hopened]

end

theorem exec_nack (k : Nat) (e : Env) (s : State) : exec (.nack k e) s = execNack k e s := rfl

/-- A NACK TRIMMED of the packet, sealed under the key of the direction. -/
def trimNackPart : Opened := barePart 2 wNack (BitVec.ofNat 64 (nkTrimmed * 2 ^ 24))
def trimNack : Opened := trimNackPart.sealed (directionKey 99 0 7 0 2 0)

theorem trimNack_whole : malformed trimNack.toPacket = false :=
  trimNackPart.sealed_whole (directionKey_length ..) rfl rfl rfl (by decide) rfl

theorem trimNack_opens : (shapedState 3888 [trimNack.toPacket]).openControl (shapedConn 3888) trimNack.toPacket = some trimNack := by
  have hkey : (shapedState 3888 [trimNack.toPacket]).sendKey (shapedConn 3888) 0 trimNack.epoch = some (directionKey 99 0 7 0 2 0) := rfl
  have hfits : trimNackPart.Fits := ⟨rfl, rfl⟩
  rw [Module.openControl, show (shapedConn 3888).peerNonce = 0 from rfl, hkey, Option.bind_some, trimNack,
    trimNackPart.open_sealed (directionKey_length ..) hfits]

theorem trimNack_tagged : untagged trimNack.toPacket = false := by decide +kernel

theorem trimNack_controls : (shapedState 3888 [trimNack.toPacket]).Controls 0 trimNack 0 (shapedConn 3888) :=
  ⟨⟨rfl, trimNack_whole, rfl, rfl⟩, rfl, rfl, rfl, rfl, rfl, trimNack_opens, shapedState_settled _ _⟩

/-- The NACK counts, and the shaper of profile 1 holds the packet: it does not go out. -/
theorem shaped_nack_sends_nothing :
    ((((((shapedState 3888 [trimNack.toPacket]).took 0 ⟨0, []⟩).count (pgXpt (tileOfCid 0)) 11).nacked ⟨0, []⟩ 0 (shapedConn 3888)
      (bits trimNack.opw 63 40) (bits trimNack.opw 39 32) (bits trimNack.opw 31 24)).completeMsgs ⟨0, []⟩ 0 msgFuel).settle
      ⟨0, []⟩).x.inbox = [] := by
  decide +kernel

/-- Without a group, a packet of TC 7 to the module's own FA is handed to its own transport tile (R455, R767). -/
theorem Module.originate_own {m : Module} {p : Packet} (tile : Nat) (hg : m.groupValid = false) (hc : p.tc = 7) (hd : p.dst = m.fa)
    (hmark : p.cmark = false) : (m.originate tile p).x.inbox = m.x.inbox ++ [{ p with hops := 0 }] := by
  simp [Module.originate, Module.route, hg, hc, hd, Module.deliverHere, hmark]

/-- Refutes O31: the NACK of a connection of slot 3,888 counts in the register of its profile, and the shaper, which admitted the
packet before the command, holds it under profile 1, so that it does not go out. -/
theorem not_controlPacketsSteerTheSender : ¬ Obligations.ControlPacketsSteerTheSender := by
  rintro ⟨-, -, hNack, -⟩
  have hcase := hNack 0 ⟨0, []⟩ (shapedState 3888 [trimNack.toPacket]) trimNack 0 (shapedConn 3888) sentPkt trimNack_controls rfl
    trimNack_tagged (shapedConn_msgs_all 3888 _) (by decide +kernel)
  obtain ⟨t, ht, ⟨key, hkey, m, hn, hin, -, -, -, hregs, -, hout⟩, -⟩ := hcase.2 (by decide) (by decide) (by decide) rfl (by decide +kernel)
  rw [exec_nack, trimNack_controls.nack rfl trimNack_tagged] at ht
  cases ht
  have hword : m.word 0x48 = (shapedState 3888 []).word 0x48 := hregs 0x48 (by decide)
  have hgroup : m.groupValid = false := by
    rw [Module.groupValid, Module.flag, Module.get, show F.devFaddrValid.reg = 0x48 from rfl, hword]
    decide
  have hfa : m.fa = 0 := by
    rw [Module.fa, Module.get, show F.devFaddrFa.reg = 0x48 from rfl, hword]
    decide
  have hsent := m.originate_own (tileOfCid 0) hgroup (p := sealPacket key false { sentPkt.pkt with
      attempt := sentPkt.pkt.attempt + 1
      flits := flitsOf sentPkt.pkt.ext.length sentPkt.pkt.payload.length }) rfl hfa.symm rfl
  have hnone := hout.symm.trans hsent
  rw [State.upd, shaped_nack_sends_nothing] at hnone
  simp at hnone

end Sys2Proof.Machine

/-! PROOFS. The counterexample to O49, in its clause of a STORE_PUT packet that fails a check of R586. The statement leaves the map of
seen MSNs free: it ranges over connections with more of them marked than the 512 ahead of rx_msn. -/

namespace Sys2Proof.Machine

set_option Elab.async false

theorem exec_storePutPacket (k : Nat) (e : Env) (s : State) : exec (.storePutPacket k e) s = execStorePutPacket k e s := rfl

/-- A connection whose rx_msn 0 has the MSNs 0 to 512 marked ahead of it. When rx_msn passes them all, the record of the MSN that lies
513 before it goes, and that is MSN 0 (R308). -/
def fullConn : Conn := { openConn 1 with seen := List.range 513 }

/-- A region whose target is object 9, with the right to write. -/
def storeRegion : Region :=
  { storeTarget := true, generation := 5, tag := 0, baseVa := 0, length := 0x1000, asid := 0, link := 0, rd := true, wr := true,
    atomic := false, allowSe := false, pcieAtomic := false, objectId := 9, revoking := false }

/-- A first STORE_PUT packet of MSN 0 to that region, with no byte, sealed under the key of its direction. -/
def putPart : Opened :=
  { barePart 2 wStorePut (dataOpw 0 true false 0 0) with ext := beBytes 8 (3 * 2 ^ 40 + 5 * 2 ^ 32) ++ beBytes 8 0 }
def storePut : Opened := putPart.sealed (directionKey 99 0 7 2 0 0)

/-- The region cached under key 3 of ND 7, no object on the store, and the packet in the inbox. -/
def storeState : State :=
  State.reset.upd fun m => { m with x := { m.x with
    keys := [(1, ⟨7, 99⟩)]
    dirs := [(1, ⟨4, 0, 9⟩)]
    regions := [(regionKey 1 3, storeRegion)]
    conns := [(0, fullConn)]
    inbox := [storePut.toPacket] } }

theorem storePut_inbox : storeState.Inbox 0 storePut := by
  have hfits : putPart.Fits := ⟨rfl, rfl⟩
  have hkey : storeState.recvKey storePut.nd storePut.src storePut.epoch = some (directionKey 99 0 7 2 0 0) := rfl
  refine ⟨⟨rfl, putPart.sealed_whole (directionKey_length ..) rfl rfl rfl (by decide) rfl, rfl, rfl⟩, ?_⟩
  rw [Module.view, hkey, Option.bind_some, storePut, putPart.open_sealed (directionKey_length ..) hfits, Option.getD_some]

theorem storePut_receives : storeState.Receives 0 storePut 0 fullConn :=
  ⟨storePut_inbox, rfl, rfl, rfl, rfl, rfl, rfl, by decide, List.not_mem_nil, by decide, rfl,
    ⟨by simp [storeState, State.upd, fullConn, openConn], rfl, nofun, nofun⟩⟩

theorem storePut_granted : storeState.Grants storePut.nd (putAsk storePut .storePut) 1 storeRegion :=
  ⟨99, ⟨4, 0, 9⟩, by decide +kernel⟩

/-- The message fails with STORE_NO_OBJECT; then its MSN is seen, and its record goes. -/
theorem storePut_forgotten : ∃ t, execStorePutPacket 0 ⟨0, []⟩ storeState = .next t ∧
    (t.conn 0).map (fun c => (c.rxMsg storePut.msn).failed) = some none :=
  ⟨_, storePut_inbox.arriving (opcode := wStorePut) rfl _ _, by decide +kernel⟩

/-- Refutes O49: with 513 MSNs seen the record of the failed message goes with the packet that failed it. -/
theorem not_storePutsAndSyncs : ¬ Obligations.StorePutsAndSyncs := by
  rintro ⟨-, hPut, -⟩
  obtain ⟨-, -, hFail⟩ := hPut 0 ⟨0, []⟩ storeState storePut 0 fullConn 1 storeRegion storePut_receives rfl rfl rfl (by decide +kernel) rfl
    (by decide) storePut_granted
  obtain ⟨t, ht, -, -, -, c, hc, hfailed⟩ := hFail stStoreNoObject 0 (by decide +kernel) rfl rfl (by decide +kernel)
  obtain ⟨t', ht', hnone⟩ := storePut_forgotten
  rw [exec_storePutPacket, ht'] at ht
  cases ht
  simp [hc, hfailed] at hnone

end Sys2Proof.Machine

/-! PROOFS. What handing a packet over for its first hop changes (R422–R444, R472): registers of the ROUTE page, the queues of ports, the
inbox, the counter of draws, and messages of events. -/

namespace Sys2Proof.Machine

set_option Elab.async false

theorem Module.frame_n (m : Module) (n : Net) : Module.Frame [.n] m { m with n := n } := by
  intro p hp
  cases p <;> simp_all [Part.same]

/-! ## The frame of an origination -/

/-- What the choice of a hop and the hand-over of a packet may change of a module. -/
structure Module.Routed (m a : Module) : Prop where
  frame : Module.Frame [.regs, .msix, .out, .x, .n, .draws] m a
  x : a.x = { m.x with inbox := a.x.inbox }
  word : ∀ r, r / 0x1000 ≠ pgRoute → ¬ EventRegs pgRoute r → a.word r = m.word r
  out : ∃ l, a.out = m.out ++ l ∧ l.all Emit.isEvent = true

section
variable {m a b : Module}

theorem Module.Routed.refl (m : Module) : m.Routed m := ⟨Module.Frame.refl _ m, rfl, fun _ _ _ => rfl, [], by simp, rfl⟩

theorem Module.Routed.trans (h : m.Routed a) (k : a.Routed b) : m.Routed b := by
  obtain ⟨l, hl, hle⟩ := h.out
  obtain ⟨l', hl', hle'⟩ := k.out
  refine ⟨h.frame.trans k.frame, ?_, fun r hp he => (k.word r hp he).trans (h.word r hp he), l ++ l', by simp [hl, hl'], by simp [hle, hle']⟩
  have hx := k.x
  rw [h.x] at hx
  exact hx

theorem Module.Routed.of_same (hf : Module.Frame [.n, .draws] m a) : m.Routed a := by
  have hregs : a.regs = m.regs := hf .regs (by simp)
  have hx : a.x = m.x := hf .x (by simp)
  have hout : a.out = m.out := hf .out (by simp)
  refine ⟨hf.mono (by simp), by rw [hx], fun r _ _ => ?_, [], by simp [hout], rfl⟩
  rw [Module.word, hregs, Module.word]

theorem Module.Routed.conn (h : m.Routed a) (cid : Nat) : a.conn cid = m.conn cid := by rw [Module.conn, h.x, Module.conn]

theorem Module.routed_draw (m : Module) : m.Routed m.draw.2 := .of_same fun p hp => by cases p <;> simp_all [Part.same, Module.draw]

theorem Module.routed_count (m : Module) (n : Nat) (hn : n < 256) : m.Routed (m.count pgRoute n) := by
  refine ⟨(m.countUp_frame _ _ _).mono (by simp), by simp [Module.count], fun r hp he => ?_, m.countUp_out _ _ _⟩
  refine m.countUp_word pgRoute n 1 r ?_ fun h => he ?_
  · rw [pgRoute] at hp ⊢
    omega
  · rcases h with h | h | h
    exacts [.inr (.inl h), .inr (.inl h), .inr (.inr h)]

theorem Module.routed_raise (m : Module) (c : Nat) : m.Routed (m.raise pgRoute c) :=
  ⟨(m.raise_frame _ _).mono (by simp), by simp, fun r _ he => m.raise_word pgRoute c r he, m.raise_out _ _⟩

/-- Of an answer beside a module, by cases. -/
theorem Module.routed_ite {α : Type} {p : Prop} [Decidable p] {x y : α × Module} (hx : m.Routed x.2) (hy : m.Routed y.2) :
    m.Routed (if p then x else y).2 := by
  split
  exacts [hx, hy]

end

/-! ## The choice of a hop -/

section
variable (m : Module)

theorem Module.routed_drawValiant (tbl : List (Nat × Word)) (p : Packet) (groups : List Nat) (n : Nat) :
    ∀ m : Module, m.Routed (m.drawValiant tbl p groups n).2 := by
  induction n with
  | zero => exact Module.Routed.refl
  | succ n ih =>
    intro m
    rw [Module.drawValiant]
    dsimp only
    split
    · exact .refl m
    · split
      · exact m.routed_draw
      · exact m.routed_draw.trans (ih _)

theorem Module.routed_chooseMode (tbl : List (Nat × Word)) (p : Packet) : m.Routed (m.chooseMode tbl p).2 := by
  unfold Module.chooseMode
  dsimp only
  split
  · exact .refl m
  · generalize (if m.get F.routeCfgNgroups ≤ 2 then [] else (List.range (m.get F.routeCfgNgroups)).filter
      (fun g => g ≠ faGroup m.fa && g ≠ faGroup p.dst)) = groups
    have hdrawn : m.Routed (if groups.isEmpty then (none, m) else m.drawValiant tbl p groups 4).2 :=
      Module.routed_ite (.refl m) (Module.routed_drawValiant _ _ _ _ m)
    generalize (if groups.isEmpty = true then (none, m) else m.drawValiant tbl p groups 4) = r at hdrawn ⊢
    split
    · exact hdrawn
    · exact hdrawn
    · exact hdrawn
    · split
      · exact hdrawn
      · split <;> exact hdrawn

theorem Module.routed_drawDetour (ports : List Nat) (minimal : Option Nat) (tc : Nat) : m.Routed (m.drawDetour ports minimal tc).2 := by
  unfold Module.drawDetour
  split
  exacts [.refl m, m.routed_draw]

theorem Module.routed_startChoice (p : Packet) (x y : Option Nat) (dx dy bare : Bool) :
    m.Routed (m.startChoice p x y dx dy bare).2 := by
  have hdetour : ∀ (a : Module) (b : Bool) (l : List Nat) (o : Option Nat),
      a.Routed (if b = true then a.drawDetour l o p.tc else (none, a)).2 :=
    fun a _ _ _ => Module.routed_ite (a.routed_drawDetour _ _ _) (.refl a)
  unfold Module.startChoice
  exact Module.routed_ite (.refl m) ((hdetour m _ _ _).trans (hdetour _ _ _ _))

theorem Module.routed_inGroup (p : Packet) (arr : Option Nat) (chassis slot : Nat) (quad : Option Nat) :
    m.Routed (m.inGroup p arr chassis slot quad).2 := by
  have hanswer : ∀ r : Option Nat × Module, m.Routed r.2 → m.Routed (match r.1 with
      | some d => (Hop.out d p, r.2)
      | none => (Hop.noRoute, r.2)).2 := by
    intro r hr
    split <;> exact hr
  have hport : ∀ (o : Option Nat) (r : Hop × Module), m.Routed r.2 → m.Routed (match o with
      | some d => (Hop.out d p, m)
      | none => r).2 := by
    intro o r hr
    split
    exacts [.refl m, hr]
  have hstart : ∀ x y dx dy bare, m.Routed (m.startChoice p x y dx dy bare).2 := m.routed_startChoice p
  unfold Module.inGroup
  refine Module.routed_ite ?_ (Module.routed_ite (hport _ _ (hanswer _ (hstart _ _ _ _ _)))
    (Module.routed_ite (hport _ _ (hanswer _ (hstart _ _ _ _ _))) (hanswer _ (hstart _ _ _ _ _))))
  split
  · exact .refl m
  · split
    exacts [m.routed_count _ (by decide), .refl m]

theorem Module.routed_route (tile : Nat) (p : Packet) (arr : Option Nat) : m.Routed (m.route tile p arr).2 := by
  have hchosen : m.Routed (if (arr.isNone && decide (faGroup p.dst ≠ faGroup m.fa)) = true then m.chooseMode (m.grtAt tile) p
      else if arr.isNone = true then (some { p with rmode := 0, vgroup := 0 }, m) else (some p, m)).2 :=
    Module.routed_ite (m.routed_chooseMode _ _) (Module.routed_ite (.refl m) (.refl m))
  unfold Module.route
  refine Module.routed_ite ?_ (Module.routed_ite (.refl m) (Module.routed_ite (.refl m) (Module.routed_ite (.refl m) ?_)))
  · split
    · exact Module.routed_ite (.refl m) (.refl m)
    · refine Module.routed_ite (.refl m) (Module.routed_ite (.refl m) ?_)
      split <;> exact .refl m
  · dsimp only
    generalize (if (arr.isNone && decide (faGroup p.dst ≠ faGroup m.fa)) = true then m.chooseMode (m.grtAt tile) p
      else if arr.isNone = true then (some { p with rmode := 0, vgroup := 0 }, m) else (some p, m)) = r at hchosen ⊢
    obtain ⟨_ | q, a⟩ := r
    · exact hchosen
    · refine hchosen.trans (Module.routed_ite (a.routed_inGroup _ _ _ _ _) ?_)
      split
      exacts [.refl a, a.routed_inGroup _ _ _ _ _]

/-! ## The hand-over -/

theorem Module.routed_hopEvent (h : Hop) : m.Routed (m.hopEvent h) := by
  unfold Module.hopEvent
  split
  · exact (m.routed_count _ (by decide)).trans (Module.routed_raise _ _)
  · exact (m.routed_count _ (by decide)).trans (Module.routed_raise _ _)
  · exact .refl m

theorem Module.routed_deliverHere (p : Packet) : m.Routed (m.deliverHere p) := by
  have hmark : m.Routed (if p.cmark then m.count pgRoute 5 else m) := by
    split
    exacts [m.routed_count _ (by decide), .refl m]
  exact hmark.trans ⟨(Module.frame_x _ _).mono (by simp), rfl, fun _ _ _ => rfl, [], by simp [Module.deliverHere], rfl⟩

theorem Module.routed_enqueueOut (out : Nat) (p : Packet) (inTile : Nat) (inPort : Option Nat) (ownStub : Bool) (group : Nat) :
    m.Routed (m.enqueueOut out p inTile inPort ownStub group) := by
  have hnet : ∀ n : Net, m.Routed { m with n := n } := fun n => .of_same ((m.frame_n n).mono (by simp))
  unfold Module.enqueueOut
  exact ((hnet _).trans (.of_same ((Module.frame_n _ _).mono (by simp)))).trans (.of_same ((Module.frame_n _ _).mono (by simp)))

theorem Module.routed_originate (tile : Nat) (p : Packet) : m.Routed (m.originate tile p) := by
  have hroute := m.routed_route (homeTile tile) { p with hops := 0 } none
  unfold Module.originate
  dsimp only
  split
  all_goals
    rename_i heq
    rw [heq] at hroute
  · exact hroute.trans (Module.routed_deliverHere _ _)
  · exact hroute.trans (Module.routed_enqueueOut _ _ _ _ _ _ _)
  · exact hroute.trans (Module.routed_hopEvent _ _)

end

end Sys2Proof.Machine

/-! PROOFS. Operations that become messages (R204, R237, R243, R259–R272): O29. -/

namespace Sys2Proof.Machine

set_option Elab.async false

/-! ## Frames of single parts -/

section
variable (m : Module)

theorem Module.setConn_frame (cid : Nat) (c : Conn) : Module.Frame [.x] m (m.setConn cid c) := m.frame_x _

theorem Module.onTagged_frame (id : Nat) (f : Tagged → Tagged) : Module.Frame [.smp] m (m.onTagged id f) := m.frame_smp _

theorem Module.stage_frame (id st : Nat) : Module.Frame [.smp] m (m.stage id st) := m.onTagged_frame _ _

theorem Module.stageOf_frame (op : Option Nat) (st : Nat) : Module.Frame [.smp] m (m.stageOf op st) := by
  cases op
  exacts [.refl _ m, m.stage_frame _ st]

end

/-! ## What the completions of an error follow -/

section

/-- Completions have joined those to be written, behind the ones that were there. -/
def Module.DoneGrows (m a : Module) : Prop := ∃ l, a.q.done = m.q.done ++ l

variable {m a b : Module}

theorem Module.DoneGrows.of_eq (h : a.q.done = m.q.done) : m.DoneGrows a := ⟨[], by simp [h]⟩

theorem Module.DoneGrows.of_frame {l : List Part} (h : Module.Frame l m a) (hq : Part.q ∉ l) : m.DoneGrows a :=
  .of_eq (congrArg Queues.done (h .q hq))

theorem Module.DoneGrows.trans (h : m.DoneGrows a) (k : a.DoneGrows b) : m.DoneGrows b := by
  obtain ⟨l, hl⟩ := h
  obtain ⟨l', hl'⟩ := k
  exact ⟨l ++ l', by simp [hl, hl']⟩

theorem Module.DoneGrows.foldl {α : Type} (f : Module → α → Module) (hf : ∀ (m : Module) x, m.DoneGrows (f m x)) (xs : List α) :
    ∀ m : Module, m.DoneGrows (xs.foldl f m) := by
  induction xs with
  | nil => exact fun _ => .of_eq rfl
  | cons x xs ih => exact fun m => (hf m x).trans (ih _)

variable (m)

theorem Module.done_retire (o : Owner) : (m.retire o).q.done = m.q.done := by
  cases o
  case op id =>
    cases h : m.op id
    case none => rw [m.retire_absent h]
    case some o =>
      rw [m.retire_op h]
      split
      · rfl
      · split <;> rfl
  all_goals rfl

theorem Module.doneGrows_sampleRelease : m.DoneGrows m.sampleRelease := by
  unfold Module.sampleRelease
  refine Module.DoneGrows.trans (.of_eq rfl) (.foldl _ (fun a r => ?_) _ _)
  split <;> exact .of_eq rfl

theorem Module.doneGrows_abandon (id : Nat) : m.DoneGrows (m.abandon id) := by
  unfold Module.abandon
  refine (Module.DoneGrows.of_eq (m.done_retire (.op id))).trans ?_
  dsimp only
  split
  · exact (Module.DoneGrows.of_frame (Module.setTagged_frame _ _) (by decide)).trans (Module.doneGrows_sampleRelease _)
  · exact .of_eq rfl

theorem Module.doneGrows_opDone (id status length info peer detail : Nat) : m.DoneGrows (m.opDone id status length info peer detail) := by
  unfold Module.opDone
  split
  · exact .of_eq rfl
  · split
    · exact .of_eq rfl
    · split
      exacts [m.doneGrows_abandon id, ⟨_, rfl⟩]

theorem Module.doneGrows_discardLists (n : Nat) : m.DoneGrows (m.discardLists n) :=
  (Module.DoneGrows.of_frame (m.dropLists_frame _) (by decide)).trans
    (Module.DoneGrows.trans (.of_eq rfl) (.foldl _ (fun a id => a.doneGrows_abandon id) _ _))

theorem Module.doneGrows_wqErrorAs (e : Env) (n cause : Nat) (idx : Option Nat) (shadow : Bool) :
    m.DoneGrows (m.wqErrorAs e n cause idx shadow) := by
  rcases m.wqErrorAs_cases n e cause idx shadow with heq | ⟨c, -, heq⟩
  · rw [heq]
    exact .of_eq rfl
  · rw [heq]
    have hhalts : m.DoneGrows (m.wqHalts n c cause (idx.getD c.ci)) := by
      refine .of_eq ?_
      have hfetch : (m.dropFetch n).q.done = m.q.done := by
        unfold Module.dropFetch
        split <;> rfl
      exact hfetch
    have hflush : ∀ a : Module, a.DoneGrows (a.flushUnstarted n cause) := by
      refine fun a => .foldl _ (fun b id => ?_) _ a
      split
      exacts [b.doneGrows_abandon id, b.doneGrows_opDone _ _ _ _ _ _]
    refine (hhalts.trans (hflush _)).trans ?_
    have hshadow : ∀ a : Module, a.DoneGrows (if shadow then (a.writeCi e n c).2 else a) := by
      intro a
      split
      · exact .of_eq (by rw [a.writeCi_q e n c]; rfl)
      · exact .of_eq rfl
    exact (((Module.doneGrows_discardLists _ n).trans (hshadow _)).trans (.of_frame (Module.logQueue_frame _ _ _ _ _) (by decide))).trans
      (.of_frame (Module.raise_frame _ _ _) (by decide))

end

/-! ## Operations that start -/

section
variable {m : Module} {id opcode : Nat} {o : Op} {c : WqCtx}

theorem Module.op_of_startable (h : m.startable id opcode = some (o, c)) : m.op id = some o ∧ m.wq o.wq = some c := by
  unfold Module.startable at h
  split at h
  · cases h
  next o' ho =>
    split at h
    · cases h
    next c' hc =>
      split at h
      · cases h
        exact ⟨ho, hc⟩
      · cases h

theorem Module.needOp_startable (h : m.startable id opcode = some (o, c)) (e : Env) : m.needOp e id = m := by
  obtain ⟨ho, hc⟩ := m.op_of_startable h
  rw [Module.needOp, ho]
  exact m.needWq_cached e hc

variable (m id o)

theorem Module.opStart_op : (m.opStart id o).op id = some { o with started := true } := KMap.get_put_same _ _ _

theorem Module.opStart_frame : Module.Frame [.q, .smp] m (m.opStart id o) :=
  ((m.setOp_frame _ _).mono (by simp)).trans ((Module.stage_frame _ _ _).mono (by simp))

theorem Module.opStart_x : (m.opStart id o).x = m.x := rfl

variable {m id o}

/-- A finished operation's completion joins those to be written (R126). -/
theorem Module.opDone_live (ho : m.op id = some o) (hfin : o.finished = false) (hsil : o.silent = false)
    (status length info peer detail : Nat) : ∃ comp : Completion,
      m.opDone id status length info peer detail = { m with q := { m.q with
        ops := KMap.put m.q.ops id { o with started := true, finished := true }, done := m.q.done ++ [comp] } } ∧
      comp.owner = .op id ∧ comp.status = status ∧ comp.length = length ∧ comp.info = info ∧ comp.detail = detail := by
  unfold Module.opDone
  simp only [ho, hfin, hsil]
  exact ⟨_, rfl, rfl, rfl, rfl, rfl, rfl⟩

/-- An operation that fails in an ACTIVE queue (R127, R133). -/
theorem Module.opFail_opFails (ho : m.op id = some o) (hc : m.wq o.wq = some c) (hact : c.state = .active) (hfin : o.finished = false)
    (hsil : o.silent = false) (e : Env) (status length info peer detail : Nat) (s t : State) (hs : s.q.done = m.q.done)
    (ht : t.toModule = m.opFail e id status length info peer detail) : OpFails s t id o.wq status detail := by
  obtain ⟨comp, hdone, howner, hstatus, -, -, hdetail⟩ := Module.opDone_live ho hfin hsil status length info peer detail
  have hfail : t.toModule = (m.opDone id status length info peer detail).wqError e o.wq ecLocal (if o.trig.isSome then none else some o.idx) := by
    rw [ht, Module.opFail, ho]
    dsimp only
    rw [m.needWq_cached e hc]
  constructor
  · obtain ⟨l, hl⟩ := (m.opDone id status length info peer detail).doneGrows_wqErrorAs e o.wq ecLocal
      (if o.trig.isSome then none else some o.idx) true
    refine ⟨comp, l, ?_, howner, hstatus, hdetail⟩
    have hq : t.q.done = ((m.opDone id status length info peer detail).wqErrorAs e o.wq ecLocal
        (if o.trig.isSome then none else some o.idx) true).q.done := by rw [hfail]; rfl
    rw [hq, hl, hdone, hs]
    simp
  · obtain ⟨c', hc', herr, -⟩ := Module.wqErrs_wqError (m.opDone id status length info peer detail) e o.wq c ecLocal
      (if o.trig.isSome then none else some o.idx) (by rw [hdone]; exact hc) (.inl hact) t hfail
    exact ⟨c', hc', herr⟩

end

/-! ## Messages that join a connection -/

section
variable {m : Module} {cid : Nat} {k : Conn}

/-- On an open direction a message joins, and nothing is sent (R243). -/
theorem Module.enqueue_open (hk : m.conn cid = some k) (hopen : k.txState = .open) (g : Msg) :
    m.enqueue cid g = (m.setConn cid { k with msgs := k.msgs ++ [g] }).stageOf g.op 3 := by
  simp [Module.enqueue, m.onConn_cached _ hk, Module.openTx, hopen]

/-- The PROBE of a direction, in the clear (R217). -/
def Module.probeOf (m : Module) (c : Conn) (tc : Nat) : Packet :=
  let epoch := if c.greeted then (c.txEpoch + 1) % 2 ^ 32 else 0
  barePacket (m.control c.remote c.nd tc wProbe epoch 0 (BitVec.ofNat 64 (epoch * 2 ^ 32)) [])

/-- A direction at rest that a message joins, as its first PROBE leaves it (R243). -/
def Conn.probing (c : Conn) (m : Module) (g : Msg) : Conn :=
  let rto := if c.sampled then c.rto else m.rtoInit
  { c with msgs := c.msgs ++ [g], txState := .probing, rto := rto, probes := c.probes + 1, probeDue := m.now + rto, probeRnr := none }

/-- On a direction at rest a message joins, and a PROBE goes out (R217, R243). -/
theorem Module.enqueue_idle (hk : m.conn cid = some k) (hidle : k.txState = .idle) (g : Msg) :
    ∃ a : Module, m.enqueue cid g = a.originate (tileOfCid cid) (m.probeOf k g.tc) ∧ a.conn cid = some (k.probing m g) ∧
      a = { m with x := { m.x with conns := a.x.conns } } := by
  obtain ⟨a, hopenTx, ha, hsame⟩ : ∃ a : Module, (m.onConn cid fun c => { c with msgs := c.msgs ++ [g] }).openTx cid g.tc =
      a.originate (tileOfCid cid) (m.probeOf k g.tc) ∧ a.conn cid = some (k.probing m g) ∧
      a = { m with x := { m.x with conns := a.x.conns } } := by
    rw [m.onConn_cached _ hk]
    simp only [Module.openTx, Module.conn_setConn_same, hidle, if_pos, Module.sendProbe]
    exact ⟨_, rfl, Module.conn_setConn_same _, rfl⟩
  refine ⟨a, ?_, ha, hsame⟩
  have hconn : (a.originate (tileOfCid cid) (m.probeOf k g.tc)).conn cid = some (k.probing m g) := by
    rw [(a.routed_originate _ _).conn, ha]
  simp [Module.enqueue, hopenTx, hconn, Conn.probing]

end

/-! ## The message of an operation -/

section
variable {m : Module} {remote nd cid : Nat} {k : Conn}

theorem Module.postMsg_cached (hkey : (m.keyOf nd).isSome) (hcid : m.cidOf remote nd = some cid) (hk : m.conn cid = some k) (g : Msg) :
    m.postMsg remote nd g = (true, (m.numbered g).2.enqueue cid (m.numbered g).1) := by
  obtain ⟨⟨slot, key⟩, hkey⟩ := Option.isSome_iff_exists.1 hkey
  have hneed : (m.numbered g).2.needConn remote nd slot = (some cid, (m.numbered g).2) := Module.needConn_cached _ hcid hk
  simp only [Module.postMsg, hkey, Module.dispatchMsg]
  rw [show (m.numbered g).2.needConn remote nd slot = _ from hneed]

theorem Module.postMsg_noKey (hkey : m.keyOf nd = none) (g : Msg) : m.postMsg remote nd g = (false, m) := by
  rw [Module.postMsg, hkey]

/-- The message of an operation, with its number, its operation and whether order binds it. -/
def Module.opMsgOf (m : Module) (id : Nat) (o : Op) (g : Msg) : Msg :=
  { g with id := m.x.nextMsg, op := some id, ordered := wqeOrdered o.wqe }

/-- An operation has started, and its message has a number. -/
def Module.begunMsg (m : Module) (id : Nat) (o : Op) : Module :=
  { m.opStart id o with x := { m.x with nextMsg := m.x.nextMsg + 1 } }

theorem Module.begunMsg_frame (id : Nat) (o : Op) : Module.Frame [.q, .smp, .x] m (m.begunMsg id o) :=
  ((m.opStart_frame id o).mono (by simp)).trans ((Module.frame_x _ _).mono (by simp))

theorem Module.startMsg_cached {id : Nat} {o : Op} {c : WqCtx} (hkey : (m.keyOf c.nd).isSome)
    (hcid : m.cidOf (wqeDest o.wqe) c.nd = some cid) (hk : m.conn cid = some k) (g : Msg) :
    m.startMsg id o c g = (m.begunMsg id o).enqueue cid (m.opMsgOf id o g) := by
  have hpost := (Module.postMsg_cached (m := m.opStart id o) hkey hcid hk) { g with op := some id, ordered := wqeOrdered o.wqe }
  rw [Module.startMsg, Module.opMsg, hpost]
  rfl

/-- Where the direction is open, the operation's message joins those of its connection (R204, R243). -/
theorem State.startsMsg {s : State} {id : Nat} {o : Op} {c : WqCtx} (hr : s.Reaches o c cid k) (hopen : k.txState = .open) (e : Env) (g : Msg) :
    StartsMsg s (s.upd fun _ => (s.toModule.at e).startMsg id o c g) id o cid k g := by
  obtain ⟨hkey, hcid, hk⟩ := hr
  have hk' : ((s.toModule.at e).begunMsg id o).conn cid = some k := hk
  rw [Module.startMsg_cached (m := s.toModule.at e) hkey hcid hk, Module.enqueue_open hk' hopen]
  refine ⟨Module.conn_setConn_same _, (s.toModule.at e).opStart_op id o, Module.Frame.touches_left ?_⟩
  exact (((s.toModule.at_frame e).mono (by simp)).trans ((Module.begunMsg_frame id o).mono (by simp))).trans
    (((Module.setConn_frame _ _ _).mono (by simp)).trans ((Module.stage_frame _ _ _).mono (by simp)))

end

/-! ## The commands of the operations -/

section
variable {s : State} {id : Nat} {o : Op} {c : WqCtx}

theorem exec_put (id : Nat) (e : Env) (s : State) : exec (.put id e) s = execPut id e s := rfl
theorem exec_get (id : Nat) (e : Env) (s : State) : exec (.get id e) s = execGet id e s := rfl
theorem exec_atomic (id : Nat) (e : Env) (s : State) : exec (.atomic id e) s = execAtomic id e s := rfl
theorem exec_putSignal (id : Nat) (e : Env) (s : State) : exec (.putSignal id e) s = execPutSignal id e s := rfl
theorem exec_storePut (id : Nat) (e : Env) (s : State) : exec (.storePut id e) s = execStorePut id e s := rfl
theorem exec_storeSync (id : Nat) (e : Env) (s : State) : exec (.storeSync id e) s = execStoreSync id e s := rfl

/-- The clock moves no operation: what may start may start at the time a command shows, with its context at hand. -/
theorem State.startable_at {opcode : Nat} (h : s.startable id opcode = some (o, c)) (e : Env) :
    (s.toModule.at e).needOp e id = s.toModule.at e ∧ (s.toModule.at e).startable id opcode = some (o, c) :=
  have h' : (s.toModule.at e).startable id opcode = some (o, c) := h
  ⟨Module.needOp_startable h' e, h'⟩

/-- What PUT and GET send. -/
def putMsg (o : Op) (c : WqCtx) : Msg := { Msg.new .put 0x10 (wqeTc o.wqe) (wLength o.wqe) (putSrc o c) with ext := putExt o.wqe }
def getMsg (o : Op) : Msg :=
  { Msg.new .get 0x12 (wqeTc o.wqe) 0 (.inline []) with ext := putExt o.wqe ++ beBytes 4 (wLength o.wqe) ++ beBytes 4 0 }

theorem execPut_starts (h : s.startable id 0x01 = some (o, c)) (e : Env) :
    execPut id e s = .next (s.upd fun _ => (s.toModule.at e).startMsg id o c (putMsg o c)) := by
  obtain ⟨hneed, hstart⟩ := State.startable_at h e
  refine s.run_of _ ?_
  simp only [hneed, hstart]
  rfl

theorem execGet_starts (h : s.startable id 0x02 = some (o, c)) (e : Env) :
    execGet id e s = .next (s.upd fun _ => (s.toModule.at e).startMsg id o c (getMsg o)) := by
  obtain ⟨hneed, hstart⟩ := State.startable_at h e
  refine s.run_of _ ?_
  simp only [hneed, hstart]
  rfl

/-- What ATOMIC, PUT_SIGNAL, STORE_PUT and STORE_SYNC send. -/
def atomicMsg (o : Op) : Msg :=
  { Msg.new .atomic 0x14 (wqeTc o.wqe) 0 (.inline []) with
    ext := putExt o.wqe ++ beBytes 8 (wqeField o.wqe 0x30 8) ++ beBytes 8 (wqeField o.wqe 0x38 8)
    xdata := wqeField o.wqe 0x18 1 + 16 * wqeField o.wqe 0x19 1 }
def putSignalMsg (o : Op) (c : WqCtx) : Msg :=
  { Msg.new .put 0x11 (wqeTc o.wqe) (wLength o.wqe) (putSrc o c) with
    ext := putExt o.wqe ++ beBytes 8 (wqeField o.wqe 0x30 8) ++ beBytes 8 (wqeField o.wqe 0x38 8)
    xdata := wqeField o.wqe 0x1C 1 }
def storePutMsg (o : Op) (c : WqCtx) : Msg :=
  { Msg.new .storePut 0x60 (wqeTc o.wqe) (wLength o.wqe) (putSrc o c) with ext := putExt o.wqe }
def storeSyncMsg (o : Op) : Msg :=
  { Msg.new .syncReq 0x61 (wqeTc o.wqe) 0 (.inline []) with ext := beBytes 8 (wRkey o.wqe) ++ beBytes 8 0 }

theorem execAtomic_starts (h : s.startable id 0x03 = some (o, c)) (e : Env) (hok : wqeField o.wqe 0x18 1 ≤ 4 ∧ wqeField o.wqe 0x19 1 ≤ 2) :
    execAtomic id e s = .next (s.upd fun _ => (s.toModule.at e).startMsg id o c (atomicMsg o)) := by
  obtain ⟨hneed, hstart⟩ := State.startable_at h e
  refine s.run_of _ ?_
  simp only [hneed, hstart]
  exact if_neg (by simp [hok])

theorem execAtomic_fails (h : s.startable id 0x03 = some (o, c)) (e : Env) (hbad : 4 < wqeField o.wqe 0x18 1 ∨ 2 < wqeField o.wqe 0x19 1) :
    execAtomic id e s = .next (s.upd fun _ => ((s.toModule.at e).opStart id o).opFail e id stInvalidWqe 0 0 0 0) := by
  obtain ⟨hneed, hstart⟩ := State.startable_at h e
  refine s.run_of _ ?_
  simp only [hneed, hstart]
  exact if_pos (by simpa using hbad)

theorem execPutSignal_starts (h : s.startable id 0x04 = some (o, c)) (e : Env) (hok : wqeField o.wqe 0x1C 1 ≤ 1) :
    execPutSignal id e s = .next (s.upd fun _ => (s.toModule.at e).startMsg id o c (putSignalMsg o c)) := by
  obtain ⟨hneed, hstart⟩ := State.startable_at h e
  refine s.run_of _ ?_
  simp only [hneed, hstart]
  exact if_neg (Nat.not_lt.2 hok)

theorem execPutSignal_fails (h : s.startable id 0x04 = some (o, c)) (e : Env) (hbad : 1 < wqeField o.wqe 0x1C 1) :
    execPutSignal id e s = .next (s.upd fun _ => ((s.toModule.at e).opStart id o).opFail e id stInvalidWqe 0 0 0 0) := by
  obtain ⟨hneed, hstart⟩ := State.startable_at h e
  refine s.run_of _ ?_
  simp only [hneed, hstart]
  exact if_pos hbad

theorem execStorePut_starts (h : s.startable id 0x05 = some (o, c)) (e : Env) (hdest : wqeDest o.wqe ≠ s.fa) :
    execStorePut id e s = .next (s.upd fun _ => (s.toModule.at e).startMsg id o c (storePutMsg o c)) := by
  obtain ⟨hneed, hstart⟩ := State.startable_at h e
  refine s.run_of _ ?_
  simp only [hneed, hstart]
  exact if_pos hdest

theorem execStoreSync_starts (h : s.startable id 0x06 = some (o, c)) (e : Env) (hdest : wqeDest o.wqe ≠ s.fa) :
    execStoreSync id e s = .next (s.upd fun _ => (s.toModule.at e).startMsg id o c (storeSyncMsg o)) := by
  obtain ⟨hneed, hstart⟩ := State.startable_at h e
  refine s.run_of _ ?_
  simp only [hneed, hstart]
  exact if_pos hdest

end

/-! ## The clauses of O29 -/

theorem operations_startMsg (id : Nat) (e : Env) (s : State) (o : Op) (c : WqCtx) (cid : Nat) (k : Conn) (hr : s.Reaches o c cid k)
    (hopen : k.txState = .open) :
    (s.startable id 0x01 = some (o, c) → Answers (exec (.put id e) s) fun t =>
      StartsMsg s t id o cid k { Msg.new .put 0x10 (wqeTc o.wqe) (wLength o.wqe) (putSrc o c) with ext := putExt o.wqe }) ∧
    (s.startable id 0x02 = some (o, c) → Answers (exec (.get id e) s) fun t =>
      StartsMsg s t id o cid k { Msg.new .get 0x12 (wqeTc o.wqe) 0 (.inline []) with
        ext := putExt o.wqe ++ beBytes 4 (wLength o.wqe) ++ beBytes 4 0 }) ∧
    (s.startable id 0x03 = some (o, c) → wqeField o.wqe 0x18 1 ≤ 4 → wqeField o.wqe 0x19 1 ≤ 2 →
      Answers (exec (.atomic id e) s) fun t =>
        StartsMsg s t id o cid k { Msg.new .atomic 0x14 (wqeTc o.wqe) 0 (.inline []) with
          ext := putExt o.wqe ++ beBytes 8 (wqeField o.wqe 0x30 8) ++ beBytes 8 (wqeField o.wqe 0x38 8)
          xdata := wqeField o.wqe 0x18 1 + 16 * wqeField o.wqe 0x19 1 }) ∧
    (s.startable id 0x04 = some (o, c) → wqeField o.wqe 0x1C 1 ≤ 1 → Answers (exec (.putSignal id e) s) fun t =>
      StartsMsg s t id o cid k { Msg.new .put 0x11 (wqeTc o.wqe) (wLength o.wqe) (putSrc o c) with
        ext := putExt o.wqe ++ beBytes 8 (wqeField o.wqe 0x30 8) ++ beBytes 8 (wqeField o.wqe 0x38 8)
        xdata := wqeField o.wqe 0x1C 1 }) ∧
    (s.startable id 0x05 = some (o, c) → wqeDest o.wqe ≠ s.fa → Answers (exec (.storePut id e) s) fun t =>
      StartsMsg s t id o cid k { Msg.new .storePut 0x60 (wqeTc o.wqe) (wLength o.wqe) (putSrc o c) with ext := putExt o.wqe }) ∧
    (s.startable id 0x06 = some (o, c) → wqeDest o.wqe ≠ s.fa → Answers (exec (.storeSync id e) s) fun t =>
      StartsMsg s t id o cid k { Msg.new .syncReq 0x61 (wqeTc o.wqe) 0 (.inline []) with
        ext := beBytes 8 (wRkey o.wqe) ++ beBytes 8 0 }) := by
  have hmsg := fun g => State.startsMsg (id := id) hr hopen e g
  exact ⟨fun h => ⟨_, execPut_starts h e, hmsg _⟩, fun h => ⟨_, execGet_starts h e, hmsg _⟩,
    fun h haop htype => ⟨_, execAtomic_starts h e ⟨haop, htype⟩, hmsg _⟩, fun h hsig => ⟨_, execPutSignal_starts h e hsig, hmsg _⟩,
    fun h hdest => ⟨_, execStorePut_starts h e hdest, hmsg _⟩, fun h hdest => ⟨_, execStoreSync_starts h e hdest, hmsg _⟩⟩

/-- A packet is originated by a module that differs from the state before in nothing that `Originates` reads (R422, R472). -/
theorem originates_of {s t : State} {a : Module} {tile : Nat} {p : Packet} (hn : a.n = s.n) (hin : a.x.inbox = s.x.inbox)
    (hstraps : a.straps = s.straps) (hdraws : a.draws = s.draws) (hregs : a.regs = s.regs) (hnow : a.now = t.now)
    (hn' : (a.originate tile p).n = t.n) (hin' : (a.originate tile p).x.inbox = t.x.inbox) : Originates s t tile p :=
  ⟨a, by rw [hn], hin, hstraps, hdraws, hnow, fun r _ => by rw [Module.word, hregs, Module.word], hn', hin'⟩

theorem put_probes (id : Nat) (e : Env) (s : State) (o : Op) (c : WqCtx) (cid : Nat) (k : Conn) (hr : s.Reaches o c cid k)
    (hidle : k.txState = .idle) (h : s.startable id 0x01 = some (o, c)) : Answers (exec (.put id e) s) fun t =>
      (∃ k', t.conn cid = some k' ∧ k'.txState = .probing ∧ k'.probes = k.probes + 1 ∧ k'.msgs.length = k.msgs.length + 1) ∧
      Originates s t (tileOfCid cid) (s.probeOf k (wqeTc o.wqe)) ∧ Touches (.q :: .smp :: sendParts) s t := by
  obtain ⟨hkey, hcid, hk⟩ := hr
  have hk' : ((s.toModule.at e).begunMsg id o).conn cid = some k := hk
  obtain ⟨a, hsend, ha, hsame⟩ := Module.enqueue_idle hk' hidle ((s.toModule.at e).opMsgOf id o (putMsg o c))
  have hrouted := a.routed_originate (tileOfCid cid) (s.probeOf k (wqeTc o.wqe))
  have hconn := (hrouted.conn cid).trans ha
  have hframe : Module.Frame (.q :: .smp :: sendParts) s.toModule a := by
    rw [hsame]
    exact (((s.toModule.at_frame e).mono (by simp [sendParts])).trans ((Module.begunMsg_frame id o).mono (by simp [sendParts]))).trans
      ((Module.frame_x _ _).mono (by simp [sendParts]))
  refine ⟨s.upd fun _ => a.originate (tileOfCid cid) (s.probeOf k (wqeTc o.wqe)), ?_, ⟨_, hconn, rfl, rfl, List.length_append⟩, ?_,
    Module.Frame.touches_left (hframe.trans (hrouted.frame.mono (by simp [sendParts])))⟩
  · rw [exec_put, execPut_starts h e, Module.startMsg_cached (m := s.toModule.at e) hkey hcid hk, hsend]
    rfl
  · refine originates_of ?_ ?_ ?_ ?_ ?_ (hrouted.frame .now (by simp)).symm rfl rfl
    all_goals
      rw [hsame]
      rfl

theorem operations_noDomain (id : Nat) (e : Env) (s : State) (o : Op) (c : WqCtx) (hkey : s.keyOf c.nd = none) (hfin : o.finished = false)
    (hsil : o.silent = false) (g : Msg) :
    let t := s.upd fun _ => (s.toModule.at e).startMsg id o c g
    OpCompletes s t id stNoDomain 0 0 0 ∧ Touches [.q, .x, .smp, .now] s t := by
  obtain ⟨comp, hdone, hcomp⟩ := Module.opDone_live ((s.toModule.at e).opStart_op id o) hfin hsil stNoDomain 0 0 (wqeDest o.wqe) 0
  have heq : (s.toModule.at e).startMsg id o c g = ((s.toModule.at e).opStart id o).opDone id stNoDomain 0 0 (wqeDest o.wqe) 0 := by
    rw [Module.startMsg, Module.opMsg, Module.postMsg_noKey (m := (s.toModule.at e).opStart id o) hkey]
  dsimp only
  rw [heq, hdone]
  refine ⟨⟨comp, rfl, hcomp⟩, Module.Frame.touches_left ?_⟩
  exact (((s.toModule.at_frame e).mono (by simp)).trans ((Module.opStart_frame _ id o).mono (by simp))).trans
    ((Module.frame_q _ _).mono (by simp))

theorem operations_fail (id : Nat) (e : Env) (s : State) (o : Op) (c : WqCtx) (hact : c.state = .active) (hfin : o.finished = false)
    (hsil : o.silent = false) (hc : s.wq o.wq = some c) :
    OpFails s (s.upd fun _ => ((s.toModule.at e).opStart id o).opFail e id stInvalidWqe 0 0 0 0) id o.wq stInvalidWqe 0 :=
  Module.opFail_opFails ((s.toModule.at e).opStart_op id o) hc hact hfin hsil e _ _ _ _ _ s _ rfl rfl

/-- Settles O29: what each operation adds to its connection, the PROBE of a direction at rest, and the operations that fail. -/
theorem operationsBecomeMessages : Obligations.OperationsBecomeMessages := by
  refine ⟨operations_startMsg, put_probes, fun id e s o c hkey hfin hsil => ⟨fun h => ?_, fun h => ?_⟩,
    fun id e s o c hact hfin hsil => ⟨fun h hbad => ?_, fun h hbad => ?_⟩⟩
  · exact ⟨_, execPut_starts h e, operations_noDomain id e s o c hkey hfin hsil _⟩
  · exact ⟨_, execGet_starts h e, operations_noDomain id e s o c hkey hfin hsil _⟩
  · exact ⟨_, execAtomic_fails h e hbad, operations_fail id e s o c hact hfin hsil (Module.op_of_startable h).2⟩
  · exact ⟨_, execPutSignal_fails h e hbad, operations_fail id e s o c hact hfin hsil (Module.op_of_startable h).2⟩

end Sys2Proof.Machine

/-! PROOFS. What follows a packet: the lists of the matching tiles, and the counters of the transport tiles (R304, R312, R714). -/

namespace Sys2Proof.Machine

set_option Elab.async false

/-! ## Lists in order -/

/-- Nothing is owed to the lists of the matching tiles, and no receive direction has started over. -/
def Module.Calm (m : Module) : Prop := State.Settled ⟨m, []⟩

theorem State.Settled.calm {s : State} (h : s.Settled) : s.toModule.Calm := h

theorem KMap.mem_put {V : Type} {l : List (Nat × V)} {k : Nat} {v : V} {q : Nat × V} (h : q ∈ KMap.put l k v) : q = (k, v) ∨ q ∈ l := by
  induction l with
  | nil => exact .inl (List.mem_singleton.1 h)
  | cons e l ih =>
    rw [KMap.put] at h
    split at h
    · exact List.mem_cons.1 h
    · split at h
      · exact (List.mem_cons.1 h).imp_right (List.mem_cons_of_mem _)
      · rcases List.mem_cons.1 h with rfl | h
        · exact .inr List.mem_cons_self
        · exact (ih h).imp_right (List.mem_cons_of_mem _)

section
variable {m a : Module}

theorem Module.Calm.congr (h : m.Calm) (hmt : a.mt = m.mt) (hx : a.x.conns = m.x.conns) : a.Calm := by
  obtain ⟨hanew, hpool, hposted, hunexp⟩ := h
  exact ⟨fun q hq => hanew q (hx ▸ hq), (congrArg (·.pool) hmt).trans hpool, fun q hq => hposted q (hmt ▸ hq),
    fun u hu => hunexp u (hmt ▸ hu)⟩

theorem Module.Calm.setConn (h : m.Calm) (cid : Nat) {c : Conn} (hc : c.anew = false) : (m.setConn cid c).Calm := by
  obtain ⟨hanew, hpool, hposted, hunexp⟩ := h
  refine ⟨fun q hq => ?_, hpool, hposted, hunexp⟩
  rcases KMap.mem_put hq with rfl | hq
  exacts [hc, hanew q hq]

theorem Module.Calm.anew (h : m.Calm) {cid : Nat} {c : Conn} (hc : m.conn cid = some c) : c.anew = false :=
  h.1 _ (KMap.mem_of_get hc)

/-- Lists that all lie on chip stay as they are; MATCH[t].USE shows them (R286, R304). -/
theorem Module.Calm.mtSettle (h : m.Calm) (e : Env) (t : Nat) : m.mtSettle e t = m.mtUse t := by
  obtain ⟨-, hpool, hposted, hunexp⟩ := h
  have hctxs : ∀ q ∈ m.mtCtxs t, ∀ r ∈ q.2.posted, r.spill = none := fun q hq => hposted q (List.mem_filter.1 hq).1
  have hfind : (m.mtCtxs t).find? (fun p => p.2.posted.any (fun q => q.spill.isSome)) = none :=
    List.find?_eq_none.2 fun q hq => by simpa using hctxs q hq
  have hfind' : m.mt.unexp.find? (fun u => mtTile u.mctx = t && u.spill.isSome) = none :=
    List.find?_eq_none.2 fun u hu => by simp [show u.spill = none from hunexp u hu]
  have hrefill : m.refillPosted e t 32768 = m := by
    rw [Module.refillPosted, hfind, ite_self]
  have hrefill' : m.refillUnexp e t 16384 = m := by
    rw [Module.refillUnexp, hfind', ite_self]
  have hlinks : (m.spillLists t).flatMap spillLinks = [] := by
    rw [List.flatMap_eq_nil_iff]
    intro l hl
    obtain ⟨q, hq, hl⟩ := List.mem_flatMap.1 hl
    have hnil : l = [] := by
      rcases List.mem_cons.1 hl with rfl | hl
      · exact List.filterMap_eq_nil_iff.2 fun r hr => by simp [hctxs q hq r hr]
      · rw [List.mem_singleton.1 hl]
        exact List.filterMap_eq_nil_iff.2 fun u hu => by simp [show u.spill = none from hunexp u (List.mem_filter.1 hu).1]
    rw [hnil]
    rfl
  have hsync : m.spillSync t = m := by
    have hrest : m.mt.pool.filter (fun p => p.1 / 2 ^ 32 ≠ t) = m.mt.pool := by
      rw [show m.mt.pool = [] from hpool]
      rfl
    simp only [Module.spillSync, hlinks, List.foldl_nil, hrest]
  rw [Module.mtSettle, hrefill, hrefill', hsync]

theorem Module.mtUse_congr (t : Nat) : (m.mtUse t).mt = m.mt ∧ (m.mtUse t).x = m.x :=
  ⟨(m.mtUse_frame t) .mt (by simp), (m.mtUse_frame t) .x (by simp)⟩

theorem Module.Calm.settle (h : m.Calm) (e : Env) : m.settle e = (m.mtUse 0).mtUse 1 := by
  have hanew : m.x.conns.filter (fun p => p.2.anew) = [] := List.filter_eq_nil_iff.2 fun q hq => by
    simp [show q.2.anew = false from h.1 q hq]
  have hcalm : (m.mtUse 0).Calm := h.congr (Module.mtUse_congr 0).1 (congrArg (·.conns) (Module.mtUse_congr 0).2)
  rw [Module.settle, hanew]
  exact (congrArg (fun a => a.mtSettle e 1) (h.mtSettle e 0)).trans (hcalm.mtSettle e 1)

theorem Module.Calm.settle_frame (h : m.Calm) (e : Env) : Module.Frame [.regs] m (m.settle e) := by
  rw [h.settle e]
  exact (m.mtUse_frame 0).trans (Module.mtUse_frame _ 1)

theorem Module.mtUse_word (m : Module) (t a : Nat) (h : a ≠ (F.matchUseUnexp t).reg) : (m.mtUse t).word a = m.word a :=
  (Module.word_put_other _ (F.matchUsePosted t) _ a h).trans
    ((Module.word_put_other _ (F.matchUseUnexp t) _ a h).trans (Module.word_put_other _ (F.matchUseBounceFree t) _ a h))

/-- Putting the lists in order changes no register but the two of MATCH[t].USE. -/
theorem Module.Calm.settle_word (h : m.Calm) (e : Env) {a : Nat} (ha : ¬ UseRegs a) : (m.settle e).word a = m.word a := by
  rw [h.settle e, Module.mtUse_word _ 1 _ fun h' => ha (.inr h'), Module.mtUse_word _ 0 _ fun h' => ha (.inl h')]

theorem Module.Calm.settle_conn (h : m.Calm) (e : Env) (cid : Nat) : (m.settle e).conn cid = m.conn cid :=
  Module.conn_congr _ ((h.settle_frame e) .x (by simp)) cid

end

/-! ## Counters -/

/-- The counters of a page whose messages are not counted there are no registers of events (R79, R714). -/
theorem ctrValue_not_event {page n : Nat} (hpage : ∀ i < 4, page ≠ pgHost i) (hn : n < 256) (p : Nat) :
    ¬ EventRegs p (F.ctrValue page n).reg := by
  rintro (h | h | ⟨i, hi, h⟩)
  · simp only [F.ctrValue] at h
    omega
  · simp only [F.ctrValue] at h
    omega
  · have hi' := hpage i hi
    simp only [F.ctrValue] at h
    omega

/-- A counter after it has counted. -/
theorem Module.get_countUp {page n : Nat} (hpage : ∀ i < 4, page ≠ pgHost i) (hn : n < 256) (m : Module) (k : Nat) :
    (m.countUp page n k).get (F.ctrValue page n) =
      if m.flag F.sampleCtrFreeze then m.get (F.ctrValue page n) else (m.get (F.ctrValue page n) + k) % 2 ^ 48 := by
  unfold Module.countUp
  dsimp only
  split
  · rw [Module.get_raise _ _ _ _ (ctrValue_not_event hpage hn _), Module.addCtr_value]
  · rw [Module.addCtr_value]

theorem pgXpt_ne_pgHost (tile : Nat) : ∀ i < 4, pgXpt tile ≠ pgHost i := by
  intro i hi
  rw [pgXpt, pgHost]
  omega

theorem pgXpt_ne_pgRoute (cid : Nat) : pgXpt (tileOfCid cid) ≠ pgRoute := by
  rw [pgXpt, pgRoute, tileOfCid]
  omega

/-- The counter of a page and the freeze stand as before where a counter counts: it counts one more. -/
theorem counts_of {s t : State} {a : Module} {page n k : Nat} (hpage : ∀ i < 4, page ≠ pgHost i) (hn : n < 256)
    (hfreeze : a.get F.sampleCtrFreeze = s.get F.sampleCtrFreeze) (hctr : a.get (F.ctrValue page n) = s.get (F.ctrValue page n))
    (ht : t.get (F.ctrValue page n) = (a.countUp page n k).get (F.ctrValue page n)) : Counts s t page n k := by
  rw [Counts, ht, Module.get_countUp hpage hn, hctr, Module.flag, hfreeze, Module.flag]

theorem ctrValue_not_use {page n : Nat} (hn : n < 256) : ¬ UseRegs (F.ctrValue page n).reg := by
  rintro (h | h) <;> simp only [F.ctrValue, F.matchUseUnexp] at h <;> omega

section
variable {m a : Module}

theorem Module.Routed.get_ctr (h : m.Routed a) {page n : Nat} (hpage : ∀ i < 4, page ≠ pgHost i) (hroute : page ≠ pgRoute) (hn : n < 256) :
    a.get (F.ctrValue page n) = m.get (F.ctrValue page n) := by
  have hword : a.word (F.ctrValue page n).reg = m.word (F.ctrValue page n).reg := by
    refine h.word _ ?_ (ctrValue_not_event hpage hn _)
    simp only [F.ctrValue]
    omega
  rw [Module.get, hword, Module.get]

theorem Module.Routed.get_quiet (h : m.Routed a) {f : Fld} (hf : Quiet f.reg) (hroute : f.reg / 0x1000 ≠ pgRoute) : a.get f = m.get f := by
  rw [Module.get, h.word _ hroute (hf.not_eventRegs _), Module.get]

theorem Module.Routed.get_freeze (h : m.Routed a) : a.get F.sampleCtrFreeze = m.get F.sampleCtrFreeze :=
  h.get_quiet ⟨by decide, by decide⟩ (by decide)

end

end Sys2Proof.Machine

/-! PROOFS. What receivers send back (R209, R218, R219, R224–R226, R242, R456): O32. -/

namespace Sys2Proof.Machine

set_option Elab.async false

/-! ## The packet taken, and what is sent after it -/

section
variable {s : State}

theorem State.took_frame (s : State) (k : Nat) (e : Env) : Module.Frame [.x, .now] s.toModule (s.took k e).toModule :=
  ((s.toModule.at_frame e).mono (by simp)).trans ((Module.frame_x _ _).mono (by simp))

theorem sendParts_routed : [Part.regs, .msix, .out, .x, .n, .draws] ⊆ sendParts := by simp [sendParts]

/-- A packet goes out, and then only registers, messages of events and what is sampled change (R422, R472). -/
theorem originates_then {s t : State} {a b : Module} {tile : Nat} {p : Packet} (ha : a.n = s.n ∧ a.x.inbox = s.x.inbox ∧
      a.straps = s.straps ∧ a.draws = s.draws ∧ a.regs = s.regs)
    (hb : Module.Frame [.regs, .msix, .out, .smp] (a.originate tile p) b) (ht : t.toModule = b) : Originates s t tile p := by
  obtain ⟨hn, hin, hstraps, hdraws, hregs⟩ := ha
  have hnow : t.now = a.now := by
    rw [ht]
    exact (hb .now (by simp)).trans ((a.routed_originate tile p).frame .now (by simp))
  refine originates_of hn hin hstraps hdraws hregs hnow.symm ?_ ?_
  · rw [ht]
    exact (hb .n (by simp)).symm
  · rw [ht]
    exact (congrArg (·.inbox) (hb .x (by simp))).symm

end

/-! ## Control packets of a receive direction -/

section
variable {m : Module} {cid : Nat} {c : Conn}

theorem Module.nackBare_room {tile : Nat} (h : m.ctlFull tile = false) (p : Packet) (cause : Nat) : m.nackBare tile p cause =
    (m.originate tile (barePacket (m.control p.src p.nd p.tc wNack p.epoch 0
      (BitVec.ofNat 64 (p.psn * 2 ^ 40 + p.attempt * 2 ^ 32 + cause * 2 ^ 24)) []))).count (pgXpt tile) 10 := by
  rw [Module.nackBare, h]
  exact if_neg (by simp)

/-- A control packet takes the next CSN, and goes out sealed (R213–R216). -/
theorem Module.sendCtl_sealed (hc : m.conn cid = some c) (hcsn : c.rxCsn ≤ 0xFFFFFF) {key : List Byte}
    (hkey : m.recvKey c.nd c.remote c.rxEpoch = some key) (tc opcode : Nat) (opw : Word) (ext : List Byte) :
    m.sendCtl cid tc opcode opw ext = (m.setConn cid { c with rxCsn := c.rxCsn + 1 }).originate (tileOfCid cid)
      (sealPacket key false (m.control c.remote c.nd tc opcode c.rxEpoch c.rxCsn opw ext)) := by
  simp [Module.sendCtl, hc, hkey, Nat.not_lt.2 hcsn]

/-- A NACK of a connection, where the queue of control packets has room (R226, R456). -/
theorem Module.nack_sealed (hc : m.conn cid = some c) (hcsn : c.rxCsn ≤ 0xFFFFFF) {key : List Byte}
    (hkey : m.recvKey c.nd c.remote c.rxEpoch = some key) (hroom : m.ctlFull (tileOfCid cid) = false) (tc psn attempt cause : Nat) :
    m.nack cid tc psn attempt cause = ((m.setConn cid { c with rxCsn := c.rxCsn + 1 }).originate (tileOfCid cid)
      (sealPacket key false (m.control c.remote c.nd tc wNack c.rxEpoch c.rxCsn
        (BitVec.ofNat 64 (psn * 2 ^ 40 + attempt * 2 ^ 32 + cause * 2 ^ 24)) []))).count (pgXpt (tileOfCid cid)) 10 := by
  rw [Module.nack, hroom, Module.sendCtl_sealed hc hcsn hkey]
  exact if_neg (by simp)

/-- A CHALLENGE, where chal_gap has passed since the last one (R218, R219). -/
theorem Module.challenge_sealed (hc : m.conn cid = some c) (hcsn : c.rxCsn ≤ 0xFFFFFF) (hgap : c.chalFree ≤ m.now) {key : List Byte}
    (hkey : m.recvKey c.nd c.remote c.rxEpoch = some key) (tc psn attempt : Nat) :
    m.challenge cid tc psn attempt = ((m.setConn cid { c with
        rxCsn := c.rxCsn + 1
        lastChal := m.fabricNow % 2 ^ 32
        chalFree := m.now + m.get F.xptCfgChalGap * 1000 }).originate (tileOfCid cid)
      (sealChallenge key (m.control c.remote c.nd tc wChallenge c.rxEpoch c.rxCsn (BitVec.ofNat 64 (c.rxEpoch * 2 ^ 32))
        (beBytes 8 m.nonce ++ beBytes 3 psn ++ beBytes 1 attempt ++ beBytes 4 0)))).count (pgXpt (tileOfCid cid)) 13 := by
  simp [Module.challenge, hc, hkey, Nat.not_lt.2 hcsn, Nat.not_lt.2 hgap]

end

/-! ## A packet that is counted, and then the lists in order -/

section
variable {s s' t : State} {a : Module} {cid n : Nat} {p : Packet} {e : Env}

theorem Module.Calm.routed {m a : Module} (h : m.Calm) (hr : m.Routed a) : a.Calm :=
  h.congr (hr.frame .mt (by simp)) (by rw [hr.x])

theorem Module.Calm.count {m : Module} (h : m.Calm) (page n : Nat) : (m.count page n).Calm :=
  h.congr (m.count_frame _ _ .mt (by simp)) (congrArg (·.conns) (m.count_frame _ _ .x (by simp)))

/-- What a connection's tile sends and counts: the packet goes out, its counter counts, and the connections stand as they were set. -/
theorem sent_counted (ha : a.n = s.n ∧ a.x.inbox = s.x.inbox ∧ a.straps = s.straps ∧ a.draws = s.draws ∧ a.regs = s.regs)
    (hs : s'.regs = s.regs) (hcalm : a.Calm) (hn : n < 256)
    (ht : t.toModule = ((a.originate (tileOfCid cid) p).count (pgXpt (tileOfCid cid)) n).settle e) :
    Counts s' t (pgXpt (tileOfCid cid)) n 1 ∧ t.conn cid = a.conn cid ∧ Originates s t (tileOfCid cid) p ∧
      Module.Frame [.regs, .msix, .out, .x, .n, .draws] a t.toModule := by
  have hrouted := a.routed_originate (tileOfCid cid) p
  have hcalm' := (hcalm.routed hrouted).count (pgXpt (tileOfCid cid)) n
  have hframe : Module.Frame [.regs, .msix, .out] (a.originate (tileOfCid cid) p) t.toModule := by
    rw [ht]
    exact (Module.count_frame _ _ _).trans ((hcalm'.settle_frame e).mono (by simp))
  have hget : ∀ f, a.get f = s'.get f := fun f => by rw [Module.get, Module.word, ha.2.2.2.2, ← hs, Module.get, Module.word]
  refine ⟨counts_of (pgXpt_ne_pgHost _) hn (hrouted.get_freeze.trans (hget _))
    ((hrouted.get_ctr (pgXpt_ne_pgHost _) (pgXpt_ne_pgRoute _) hn).trans (hget _)) ?_, ?_,
    originates_then ha (hframe.mono (by simp)) rfl, hrouted.frame.trans (hframe.mono (by simp))⟩
  · rw [Module.get, ht, hcalm'.settle_word e (ctrValue_not_use hn)]
    rfl
  · exact (Module.conn_congr _ (hframe .x (by simp)) cid).trans (hrouted.conn cid)

end

/-! ## PROBE -/

section
variable {s : State} {k : Nat} {p : Packet}

theorem exec_probe (k : Nat) (e : Env) (s : State) : exec (.probe k e) s = execProbe k e s := rfl

/-- R209: without a key for its ND a PROBE is answered in the clear. -/
theorem probe_noKey (hw : s.Whole k p) (hop : p.opcode = wProbe) (e : Env) (hkey : s.keyOf p.nd = none) (hroom : s.ctlFull 0 = false) :
    Answers (exec (.probe k e) s) fun t => Counts s t (pgXpt 0) 10 1 ∧
      Originates (s.took k e) t 0 (barePacket (s.control p.src p.nd p.tc wNack p.epoch 0
        (BitVec.ofNat 64 (p.psn * 2 ^ 40 + p.attempt * 2 ^ 32 + nkNoDomain * 2 ^ 24)) [])) ∧ Touches sendParts s t := by
  have hrouted := (s.took k e).routed_originate 0 (barePacket (s.control p.src p.nd p.tc wNack p.epoch 0
    (BitVec.ofNat 64 (p.psn * 2 ^ 40 + p.attempt * 2 ^ 32 + nkNoDomain * 2 ^ 24)) []))
  refine ⟨s.upd fun _ => ((s.took k e).originate 0 (barePacket (s.control p.src p.nd p.tc wNack p.epoch 0
    (BitVec.ofNat 64 (p.psn * 2 ^ 40 + p.attempt * 2 ^ 32 + nkNoDomain * 2 ^ 24)) []))).count (pgXpt 0) 10, ?_, ?_, ?_, ?_⟩
  · have hkey' : (s.took k e).keyOf p.nd = none := hkey
    rw [exec_probe, execProbe, State.arrivingRaw_whole hw hop, hkey', Module.nackBare_room (m := (s.took k e).toModule) hroom]
    rfl
  · exact counts_of (pgXpt_ne_pgHost 0) (by decide) hrouted.get_freeze (hrouted.get_ctr (pgXpt_ne_pgHost 0) (by decide) (by decide)) rfl
  · exact originates_then ⟨rfl, rfl, rfl, rfl, rfl⟩ ((Module.count_frame _ _ _).mono (by simp)) rfl
  · exact Module.Frame.touches_left (((s.took_frame k e).mono (by simp [sendParts])).trans
      ((hrouted.frame.mono sendParts_routed).trans ((Module.count_frame _ _ _).mono (by simp [sendParts]))))

/-- A receive direction that was not there, CHALLENGED under an epoch, as its CHALLENGE leaves it (R218, R219). -/
def Conn.newlyChallenged (c : Conn) (m : Module) (epoch : Nat) : Conn :=
  { c.rxRestart epoch .challenged with
    rxEpoch := epoch
    rxCsn := 1
    lastChal := m.fabricNow % 2 ^ 32
    chalFree := m.now + m.get F.xptCfgChalGap * 1000 }

/-- R219: a PROBE of a connection not yet received from is answered with a CHALLENGE under the epoch it proposes. -/
theorem probe_challenges (hw : s.Whole k p) (hop : p.opcode = wProbe) (e : Env) {cid : Nat} {c : Conn} {key : List Byte}
    (hkey : (s.keyOf p.nd).isSome) (hcid : s.cidOf p.src p.nd = some cid) (hc : s.conn cid = some c) (hrx : c.rxState = .none)
    (hgap : c.chalFree ≤ max s.now e.t) (hrecv : s.recvKey c.nd c.remote (bits (clearPacket p).opw 63 32) = some key) (hset : s.Settled) :
    let ep := bits (clearPacket p).opw 63 32
    Answers (exec (.probe k e) s) fun t => Counts s t (pgXpt (tileOfCid cid)) 13 1 ∧
      (∃ c1, t.conn cid = some c1 ∧ c1.rxState = .challenged ∧ c1.rxEpoch = ep ∧ c1.rxBase = 0 ∧ c1.bitmap = [] ∧
        c1.rxCsn = 1 ∧ c1.lastChal = (s.toModule.at e).fabricNow % 2 ^ 32 ∧
        c1.chalFree = max s.now e.t + s.get F.xptCfgChalGap * 1000 ∧ c1.txState = c.txState ∧ c1.tx = c.tx) ∧
      Originates (s.took k e) t (tileOfCid cid) (sealChallenge key (s.control c.remote c.nd p.tc wChallenge ep 0
        (BitVec.ofNat 64 (ep * 2 ^ 32)) (beBytes 8 s.nonce ++ beBytes 3 0 ++ beBytes 1 p.attempt ++ beBytes 4 0))) ∧
      Touches sendParts s t := by
  obtain ⟨⟨slot, dkey⟩, hkey⟩ := Option.isSome_iff_exists.1 hkey
  dsimp only
  generalize hep : bits (clearPacket p).opw 63 32 = ep at hrecv ⊢
  have hep32 : ep % 2 ^ 32 = ep := Nat.mod_eq_of_lt (hep ▸ bits_lt _ _ _)
  let b := (s.took k e).setConn cid (c.rxRestart ep .challenged)
  let a := b.setConn cid (c.newlyChallenged (s.toModule.at e) ep)
  have hepoch : (c.rxRestart ep .challenged).rxEpoch = ep := hep32
  have hprobed : (s.took k e).probed p slot = b.challenge cid p.tc 0 p.attempt := by
    simp only [Module.probed, hep, Module.needConn_cached (m := (s.took k e).toModule) hcid hc,
      show (s.took k e).conn cid = some c from hc, hrx]
    rfl
  let pkt := sealChallenge key (s.control c.remote c.nd p.tc wChallenge ep 0 (BitVec.ofNat 64 (ep * 2 ^ 32))
    (beBytes 8 s.nonce ++ beBytes 3 0 ++ beBytes 1 p.attempt ++ beBytes 4 0))
  let t := s.upd fun _ => ((a.originate (tileOfCid cid) pkt).count (pgXpt (tileOfCid cid)) 13).settle e
  have hsent : b.challenge cid p.tc 0 p.attempt = (a.originate (tileOfCid cid) pkt).count (pgXpt (tileOfCid cid)) 13 := by
    rw [Module.challenge_sealed (m := b) (Module.conn_setConn_same _) (Nat.zero_le _) hgap (by rw [hepoch]; exact hrecv), hepoch]
    rfl
  have hrun : exec (.probe k e) s = .next t := by
    rw [exec_probe, execProbe, State.arrivingRaw_whole hw hop, show (s.took k e).keyOf p.nd = _ from hkey]
    dsimp only
    rw [hprobed, hsent]
  have hanew : (c.newlyChallenged (s.toModule.at e) ep).anew = false := by
    simp [Conn.newlyChallenged, Conn.rxRestart, hset.calm.anew hc, hrx]
  have hcalm : a.Calm := ((hset.calm.congr rfl rfl : (s.took k e).toModule.Calm).setConn cid
    (show (c.rxRestart ep .challenged).anew = false from hanew)).setConn cid hanew
  obtain ⟨hcounts, hconn, horig, hframe⟩ := sent_counted (s := s.took k e) (s' := s) (a := a) (t := t) (n := 13) (p := pkt)
    ⟨rfl, rfl, rfl, rfl, rfl⟩ rfl hcalm (by decide) rfl
  refine ⟨t, hrun, hcounts, ⟨_, hconn.trans (Module.conn_setConn_same _), rfl, rfl, rfl, rfl, rfl, rfl, rfl, rfl, rfl⟩, horig, ?_⟩
  exact Module.Frame.touches_left ((((s.took_frame k e).mono (by simp [sendParts])).trans
    (((Module.setConn_frame _ _ _).trans (Module.setConn_frame _ _ _)).mono (by simp [sendParts]))).trans (hframe.mono sendParts_routed))

end

/-! ## Trim notices -/

section
variable {s : State} {k cid : Nat} {p : Packet} {c : Conn}

theorem exec_trimNotice (k : Nat) (e : Env) (s : State) : exec (.trimNotice k e) s = execTrimNotice k e s := rfl

theorem State.takeInbox_took (hin : s.x.inbox[k]? = some p) {want : Packet → Bool} (hwant : want p = true) (e : Env) :
    (s.toModule.at e).takeInbox k want = some (p, (s.took k e).toModule) := by
  simp only [Module.takeInbox, show (s.toModule.at e).x = s.x from rfl, hin, hwant]
  rfl

/-- R226, R242: a trim notice of the epoch inside the window, not answered before, is answered with one NACK TRIMMED. -/
theorem trimNotice_answered (hin : s.x.inbox[k]? = some p) (htrim : p.trimmed = true) (hgood : malformed p = false) (e : Env)
    (hcid : s.cidOf p.src p.nd = some cid) (hc : s.conn cid = some c) (hset : s.Settled) (hkey : (s.keyOf p.nd).isSome)
    (hrecv : (s.recvKey c.nd c.remote c.rxEpoch).isSome) (hroom : s.ctlFull (tileOfCid cid) = false) (hdata : isControl p.opcode = false)
    (hrx : c.rxState ≠ .none) (hep : p.epoch = c.rxEpoch) (hwin : seqSub 24 p.psn c.rxBase < 1024) (hbit : p.psn ∉ c.bitmap)
    (hnew : (p.psn, p.attempt) ∉ c.trims) (hcsn : c.rxCsn ≤ 0xFFFFFF) : Answers (exec (.trimNotice k e) s) fun t =>
      t.conn cid = some { c with trims := c.trims ++ [(p.psn, p.attempt)], rxCsn := c.rxCsn + 1 } ∧
      OriginatesSealed (s.took k e) t (tileOfCid cid) (s.recvKey c.nd c.remote c.rxEpoch)
        (s.control c.remote c.nd p.tc wNack c.rxEpoch c.rxCsn
          (BitVec.ofNat 64 (p.psn * 2 ^ 40 + p.attempt * 2 ^ 32 + nkTrimmed * 2 ^ 24)) []) ∧
      Counts s t (pgXpt (tileOfCid cid)) 10 1 ∧ Touches sendParts s t := by
  obtain ⟨key, hrecv⟩ := Option.isSome_iff_exists.1 hrecv
  let c1 : Conn := { c with trims := c.trims ++ [(p.psn, p.attempt)] }
  let b := (s.took k e).setConn cid c1
  let a := b.setConn cid { c1 with rxCsn := c.rxCsn + 1 }
  let pkt := sealPacket key false (s.control c.remote c.nd p.tc wNack c.rxEpoch c.rxCsn
    (BitVec.ofNat 64 (p.psn * 2 ^ 40 + p.attempt * 2 ^ 32 + nkTrimmed * 2 ^ 24)) [])
  let t := s.upd fun _ => ((a.originate (tileOfCid cid) pkt).count (pgXpt (tileOfCid cid)) 10).settle e
  have hnack : b.nack cid p.tc p.psn p.attempt nkTrimmed = (a.originate (tileOfCid cid) pkt).count (pgXpt (tileOfCid cid)) 10 :=
    Module.nack_sealed (m := b) (c := c1) (Module.conn_setConn_same _) hcsn hrecv hroom _ _ _ _
  have hrun : exec (.trimNotice k e) s = .next t := by
    refine (exec_trimNotice k e s).trans (s.run_of _ ?_)
    have hctl : (s.took k e).ctlConn p = some (cid, c, (s.took k e).toModule) := Module.ctlConn_cached _ hkey hcid hc
    dsimp only
    rw [State.takeInbox_took hin (by simp [htrim, hgood])]
    simp only [hctl]
    rw [if_neg (by simp [hdata, hrx, hep, hwin, hbit, hnew])]
    exact congrArg (fun x => x.settle e) hnack
  have hanew : c.anew = false := hset.calm.anew hc
  have hcalm : a.Calm := ((hset.calm.congr rfl rfl : (s.took k e).toModule.Calm).setConn cid
    (show c1.anew = false from hanew)).setConn cid hanew
  obtain ⟨hcounts, hconn, horig, hframe⟩ := sent_counted (s := s.took k e) (s' := s) (a := a) (t := t) (n := 10) (p := pkt)
    ⟨rfl, rfl, rfl, rfl, rfl⟩ rfl hcalm (by decide) rfl
  refine ⟨t, hrun, hconn.trans (Module.conn_setConn_same _), ⟨key, hrecv, horig⟩, hcounts, ?_⟩
  exact Module.Frame.touches_left ((((s.took_frame k e).mono (by simp [sendParts])).trans
    (((Module.setConn_frame _ _ _).trans (Module.setConn_frame _ _ _)).mono (by simp [sendParts]))).trans (hframe.mono sendParts_routed))

/-- A packet that is discarded and counted, with nothing else (R201, R202, R242). -/
theorem discarded_counts (s : State) (k : Nat) (e : Env) (tile n : Nat) (hn : n < 256) :
    let t := s.upd fun _ => (s.took k e).count (pgXpt tile) n
    t.x = (s.took k e).x ∧ Counts s t (pgXpt tile) n 1 ∧ Touches [.regs, .msix, .out, .x, .now] s t := by
  refine ⟨Module.count_x _ _ _, counts_of (a := (s.took k e).toModule) (pgXpt_ne_pgHost _) hn rfl rfl rfl, Module.Frame.touches_left ?_⟩
  exact ((s.took_frame k e).mono (by simp)).trans ((Module.count_frame _ _ _).mono (by simp))

/-- Another trim notice is counted (R202). -/
theorem trimNotice_discarded (hin : s.x.inbox[k]? = some p) (htrim : p.trimmed = true) (hgood : malformed p = false) (e : Env)
    (hcid : s.cidOf p.src p.nd = some cid) (hc : s.conn cid = some c)
    (hother : isControl p.opcode = true ∨ c.rxState = .none ∨ p.epoch ≠ c.rxEpoch ∨ 1024 ≤ seqSub 24 p.psn c.rxBase ∨ p.psn ∈ c.bitmap ∨
      (p.psn, p.attempt) ∈ c.trims) : Answers (exec (.trimNotice k e) s) fun t => t.x = (s.took k e).x ∧
        Counts s t (pgXpt (tileOfCid cid)) 14 1 ∧ Touches [.regs, .msix, .out, .x, .now] s t := by
  refine ⟨_, (exec_trimNotice k e s).trans (s.run_of _ ?_), discarded_counts s k e (tileOfCid cid) 14 (by decide)⟩
  dsimp only
  rw [State.takeInbox_took hin (by simp [htrim, hgood])]
  dsimp only
  cases hkey : (s.took k e).keyOf p.nd
  case none =>
    have hctl : (s.took k e).ctlConn p = none := by
      simp [Module.ctlConn, show (s.took k e).cidOf p.src p.nd = some cid from hcid, hkey]
    have htile : (s.took k e).tileFor p = tileOfCid cid := by
      rw [Module.tileFor, show (s.took k e).cidOf p.src p.nd = some cid from hcid]
      rfl
    rw [hctl]
    exact congrArg (fun tile => (s.took k e).count (pgXpt tile) 14) htile
  case some kk =>
    have hctl : (s.took k e).ctlConn p = some (cid, c, (s.took k e).toModule) :=
      Module.ctlConn_cached _ (hkey ▸ rfl) hcid hc
    rw [hctl]
    exact if_pos (by simpa [or_assoc] using hother)

end

/-! ## Malformed packets -/

theorem exec_malformedPacket (k : Nat) (e : Env) (s : State) : exec (.malformedPacket k e) s = execMalformedPacket k e s := rfl

theorem malformed_counts (k : Nat) (e : Env) (s : State) (p : Packet) (hin : s.x.inbox[k]? = some p) (hbad : malformed p = true) :
    Answers (exec (.malformedPacket k e) s) fun t => t.x = (s.took k e).x ∧ Counts s t (pgXpt (s.tileFor p)) 9 1 ∧
      Touches [.regs, .msix, .out, .x, .now] s t := by
  refine ⟨_, (exec_malformedPacket k e s).trans (s.run_of _ ?_), discarded_counts s k e (s.tileFor p) 9 (by decide)⟩
  dsimp only
  rw [State.takeInbox_took hin hbad]
  rfl

/-! ## Delayed ACKs -/

section
variable {s : State} {cid : Nat} {c : Conn}

theorem exec_ackDelay (cid : Nat) (e : Env) (s : State) : exec (.ackDelay cid e) s = execAckDelay cid e s := rfl

theorem Module.dropOldAcks_room {m : Module} {tile : Nat} (h : m.ctlFull tile = false) (c : Conn) : m.dropOldAcks tile c = m := by
  simp [Module.dropOldAcks, h]

/-- R225: ack_delay after the first acceptance, one ACK reports them all. -/
theorem ackDelay_reports (hc : s.conn cid = some c) (hpend : c.ackPend ≠ 0) (hcsn : c.rxCsn ≤ 0xFFFFFF) (e : Env)
    (hdue : c.ackDue ≤ max s.now e.t) (hset : s.Settled) (hroom : s.ctlFull (tileOfCid cid) = false)
    (hrecv : (s.recvKey c.nd c.remote c.rxEpoch).isSome) : Answers (exec (.ackDelay cid e) s) fun t =>
      t.conn cid = some { c with ackPend := 0, ackTc := 0, ackQuiet := max s.now e.t + s.ackDelay, rxCsn := c.rxCsn + 1 } ∧
      OriginatesSealed s t (tileOfCid cid) (s.recvKey c.nd c.remote c.rxEpoch) (s.control c.remote c.nd c.ackTc wAck c.rxEpoch c.rxCsn
        (BitVec.ofNat 64 (c.rxBase * 2 ^ 40 + c.rsnSent * 2 ^ 16)) c.sack) ∧ Touches sendParts s t := by
  obtain ⟨key, hrecv⟩ := Option.isSome_iff_exists.1 hrecv
  let c1 : Conn := { c with ackPend := 0, ackTc := 0, ackQuiet := max s.now e.t + s.ackDelay }
  let b := (s.toModule.at e).setConn cid c1
  let a := b.setConn cid { c1 with rxCsn := c.rxCsn + 1 }
  let pkt := sealPacket key false (s.control c.remote c.nd c.ackTc wAck c.rxEpoch c.rxCsn
    (BitVec.ofNat 64 (c.rxBase * 2 ^ 40 + c.rsnSent * 2 ^ 16)) c.sack)
  let t := s.upd fun _ => (a.originate (tileOfCid cid) pkt).settle e
  have hack : (s.toModule.at e).sendAck cid c.ackTc = a.originate (tileOfCid cid) pkt := by
    have hsealed := Module.sendCtl_sealed (m := b) (c := c1) (Module.conn_setConn_same _) hcsn hrecv c.ackTc wAck
      (BitVec.ofNat 64 (c.rxBase * 2 ^ 40 + c.rsnSent * 2 ^ 16)) c.sack
    have hdrop : b.dropOldAcks (tileOfCid cid) c = b := Module.dropOldAcks_room (m := b) hroom c
    simp only [Module.sendAck, show (s.toModule.at e).conn cid = some c from hc, hpend, if_false, Nat.max_self]
    exact (congrArg (fun m => Module.sendCtl m cid c.ackTc wAck _ _) hdrop).trans hsealed
  have hrun : exec (.ackDelay cid e) s = .next t := by
    refine (exec_ackDelay cid e s).trans (s.run_of _ ?_)
    simp only [show (s.toModule.at e).conn cid = some c from hc]
    have hlate : decide ((s.toModule.at e).now < c.ackDue) = false := decide_eq_false (Nat.not_lt.2 hdue)
    rw [hlate, decide_eq_false hpend, if_neg (by decide), hack]
  have hanew : c.anew = false := hset.calm.anew hc
  have hcalm : a.Calm := ((hset.calm.congr rfl rfl : (s.toModule.at e).Calm).setConn cid
    (show c1.anew = false from hanew)).setConn cid hanew
  have hrouted := a.routed_originate (tileOfCid cid) pkt
  have hsettle := (hcalm.routed hrouted).settle_frame e
  have horig : Originates s t (tileOfCid cid) pkt :=
    originates_then (a := a) (b := t.toModule) ⟨rfl, rfl, rfl, rfl, rfl⟩ (hsettle.mono (by simp)) rfl
  refine ⟨t, hrun, ?_, ⟨key, hrecv, horig⟩, ?_⟩
  · exact ((hcalm.routed hrouted).settle_conn e cid).trans ((hrouted.conn cid).trans (Module.conn_setConn_same _))
  · exact Module.Frame.touches_left (((((s.toModule.at_frame e).mono (by simp [sendParts])).trans
      (((Module.setConn_frame _ _ _).trans (Module.setConn_frame _ _ _)).mono (by simp [sendParts]))).trans
        (hrouted.frame.mono sendParts_routed)).trans (hsettle.mono (by simp [sendParts])))

/-- Before ack_delay is over, nothing but the time changes (R225). -/
theorem ackDelay_waits (hc : s.conn cid = some c) (e : Env) (hdue : max s.now e.t < c.ackDue) :
    exec (.ackDelay cid e) s = .next (s.upd fun m => m.at e) := by
  refine (exec_ackDelay cid e s).trans (s.run_of _ (m := s.toModule.at e) ?_)
  simp only [show (s.toModule.at e).conn cid = some c from hc]
  exact if_pos (by simpa using Or.inr hdue)

end

/-! ## Runs of NO_DOMAIN -/

section
variable {s : State} {cid n : Nat} {c : Conn}

theorem exec_ndWaitExpiry (cid : Nat) (e : Env) (s : State) : exec (.ndWaitExpiry cid e) s = execNdWaitExpiry cid e s := rfl

/-- R237: when nd_wait is over, the operation of the run ends with NO_DOMAIN. -/
theorem ndWait_ends (hc : s.conn cid = some c) (hrun : c.ndRun = some n) (e : Env) (hover : n ≤ max s.now e.t) (hset : s.Settled)
    {g : Msg} {id : Nat} {o : Op} (hmsgs : c.msgs = [g]) (hkind : g.kind = .put) (hop : g.op = some id) (ho : s.op id = some o)
    (hfin : o.finished = false) (hsil : o.silent = false) : Answers (exec (.ndWaitExpiry cid e) s) fun t =>
      OpCompletes s t id stNoDomain 0 0 0 ∧ t.conn cid = some c.rest ∧ Touches [.regs, .q, .x, .now] s t := by
  let b := (s.toModule.at e).setConn cid c.rest
  obtain ⟨comp, hdone, hcomp⟩ := Module.opDone_live (m := b) ho hfin hsil stNoDomain 0 0 c.remote 0
  have hover' : (s.toModule.at e).dirNoDomain e cid = b.opDone id stNoDomain 0 0 c.remote 0 := by
    simp only [Module.dirNoDomain, show (s.toModule.at e).conn cid = some c from hc, hmsgs, List.foldl_cons, List.foldl_nil, Module.msgFail,
      hkind, hop]
    rfl
  have hb : b.Calm := (hset.calm.congr rfl rfl : (s.toModule.at e).Calm).setConn cid (c := c.rest) (show c.anew = false from hset.calm.anew hc)
  have hcalm : (b.opDone id stNoDomain 0 0 c.remote 0).Calm := by
    rw [hdone]
    exact hb.congr rfl rfl
  have hframe := hcalm.settle_frame e
  refine ⟨s.upd fun _ => (b.opDone id stNoDomain 0 0 c.remote 0).settle e,
    (exec_ndWaitExpiry cid e s).trans (s.run_of _ ?_), ⟨comp, ?_, hcomp⟩, ?_, Module.Frame.touches_left ?_⟩
  · simp only [show (s.toModule.at e).conn cid = some c from hc, hrun]
    exact (if_pos hover).trans (congrArg (fun m => Module.settle m e) hover')
  · exact (congrArg Queues.done (hframe .q (by simp))).trans (by rw [hdone]; rfl)
  · refine (hcalm.settle_conn e cid).trans ?_
    rw [hdone]
    exact Module.conn_setConn_same (s.toModule.at e)
  · refine (((s.toModule.at_frame e).mono (by simp)).trans ((Module.setConn_frame _ cid c.rest).mono (by simp))).trans ?_
    refine Module.Frame.trans (b := b.opDone id stNoDomain 0 0 c.remote 0) ?_ (hframe.mono (by simp))
    rw [hdone]
    exact (b.frame_q _).mono (by simp)

theorem ndWait_waits (hc : s.conn cid = some c) (hrun : c.ndRun = some n) (e : Env) (hwait : max s.now e.t < n) :
    exec (.ndWaitExpiry cid e) s = .next (s.upd fun m => m.at e) := by
  refine (exec_ndWaitExpiry cid e s).trans (s.run_of _ (m := s.toModule.at e) ?_)
  simp only [show (s.toModule.at e).conn cid = some c from hc, hrun]
  exact if_neg (Nat.not_le.2 hwait)

end

end Sys2Proof.Machine

/-! PROOFS. XPT_ENABLE (R210, R676): every connection is freed, and a boot nonce drawn: O32. -/

namespace Sys2Proof.Machine

set_option Elab.async false

/-! ## What freeing the connections changes -/

/-- Fields that freeing connections keeps: all but those of errors and of MATCH[t].USE. -/
def FreeKept (f : Fld) : Prop := ErrKept f ∧ ¬ UseRegs f.reg

/-- What freeing connections may change: neither a key nor the counter of draws, and no kept field. -/
structure Module.Freed (m a : Module) : Prop where
  frame : Module.Frame [.regs, .msix, .out, .q, .smp, .x, .mt, .dtu, .reads] m a
  keys : a.x.keys = m.x.keys
  keeps : Module.Keeps FreeKept true m a

section
variable {m a b : Module}

theorem Module.Freed.refl (m : Module) : m.Freed m := ⟨.refl _ m, rfl, .refl m⟩

theorem Module.Freed.trans (h : m.Freed a) (k : a.Freed b) : m.Freed b :=
  ⟨h.frame.trans k.frame, k.keys.trans h.keys, h.keeps.trans k.keeps⟩

theorem Module.Freed.foldl {α : Type} (f : Module → α → Module) (hf : ∀ m x, Module.Freed m (f m x)) (xs : List α)
    (h : m.Freed a) : m.Freed (xs.foldl f a) := by
  induction xs generalizing a with
  | nil => exact h
  | cons x xs ih => exact ih (h.trans (hf a x))

/-- An operation that touches neither the connections nor the registers frees nothing. -/
theorem Module.Freed.of_frame {l : List Part} (h : Module.Frame l m a) (hl : l ⊆ [.q, .smp, .mt]) : m.Freed a := by
  have hnot : ∀ p, p ∉ ([.q, .smp, .mt] : List Part) → p ∉ l := fun p hp h => hp (hl h)
  exact ⟨h.mono fun p hp => by have := hl hp; simp only [List.mem_cons, List.not_mem_nil, or_false] at this ⊢; tauto,
    congrArg (·.keys) (h .x (hnot _ (by decide))),
    .of_frame h (hnot _ (by decide)) (hnot _ (by decide)) (hnot _ (by decide))⟩

variable (m)

theorem Module.keys_retire (o : Owner) : (m.retire o).x.keys = m.x.keys := by
  cases o
  case op id =>
    cases h : m.op id
    case none => rw [m.retire_absent h]
    case some o =>
      rw [m.retire_op h]
      split
      · rfl
      · split <;> rfl
  all_goals rfl

theorem Module.freed_abandon (id : Nat) : m.Freed (m.abandon id) := by
  refine ⟨(m.abandon_frame id).mono (by simp), ?_, (m.keeps_abandon id).mono fun f _ hf => hf.1⟩
  unfold Module.abandon
  dsimp only
  split
  · have htag : ∀ b : Module, b.x = (m.retire (.op id)).x → b.x.keys = m.x.keys := fun b hb => by rw [hb, m.keys_retire]
    refine htag _ ?_
    exact ((Module.sampleRelease_frame _) .x (by simp)).trans ((Module.setTagged_frame _ _) .x (by simp))
  · exact m.keys_retire _

theorem Module.freed_dropOps (ids : List Nat) : m.Freed (m.dropOps ids) := by
  unfold Module.dropOps
  refine .foldl _ (fun a id => ?_) _ (.refl m)
  split
  · exact .refl a
  · split
    exacts [.refl a, a.freed_abandon id]

theorem Module.frame_mt (x : Matching) : Module.Frame [.mt] m { m with mt := x } := by
  intro p hp
  cases p <;> simp_all [Part.same]

theorem Module.freed_mt (x : Matching) : m.Freed { m with mt := x } := .of_frame (m.frame_mt x) (by simp)

theorem Module.freed_rdvDrop (i gen : Nat) : m.Freed (m.rdvDrop i gen) := by
  unfold Module.rdvDrop
  split
  · exact .refl m
  next r _ =>
    refine (m.freed_dropOps [r.op]).trans ?_
    unfold Module.rdvErase
    split
    exacts [.refl _, Module.freed_mt _ _]

theorem Module.freed_writeVirt (e : Env) (link : Nat) (r : XReq) (bs : List Byte) : m.Freed (m.writeVirt e link r bs).2 :=
  have hframe := Module.writeVirt_frame e link r m bs
  have hx : (m.writeVirt e link r bs).2.x = m.x := hframe .x (by decide)
  ⟨hframe.mono (by simp [virtParts]), congrArg (·.keys) hx, (Module.keeps_writeVirt e link r m bs).mono fun f _ hf => hf.1⟩

theorem Module.freed_freeBounce (x : Nat) (i : Option Nat) : m.Freed (m.freeBounce x i) := by
  unfold Module.freeBounce
  split
  exacts [m.freed_mt _, .refl m]

theorem Module.freed_recvClose (d : Delivery) (status length detail : Nat) : m.Freed (m.recvClose d status length detail) := by
  have hfree : ∀ x : Matching, m.Freed ({ m with mt := x }.freeBounce d.mctx d.bounce) := fun x =>
    (m.freed_mt x).trans (Module.freed_freeBounce _ _ _)
  unfold Module.recvClose
  dsimp only
  split
  exacts [hfree _, (hfree _).trans (.of_frame (Module.frame_q _ _) (by simp))]

theorem Module.freed_recvEnd (e : Env) (d : Delivery) (status length detail : Nat) : m.Freed (m.recvEnd e d status length detail) := by
  have hrecord : m.Freed (m.recvRecord e d).2 := by
    unfold Module.recvRecord
    split
    · exact .refl m
    · have hwrite := m.freed_writeVirt e d.recv.link (d.req d.recv.statusVa) (statusRecord d.rank d.msgLen d.rts (d.recv.length < d.msgLen))
      split <;> rename_i heq <;> rw [heq] at hwrite <;> exact hwrite
  unfold Module.recvEnd
  split <;> rename_i heq <;> rw [heq] at hrecord
  · split <;> exact hrecord.trans (Module.freed_recvClose _ _ _ _ _)
  · exact hrecord.trans (Module.freed_recvClose _ _ _ _ _)

theorem Module.freed_mtUse (t : Nat) (ht : t < 2) : m.Freed (m.mtUse t) := by
  have hreg : UseRegs (F.matchUseUnexp t).reg := by
    rcases Nat.lt_succ_iff_lt_or_eq.1 ht with h | rfl
    · exact .inl (by rw [Nat.lt_one_iff.1 h])
    · exact .inr rfl
  have hframe : Module.Frame [.regs] m (m.mtUse t) := m.mtUse_frame t
  refine ⟨hframe.mono (by simp), congrArg (·.keys) (hframe .x (by simp)), ?_⟩
  have hquiet : Quiet (F.matchUseUnexp t).reg := by rcases hreg with h | h <;> rw [h] <;> exact ⟨by decide, by decide⟩
  have hapart : ∀ f g : Fld, f.reg = (F.matchUseUnexp t).reg → FreeKept g → Apart f g :=
    fun f g hf hg he => absurd (he.trans hf ▸ hreg) hg.2
  have put : ∀ {a : Module} (f : Fld) (v : Nat), Module.Keeps FreeKept true m a → f.lo ≤ f.hi → f.hi < 64 →
      f.reg = (F.matchUseUnexp t).reg → Module.Keeps FreeKept true m (a.put f v) :=
    fun f v h hlo h64 hf => h.put f v hlo h64 (hf ▸ hquiet) fun g => hapart f g hf
  refine put (F.matchUsePosted t) _ (put (F.matchUseUnexp t) _ (put (F.matchUseBounceFree t) _ (.refl m) ?_ ?_ rfl) ?_ ?_ rfl) ?_ ?_ rfl
  all_goals simp [F.matchUsePosted, F.matchUseUnexp, F.matchUseBounceFree]

/-- Freeing the connections empties their lists, in a module that keeps what `Module.Freed` says. -/
theorem Module.xptFree_eq (e : Env) :
    ∃ a, m.Freed a ∧ m.xptFree e = { a with x := { a.x with conns := [], evicted := [], waiting := [], opening := [] } } := by
  unfold Module.xptFree
  dsimp only
  refine ⟨_, ?_, rfl⟩
  refine .trans (.trans (.trans ?_ (Module.freed_mt _ _)) (Module.freed_mtUse _ 0 (by decide))) (Module.freed_mtUse _ 1 (by decide))
  refine .foldl _ (fun a (u : Unexp) => a.freed_freeBounce u.mctx u.bounce) _ ?_
  refine .foldl _ (fun a (d : Delivery) => a.freed_recvEnd e d stConnFailed d.written 0) _ ?_
  exact .foldl _ (fun a (g : Msg) => a.freed_rdvDrop g.ref g.ref2) _ (m.freed_dropOps _)

end

/-! ## A restart of the transport -/

section
variable (m : Module) (e : Env)

/-- What a restart of the transport leaves: no connection, the nonce drawn, the keys as before (R210). -/
structure Module.Restarted (m a : Module) : Prop where
  conns : a.x.conns = []
  evicted : a.x.evicted = []
  waiting : a.x.waiting = []
  keys : a.x.keys = m.x.keys
  draws : a.draws = m.draws + 1
  nonce : a.get F.xptNonceNonce = Config.draw m.draws % 2 ^ 64

theorem freeKept_xptNonce : FreeKept F.xptNonceNonce := by
  refine ⟨?_, ?_⟩
  · show _ ∉ _
    decide
  · rintro (h | h) <;> exact absurd h (by decide)

theorem Module.xptRestart_freed :
    ∃ a, ({ m with draws := m.draws + 1 }.put F.xptNonceNonce (Config.draw m.draws)).Freed a ∧
      m.xptRestart e = { a with x := { a.x with conns := [], evicted := [], waiting := [], opening := [] } } :=
  Module.xptFree_eq _ e

theorem Module.xptRestart_restarted : m.Restarted (m.xptRestart e) := by
  obtain ⟨a, hfreed, heq⟩ := m.xptRestart_freed e
  rw [heq]
  refine ⟨rfl, rfl, rfl, hfreed.keys, hfreed.frame .draws (by decide), ?_⟩
  exact (hfreed.keeps.field _ ⟨by decide, by decide⟩ freeKept_xptNonce).trans (Module.get_put_same _ _ _ (by decide) (by decide))

theorem Module.get_xptRestart (f : Fld) (hq : Quiet f.reg) (hf : FreeKept f) (hn : f.reg ≠ F.xptNonceNonce.reg) :
    (m.xptRestart e).get f = m.get f := by
  obtain ⟨a, hfreed, heq⟩ := m.xptRestart_freed e
  rw [heq]
  exact (hfreed.keeps.field _ hq hf).trans (Module.get_put_reg _ _ _ _ hn)

end

/-! ## XPT_ENABLE -/

theorem freeKept_xptEnable : FreeKept (F.pgEnable (pgXpt 0)) := by
  refine ⟨?_, ?_⟩
  · show _ ∉ _
    decide
  · rintro (h | h) <;> exact absurd h (by decide)

/-- A write that changes the enable of the transport restarts it under the new one. -/
theorem State.xptCtl_eq (s : State) (w : Wr) (hr : s.reaches (pgXpt 0 * 0x1000 + 0x18) = true) (hh : w.half ≠ .hi)
    (hne : s.get (F.pgEnable (pgXpt 0)) ≠ bits w.value 0 0) :
    ∃ a : Module, s.toModule.Restarted a ∧ a.get (F.pgEnable (pgXpt 0)) = bits w.value 0 0 ∧
      s.toModule.xptCtl w = if bits w.value 0 0 = 1 then { a with x := { a.x with tableLost := false } } else a := by
  let on := F.pgEnable (pgXpt 0)
  have hframe : Module.Frame [.regs] s.toModule (s.toModule.pageCtl (pgXpt 0 * 0x1000 + 0x18) w) :=
    s.toModule.pageCtl_frame w (by decide) (by decide) hr
  generalize hb : s.toModule.pageCtl (pgXpt 0 * 0x1000 + 0x18) w = b at hframe
  let a := b.put on (bits w.value 0 0)
  have hres : a.Restarted (a.xptRestart (Env.bare b.now)) := a.xptRestart_restarted _
  have hx : b.x = s.x := hframe .x (by decide)
  have hdraws : b.draws = s.draws := hframe .draws (by decide)
  have hon : (a.xptRestart (Env.bare b.now)).get on = bits w.value 0 0 := by
    rw [Module.get_xptRestart _ _ _ ⟨by decide, by decide⟩ freeKept_xptEnable (by decide)]
    exact (Module.get_put_same _ _ _ (by decide) (by decide)).trans (Nat.mod_eq_of_lt (bits_lt w.value 0 0))
  refine ⟨_, ⟨hres.conns, hres.evicted, hres.waiting, hres.keys.trans (congrArg (·.keys) hx), ?_, ?_⟩, hon, ?_⟩
  · rw [hres.draws, ← hdraws]
    rfl
  · rw [hres.nonce, ← hdraws]
    rfl
  · unfold Module.xptCtl
    dsimp only
    rw [hb, if_neg (by simp [hr, touches_of_ne_hi hh (show 0 < 32 by decide), hne])]

theorem xptEnable_restarts (w : Wr) (s : State) (ha : s.Arrives w (pgXpt 0 * 0x1000 + 0x18)) (hh : w.half ≠ .hi)
    (hne : s.get (F.pgEnable (pgXpt 0)) ≠ bits w.value 0 0) :
    Answers (exec (.xptEnable w) s) fun t => t.get (F.pgEnable (pgXpt 0)) = bits w.value 0 0 ∧
      t.get F.xptNonceNonce = Config.draw s.draws % 2 ^ 64 ∧ t.draws = s.draws + 1 ∧ t.x.conns = [] ∧ t.x.evicted = [] ∧
      t.x.waiting = [] ∧ t.x.keys = s.x.keys ∧ (bits w.value 0 0 = 1 → t.x.tableLost = false) := by
  obtain ⟨a, hres, hon, heq⟩ := s.xptCtl_eq w ha.2 hh hne
  refine State.answers_runAs_eq (f := fun m => m.xptCtl w) ha.1 heq ?_
  split
  next h1 => exact ⟨hon, hres.nonce, hres.draws, hres.conns, hres.evicted, hres.waiting, hres.keys, fun _ => rfl⟩
  next h1 => exact ⟨hon, hres.nonce, hres.draws, hres.conns, hres.evicted, hres.waiting, hres.keys, fun h => absurd h h1⟩

/-- Settles O32: each clause is the lemma that says what the command answers. -/
theorem receiversAnswer : Obligations.ReceiversAnswer := by
  unfold Obligations.ReceiversAnswer
  refine ⟨fun k e s p hp hop => ⟨fun hkey hroom => probe_noKey hp hop e hkey hroom,
      fun cid c key hkey hcid hc hrx hgap hrecv hset => probe_challenges hp hop e hkey hcid hc hrx hgap hrecv hset⟩,
    fun k e s p cid c hin htrim hgood hcid hc hset => ⟨trimNotice_answered hin htrim hgood e hcid hc hset,
      trimNotice_discarded hin htrim hgood e hcid hc⟩,
    fun cid e s c hc hpend hcsn => ⟨ackDelay_waits hc e, ackDelay_reports hc hpend hcsn e⟩, malformed_counts,
    fun cid e s c n hc hrun => ⟨fun hover hset g id o hmsgs hkind hop ho hfin hsil =>
      ndWait_ends hc hrun e hover hset hmsgs hkind hop ho hfin hsil, ndWait_waits hc hrun e⟩, xptEnable_restarts⟩

end Sys2Proof.Machine

/-! PROOFS. What every arriving data packet goes through (R219, R236, R240, R308): the layer under O33. -/

namespace Sys2Proof.Machine

set_option Elab.async false

/-! ## Connections found again -/

/-- The first entry of a keyed map that meets a test stands where an entry is replaced by one that meets it as well. -/
theorem KMap.find_put {V : Type} {l : List (Nat × V)} {k : Nat} {v v0 : V} (p : V → Bool) (hget : KMap.get l k = some v0)
    (hp : p v = p v0) (hfirst : p v0 = true → (l.find? (fun q => p q.2)).map (·.1) = some k) :
    ((KMap.put l k v).find? (fun q => p q.2)).map (·.1) = (l.find? (fun q => p q.2)).map (·.1) := by
  induction l with
  | nil => simp [KMap.get] at hget
  | cons e l ih =>
    obtain ⟨k', v'⟩ := e
    rw [KMap.put]
    split
    · cases hv : p v0
      · simp [hp, hv]
      · rw [hfirst hv]
        simp [hp, hv]
    · split
      next hk =>
        subst hk
        obtain rfl : v' = v0 := by simpa [KMap.get] using hget
        cases hv : p v' <;> simp [hp, hv]
      next hk =>
        rw [KMap.get, if_neg hk] at hget
        cases hv : p v'
        · simp only [List.find?_cons, hv]
          exact ih hget fun h0 => by simpa [List.find?_cons, hv] using hfirst h0
        · simp [hv]

section
variable {m : Module} {cid remote nd : Nat} {c c1 : Conn}

/-- A connection that is set with its ends as they were is found again. -/
theorem Module.cidOf_setConn (hcid : m.cidOf remote nd = some cid) (hc : m.conn cid = some c) (hr : c1.remote = c.remote)
    (hn : c1.nd = c.nd) : (m.setConn cid c1).cidOf remote nd = some cid := by
  let f := fun p : Nat × Conn => decide (p.2.remote = remote) && decide (p.2.nd = nd)
  have hmap : ∀ a : Module, a.cidOf remote nd = ((a.x.conns.find? f).map (·.1)).or ((a.x.evicted.find? f).map (·.1)) := by
    intro a
    unfold Module.cidOf
    dsimp only [f]
    split <;> rename_i h <;> rw [h] <;> rfl
  have hfirst : f (cid, c) = true → (m.x.conns.find? f).map (·.1) = some cid := by
    intro hv
    have hsome : ((m.x.conns.find? f).map (·.1)).isSome := by
      rw [Option.isSome_map, List.find?_isSome]
      exact ⟨_, KMap.mem_of_get hc, hv⟩
    rw [hmap] at hcid
    obtain ⟨k, hk⟩ := Option.isSome_iff_exists.1 hsome
    rwa [hk, Option.some_or, ← hk] at hcid
  have hput : ((m.setConn cid c1).x.conns.find? f).map (·.1) = (m.x.conns.find? f).map (·.1) :=
    KMap.find_put (fun v => f (cid, v)) hc (by simp only [f, hr, hn]) hfirst
  rw [hmap, hput, ← hcid, hmap]
  rfl

theorem Module.cidOf_congr {a : Module} (h : a.x = m.x) (remote nd : Nat) : a.cidOf remote nd = m.cidOf remote nd := by
  rw [Module.cidOf, h, Module.cidOf]

end

/-! ## Receive directions -/

/-- The ends of a connection stand, and it has not started over. -/
structure Conn.SameEnds (c c1 : Conn) : Prop where
  remote : c1.remote = c.remote
  nd : c1.nd = c.nd
  anew : c1.anew = c.anew

/-- The sending side of a connection, and its ends, stand. -/
structure Conn.SameSend (c c1 : Conn) : Prop extends c.SameEnds c1 where
  msgs : c1.msgs = c.msgs
  tx : c1.tx = c.tx
  rsnRcvd : c1.rsnRcvd = c.rsnRcvd

theorem Conn.SameEnds.refl (c : Conn) : c.SameEnds c := ⟨rfl, rfl, rfl⟩

theorem Conn.SameSend.refl (c : Conn) : c.SameSend c := ⟨.refl c, rfl, rfl, rfl⟩

theorem Conn.SameSend.trans {c c1 c2 : Conn} (h : c.SameSend c1) (k : c1.SameSend c2) : c.SameSend c2 :=
  ⟨⟨k.remote.trans h.remote, k.nd.trans h.nd, k.anew.trans h.anew⟩, k.msgs.trans h.msgs, k.tx.trans h.tx, k.rsnRcvd.trans h.rsnRcvd⟩

theorem Conn.pass_sameSend (n : Nat) : ∀ c : Conn, c.SameSend (c.pass n) ∧ (c.pass n).rxBase = c.rxBase ∧
    (c.pass n).bitmap = c.bitmap ∧ (c.pass n).rxCsn = c.rxCsn := by
  induction n with
  | zero => exact fun c => ⟨.refl c, rfl, rfl, rfl⟩
  | succ n ih =>
    intro c
    rw [Conn.pass]
    split
    · obtain ⟨hs, hrest⟩ := ih _
      exact ⟨⟨⟨hs.remote, hs.nd, hs.anew⟩, hs.msgs, hs.tx, hs.rsnRcvd⟩, hrest⟩
    · exact ⟨.refl c, rfl, rfl, rfl⟩

/-- rx_base passes accepted PSNs only: a PSN that was marked is marked still, or lies below the window. -/
theorem Conn.advance_marks {psn : Nat} (n : Nat) : ∀ (c : Conn) (b : Nat), b + n < 2 ^ 23 →
    (psn ∈ c.bitmap ∨ 2 ^ 24 - b ≤ seqSub 24 psn c.rxBase) →
    psn ∈ (c.advance n).bitmap ∨ 2 ^ 24 - (b + n) ≤ seqSub 24 psn (c.advance n).rxBase := by
  induction n with
  | zero => exact fun c b _ h => h
  | succ n ih =>
    intro c b hb h
    rw [Conn.advance]
    split
    · rw [show b + (n + 1) = (b + 1) + n by omega]
      refine ih _ (b + 1) (by omega) ?_
      simp only [seqSub] at h ⊢
      by_cases hp : psn = c.rxBase
      · right
        subst hp
        omega
      · refine h.imp (fun h => List.mem_filter.2 ⟨h, by simpa using hp⟩) fun h => ?_
        omega
    · exact h.imp id fun h => by omega

theorem Conn.advance_sameSend (n : Nat) : ∀ c : Conn, c.SameSend (c.advance n) ∧ (c.advance n).rxCsn = c.rxCsn := by
  induction n with
  | zero => exact fun c => ⟨.refl c, rfl⟩
  | succ n ih =>
    intro c
    rw [Conn.advance]
    split
    · obtain ⟨hs, hrest⟩ := ih _
      exact ⟨⟨⟨hs.remote, hs.nd, hs.anew⟩, hs.msgs, hs.tx, hs.rsnRcvd⟩, hrest⟩
    · exact ⟨.refl c, rfl⟩

theorem mem_addNum (l : List Nat) (n : Nat) : n ∈ addNum l n := by
  unfold addNum
  split
  next h => simpa using h
  next => simp

/-- An operation about a connection leaves it as `c`: beside that it sends packets and messages of events. -/
structure Module.Leaves (cid : Nat) (c : Conn) (m a : Module) : Prop where
  frame : Module.Frame [.regs, .msix, .out, .x, .n, .draws] m a
  out : ∃ l, a.out = m.out ++ l ∧ l.all Emit.isEvent = true
  calm : m.Calm → c.anew = false → a.Calm
  conn : a.conn cid = some c
  found : ∀ {c0 : Conn} {remote nd : Nat}, m.conn cid = some c0 → c.remote = c0.remote → c.nd = c0.nd →
    m.cidOf remote nd = some cid → a.cidOf remote nd = some cid

section
variable {m a b : Module} {cid : Nat} {c c1 c2 : Conn}

theorem Module.Leaves.refl (hc : m.conn cid = some c) : Module.Leaves cid c m m :=
  ⟨.refl _ m, ⟨[], by simp, rfl⟩, fun h _ => h, hc, fun _ _ _ h => h⟩

theorem Module.Leaves.trans (h : Module.Leaves cid c m a) (k : Module.Leaves cid c1 a b) (hs : c.SameEnds c1) :
    Module.Leaves cid c1 m b := by
  obtain ⟨l, hl, hle⟩ := h.out
  obtain ⟨l', hl', hle'⟩ := k.out
  exact ⟨h.frame.trans k.frame, ⟨l ++ l', by simp [hl, hl'], by simp [hle, hle']⟩,
    fun hm hn => k.calm (h.calm hm (hs.anew ▸ hn)) hn, k.conn,
    fun hc0 hr hn hcid => k.found h.conn hs.remote hs.nd (h.found hc0 (hs.remote ▸ hr) (hs.nd ▸ hn) hcid)⟩

theorem Module.leaves_setConn (m : Module) (cid : Nat) (c : Conn) : Module.Leaves cid c m (m.setConn cid c) :=
  ⟨(m.setConn_frame _ _).mono (by simp), ⟨[], by simp [Module.setConn], rfl⟩, fun h hn => h.setConn cid hn, m.conn_setConn_same,
    fun hc0 hr hn hcid => Module.cidOf_setConn hcid hc0 hr hn⟩

theorem Module.Routed.leaves (h : m.Routed a) (hc : m.conn cid = some c) : Module.Leaves cid c m a :=
  ⟨h.frame, h.out, fun hm _ => hm.routed h, (h.conn cid).trans hc, fun _ _ _ hcid => by rwa [Module.cidOf, h.x, ← Module.cidOf]⟩

/-- A change of registers alone, as counting makes it, leaves the connections. -/
theorem Module.leaves_count (hc : m.conn cid = some c) (page n : Nat) : Module.Leaves cid c m (m.count page n) :=
  ⟨(m.count_frame page n).mono (by simp), m.countUp_out _ _ _, fun h _ => h.count page n,
    (Module.conn_congr _ (m.count_frame page n .x (by simp)) cid).trans hc,
    fun _ _ _ hcid => (Module.cidOf_congr (m.count_frame page n .x (by simp)) _ _).trans hcid⟩

theorem Module.grantOffers_frame (m : Module) (dst : Nat) : Module.Frame [.n] m (m.grantOffers dst) := by
  unfold Module.grantOffers
  refine Module.foldl_frame _ (fun a x => ?_) _ m
  split
  exacts [a.frame_n _, .refl _ a]

theorem Module.closeXfer_frame (m : Module) (id : Nat) : Module.Frame [.n] m (m.closeXfer id) := by
  unfold Module.closeXfer
  split
  exacts [.refl _ m, (m.frame_n _).trans (Module.grantOffers_frame _ _)]

theorem Module.onPort_frame (m : Module) (p : Nat) (f : Port → Port) : Module.Frame [.n] m (m.onPort p f) := m.frame_n _

theorem Module.dequeue_frame (m : Module) (p id : Nat) : Module.Frame [.n] m (m.dequeue p id) :=
  (m.onPort_frame p _).trans (Module.closeXfer_frame _ _)

theorem Module.dropOldAcks_frame (m : Module) (tile : Nat) (c : Conn) : Module.Frame [.n] m (m.dropOldAcks tile c) := by
  unfold Module.dropOldAcks
  split
  · exact .refl _ m
  · refine Module.foldl_frame _ (fun a q => ?_) _ m
    dsimp only
    split
    exacts [a.dequeue_frame _ _, .refl _ a]

/-- An ACK of a connection, with a CSN left (R224). -/
theorem Module.leaves_sendAck (hc : m.conn cid = some c) (hcsn : c.rxCsn ≤ 0xFFFFFF) (tc : Nat) :
    ∃ c1, Module.Leaves cid c1 m (m.sendAck cid tc) ∧ c.SameSend c1 ∧ c1.rxBase = c.rxBase ∧ c1.bitmap = c.bitmap := by
  let c1 : Conn := { c with ackPend := 0, ackTc := 0, ackQuiet := m.now + m.ackDelay }
  have hset : Module.Leaves cid c1 m (m.setConn cid c1) := m.leaves_setConn cid c1
  have hdrop : Module.Leaves cid c1 (m.setConn cid c1) ((m.setConn cid c1).dropOldAcks (tileOfCid cid) c) :=
    (Module.Routed.of_same ((Module.dropOldAcks_frame _ _ _).mono (by simp))).leaves m.conn_setConn_same
  have hbefore := hset.trans hdrop (.refl c1)
  unfold Module.sendAck
  rw [hc]
  dsimp only
  generalize (m.setConn cid c1).dropOldAcks (tileOfCid cid) c = b at hbefore ⊢
  unfold Module.sendCtl
  rw [hbefore.conn]
  dsimp only
  rw [if_neg (Nat.not_lt.2 hcsn)]
  split
  · exact ⟨c1, hbefore, ⟨⟨rfl, rfl, rfl⟩, rfl, rfl, rfl⟩, rfl, rfl⟩
  · refine ⟨_, (hbefore.trans (b.leaves_setConn cid { c1 with rxCsn := c1.rxCsn + 1 }) ⟨rfl, rfl, rfl⟩).trans
      ((Module.routed_originate _ _ _).leaves b.conn_setConn_same) (.refl _), ⟨⟨rfl, rfl, rfl⟩, rfl, rfl, rfl⟩, rfl, rfl⟩

/-- A connection with a PSN marked, and its base advanced (R240). -/
def Conn.marked (c : Conn) (psn : Nat) : Conn := ({ c with bitmap := addNum c.bitmap psn } : Conn).advance 1024

/-- A connection that has accepted a PSN: an ACK is scheduled (R225, R240). -/
def Conn.accepted (c : Conn) (now delay psn tc : Nat) : Conn :=
  { c.marked psn with
    ackPend := (c.marked psn).ackPend + 1
    ackDue := if (c.marked psn).ackPend = 0 then now + delay else (c.marked psn).ackDue
    ackTc := if (c.marked psn).ackPend = 0 then tc else max (c.marked psn).ackTc tc
    trims := (c.marked psn).trims.filter (fun t => t.1 ≠ psn) }

/-- R240: an accepted packet is marked. -/
theorem Module.leaves_rxAccept (hc : m.conn cid = some c) (hcsn : c.rxCsn ≤ 0xFFFFFF) (psn tc : Nat) :
    ∃ c1, Module.Leaves cid c1 m (m.rxAccept cid psn tc) ∧ c.SameSend c1 ∧ c1.hasPsn psn := by
  obtain ⟨hsend, hcsn'⟩ := Conn.advance_sameSend 1024 { c with bitmap := addNum c.bitmap psn }
  have hmark := Conn.advance_marks (psn := psn) 1024 { c with bitmap := addNum c.bitmap psn } 0 (by decide) (.inl (mem_addNum _ _))
  let c1 := c.accepted m.now m.ackDelay psn tc
  have h1 : c.SameSend c1 := ⟨⟨hsend.remote, hsend.nd, hsend.anew⟩, hsend.msgs, hsend.tx, hsend.rsnRcvd⟩
  have hpsn : c1.hasPsn psn := hmark.elim .inr fun h => .inl (Nat.le_trans (by decide) h)
  have hcount : Module.Leaves cid c1 m ((m.setConn cid c1).count (pgXpt (tileOfCid cid)) 3) :=
    (m.leaves_setConn cid c1).trans (Module.leaves_count m.conn_setConn_same _ _) (.refl c1)
  have heq : m.rxAccept cid psn tc = if ((m.setConn cid c1).count (pgXpt (tileOfCid cid)) 3).get F.xptCfgAckCount ≤ c1.ackPend
      then ((m.setConn cid c1).count (pgXpt (tileOfCid cid)) 3).sendAck cid tc
      else (m.setConn cid c1).count (pgXpt (tileOfCid cid)) 3 := by
    unfold Module.rxAccept
    rw [hc]
    rfl
  rw [heq]
  split
  · obtain ⟨c2, hack, h2, hbase, hbits⟩ := Module.leaves_sendAck hcount.conn (hcsn'.trans_le hcsn) tc
    exact ⟨c2, hcount.trans hack h2.toSameEnds, h1.trans h2, by rwa [Conn.hasPsn, hbase, hbits]⟩
  · exact ⟨c1, hcount, h1, hpsn⟩

/-- R308: an MSN is seen; where no order-held message waits, nothing follows from that. -/
theorem Module.leaves_markSeen (hc : m.conn cid = some c) (hheld : m.mt.unexp = []) (e : Env) (msn : Nat) :
    ∃ c1, Module.Leaves cid c1 m (m.markSeen e cid msn) ∧ c.SameSend c1 ∧ c1.rxCsn = c.rxCsn := by
  unfold Module.markSeen
  rw [hc]
  dsimp only
  split
  · exact ⟨c, .refl hc, .refl c, rfl⟩
  · obtain ⟨hs, -, -, hcsn⟩ := Conn.pass_sameSend 1024 { c with seen := addNum c.seen msn }
    have hset := m.leaves_setConn cid (({ c with seen := addNum c.seen msn } : Conn).pass 1024)
    have hnone : (m.setConn cid (({ c with seen := addNum c.seen msn } : Conn).pass 1024)).mt.unexp = [] := hheld
    refine ⟨_, ?_, ⟨⟨hs.remote, hs.nd, hs.anew⟩, hs.msgs, hs.tx, hs.rsnRcvd⟩, hcsn⟩
    generalize m.setConn cid (({ c with seen := addNum c.seen msn } : Conn).pass 1024) = b at hset hnone ⊢
    rw [Module.heldSteps, hset.conn]
    dsimp only
    rw [Module.heldMsg, hnone]
    exact hset

theorem Module.Calm.leaves_settle (h : m.Calm) (e : Env) (hc : m.conn cid = some c) : Module.Leaves cid c m (m.settle e) := by
  have hframe := h.settle_frame e
  exact ⟨hframe.mono (by simp), ⟨[], by simp [show (m.settle e).out = m.out from hframe .out (by simp)], rfl⟩,
    fun hm _ => hm.congr (hframe .mt (by simp)) (congrArg (·.conns) (hframe .x (by simp))), (h.settle_conn e cid).trans hc,
    fun _ _ _ hcid => (Module.cidOf_congr (hframe .x (by simp)) _ _).trans hcid⟩

end

/-! ## A packet at its connection -/

/-- An operation at a connection whose context is cached begins with the connection as it is. -/
theorem State.Receives.taken {s : State} {k cid : Nat} {p : Opened} {c : Conn} (h : s.Receives k p cid c) (e : Env) :
    (s.took k e).conn cid = some c := h.2.2.2.1

section
variable {s : State} {k cid : Nat} {p : Opened} {c : Conn} {engine : Module → Nat → Verdict × Module}

/-- A packet that its receive direction may accept reaches the engine, and its answer decides (R219, R240). -/
theorem State.Receives.rxData (h : s.Receives k p cid c) (e : Env) : (s.took k e).toModule.rxData p engine =
    match ((s.took k e).setConn cid c).engineAnswer p cid (engine ((s.took k e).setConn cid c) cid) with
    | (.refuse cause, m1) => m1.nack cid p.tc p.psn p.attempt cause
    | (.wait, _) => { (s.took k e).setConn cid c with
        x := { ((s.took k e).setConn cid c).x with inbox := ((s.took k e).setConn cid c).x.inbox ++ [p.toPacket] } }
    | (.accept, m1) => m1.rxAccept cid p.psn p.tc := by
  obtain ⟨-, hkey, hcid, hc, hrx, hep, hauth, hwin, hbit, -, -, -⟩ := h
  obtain ⟨⟨slot, key⟩, hkey⟩ := Option.isSome_iff_exists.1 hkey
  have hkey' : (s.took k e).keyOf p.nd = some (slot, key) := hkey
  have hneed : (s.took k e).needConn p.src p.nd slot = (some cid, (s.took k e).toModule) := Module.needConn_cached _ hcid hc
  have hself : ({ c with rxState := .open } : Conn) = c := by rw [← hrx]
  unfold Module.rxData
  rw [hkey']
  dsimp only
  rw [hneed]
  dsimp only
  rw [show (s.took k e).conn cid = some c from hc]
  dsimp only
  rw [if_neg (by simp [hrx]), if_neg (by simp [hep]), if_neg (by simp [hauth]), if_neg (by simp [hep])]
  simp only [if_neg (show ¬ p.epoch = c.rxEpoch + 1 by omega), hself]
  rw [if_neg (by omega), if_neg (by omega), if_neg (by simpa using hbit)] <;> rfl

/-- R240, R308: what follows an engine that takes a packet: its MSN is seen, its PSN marked. -/
theorem State.Receives.rxPacket_accepted (h : s.Receives k p cid c) (e : Env) (hop : p.opcode ≠ wEager ∧ p.opcode ≠ wRts) {b : Module} {c2 : Conn}
    (heng : engine ((s.took k e).setConn cid c) cid = (.accept, b)) (hseen : (b.markSeen e cid p.msn).conn cid = some c2)
    (hroom : c2.msgs.length ≤ c.msgs.length ∨ c.canAnswer = true) :
    (s.took k e).toModule.rxPacket e p engine = (((b.markSeen e cid p.msn).rxAccept cid p.psn p.tc)).settle e := by
  have hkind : ¬ (decide (p.opcode = wEager) || decide (p.opcode = wRts)) = true := by simp [hop.1, hop.2]
  have hfull : ¬ (decide (c.msgs.length < c2.msgs.length) && !c.canAnswer) = true := by
    rcases hroom with h | h
    · simp [Nat.not_lt.2 h]
    · simp [h]
  unfold Module.rxPacket
  rw [h.rxData e, heng]
  dsimp only
  rw [if_neg hkind, Module.engineAnswer, Module.conn_setConn_same, hseen]
  dsimp only
  rw [if_neg hfull]

/-- R240, R308: a packet that its engine takes is seen and marked, and every list is in order then. -/
theorem State.Receives.accepts (h : s.Receives k p cid c) (e : Env) (hop : p.opcode ≠ wEager ∧ p.opcode ≠ wRts) {b : Module} {c1 : Conn}
    (heng : engine ((s.took k e).setConn cid c) cid = (.accept, b)) (hb : b.conn cid = some c1)
    (hroom : c1.msgs.length ≤ c.msgs.length ∨ c.canAnswer = true) (hcsn : c1.rxCsn = c.rxCsn) (hheld : b.mt.unexp = []) (hcalm : b.Calm) :
    ∃ c2, Module.Leaves cid c2 b ((s.took k e).toModule.rxPacket e p engine) ∧ c1.SameSend c2 ∧ c2.hasPsn p.psn ∧
      ((s.took k e).toModule.rxPacket e p engine).Calm := by
  obtain ⟨c2, hseen, h2, hcsn2⟩ := Module.leaves_markSeen hb hheld e p.msn
  obtain ⟨c3, hacc, h3, hpsn⟩ := Module.leaves_rxAccept hseen.conn (hcsn2.trans hcsn |>.trans_le h.2.2.2.2.2.2.2.2.2.1) p.psn p.tc
  have hanew : c3.anew = false := (h3.anew.trans h2.anew).trans (hcalm.anew hb)
  have hboth := hseen.trans hacc h3.toSameEnds
  have hafter := (hboth.calm hcalm hanew).leaves_settle e hboth.conn
  rw [h.rxPacket_accepted e hop heng hseen.conn (h2.msgs ▸ hroom)]
  exact ⟨c3, hboth.trans hafter (.refl c3), h2.trans h3, hpsn, hafter.calm (hboth.calm hcalm hanew) hanew⟩

/-- R172: a packet that has to wait is in the inbox again, behind the others. -/
theorem State.Receives.waits (h : s.Receives k p cid c) (e : Env) {b : Module}
    (heng : engine ((s.took k e).setConn cid c) cid = (.wait, b)) :
    (s.took k e).toModule.rxPacket e p engine = Module.settle { (s.took k e).setConn cid c with
        x := { ((s.took k e).setConn cid c).x with inbox := ((s.took k e).setConn cid c).x.inbox ++ [p.toPacket] } } e := by
  unfold Module.rxPacket
  rw [h.rxData e, heng]
  rfl

end

end Sys2Proof.Machine

/-! PROOFS. A translation asks nothing of the transport: whether bytes reach a page with side effects too early (R172) does not depend on
the connections. -/

namespace Sys2Proof.Machine

set_option Elab.async false

/-! ## The module with another transport -/

/-- The module with the transport's state replaced. -/
def Module.withX (m : Module) (x : Xpt) : Module := { m with x := x }

section
variable (m : Module) (x : Xpt)

@[simp] theorem Module.get_withX (f : Fld) : (m.withX x).get f = m.get f := rfl

@[simp] theorem Module.put_withX (f : Fld) (v : Nat) : (m.withX x).put f v = (m.put f v).withX x := rfl

/-- Of two answers, with the transport replaced in either. -/
theorem Module.ite_withX {p : Prop} [Decidable p] (a b : Module) : (if p then a.withX x else b.withX x) = (if p then a else b).withX x := by
  split <;> rfl

@[simp] theorem Module.addCtr_withX (page n k : Nat) : (m.withX x).addCtr page n k = (m.addCtr page n k).withX x := by
  have hfreeze : (m.withX x).flag F.sampleCtrFreeze = m.flag F.sampleCtrFreeze := rfl
  unfold Module.addCtr
  rw [hfreeze]
  split
  · rfl
  · dsimp only
    rw [m.get_withX x, m.put_withX x]
    split <;> rfl

@[simp] theorem Module.emit_withX (y : Emit) : (m.withX x).emit y = (m.emit y).withX x := rfl

@[simp] theorem Module.pendVector_withX (link v : Nat) (cr : Bool) : (m.withX x).pendVector link v cr = (m.pendVector link v cr).withX x := rfl

theorem Module.ovfMessage_withX : (m.withX x).ovfMessage = m.ovfMessage.withX x := by
  have hdest : (m.withX x).dest pgSample = m.dest pgSample := rfl
  have hfn : ∀ link, (m.withX x).msixFn link = m.msixFn link := fun _ => rfl
  unfold Module.ovfMessage
  rw [hdest]
  split
  · rfl
  · rfl
  · simp only [hfn, Module.pendVector_withX, Module.addCtr_withX, Module.emit_withX, Module.ite_withX]

theorem Module.countMsg_withX (link : Nat) : (m.withX x).countMsg link = (m.countMsg link).withX x := by
  have hwraps : (m.withX x).wraps (pgHost link) 4 1 = m.wraps (pgHost link) 4 1 := rfl
  have hass : ∀ (a : Module), (a.withX x).asserted pgSample = a.asserted pgSample := fun _ => rfl
  simp only [Module.countMsg, hwraps, Module.addCtr_withX, Module.put_withX, hass, Module.ovfMessage_withX, Module.ite_withX]

theorem Module.deliver_withX (n : Nat) : (m.withX x).deliver n = (m.deliver n).withX x := by
  have hdest : (m.withX x).dest n = m.dest n := rfl
  have hfn : ∀ link, (m.withX x).msixFn link = m.msixFn link := fun _ => rfl
  unfold Module.deliver
  rw [hdest]
  split
  · rfl
  · rfl
  · simp only [Module.sendVector, hfn, Module.pendVector_withX, Module.emit_withX, Module.countMsg_withX, Module.ite_withX]

theorem Module.raise_withX (page c : Nat) : (m.withX x).raise page c = (m.raise page c).withX x := by
  have hass : ∀ (a : Module), (a.withX x).asserted page = a.asserted page := fun _ => rfl
  simp only [Module.raise, Module.onRise, Module.put_withX, hass, Module.deliver_withX, Module.ite_withX]

@[simp] theorem Module.count_withX (page n : Nat) : (m.withX x).count page n = (m.count page n).withX x := by
  have hwraps : (m.withX x).wraps page n 1 = m.wraps page n 1 := rfl
  simp only [Module.count, Module.countUp, hwraps, Module.addCtr_withX, Module.raise_withX, Module.ite_withX]

/-! ## Translations -/

@[simp] theorem Module.microFill_withX (engine : Nat) (slot : TlbSlot) :
    (m.withX x).microFill engine slot = (m.microFill engine slot).withX x := by
  show (if (KMap.getD m.dtu.micro engine []).contains slot then m.withX x else _) = (if _ then m else _ : Module).withX x
  rw [← Module.ite_withX]
  rfl

theorem Module.descend_withX (r : XReq) (link : Nat) (l : Nat) : ∀ table, (m.withX x).descend r link l table = m.descend r link l table := by
  induction l with
  | zero => exact fun _ => rfl
  | succ l ih =>
    intro table
    simp only [Module.descend, ih]
    rfl

theorem Module.walkFromEntry_withX (r : XReq) (w0 w1 : Word) : (m.withX x).walkFromEntry r w0 w1 = m.walkFromEntry r w0 w1 := by
  simp only [Module.walkFromEntry, Module.descend_withX]

theorem Module.startWalk_withX (r : XReq) : (m.withX x).startWalk r = m.startWalk r := by
  simp only [Module.startWalk, Module.walkFromEntry_withX]
  rfl

theorem Module.lookup_withX (r : XReq) : (m.withX x).lookup r = ((m.lookup r).1, (m.lookup r).2.withX x) := by
  have hon : ∀ a : Module, (a.withX x).dtuOn = a.dtuOn := fun _ => rfl
  have hhit : ∀ a : Module, (a.withX x).tlbHit r = a.tlbHit r := fun _ => rfl
  simp only [Module.lookup, Module.count_withX, hon, hhit, Module.startWalk_withX]
  split
  · rfl
  · split
    · simp only [Module.microFill_withX]
    · rfl

theorem Module.walkReturn_withX (w : Walk) (d : Option (List Word)) :
    (m.withX x).walkReturn w d = ((m.walkReturn w d).1, (m.walkReturn w d).2.withX x) := by
  have hon : ∀ a : Module, (a.withX x).dtuOn = a.dtuOn := fun _ => rfl
  have hcache : ∀ (p : Prop) [Decidable p] (a : Module) (d : Dtu), (if p then { a.withX x with dtu := d } else a.withX x) =
      (if p then { a with dtu := d } else a : Module).withX x := fun p _ a d => by split <;> rfl
  have hkeep : ∀ (p : Prop) [Decidable p] (a : Module) (d : Dtu), (if p then a.withX x else { a.withX x with dtu := d }) =
      (if p then a else { a with dtu := d } : Module).withX x := fun p _ a d => by split <;> rfl
  unfold Module.walkReturn
  dsimp only
  rw [Module.count_withX]
  generalize m.count pgDtu 3 = a
  rw [hon a]
  split
  · rfl
  cases d
  case none => rfl
  case some ws =>
    dsimp only
    split
    · rw [hcache, Module.walkFromEntry_withX]
      rfl
    split
    · rfl
    split
    · rfl
    split
    · split
      · have hbad : ∀ p : Prop, [Decidable p] → (if p then (a.withX x).count pgDtu 4 else a.withX x) =
            (if p then a.count pgDtu 4 else a).withX x := fun p _ => by rw [Module.count_withX, Module.ite_withX]
        rw [hbad]
        generalize (if (leafSlot w.req.asid w.req.va ((ws[0]?).getD 0)).2 = true then a.count pgDtu 4 else a) = b
        cases w.stale
        · exact congrArg (Prod.mk _) (Module.microFill_withX { b with dtu := { b.dtu with tlb := pushCap 8192 b.dtu.tlb (leafSlot w.req.asid w.req.va ((ws[0]?).getD 0)).1 } } x _ _)
        · rfl
      · rfl
    · rw [hkeep, Module.descend_withX]
      rfl

theorem Module.walkAll_withX (e : Env) (n : Nat) : ∀ (m : Module) (st : WStep),
    (m.withX x).walkAll e n st = ((m.walkAll e n st).1, (m.walkAll e n st).2.withX x) := by
  have hread : ∀ (a : Module) link k addr, (a.withX x).readWords e link k addr = a.readWords e link k addr := fun a link k addr =>
    Module.readWords_congr (m := a) (a := a.withX x) rfl e link k addr
  induction n with
  | zero => exact fun _ _ => rfl
  | succ n ih =>
    intro m st
    cases st
    case read w =>
      rw [Module.walkAll, Module.walkAll, hread]
      dsimp only
      rw [show (m.withX x).readDone = m.readDone.withX x from rfl, Module.walkReturn_withX]
      exact ih _ _
    all_goals rfl

theorem Module.translate_withX (e : Env) (r : XReq) : ((m.withX x).translate e r).1 = (m.translate e r).1 := by
  unfold Module.translate
  rw [Module.lookup_withX]
  dsimp only
  rw [Module.walkAll_withX]
  dsimp only
  split <;> rfl

/-- R172 asks nothing of the transport. -/
theorem Module.seAhead_withX (e : Env) (r : XReq) (n : Nat) : (m.withX x).seAhead e r n = m.seAhead e r n := by
  simp only [Module.seAhead, Module.translate_withX]

theorem Module.tooEarly_congr {a : Module} (h : a = m.withX a.x) (e : Env) (l : Landing) (off : Nat) (r : XReq) (n : Nat) :
    a.tooEarly e l off r n = m.tooEarly e l off r n := by
  rw [h, Module.tooEarly, Module.seAhead_withX, Module.tooEarly]

end

end Sys2Proof.Machine

/-! PROOFS. Accepted packets of remote memory operations (R240, R255–R258, R263–R271): O33. -/

namespace Sys2Proof.Machine

set_option Elab.async false

/-! ## Messages of a receive direction -/

theorem Conn.rxMsg_msn (c : Conn) (msn : Nat) : (c.rxMsg msn).msn = msn := by
  unfold Conn.rxMsg
  split
  next r hr => simpa using List.find?_some hr
  next => rfl

theorem Conn.rxMsg_setRxMsg (c : Conn) (r : RxMsg) : (c.setRxMsg r).rxMsg r.msn = r := by
  have hnone : (c.rxMsgs.filter (fun q => q.msn ≠ r.msn)).find? (fun q => q.msn = r.msn) = none :=
    List.find?_eq_none.2 fun q hq => by simpa using (List.mem_filter.1 hq).2
  simp only [Conn.rxMsg, Conn.setRxMsg, List.find?_append, hnone]
  simp

/-- What a receive direction knows of a packet's message once the packet is accepted (R232). -/
def Conn.counted (c : Conn) (p : Opened) (total : Option Nat) (written : Nat) (failed : Option (Nat × Nat)) : RxMsg :=
  let r := c.rxMsg p.msn
  { r with bytes := r.bytes + pPlen p, landing := r.landing.take (pOff p) (pPlen p), written := r.written + written,
           total := (r.total.or total).or (if pLast p then some (pOff p + pPlen p) else none),
           failed := r.failed.or failed }

theorem Conn.counted_msn (c : Conn) (p : Opened) (total : Option Nat) (written : Nat) (failed : Option (Nat × Nat)) :
    (c.counted p total written failed).msn = p.msn := c.rxMsg_msn p.msn

section
variable {m : Module} {cid : Nat} {c : Conn}

theorem Module.rxCount_eq (hc : m.conn cid = some c) (p : Opened) (total : Option Nat) (written : Nat) (failed : Option (Nat × Nat)) :
    m.rxCount cid p total written failed =
      (m.setConn cid (c.setRxMsg (c.counted p total written failed))).rxEnd cid p.tc p.msn := by
  rw [Module.rxCount, hc]
  rfl

/-- A packet of a message that has not failed is counted in its connection, and nothing else follows. -/
theorem Module.leaves_rxCount (hc : m.conn cid = some c) (p : Opened) (hfail : (c.rxMsg p.msn).failed = none)
    (total : Option Nat) (written : Nat) : ∃ c1, Module.Leaves cid c1 m (m.rxCount cid p total written none) ∧ c.SameSend c1 ∧
      c1.rxCsn = c.rxCsn ∧ Module.Frame [.x] m (m.rxCount cid p total written none) := by
  have hgot := Conn.rxMsg_setRxMsg c (c.counted p total written none)
  rw [Conn.counted_msn] at hgot
  have hset := m.leaves_setConn cid (c.setRxMsg (c.counted p total written none))
  have hframe := m.setConn_frame cid (c.setRxMsg (c.counted p total written none))
  have hsame : c.SameSend (c.setRxMsg (c.counted p total written none)) := ⟨⟨rfl, rfl, rfl⟩, rfl, rfl, rfl⟩
  have hnot : (c.counted p total written none).failed = none := by simp [Conn.counted, hfail]
  rw [Module.rxCount_eq hc, Module.rxEnd, Module.conn_setConn_same]
  dsimp only
  rw [hgot, hnot]
  have hagain : ∀ c2 : Conn, (c.setRxMsg (c.counted p total written none)).SameSend c2 → c2.rxCsn = c.rxCsn → ∃ c1,
      Module.Leaves cid c1 m ((m.setConn cid (c.setRxMsg (c.counted p total written none))).setConn cid c2) ∧ c.SameSend c1 ∧
        c1.rxCsn = c.rxCsn ∧ Module.Frame [.x] m ((m.setConn cid (c.setRxMsg (c.counted p total written none))).setConn cid c2) :=
    fun c2 h2 hcsn => ⟨c2, hset.trans (Module.leaves_setConn _ _ _) h2.toSameEnds, hsame.trans h2, hcsn,
      hframe.trans (Module.setConn_frame _ _ _)⟩
  split
  · exact ⟨_, hset, hsame, rfl, hframe⟩
  split
  · exact ⟨_, hset, hsame, rfl, hframe⟩
  split
  · exact hagain _ ⟨⟨rfl, rfl, rfl⟩, rfl, rfl, rfl⟩ rfl
  · exact hagain _ ⟨⟨rfl, rfl, rfl⟩, rfl, rfl, rfl⟩ rfl

end

/-! ## The access check -/

section
variable {s : State} {nd slot : Nat} {q : Ask} {g : Region}

/-- R255: the check of a region that is cached reads nothing. -/
theorem Module.accessCheck_cached {m : Module} {key : Nat} {d : RgnDir} (hkey : m.keyOf nd = some (slot, key))
    (hdir : KMap.get m.x.dirs slot = some d) (hindex : keyIndex q.rkey < 2 ^ d.size)
    (hg : KMap.get m.x.regions (regionKey slot (keyIndex q.rkey)) = some g) (e : Env) :
    m.accessCheck e nd q = match firstFail (m.entryChecks q g) with
      | some f => (.error f, m)
      | none => (.ok (slot, g), m) := by
  rw [Module.accessCheck, hkey]
  dsimp only
  rw [Module.needDir_cached _ e hdir]
  dsimp only
  rw [if_neg (Nat.not_le.2 hindex), Module.needRegion_cached _ e d hg] <;> rfl

theorem State.Grants.accessCheck (h : s.Grants nd q slot g) (k : Nat) (e : Env) (cid : Nat) (c : Conn) :
    ((s.took k e).setConn cid c).accessCheck e nd q = (.ok (slot, g), (s.took k e).setConn cid c) := by
  obtain ⟨key, d, hkey, hdir, hindex, hg, hchecks⟩ := h
  have hchecks' : firstFail (((s.took k e).setConn cid c).entryChecks q g) = none := hchecks
  rw [Module.accessCheck_cached (m := (s.took k e).setConn cid c) hkey hdir hindex hg, hchecks']

/-- R256: a packet that fails a check is told which. -/
theorem accessCheck_fails {key st dt : Nat} {d : RgnDir} (hkey : s.keyOf nd = some (slot, key)) (hdir : KMap.get s.x.dirs slot = some d)
    (hindex : keyIndex q.rkey < 2 ^ d.size) (hg : KMap.get s.x.regions (regionKey slot (keyIndex q.rkey)) = some g)
    (hchecks : firstFail (s.entryChecks q g) = some (st, dt)) (k : Nat) (e : Env) (cid : Nat) (c : Conn) :
    ((s.took k e).setConn cid c).accessCheck e nd q = (.error (st, dt), (s.took k e).setConn cid c) := by
  have hchecks' : firstFail (((s.took k e).setConn cid c).entryChecks q g) = some (st, dt) := hchecks
  rw [Module.accessCheck_cached (m := (s.took k e).setConn cid c) hkey hdir hindex hg, hchecks']

end

/-! ## Puts -/

section
variable {s : State} {k cid slot pa : Nat} {p : Opened} {c : Conn} {g : Region}

/-- The connection's context, as the engine of an arriving packet finds it. -/
theorem State.Receives.calm_at (h : s.Receives k p cid c) (e : Env) : ((s.took k e).setConn cid c).Calm :=
  have hset : s.Settled := h.2.2.2.2.2.2.2.2.2.2.2
  (hset.calm.congr rfl rfl : (s.took k e).toModule.Calm).setConn cid (hset.calm.anew h.2.2.2.1)

theorem State.Receives.unexp (h : s.Receives k p cid c) : s.mt.unexp = [] := h.2.2.2.2.2.2.2.2.2.2.1

/-- What follows an engine that has written and then counts the packet: nothing but messages of events, and no queue changes. -/
theorem State.Receives.accepts_counted (h : s.Receives k p cid c) (e : Env) (hop : p.opcode ≠ wEager ∧ p.opcode ≠ wRts)
    (hfail : (c.rxMsg p.msn).failed = none) {engine : Module → Nat → Verdict × Module} {b : Module} {written : Nat}
    (hb : Module.Frame virtParts ((s.took k e).setConn cid c) b)
    (heng : engine ((s.took k e).setConn cid c) cid = (.accept, b.rxCount cid p none written none)) :
    ∃ t, (s.took k e).toModule.rxPacket e p engine = t ∧ (∃ l, t.out = b.out ++ l ∧ l.all Emit.isEvent = true) ∧
      (∃ c2, t.conn cid = some c2 ∧ c2.hasPsn p.psn) ∧ t.q = s.q := by
  have hx : b.x = ((s.took k e).setConn cid c).x := hb .x (by decide)
  have hmt : b.mt = s.mt := hb .mt (by decide)
  have hconn : b.conn cid = some c := (Module.conn_congr _ hx cid).trans (Module.conn_setConn_same _)
  obtain ⟨c1, hcount, h1, hcsn, hframe⟩ := Module.leaves_rxCount hconn p hfail none written
  have hcalm : b.Calm := (h.calm_at e).congr hmt (congrArg (·.conns) hx)
  obtain ⟨c2, hleaves, h2, hpsn, -⟩ := h.accepts e hop heng hcount.conn (.inl (Nat.le_of_eq (congrArg List.length h1.msgs))) hcsn
    ((congrArg (·.unexp) ((hframe .mt (by decide)).trans hmt)).trans h.unexp) (hcount.calm hcalm (h1.anew.trans (hcalm.anew hconn)))
  have hboth := hcount.trans hleaves h2.toSameEnds
  exact ⟨_, rfl, hboth.out, ⟨c2, hboth.conn, hpsn⟩, (hboth.frame .q (by decide)).trans (hb .q (by decide))⟩

/-- An access at a connection's tile hits where it hits before the packet is taken. -/
theorem State.Translates.hits_at {r : XReq} {n : Nat} (h : s.Translates r n pa) (k : Nat) (e : Env) (cid : Nat) (c : Conn) :
    ((s.took k e).setConn cid c).Hits r n pa := ⟨h.hits.on, h.hits.va, h.hits.pos, h.hits.page, h.hits.slot⟩

/-- What is too early for a packet's message does not depend on the connection that is set. -/
theorem State.tooEarly_at (s : State) (k : Nat) (e : Env) (cid : Nat) (c : Conn) (l : Landing) (off : Nat) (r : XReq) (n : Nat) :
    ((s.took k e).setConn cid c).tooEarly e l off r n = (s.took k e).tooEarly e l off r n :=
  Module.tooEarly_congr (m := (s.took k e).toModule) (a := (s.took k e).setConn cid c) rfl e l off r n

/-- The access of a put's payload (R255 step 12, R261). -/
def putReq (g : Region) (cid : Nat) (p : Opened) : XReq :=
  regionReq g (tileOfCid cid) (keyIndex (pRkey p)) (pRoffset p + pOff p) .remoteWrite

/-- A put that passes its check writes its payload; then its signal is applied, where it is due. -/
theorem putEngine_writes (k : Nat) (e : Env) (hfail : (c.rxMsg p.msn).failed = none)
    (habort : (c.rxMsg p.msn).aborted = none) (hkeep : pAbort p = false) (hgrant : s.Grants p.nd (putAsk p .put) slot g)
    (hearly : (s.took k e).tooEarly e (c.rxMsg p.msn).landing (pOff p) (putReq g cid p) (pPlen p) = false) {b : Module}
    (hwrite : ((s.took k e).setConn cid c).writeVirt e g.link (putReq g cid p) p.payload = (none, b)) :
    ((s.took k e).setConn cid c).putEngine e p cid =
      if p.opcode = wPutSignal && (c.rxMsg p.msn).total.or (if pLast p then some (pOff p + pPlen p) else none) =
          some ((c.rxMsg p.msn).bytes + pPlen p) then
        match b.applySignal e (tileOfCid cid) g p with
        | (some f, m3) => (.accept, m3.rxCount cid p none (pPlen p) (some (stRemoteAccess, f.detail)))
        | (none, m3) => (.accept, m3.rxCount cid p none (pPlen p) none)
      else (.accept, b.rxCount cid p none (pPlen p) none) := by
  unfold Module.putEngine
  rw [Module.conn_setConn_same]
  dsimp only
  rw [if_neg (by simp [hfail, habort]), if_neg (by simp [hkeep]), hgrant.accessCheck k e cid c]
  dsimp only
  rw [if_neg (by rw [s.tooEarly_at, Bool.not_eq_true]; exact hearly)]
  rw [show ((s.took k e).setConn cid c).writeVirt e g.link (regionReq g (tileOfCid cid) (keyIndex (pRkey p)) (pRoffset p + pOff p)
    .remoteWrite) p.payload = (none, b) from hwrite] <;> rfl

theorem exec_putPacket (k : Nat) (e : Env) (s : State) : exec (.putPacket k e) s = execPutPacket k e s := rfl

theorem putPacket_writes (h : s.Receives k p cid c) (hop : p.opcode = wPut) (e : Env) (hfail : (c.rxMsg p.msn).failed = none)
    (habort : (c.rxMsg p.msn).aborted = none) (hkeep : pAbort p = false) (hlen : p.payload.length = pPlen p)
    (hgrant : s.Grants p.nd (putAsk p .put) slot g) (htr : s.Translates (putReq g cid p) (pPlen p) pa)
    (hearly : (s.took k e).tooEarly e (c.rxMsg p.msn).landing (pOff p) (putReq g cid p) (pPlen p) = false) :
    Answers (exec (.putPacket k e) s) fun t => Sends s t (.hostWrite g.link pa p.payload) ∧ Accepts t p cid ∧ t.q = s.q := by
  obtain ⟨tlb, hwrite⟩ := (hlen ▸ htr.hits_at k e cid c : Module.Hits _ _ p.payload.length pa).writeVirt e g.link
  have heng := putEngine_writes k e hfail habort hkeep hgrant hearly hwrite
  rw [if_neg (by simp [show p.opcode ≠ wPutSignal by rw [hop]; decide])] at heng
  obtain ⟨t, ht, ⟨l, hl, hle⟩, hacc, hq⟩ := h.accepts_counted e (by rw [hop]; decide) hfail (Module.wrote_frame _ _ _ _ _ _)
    (engine := fun m cid => m.putEngine e p cid) heng
  obtain ⟨x, y, hout, hxy⟩ := (Module.Keeps.refl (K := fun _ => True) ((s.took k e).setConn cid c)).wrote_out g.link (putReq g cid p) tlb pa p.payload
  refine ⟨s.upd fun _ => t, ?_, ⟨x, y ++ l, ?_, ?_⟩, hacc, hq⟩
  · rw [exec_putPacket, execPutPacket, h.1.arriving hop, ht]
  · show t.out = _
    rw [hl, hout]
    simp [Module.setConn, State.took, State.upd]
  · rw [List.all_append] at hxy ⊢
    simp_all

/-- R172: a put whose bytes would reach a page with side effects ahead of earlier bytes goes back to the inbox. -/
theorem putPacket_waits (h : s.Receives k p cid c) (hop : p.opcode = wPut) (e : Env) (hfail : (c.rxMsg p.msn).failed = none)
    (habort : (c.rxMsg p.msn).aborted = none) (hkeep : pAbort p = false) (hgrant : s.Grants p.nd (putAsk p .put) slot g)
    (hearly : (s.took k e).tooEarly e (c.rxMsg p.msn).landing (pOff p) (putReq g cid p) (pPlen p) = true) :
    Answers (exec (.putPacket k e) s) fun t => t.x.inbox = s.x.inbox.eraseIdx k ++ [p.toPacket] ∧ t.conn cid = some c ∧
      SendsEventsOnly s t := by
  have heng : ((s.took k e).setConn cid c).putEngine e p cid = (.wait, (s.took k e).setConn cid c) := by
    unfold Module.putEngine
    rw [Module.conn_setConn_same]
    dsimp only
    rw [if_neg (by simp [hfail, habort]), if_neg (by simp [hkeep]), hgrant.accessCheck k e cid c]
    dsimp only
    rw [if_pos (by rw [s.tooEarly_at]; exact hearly)]
  let b : Module := { (s.took k e).setConn cid c with
    x := { ((s.took k e).setConn cid c).x with inbox := ((s.took k e).setConn cid c).x.inbox ++ [p.toPacket] } }
  have hb : b.Calm := (h.calm_at e).congr rfl rfl
  have hconn : b.conn cid = some c := Module.conn_setConn_same _
  have hframe := hb.settle_frame e
  refine ⟨s.upd fun _ => b.settle e, ?_, ?_, (hb.settle_conn e cid).trans hconn, [], ?_, rfl⟩
  · rw [exec_putPacket, execPutPacket, h.1.arriving hop, h.waits e (engine := fun m cid => m.putEngine e p cid) heng]
  · exact congrArg (·.inbox) (hframe .x (by decide))
  · exact (hframe .out (by decide)).trans (List.append_nil _).symm

end

/-! ## A put and its signal -/

section
variable {m : Module} {q r : XReq} {n pa : Nat} {slot : TlbSlot}

/-- A translated write that hits, through the slot that it hits. -/
theorem Module.Hits.writeVirt_slot {bs : List Byte} (h : m.Hits r bs.length pa) (hslot : m.tlbHit r = some slot) (e : Env) (link : Nat) :
    m.writeVirt e link r bs = (none, m.wrote link r slot pa bs) := by
  obtain ⟨slot', se, hslot', hdone⟩ := h.slot
  obtain rfl : slot = slot' := Option.some.inj (hslot.symm.trans hslot')
  have htr : m.translate e r = (.ok pa se, (m.count pgDtu 0).microFill r.engine slot) := by
    unfold Module.translate
    simp only [Module.lookup_hit h.on hslot, hdone, Module.walkAll]
  have hne : bs.isEmpty = false := by
    have := h.pos
    cases bs <;> simp_all
  have hend : ∀ (k : Module) (off : Nat), k.writeVirtAux e link r (bs.length / 4096 + 1) off [] = (none, k) := fun k off => rfl
  unfold Module.writeVirt Module.writeVirtAux
  simp only [hne, h.atStart, htr]
  simp only [h.firstPage, List.take_length, List.drop_length, hend]
  rfl

theorem Module.tlbHit_congr {a : Module} (h : a.dtu = m.dtu) (r : XReq) : a.tlbHit r = m.tlbHit r := by
  rw [Module.tlbHit, h, Module.tlbHit]

theorem Module.microFill_dtu_congr {a : Module} (h : a.dtu = m.dtu) (engine : Nat) (slot : TlbSlot) :
    (a.microFill engine slot).dtu = (m.microFill engine slot).dtu := by
  unfold Module.microFill
  dsimp only
  rw [h]
  split
  exacts [h, rfl]

theorem Module.wrote_dtu (link : Nat) (bs : List Byte) : (m.wrote link q slot pa bs).dtu = (m.microFill q.engine slot).dtu := by
  have hfill := Module.microFill_dtu_congr (m := m) (a := m.count pgDtu 0) (by simp) q.engine slot
  simpa [Module.wrote] using hfill

theorem findSlot_covers {l : List TlbSlot} {asid vpn : Nat} (h : findSlot l asid vpn = some slot) :
    (decide (slot.asid = asid) && decide (slot.vpn ≤ vpn) && decide (vpn < slot.vpn + slot.pages)) = true :=
  List.find?_some (p := fun s : TlbSlot => decide (s.asid = asid) && decide (s.vpn ≤ vpn) && decide (vpn < s.vpn + s.pages)) h

/-- A slot that has been hit is hit again, from the micro-TLB then. -/
theorem Module.tlbHit_microFill (hslot : m.tlbHit r = some slot) : (m.microFill r.engine slot).tlbHit r = some slot := by
  unfold Module.microFill
  dsimp only
  split
  · exact hslot
  · have hcovers : (decide (slot.asid = r.asid) && decide (slot.vpn ≤ r.va / 4096) && decide (r.va / 4096 < slot.vpn + slot.pages)) = true := by
      unfold Module.tlbHit at hslot
      split at hslot
      next s' hfound => exact Option.some.inj hslot ▸ findSlot_covers hfound
      next => exact findSlot_covers hslot
    have hfirst : findSlot (pushCap 64 (KMap.getD m.dtu.micro r.engine []) slot) r.asid (r.va / 4096) = some slot := by
      rw [findSlot, pushCap, List.take_succ_cons, List.find?_cons, hcovers]
    simp only [Module.tlbHit, KMap.getD_put_same, hfirst]

end

section
variable {s : State} {k cid slot pa pb : Nat} {p : Opened} {c : Conn} {g : Region}

theorem exec_putSignalPacket (k : Nat) (e : Env) (s : State) : exec (.putSignalPacket k e) s = execPutSignalPacket k e s := rfl

/-- R271: the signal of a put of one packet is written after its payload. -/
theorem putSignal_writes (h : s.Receives k p cid c) (hop : p.opcode = wPutSignal) (e : Env) (hfail : (c.rxMsg p.msn).failed = none)
    (habort : (c.rxMsg p.msn).aborted = none) (hkeep : pAbort p = false) (hlen : p.payload.length = pPlen p)
    (hgrant : s.Grants p.nd (putAsk p .put) slot g) (htr : s.Translates (putReq g cid p) (pPlen p) pa)
    (hearly : (s.took k e).tooEarly e (c.rxMsg p.msn).landing (pOff p) (putReq g cid p) (pPlen p) = false)
    (hlast : pLast p = true) (hoff : pOff p = 0) (hbytes : (c.rxMsg p.msn).bytes = 0) (htotal : (c.rxMsg p.msn).total = none)
    (hset : bit p.opw 32 = false)
    (htr' : s.Translates (regionReq g (tileOfCid cid) (keyIndex (pRkey p)) (extBE p 16 8) .remoteWrite) 8 pb)
    (hsame : s.tlbHit (regionReq g (tileOfCid cid) (keyIndex (pRkey p)) (extBE p 16 8) .remoteWrite) = s.tlbHit (putReq g cid p)) :
    Answers (exec (.putSignalPacket k e) s) fun t => Accepts t p cid ∧ ∃ a b d : List Emit,
      t.out = s.out ++ a ++ [.hostWrite g.link pa p.payload] ++ b ++ [.hostWrite g.link pb (leBytes 8 (extBE p 24 8))] ++ d ∧
      (a ++ b ++ d).all Emit.isEvent = true := by
  let m := (s.took k e).setConn cid c
  let r := regionReq g (tileOfCid cid) (keyIndex (pRkey p)) (extBE p 16 8) .remoteWrite
  obtain ⟨tlb, -, hhit, -⟩ := htr.hits.slot
  let b := m.wrote g.link (putReq g cid p) tlb pa p.payload
  let d := b.wrote g.link r tlb pb (leBytes 8 (extBE p 24 8))
  have hput : m.writeVirt e g.link (putReq g cid p) p.payload = (none, b) :=
    Module.Hits.writeVirt_slot (m := m) (hlen ▸ htr.hits_at k e cid c) hhit e g.link
  have hkeeps : Module.Keeps ErrKept true m b := by
    have hkeeps := Module.keeps_writeVirt e g.link (putReq g cid p) m p.payload
    rwa [hput] at hkeeps
  have hagain : b.tlbHit r = some tlb := by
    rw [Module.tlbHit_congr (Module.wrote_dtu _ _)]
    exact Module.tlbHit_microFill (m := m) (r := r) (hsame.trans hhit)
  have hhits : b.Hits r (leBytes 8 (extBE p 24 8)).length pb := by
    obtain ⟨tlb', se, hhit', hdone⟩ := htr'.hits.slot
    obtain rfl : tlb = tlb' := Option.some.inj (hhit.symm.trans (hsame.symm.trans hhit'))
    rw [leBytes_length]
    exact ⟨hkeeps.dtuOn.trans (htr.hits_at k e cid c).on, htr'.hits.va, htr'.hits.pos, htr'.hits.page, tlb, se, hagain, hdone⟩
  have hsignal : b.applySignal e (tileOfCid cid) g p = (none, d) := by
    unfold Module.applySignal
    simp only [hset, Bool.false_eq_true, if_false]
    rw [hhits.writeVirt_slot hagain]
  have heng := putEngine_writes k e hfail habort hkeep hgrant hearly hput
  rw [if_pos (by simp [hop, hlast, hoff, hbytes, htotal]), hsignal] at heng
  obtain ⟨t, ht, ⟨l, hl, hle⟩, hacc, -⟩ := h.accepts_counted e (by rw [hop]; decide) hfail
    ((Module.wrote_frame _ _ _ _ _ _).trans (Module.wrote_frame _ _ _ _ _ _)) (engine := fun m cid => m.putEngine e p cid) heng
  obtain ⟨x, y, hout, hxy⟩ := (Module.Keeps.refl (K := fun _ => True) m).wrote_out g.link (putReq g cid p) tlb pa p.payload
  obtain ⟨x', y', hout', hxy'⟩ := (Module.Keeps.refl (K := fun _ => True) b).wrote_out g.link r tlb pb (leBytes 8 (extBE p 24 8))
  refine ⟨s.upd fun _ => t, ?_, hacc, x, y ++ x', y' ++ l, ?_, ?_⟩
  · rw [exec_putSignalPacket, execPutSignalPacket, h.1.arriving hop, ht]
  · have hm : m.out = s.out := rfl
    show t.out = _
    rw [hl, hout', hout, hm]
    simp
  · rw [List.all_append] at hxy hxy'
    simp_all

end

end Sys2Proof.Machine

/-! PROOFS. Gets and atomics at the end that owns the region (R255–R258, R263–R266, R270): O33. -/

namespace Sys2Proof.Machine

set_option Elab.async false

/-! ## Answering messages -/

section
variable {m : Module} {cid : Nat} {c : Conn}

/-- The module with the next message number used. -/
def Module.counting (m : Module) : Module := { m with x := { m.x with nextMsg := m.x.nextMsg + 1 } }

/-- An answering message joins a direction that takes it, and nothing is sent (R243, R776). -/
theorem Module.queueMsg_answers (hc : m.conn cid = some c) (hcan : c.canAnswer = true) {g : Msg} (hg : g.op = none) :
    m.queueMsg cid g = m.counting.setConn cid { c with msgs := c.msgs ++ [{ g with id := m.x.nextMsg }] } := by
  have hbusy : c.txState ≠ .idle := by
    intro h
    simp [Conn.canAnswer, h] at hcan
  have hc' : m.counting.conn cid = some c := hc
  show m.counting.enqueue cid { g with id := m.x.nextMsg } = _
  unfold Module.enqueue
  rw [Module.onConn_cached _ _ hc']
  have hopen : ∀ tc, (m.counting.setConn cid { c with msgs := c.msgs ++ [{ g with id := m.x.nextMsg }] }).openTx cid tc =
      m.counting.setConn cid { c with msgs := c.msgs ++ [{ g with id := m.x.nextMsg }] } := fun tc => by
    rw [Module.openTx, Module.conn_setConn_same]
    exact if_neg hbusy
  rw [hopen, hg]
  exact ite_self _

/-- A message queued at a connection leaves all but the connection. -/
theorem Module.leaves_queued (m : Module) (cid : Nat) (c : Conn) : Module.Leaves cid c m (m.counting.setConn cid c) := by
  have h := m.counting.leaves_setConn cid c
  exact ⟨((m.frame_x _).mono (by simp)).trans h.frame, h.out, fun hm => h.calm (hm.congr rfl rfl), h.conn, h.found⟩

end

section
variable {s : State} {k cid slot pa : Nat} {p : Opened} {c : Conn} {g : Region}

/-- What follows an engine that has queued an answering message: the connection keeps it, and the packet is accepted. -/
theorem State.Receives.accepts_answered (h : s.Receives k p cid c) (e : Env) (hop : p.opcode ≠ wEager ∧ p.opcode ≠ wRts)
    (hcan : c.canAnswer = true) {engine : Module → Nat → Verdict × Module} {b d : Module} {c1 : Conn}
    (hb : Module.Frame virtParts ((s.took k e).setConn cid c) b) (hd : Module.Leaves cid c1 b d) (hanew : c1.anew = c.anew)
    (hcsn : c1.rxCsn = c.rxCsn) (heng : engine ((s.took k e).setConn cid c) cid = (.accept, d)) :
    ∃ t, (s.took k e).toModule.rxPacket e p engine = t ∧ (∃ l, t.out = b.out ++ l ∧ l.all Emit.isEvent = true) ∧
      ∃ c2, t.conn cid = some c2 ∧ c2.hasPsn p.psn ∧ c2.msgs = c1.msgs := by
  have hx : b.x = ((s.took k e).setConn cid c).x := hb .x (by decide)
  have hmt : b.mt = s.mt := hb .mt (by decide)
  have hcalm : b.Calm := (h.calm_at e).congr hmt (congrArg (·.conns) hx)
  have hnot : c1.anew = false := hanew.trans ((h.calm_at e).anew (Module.conn_setConn_same _))
  obtain ⟨c2, hleaves, h2, hpsn, -⟩ := h.accepts e hop heng hd.conn (.inr hcan) hcsn
    ((congrArg (·.unexp) ((hd.frame .mt (by decide)).trans hmt)).trans h.unexp) (hd.calm hcalm hnot)
  have hboth := hd.trans hleaves h2.toSameEnds
  exact ⟨_, rfl, hboth.out, c2, hboth.conn, hpsn, h2.msgs⟩

theorem exec_getReq (k : Nat) (e : Env) (s : State) : exec (.getReq k e) s = execGetReq k e s := rfl

/-- What a GET_REQ asks of its region (R255, R265). -/
def getAsk (p : Opened) : Ask := ⟨.get, pRkey p, pRoffset p, extBE p 16 4, none, 0, 0⟩

/-- The response of a get (R265). -/
def getRspMsg (p : Opened) (slot : Nat) (g : Region) : Msg :=
  { Msg.new .getRsp wGetRsp p.tc (extBE p 16 4)
      (.region slot (keyIndex (pRkey p)) g.link g.asid ((g.baseVa + pRoffset p) % 2 ^ 64) g.allowSe) with
    xdata := p.msn
    ref := p.msn }

theorem getReq_answers (h : s.Receives k p cid c) (hop : p.opcode = wGetReq) (hcan : c.canAnswer = true) (e : Env)
    (hgrant : s.Grants p.nd (getAsk p) slot g) (hlen : extBE p 16 4 ≠ 0) :
    Answers (exec (.getReq k e) s) fun t => SendsEventsOnly s t ∧ Accepts t p cid ∧
      ∃ c1, t.conn cid = some c1 ∧ c1.msgs = c.msgs ++ [{ getRspMsg p slot g with id := s.x.nextMsg }] := by
  let m := (s.took k e).setConn cid c
  let c1 : Conn := { c with msgs := c.msgs ++ [{ getRspMsg p slot g with id := s.x.nextMsg }] }
  have heng : m.getEngine e p cid = (.accept, m.counting.setConn cid c1) := by
    have hcheck : m.accessCheck e p.nd (getAsk p) = (.ok (slot, g), m) := hgrant.accessCheck k e cid c
    unfold getAsk at hcheck
    unfold Module.getEngine
    dsimp only
    rw [hcheck]
    dsimp only
    rw [if_neg hlen, Module.queueMsg_answers (m := m) (Module.conn_setConn_same _) hcan rfl]
    rfl
  obtain ⟨t, ht, ⟨l, hl, hle⟩, c2, hc2, hpsn, hmsgs⟩ := h.accepts_answered e (by rw [hop]; decide) hcan (.refl _ m)
    (m.leaves_queued cid c1) rfl rfl (engine := fun m cid => m.getEngine e p cid) heng
  refine ⟨s.upd fun _ => t, ?_, ⟨l, hl, hle⟩, ⟨c2, hc2, hpsn⟩, c2, hc2, hmsgs⟩
  rw [exec_getReq, execGetReq, h.1.arriving hop, ht]

/-- R232, R258: the RESULT of a message whose one packet has failed its check. -/
theorem Module.rxCount_fails {m : Module} (hc : m.conn cid = some c) (hcan : c.canAnswer = true) (hnone : c.rxMsgs = [])
    (hlast : pLast p = true) (hoff : pOff p = 0) (hplen : pPlen p = 0) (st dt : Nat) :
    ∃ c1 g, Module.Leaves cid c1 m (m.rxCount cid p none 0 (some (st, dt))) ∧ c1.anew = c.anew ∧ c1.rxCsn = c.rxCsn ∧
      c1.msgs = c.msgs ++ [g] ∧ g.kind = .result ∧ g.opcode = wResult ∧ g.len = 16 ∧
      g.src = .inline (leBytes 3 c.rsnSent ++ leBytes 1 st ++ leBytes 2 dt ++ leBytes 2 p.msn ++ leBytes 8 0) := by
  have hfresh : c.counted p none 0 (some (st, dt)) =
      ⟨p.msn, 0, Landing.none.take 0 0, 0, some 0, some (st, dt), none, false⟩ := by
    simp [Conn.counted, Conn.rxMsg, hnone, hlast, hoff, hplen]
  have hgot := Conn.rxMsg_setRxMsg c (c.counted p none 0 (some (st, dt)))
  rw [Conn.counted_msn] at hgot
  rw [Module.rxCount_eq hc, Module.rxEnd, Module.conn_setConn_same]
  dsimp only
  rw [hgot, hfresh]
  simp only [Nat.lt_irrefl, decide_false, Bool.or_false, Bool.false_eq_true, if_false, Option.isSome_none]
  rw [Module.postResult, Module.conn_setConn_same]
  dsimp only
  generalize hA : c.setRxMsg ⟨p.msn, 0, Landing.none.take 0 0, 0, some 0, some (st, dt), none, false⟩ = cA
  generalize hB : ({ cA with rxMsgs := _ } : Conn) = cB
  generalize hC : ({ cA with rxMsgs := _, rsnSent := _ } : Conn) = cC
  have hC' : cC.canAnswer = true := by subst hC hA; exact hcan
  have hends : cA.SameEnds cB ∧ cB.SameEnds cC := by subst hC hB; exact ⟨⟨rfl, rfl, rfl⟩, rfl, rfl, rfl⟩
  have hb := ((m.leaves_setConn cid cA).trans (Module.leaves_setConn _ cid cB) hends.1).trans (Module.leaves_setConn _ cid cC) hends.2
  rw [Module.queueMsg_answers (Module.conn_setConn_same _) hC' rfl]
  refine ⟨_, { Msg.new .result wResult p.tc 16 (.inline
      (leBytes 3 cA.rsnSent ++ leBytes 1 st ++ leBytes 2 dt ++ leBytes 2 p.msn ++ leBytes 8 0)) with id := m.x.nextMsg },
    hb.trans (Module.leaves_queued _ cid _) ⟨rfl, rfl, rfl⟩, ?_⟩
  subst hC hA
  exact ⟨rfl, rfl, rfl, rfl, rfl, rfl, rfl⟩

theorem getReq_fails (h : s.Receives k p cid c) (hop : p.opcode = wGetReq) (hcan : c.canAnswer = true) (e : Env) {key st dt : Nat}
    {d : RgnDir} (hkey : s.keyOf p.nd = some (slot, key)) (hdir : KMap.get s.x.dirs slot = some d) (hindex : keyIndex (pRkey p) < 2 ^ d.size)
    (hg : KMap.get s.x.regions (regionKey slot (keyIndex (pRkey p))) = some g)
    (hchecks : firstFail (s.entryChecks (getAsk p) g) = some (st, dt)) (hnone : c.rxMsgs = []) (hlast : pLast p = true)
    (hoff : pOff p = 0) (hplen : pPlen p = 0) : Answers (exec (.getReq k e) s) fun t => SendsEventsOnly s t ∧
      Accepts t p cid ∧ ∃ c1 m, t.conn cid = some c1 ∧ c1.msgs = c.msgs ++ [m] ∧ m.kind = .result ∧ m.opcode = wResult ∧ m.len = 16 ∧
        m.src = .inline (leBytes 3 c.rsnSent ++ leBytes 1 st ++ leBytes 2 dt ++ leBytes 2 p.msn ++ leBytes 8 0) := by
  let m := (s.took k e).setConn cid c
  obtain ⟨c1, g', hleaves, hanew, hcsn, hmsgs, hres⟩ := Module.rxCount_fails (m := m) (p := p) (Module.conn_setConn_same _) hcan hnone hlast
    hoff hplen st dt
  have heng : m.getEngine e p cid = (.accept, m.rxCount cid p none 0 (some (st, dt))) := by
    have hcheck : m.accessCheck e p.nd (getAsk p) = (.error (st, dt), m) :=
      accessCheck_fails (q := getAsk p) hkey hdir hindex hg hchecks k e cid c
    unfold getAsk at hcheck
    unfold Module.getEngine
    dsimp only
    rw [hcheck]
  obtain ⟨t, ht, ⟨l, hl, hle⟩, c2, hc2, hpsn, hmsgs2⟩ := h.accepts_answered e (by rw [hop]; decide) hcan (.refl _ m)
    hleaves hanew hcsn (engine := fun m cid => m.getEngine e p cid) heng
  refine ⟨s.upd fun _ => t, ?_, ⟨l, hl, hle⟩, ⟨c2, hc2, hpsn⟩, c2, g', hc2, hmsgs2.trans hmsgs, hres⟩
  rw [exec_getReq, execGetReq, h.1.arriving hop, ht]

/-! ## Atomics -/

theorem exec_atomicReq (k : Nat) (e : Env) (s : State) : exec (.atomicReq k e) s = execAtomicReq k e s := rfl

/-- What an ATOMIC_REQ asks of its region (R255, R266). -/
def atomicAsk (p : Opened) : Ask := ⟨.atomic, pRkey p, pRoffset p, 8, none, pXdata p % 16, pXdata p / 16 % 4⟩

/-- The response of an atomic (R270). -/
def atomicRspMsg (p : Opened) (old : Nat) : Msg :=
  { Msg.new .atomicRsp wAtomicRsp p.tc 8 (.inline (leBytes 8 old)) with xdata := p.msn, ref := p.msn }

/-- R268: an atomic on a word that a slot grants reads it, and writes the new value, between counters. -/
theorem Module.atomicWord_writes {m : Module} {r : XReq} (h : m.Hits r 8 pa) (hplain : g.pcieAtomic = false) (e : Env) {bs : List Byte}
    (hb : m.readBytes e g.link pa 8 = some bs) (aop type operand compare : Nat) : ∃ b : Module,
      m.atomicWord e g r aop type operand compare = (.ok (leNat bs), b) ∧ Module.Frame virtParts m b ∧
      ∃ x y, b.out = m.out ++ x ++ [.hostWrite g.link pa (leBytes 8 (atomicNew aop type (leNat bs) operand compare))] ++ y ∧
        (x ++ y).all Emit.isEvent = true := by
  obtain ⟨tlb, se, htr⟩ := h.translate e
  let m1 : Module := (m.count pgDtu 0).microFill r.engine tlb
  let m2 : Module := ((m1.count (pgHost g.link) 2).readDone).countUp (pgHost g.link) 0 8
  let m3 : Module := m2.emit (.hostWrite g.link pa (leBytes 8 (atomicNew aop type (leNat bs) operand compare)))
  have hb' : m1.readBytes e g.link pa 8 = some bs := (Module.readBytes_congr (by simp [m1]) e g.link pa 8).trans hb
  refine ⟨(m3.countUp (pgHost g.link) 1 8).count (pgHost g.link) 3, ?_, ?_, ?_⟩
  · unfold Module.atomicWord
    rw [htr]
    dsimp only
    rw [show ((m.count pgDtu 0).microFill r.engine tlb).readBytes e g.link pa 8 = some bs from hb']
    dsimp only
    rw [if_neg (by simp [hplain])]
  · have h2 : Module.Frame virtParts m m2 :=
      (((m.count_frame _ _).mono (by simp [virtParts])).trans ((Module.microFill_frame _ _ _).mono (by simp [virtParts]))).trans
        ((((Module.count_frame _ _ _).mono (by simp [virtParts])).trans ((Module.readDone_frame _).mono (by simp [virtParts]))).trans
          ((Module.countUp_frame _ _ _ _).mono (by simp [virtParts])))
    exact (h2.trans ((Module.emit_frame _ _).mono (by simp [virtParts]))).trans
      (((Module.countUp_frame _ _ _ _).trans (Module.count_frame _ _ _)).mono (by simp [virtParts]))
  · have h1 : Module.Keeps (fun _ => True) false m m1 := ((Module.Keeps.refl m).count pgDtu 0 (by decide)).same (by simp [m1]) (by simp [m1]) (by simp [m1])
    have h2 : Module.Keeps (fun _ => True) false m m2 :=
      ((h1.count (pgHost g.link) 2 (by decide)).trans (.of_frame (Module.readDone_frame _) (by decide) (by decide) (by decide))).countUp _ _ _ (by decide)
    obtain ⟨x, hx, hxe⟩ := h2.out
    obtain ⟨y, hy, hye⟩ := (((Module.Keeps.refl (K := fun _ => True) (loud := false) m3).countUp (pgHost g.link) 1 8 (by decide)).count
      (pgHost g.link) 3 (by decide)).out
    exact ⟨x, y, by rw [hy, Module.emit_out, hx], by rw [List.all_append, hxe rfl, hye rfl]; rfl⟩

theorem atomicReq_writes (h : s.Receives k p cid c) (hop : p.opcode = wAtomicReq) (hcan : c.canAnswer = true) (e : Env)
    (hplain : g.pcieAtomic = false) (hgrant : s.Grants p.nd (atomicAsk p) slot g)
    (htr : s.Translates (regionReq g (tileOfCid cid) (keyIndex (pRkey p)) (pRoffset p) .remoteAtomic) 8 pa) {bs : List Byte}
    (hb : s.readBytes e g.link pa 8 = some bs) : Answers (exec (.atomicReq k e) s) fun t => Accepts t p cid ∧
      Sends s t (.hostWrite g.link pa
        (leBytes 8 (atomicNew (pXdata p % 16) (pXdata p / 16 % 4) (leNat bs) (extBE p 16 8) (extBE p 24 8)))) ∧
      ∃ c1, t.conn cid = some c1 ∧ c1.msgs = c.msgs ++ [{ atomicRspMsg p (leNat bs) with id := s.x.nextMsg }] := by
  let m := (s.took k e).setConn cid c
  obtain ⟨b, hword, hframe, x, y, hout, hxy⟩ := Module.atomicWord_writes (m := m) (htr.hits_at k e cid c) hplain e
    ((Module.readBytes_congr (m := s.toModule) (a := m) rfl e g.link pa 8).trans hb) (pXdata p % 16) (pXdata p / 16 % 4) (extBE p 16 8) (extBE p 24 8)
  have hx : b.x = m.x := hframe .x (by decide)
  let c1 : Conn := { c with msgs := c.msgs ++ [{ atomicRspMsg p (leNat bs) with id := b.x.nextMsg }] }
  have heng : m.atomicEngine e p cid = (.accept, b.counting.setConn cid c1) := by
    have hcheck : m.accessCheck e p.nd (atomicAsk p) = (.ok (slot, g), m) := hgrant.accessCheck k e cid c
    unfold atomicAsk at hcheck
    unfold Module.atomicEngine
    dsimp only
    rw [hcheck]
    dsimp only
    rw [hword]
    dsimp only
    rw [Module.queueMsg_answers ((Module.conn_congr _ hx cid).trans (Module.conn_setConn_same _)) hcan rfl]
    rfl
  obtain ⟨t, ht, ⟨l, hl, hle⟩, c2, hc2, hpsn, hmsgs⟩ := h.accepts_answered e (by rw [hop]; decide) hcan hframe
    (b.leaves_queued cid c1) rfl rfl (engine := fun m cid => m.atomicEngine e p cid) heng
  refine ⟨s.upd fun _ => t, ?_, ⟨c2, hc2, hpsn⟩, ⟨x, y ++ l, ?_, ?_⟩, c2, hc2, ?_⟩
  · rw [exec_atomicReq, execAtomicReq, h.1.arriving hop, ht]
  · show t.out = _
    rw [hl, hout, show m.out = s.out from rfl]
    simp
  · rw [List.all_append] at hxy ⊢
    simp_all
  · rw [hmsgs, ← show b.x.nextMsg = s.x.nextMsg from congrArg (·.nextMsg) hx]

end

end Sys2Proof.Machine

/-! PROOFS. Responses of gets and atomics at the initiator (R233, R263, R264, R270): O33. -/

namespace Sys2Proof.Machine

set_option Elab.async false

/-! ## What completes with a response -/

section
variable {m : Module} {cid id : Nat} {c : Conn} {g : Msg} {o : Op} {q : WqCtx}

theorem Module.stageAcked_frame (m : Module) (cid : Nat) : Module.Frame [.smp] m (m.stageAcked cid) := by
  unfold Module.stageAcked
  split
  · exact .refl _ m
  · refine Module.foldl_frame _ (fun a t => ?_) _ m
    dsimp only
    split
    exacts [a.stage_frame _ _, .refl _ a]

theorem Module.completeMsgs_waits (hc : m.conn cid = some c) (hwait : ∀ g ∈ c.msgs, m.msgComplete c g = false) (e : Env) (n : Nat) :
    m.completeMsgs e cid n = m := by
  cases n with
  | zero => rfl
  | succ n =>
    have hnone : c.msgs.find? (fun g => m.msgComplete c g) = none := List.find?_eq_none.2 fun g hg => by simp [hwait g hg]
    rw [Module.completeMsgs, hc]
    dsimp only
    rw [hnone]

/-- What an operation still takes: its record and its queue are at hand. -/
theorem Module.opTakes_facts {n : Nat} (h : m.opTakes (some n) = some (id, o, q)) :
    n = id ∧ m.op id = some o ∧ m.wq o.wq = some q ∧ o.finished = false ∧ o.dead = false := by
  unfold Module.opTakes at h
  dsimp only at h
  split at h
  · cases h
  next o' ho =>
    split at h
    · cases h
    next q' hq =>
      split at h
      · cases h
      next hlive =>
        cases h
        simp only [Bool.or_eq_true, not_or, Bool.not_eq_true] at hlive
        exact ⟨rfl, ho, hq, hlive.1, hlive.2⟩

theorem Module.needOpt_cached (ho : m.op id = some o) (hq : m.wq o.wq = some q) (e : Env) : m.needOpt e (some id) = m := by
  rw [Module.needOpt, Module.needOp, ho]
  exact m.needWq_cached e hq

theorem Conn.covered_congr {c1 : Conn} {g1 : Msg} (htx : c1.tx = c.tx) (hid : g1.id = g.id) (hmsn : g1.msn = g.msn)
    (hseg : g1.segmented = g.segmented) : c1.covered g1 = c.covered g := by
  simp only [Conn.covered, htx, hid, hmsn, hseg]

/-- Where no message is covered yet, a response completes nothing. -/
theorem Module.completeFrom_waits {p : Opened} (hcid : m.cidOf p.src p.nd = some cid) (hc : m.conn cid = some c)
    (hwait : ∀ g ∈ c.msgs, c.covered g = false) (hcalm : m.Calm) (e : Env) :
    Module.Frame [.regs, .smp] m (m.completeFrom e p) := by
  have hstage := m.stageAcked_frame cid
  have hc' : (m.stageAcked cid).conn cid = some c := (Module.conn_congr _ (hstage .x (by decide)) cid).trans hc
  have hcalm' : (m.stageAcked cid).Calm := hcalm.congr (hstage .mt (by decide)) (congrArg (·.conns) (hstage .x (by decide)))
  rw [Module.completeFrom, hcid]
  dsimp only
  rw [Module.completeMsgs_waits hc' fun g hg => by simp [Module.msgComplete, hwait g hg]]
  exact (hstage.mono (by simp)).trans ((hcalm'.settle_frame e).mono (by simp))

/-- The one message of a connection that is complete ends, and the lists are in order then (R233). -/
theorem Module.completeFrom_ends {p : Opened} (hcid : m.cidOf p.src p.nd = some cid) (hc : m.conn cid = some c) (hmsgs : c.msgs = [g])
    (hop : g.op = some id) (hkind : g.kind = .atomic) (ho : m.op id = some o) (hfin : o.finished = false) (hsil : o.silent = false)
    (hcomplete : ∀ a : Module, a.msgComplete c g = true) (habort : g.aborted = none) (hres : g.result = none) (hcalm : m.Calm)
    (e : Env) : (m.completeFrom e p).conn cid = some { c with msgs := [] } ∧ (m.completeFrom e p).out = m.out ∧
      ∃ comp : Completion, (m.completeFrom e p).q.done = m.q.done ++ [comp] ∧ comp.owner = .op id ∧ comp.status = stSuccess ∧
        comp.length = g.old.getD 0 ∧ comp.info = 0 ∧ comp.detail = 0 := by
  have hstage := m.stageAcked_frame cid
  generalize ha : m.stageAcked cid = a at hstage
  have hx : a.x = m.x := hstage .x (by decide)
  have hc' : a.conn cid = some c := (Module.conn_congr _ hx cid).trans hc
  let b := a.setConn cid { c with msgs := [] }
  have ho' : b.op id = some o := (congrArg (fun q : Queues => KMap.get q.ops id) (hstage .q (by decide)) : a.op id = m.op id).trans ho
  obtain ⟨comp, hdone, howner, hstatus, hlength, hinfo, hdetail⟩ := Module.opDone_live ho' hfin hsil stSuccess (g.old.getD 0) 0 c.remote 0
  have hends : a.completeMsgs e cid msgFuel = b.opDone id stSuccess (g.old.getD 0) 0 c.remote 0 := by
    obtain ⟨n, hn⟩ : ∃ n, msgFuel = n + 1 := ⟨65535, rfl⟩
    have hempty : ∀ d : Module, d.conn cid = some { c with msgs := [] } → d.completeMsgs e cid n = d := fun d hd =>
      Module.completeMsgs_waits hd (by simp) e n
    have hfind : c.msgs.find? (fun g => a.msgComplete c g) = some g := by simp [hmsgs, hcomplete a]
    have hleft : c.msgs.filter (fun h => h.id ≠ g.id) = [] := by simp [hmsgs]
    rw [hn, Module.completeMsgs, hc']
    dsimp only
    rw [hfind]
    dsimp only
    rw [hleft]
    have hended : b.msgDone e cid c g = b.opDone id stSuccess (g.old.getD 0) 0 c.remote 0 := by
      simp only [Module.msgDone, hkind, Module.opEnd, hop, ho', habort, hres]
    rw [show a.setConn cid { c with msgs := [] } = b from rfl, hended, hdone]
    exact hempty _ (Module.conn_setConn_same a)
  have hcalm' : (b.opDone id stSuccess (g.old.getD 0) 0 c.remote 0).Calm := by
    rw [hdone]
    exact ((hcalm.congr (hstage .mt (by decide)) (congrArg (·.conns) hx) : a.Calm).setConn cid (c := { c with msgs := [] })
      (show c.anew = false from hcalm.anew hc)).congr rfl rfl
  have hsettle := hcalm'.settle_frame e
  have heq : m.completeFrom e p = (b.opDone id stSuccess (g.old.getD 0) 0 c.remote 0).settle e := by
    rw [Module.completeFrom, hcid]
    dsimp only
    rw [ha, hends]
  rw [heq]
  refine ⟨(hcalm'.settle_conn e cid).trans ?_, (hsettle .out (by decide)).trans ?_, comp, ?_, howner, hstatus, hlength, hinfo, hdetail⟩
  · rw [hdone]
    exact Module.conn_setConn_same a
  · rw [hdone]
    exact hstage .out (by decide)
  · rw [show ((b.opDone id stSuccess (g.old.getD 0) 0 c.remote 0).settle e).q = (b.opDone id stSuccess (g.old.getD 0) 0 c.remote 0).q from
      hsettle .q (by decide), hdone]
    exact congrArg (fun q : Queues => q.done ++ [comp]) (hstage .q (by decide))

end

section
variable {s : State} {k cid id : Nat} {p : Opened} {c : Conn} {g : Msg} {o : Op} {q : WqCtx}

/-- What follows an engine that has noted a response in the one message it answers: the packet is accepted, and its connection is found. -/
theorem State.Receives.accepts_response (h : s.Receives k p cid c) (e : Env) (hop : p.opcode ≠ wEager ∧ p.opcode ≠ wRts)
    {engine : Module → Nat → Verdict × Module} {b : Module} {l : List Msg} (hl : l.length = c.msgs.length)
    (hx : b.x = (((s.took k e).setConn cid c).setConn cid { c with msgs := l }).x) (hmt : b.mt = s.mt)
    (heng : engine ((s.took k e).setConn cid c) cid = (.accept, b)) :
    ∃ t c2, (s.took k e).toModule.rxPacket e p engine = t ∧ Module.Leaves cid c2 b t ∧ ({ c with msgs := l } : Conn).SameSend c2 ∧
      c2.hasPsn p.psn ∧ t.Calm ∧ t.cidOf p.src p.nd = some cid := by
  have hconn : b.conn cid = some { c with msgs := l } := (Module.conn_congr _ hx cid).trans (Module.conn_setConn_same _)
  have hnot : c.anew = false := (h.calm_at e).anew (Module.conn_setConn_same _)
  have hcalm : b.Calm := ((h.calm_at e).setConn cid (c := { c with msgs := l }) hnot).congr hmt (congrArg (·.conns) hx)
  obtain ⟨c2, hleaves, h2, hpsn, hcalm2⟩ := h.accepts e hop heng hconn (.inl (Nat.le_of_eq hl)) rfl ((congrArg (·.unexp) hmt).trans h.unexp) hcalm
  refine ⟨_, c2, rfl, hleaves, h2, hpsn, hcalm2, hleaves.found hconn h2.remote h2.nd ((Module.cidOf_congr hx _ _).trans ?_)⟩
  exact Module.cidOf_setConn (Module.cidOf_setConn (m := (s.took k e).toModule) h.2.2.1 h.2.2.2.1 rfl rfl) (Module.conn_setConn_same _) rfl rfl

theorem exec_getRsp (k : Nat) (e : Env) (s : State) : exec (.getRsp k e) s = execGetRsp k e s := rfl

/-- The message of a get that a packet of its response has reached (R264). -/
def Msg.reached (g : Msg) (p : Opened) : Msg :=
  { g with got := g.got + pPlen p, landing := g.landing.take (pOff p) (pPlen p) }

theorem getRsp_writes (h : s.Receives k p cid c) (hmsgs : c.msgs = [g]) (hmsn : g.msn = some (pXdata p % 1024))
    (htakes : s.opTakes (some id) = some (id, o, q)) (hop : g.op = some id) {pa : Nat} (hcode : p.opcode = wGetRsp) (hkind : g.kind = .get)
    (huncovered : c.covered g = false) (hlen : p.payload.length = pPlen p) (e : Env)
    (htr : s.Translates (localReq o q (1 + tileOfCid cid) ((wLocal o.wqe + pOff p) % 2 ^ 64) .localWrite) (pPlen p) pa)
    (hearly : (s.took k e).tooEarly e g.landing (pOff p)
      (localReq o q (1 + tileOfCid cid) ((wLocal o.wqe + pOff p) % 2 ^ 64) .localWrite) (pPlen p) = false) :
    Answers (exec (.getRsp k e) s) fun t => Accepts t p cid ∧ Sends s t (.hostWrite q.link pa p.payload) ∧
      ∃ c1, t.conn cid = some c1 ∧ c1.msgs = [g.reached p] := by
  let m := (s.took k e).setConn cid c
  let m1 := m.setConn cid { c with msgs := [g.reached p] }
  let r := localReq o q (1 + tileOfCid cid) ((wLocal o.wqe + pOff p) % 2 ^ 64) .localWrite
  obtain ⟨-, ho, hq, -, -⟩ := Module.opTakes_facts htakes
  have hhits : m1.Hits r p.payload.length pa := by
    rw [hlen]
    exact ⟨htr.hits.on, htr.hits.va, htr.hits.pos, htr.hits.page, htr.hits.slot⟩
  obtain ⟨tlb, hwrite⟩ := hhits.writeVirt e q.link
  let b := (m1.wrote q.link r tlb pa p.payload).stage id 2
  have hset : c.setMsg (g.reached p) = { c with msgs := [g.reached p] } := by simp [Conn.setMsg, hmsgs, Msg.reached]
  have heng : m.getRspEngine e p cid = (.accept, b) := by
    have hnamed : c.named .get (pXdata p % 1024) = some g := by simp [Conn.named, hmsgs, hkind, hmsn]
    have hneed : m1.needOpt e g.op = m1 := by
      rw [hop]
      exact Module.needOpt_cached (m := m1) ho hq e
    have htakes' : m1.opTakes g.op = some (id, o, q) := by
      rw [hop]
      exact htakes
    have hearly' : m1.tooEarly e g.landing (pOff p) r (pPlen p) = false :=
      (Module.tooEarly_congr (m := (s.took k e).toModule) (a := m1) rfl e _ _ _ _).trans hearly
    have hsome : p.payload.isEmpty = false := by
      have := hhits.pos
      cases hp : p.payload <;> simp_all
    unfold Module.getRspEngine
    rw [Module.conn_setConn_same]
    dsimp only
    rw [hnamed]
    dsimp only
    rw [show c.setMsg { g with got := g.got + pPlen p, landing := g.landing.take (pOff p) (pPlen p) } = { c with msgs := [g.reached p] } from hset,
      show (m.setConn cid { c with msgs := [g.reached p] }).needOpt e g.op = m1 from hneed, htakes']
    dsimp only
    rw [show localReq o q (1 + tileOfCid cid) ((wLocal o.wqe + pOff p) % 2 ^ 64) .localWrite = r from rfl, hearly', hwrite]
    dsimp only
    rw [hsome]
    rfl
  have hx : b.x = m1.x := (Module.stage_frame _ id 2 .x (by decide)).trans (Module.wrote_frame m1 q.link r tlb pa p.payload .x (by decide))
  have hmt : b.mt = s.mt := (Module.stage_frame _ id 2 .mt (by decide)).trans (Module.wrote_frame m1 q.link r tlb pa p.payload .mt (by decide))
  obtain ⟨t, c2, ht, hleaves, h2, hpsn, hcalm2, hcid⟩ := h.accepts_response e (by rw [hcode]; decide)
    (engine := fun m cid => m.getRspEngine e p cid) (l := [g.reached p]) (by rw [hmsgs]; rfl) hx hmt heng
  have hmsgs2 : c2.msgs = [g.reached p] := h2.msgs
  have hwait : ∀ g' ∈ c2.msgs, c2.covered g' = false := by
    rw [hmsgs2]
    intro g' hg'
    rw [List.mem_singleton.1 hg']
    exact (Conn.covered_congr (c := c) (g := g) (g1 := g.reached p) h2.tx rfl rfl rfl).trans huncovered
  have hend := Module.completeFrom_waits hcid hleaves.conn hwait hcalm2 e
  obtain ⟨l, hl, hle⟩ := hleaves.out
  obtain ⟨x, y, hout, hxy⟩ := (Module.Keeps.refl (K := fun _ => True) m1).wrote_out q.link r tlb pa p.payload
  have hconn2 : (t.completeFrom e p).conn cid = some c2 := (Module.conn_congr _ (hend .x (by decide)) cid).trans hleaves.conn
  have hend' : (t.completeFrom e p).out = t.out := hend .out (by decide)
  generalize hu : t.completeFrom e p = u at hconn2 hend'
  refine ⟨s.upd fun _ => u, ?_, ⟨c2, hconn2, hpsn⟩, ⟨x, y ++ l, ?_, ?_⟩, c2, hconn2, hmsgs2⟩
  · rw [exec_getRsp, execGetRsp, h.1.arriving hcode, ht, hu]
  · have hb : b.out = (m1.wrote q.link r tlb pa p.payload).out := Module.stage_frame _ id 2 .out (by decide)
    show u.out = _
    rw [hend', hl, hb, hout, show m1.out = s.out from rfl]
    simp
  · rw [List.all_append] at hxy ⊢
    simp_all

theorem exec_atomicRsp (k : Nat) (e : Env) (s : State) : exec (.atomicRsp k e) s = execAtomicRsp k e s := rfl

/-- R270: the response that was all an atomic waited for completes it with the old value. -/
theorem atomicRsp_completes (h : s.Receives k p cid c) (hmsgs : c.msgs = [g]) (hmsn : g.msn = some (pXdata p % 1024))
    (htakes : s.opTakes (some id) = some (id, o, q)) (hop : g.op = some id) (hsil : o.silent = false) {n : Nat} (hcode : p.opcode = wAtomicRsp)
    (hkind : g.kind = .atomic) (hcovered : c.covered g = true) (hneed : g.needRsn = some n) (hrsn : seqSub 24 c.rsnRcvd n < 2 ^ 23)
    (hres : g.result = none) (habort : g.aborted = none) (hva : wqeField o.wqe 0x10 8 = 0) (e : Env) :
    Answers (exec (.atomicRsp k e) s) fun t => Accepts t p cid ∧ SendsEventsOnly s t ∧
      OpCompletes s t id stSuccess (leNat p.payload) 0 0 := by
  let m := (s.took k e).setConn cid c
  let g' : Msg := { g with old := some (leNat p.payload) }
  let b := m.setConn cid { c with msgs := [g'] }
  obtain ⟨-, ho, hq, hfin, -⟩ := Module.opTakes_facts htakes
  have heng : m.atomicRspEngine e p cid = (.accept, b) := by
    have hset : c.setMsg g' = { c with msgs := [g'] } := by simp [Conn.setMsg, hmsgs, g']
    have hnamed : c.named .atomic (pXdata p % 1024) = some g := by simp [Conn.named, hmsgs, hkind, hmsn]
    have hneed : b.needOpt e g.op = b := by
      rw [hop]
      exact Module.needOpt_cached (m := b) ho hq e
    have htakes' : b.opTakes g.op = some (id, o, q) := by
      rw [hop]
      exact htakes
    unfold Module.atomicRspEngine
    rw [Module.conn_setConn_same]
    dsimp only
    rw [hnamed]
    dsimp only
    rw [show c.setMsg { g with old := some (leNat p.payload) } = { c with msgs := [g'] } from hset,
      show (m.setConn cid { c with msgs := [g'] }).needOpt e g.op = b from hneed, htakes']
    exact if_pos hva
  obtain ⟨t, c2, ht, hleaves, h2, hpsn, hcalm2, hcid⟩ := h.accepts_response e (by rw [hcode]; decide)
    (engine := fun m cid => m.atomicRspEngine e p cid) (l := [g']) (by rw [hmsgs]; rfl) rfl rfl heng
  have hcomplete : ∀ a : Module, a.msgComplete c2 g' = true := by
    intro a
    have hcov : c2.covered g' = true := (Conn.covered_congr (c := c) (g := g) (g1 := g') h2.tx rfl rfl rfl).trans hcovered
    have hmet : c2.rsnMet g' = true := by
      simp only [Conn.rsnMet, g', hneed, h2.rsnRcvd]
      exact decide_eq_true hrsn
    have hold : g'.kind = .atomic ∧ g'.old.isSome = true := ⟨hkind, rfl⟩
    clear_value g'
    simp [Module.msgComplete, hcov, hmet, hold]
  have hq' : t.q = s.q := hleaves.frame .q (by decide)
  have ho' : t.op id = some o := (congrArg (fun q : Queues => KMap.get q.ops id) hq').trans ho
  obtain ⟨hconn, hout, comp, hdone, hcomp⟩ := Module.completeFrom_ends hcid hleaves.conn h2.msgs (g := g') hop hkind ho' hfin hsil hcomplete
    habort hres hcalm2 e
  obtain ⟨l, hl, hle⟩ := hleaves.out
  generalize hu : t.completeFrom e p = u at hconn hout hdone
  refine ⟨s.upd fun _ => u, ?_, ⟨_, hconn, hpsn⟩, ⟨l, hout.trans hl, hle⟩, comp, hdone.trans (by rw [hq']), hcomp⟩
  rw [exec_atomicRsp, execAtomicRsp, h.1.arriving hcode, ht, hu]

end

/-- Settles O33: each clause is the lemma that says what the packet does. -/
theorem remoteAccessesAreMade : Obligations.RemoteAccessesAreMade := by
  unfold Obligations.RemoteAccessesAreMade
  refine ⟨?_, ?_, ?_, ?_, ?_⟩
  · intro k e s p cid c slot pa g h hfail habort hkeep hlen hgrant q htr hearly
    refine ⟨fun hop => putPacket_writes h hop e hfail habort hkeep hlen hgrant htr hearly, ?_⟩
    intro hop hlast hoff hbytes htotal hset pb r htr' hsame
    exact putSignal_writes h hop e hfail habort hkeep hlen hgrant htr hearly hlast hoff hbytes htotal hset htr' hsame
  · intro k e s p cid c slot g h hop hfail habort hkeep hgrant hearly
    exact putPacket_waits h hop e hfail habort hkeep hgrant hearly
  · intro k e s p cid c h hop hcan a
    refine ⟨fun slot g hgrant hlen => getReq_answers h hop hcan e hgrant hlen, ?_⟩
    intro slot key d g st dt hkey hdir hindex hg hchecks hnone hlast hoff hplen
    exact getReq_fails h hop hcan e hkey hdir hindex hg hchecks hnone hlast hoff hplen
  · intro k e s p cid c slot pa g bs h hop hcan hplain hgrant htr hb
    exact atomicReq_writes h hop hcan e hplain hgrant htr hb
  · intro k e s p cid c g id o q h hmsgs hmsn htakes hop hsil
    refine ⟨fun pa hcode hkind hcov hlen htr hearly => getRsp_writes h hmsgs hmsn htakes hop hcode hkind hcov hlen e htr hearly, ?_⟩
    intro n hcode hkind hcov hneed hrsn hres habort hva
    exact atomicRsp_completes h hmsgs hmsn htakes hop hsil hcode hkind hcov hneed hrsn hres habort hva e

end Sys2Proof.Machine

/-! PROOFS. What the operations of the mode machine keep: the pages of modes, of the governor, of power and of temperature. -/

namespace Sys2Proof.Machine

set_option Elab.async false

/-! ## The first pages of the register space -/

/-- A field of the pages before TIME: among them MODE, GOV, PWR and THERM (R49). -/
def PowerFld (f : Fld) : Prop := f.reg < 0x5000 ∧ Quiet f.reg

/-- An operation keeps the fields of those pages, and their causes that are set stay set. -/
structure Module.KeepsPower (m a : Module) : Prop where
  field : ∀ f, PowerFld f → a.get f = m.get f
  cause : ∀ p c, p < 5 → c < 64 → m.get (F.cause p c) = 1 → a.get (F.cause p c) = 1

section
variable {m a b : Module}

theorem Module.KeepsPower.refl (m : Module) : m.KeepsPower m := ⟨fun _ _ => rfl, fun _ _ _ _ h => h⟩

theorem Module.KeepsPower.trans (h : m.KeepsPower a) (k : a.KeepsPower b) : m.KeepsPower b :=
  ⟨fun f hf => (k.field f hf).trans (h.field f hf), fun p c hp hc hs => k.cause p c hp hc (h.cause p c hp hc hs)⟩

theorem Module.KeepsPower.of_keeps {K : Fld → Prop} {loud : Bool} (h : Module.Keeps K loud m a) (hK : ∀ f, PowerFld f → K f) :
    m.KeepsPower a := ⟨fun f hf => h.field f hf.2 (hK f hf), fun p c _ hc => h.cause p c hc⟩

/-- An operation that changes no word of those pages. -/
theorem Module.KeepsPower.of_word (h : ∀ r, r < 0x5000 → a.word r = m.word r) : m.KeepsPower a := by
  refine ⟨fun f hf => ?_, fun p c hp _ hs => ?_⟩
  · rw [Module.get, h _ hf.1, Module.get]
  · rwa [Module.get, h _ (by simp only [F.cause]; omega), ← Module.get]

theorem Module.KeepsPower.of_regs (h : a.regs = m.regs) : m.KeepsPower a := .of_word fun r _ => by simp [Module.word, h]

theorem Module.KeepsPower.of_frame {l : List Part} (h : Module.Frame l m a) (hr : Part.regs ∉ l) : m.KeepsPower a := .of_regs (h .regs hr)

theorem Module.KeepsPower.foldl {α : Type} (f : Module → α → Module) (hf : ∀ m x, Module.KeepsPower m (f m x)) (xs : List α) :
    ∀ m, Module.KeepsPower m (xs.foldl f m) := by
  induction xs with
  | nil => exact .refl
  | cons x xs ih => exact fun m => (hf m x).trans (ih _)

/-- A register of a later page is written. -/
theorem Module.KeepsPower.put (h : m.KeepsPower a) (f : Fld) (v : Nat) (hreg : 0x5000 ≤ f.reg) : m.KeepsPower (a.put f v) :=
  h.trans (.of_word fun r hr => a.word_put_other f v r (by omega))

theorem Module.KeepsPower.raise (h : m.KeepsPower a) (p c : Nat) (hc : c < 64) : m.KeepsPower (a.raise p c) :=
  h.trans (.of_keeps (K := fun _ => True) (loud := false) ((Module.Keeps.refl a).raise p c hc) fun _ _ => trivial)

end

/-! ## Fields that stay 0 -/

/-- A field that reads 0 still does after 0 is written to another. -/
theorem Module.get_put_zero (m : Module) (f g : Fld) (hf : f.lo ≤ f.hi) (h64 : f.hi < 64) (h : m.get g = 0) : (m.put f 0).get g = 0 := by
  by_cases hr : g.reg = f.reg
  case neg => rwa [m.get_put_reg f g 0 hr]
  apply Nat.eq_of_testBit_eq
  intro i
  have hbit : (m.get g).testBit i = false := by simp [h]
  rw [Module.get, bits_testBit] at hbit
  rw [Module.get, bits_testBit, hr, Module.put, Module.word_setWord_same, setBits_testBit _ _ _ _ _ hf h64, ← hr]
  split
  · simp
  · simpa using hbit

/-! ## Matching and collective contexts -/

/-- No queue, ring or operation is left. -/
def Module.QueuesGone (m : Module) : Prop := m.q.wqs = [] ∧ m.q.crs = [] ∧ m.q.ops = []

section
variable (m : Module) (e : Env) (t : Nat)

/-- The spill pool follows by bus writes, and then shows the lists as they stand. -/
theorem Module.spillSync_writes : ∃ a pool, Module.Frame [.regs, .msix, .out] m a ∧ Module.Keeps FreeKept true m a ∧
    m.spillSync t = { a with mt := { a.mt with pool := pool } } := by
  have hframe : ∀ (b : Module) l x y, Module.Frame [.regs, .msix, .out] b (b.busWrite l x y) := fun b l x y => b.busWrite_frame l x y
  have hkeeps : ∀ {b c : Module} l x y, Module.Keeps FreeKept true b c → Module.Keeps FreeKept true b (c.busWrite l x y) := fun l x y h =>
    ((h.emit _).countUp _ _ _ (by decide)).count _ _ (by decide)
  refine ⟨_, _, Module.foldl_frame _ (fun a w => ?_) _ m, Module.Keeps.foldl _ (fun a w => ?_) _ m, rfl⟩ <;> dsimp only <;> split
  · exact .refl _ a
  · split <;> split
    exacts [.refl _ a, hframe _ _ _ _, hframe _ _ _ _, (hframe _ _ _ _).trans (hframe _ _ _ _)]
  · exact .refl a
  · split <;> split
    exacts [.refl a, hkeeps _ _ _ (.refl a), hkeeps _ _ _ (.refl a), hkeeps _ _ _ (hkeeps _ _ _ (.refl a))]

theorem Module.spillSync_frame : Module.Frame [.regs, .msix, .out, .mt] m (m.spillSync t) := by
  obtain ⟨a, pool, hf, -, heq⟩ := m.spillSync_writes t
  exact heq ▸ (hf.mono (by simp)).trans ((a.frame_mt _).mono (by simp))

theorem Module.keeps_spillSync : Module.Keeps FreeKept true m (m.spillSync t) := by
  obtain ⟨a, pool, -, hk, heq⟩ := m.spillSync_writes t
  exact heq ▸ hk.same rfl rfl rfl

theorem Module.spillSync_ctxs : (m.spillSync t).mt.ctxs = m.mt.ctxs := by
  obtain ⟨a, pool, hf, -, heq⟩ := m.spillSync_writes t
  rw [heq]
  exact congrArg (·.ctxs) (hf .mt (by decide))

theorem Module.freeMatch_frame : Module.Frame [.regs, .msix, .out, .q, .mt] m (m.freeMatch e t false) := by
  unfold Module.freeMatch
  exact ((((m.frame_q _).mono (by simp)).trans ((Module.frame_mt _ _).mono (by simp))).trans ((Module.spillSync_frame _ t).mono (by simp))).trans
    ((Module.mtUse_frame _ t).mono (by simp))

theorem Module.keeps_freeMatch (ht : t < 2) : Module.Keeps FreeKept true m (m.freeMatch e t false) := by
  unfold Module.freeMatch
  exact (((Module.Keeps.of_frame (m.frame_q _) (by decide) (by decide) (by decide)).trans
    (.of_frame (Module.frame_mt _ _) (by decide) (by decide) (by decide))).trans (Module.keeps_spillSync _ t)).trans (Module.freed_mtUse _ t ht).keeps

theorem Module.QueuesGone.freeMatch {m : Module} (h : m.QueuesGone) : (m.freeMatch e t false).QueuesGone := by
  obtain ⟨hwqs, hcrs, hops⟩ := h
  have hq : ∀ a : Module, ((a.spillSync t).mtUse t).q = a.q := fun a =>
    ((Module.mtUse_frame _ t) .q (by decide)).trans ((a.spillSync_frame t) .q (by decide))
  refine ⟨?_, ?_, ?_⟩ <;> (unfold Module.freeMatch; rw [hq])
  exacts [hwqs, hcrs, hops]

theorem Module.dropOps_gone {m : Module} (h : m.q.ops = []) (ids : List Nat) : m.dropOps ids = m := by
  have hop : ∀ id, m.op id = none := fun id => by simp [Module.op, h, KMap.get]
  unfold Module.dropOps
  induction ids with
  | nil => rfl
  | cons id ids ih => rw [List.foldl_cons, hop id]; exact ih

theorem Module.freeColl_gone (h : m.QueuesGone) : Module.Frame [.regs, .msix, .out, .cl] m (m.freeColl e t false) := by
  obtain ⟨-, -, hops⟩ := h
  have hq : ∀ sel, (m.dropLists sel).q.ops = [] := fun sel => by rw [m.dropLists_q, hops]
  unfold Module.freeColl
  simp only [Bool.false_eq_true, if_false, Module.dropOps_gone (hq _)]
  exact ((m.dropLists_frame _).trans ((Module.frame_cl _ _).mono (by simp))).trans ((Module.collUse_frame _ t).mono (by simp))

theorem Module.keeps_freeColl (ht : t < 2) (h : m.QueuesGone) : Module.Keeps ErrKept true m (m.freeColl e t false) := by
  obtain ⟨-, -, hops⟩ := h
  have hq : ∀ sel, (m.dropLists sel).q.ops = [] := fun sel => by rw [m.dropLists_q, hops]
  have huse : ∀ a : Module, Module.Keeps ErrKept true a (a.collUse t) := fun a => by
    simpa [Nat.mod_eq_of_lt ht] using a.keeps_collUse (loud := true) t
  unfold Module.freeColl
  simp only [Bool.false_eq_true, if_false, Module.dropOps_gone (hq _)]
  exact ((m.keeps_dropLists _).trans (.of_frame (Module.frame_cl _ _) (by decide) (by decide) (by decide))).trans (huse _)

theorem Module.freeMatch_ctxs : (m.freeMatch e t false).mt.ctxs = m.mt.ctxs.filter fun p => !(mtTile p.1 = t : Bool) := by
  have hmt : ∀ a : Module, ((a.spillSync t).mtUse t).mt.ctxs = a.mt.ctxs := fun a => by
    rw [(Module.mtUse_frame _ t) .mt (by decide), a.spillSync_ctxs]
  unfold Module.freeMatch
  simp only [hmt, Bool.false_eq_true, if_false, Module.poolFree]

theorem Module.freeColl_ctxs (h : m.QueuesGone) : (m.freeColl e t false).cl.ctxs = m.cl.ctxs.filter fun p => !(collTile p.1 = t : Bool) := by
  obtain ⟨-, -, hops⟩ := h
  have hq : ∀ sel, (m.dropLists sel).q.ops = [] := fun sel => by rw [m.dropLists_q, hops]
  have hcl : ∀ sel, (m.dropLists sel).cl.ctxs = m.cl.ctxs := fun sel => by
    have hfold := Module.foldl_frame (l := [.regs, .msix, .out])
      (fun (a : Module) (p : Nat × TrigList) => (a.collUse (p.2.coll % 2)).raise (pgColl (p.2.coll % 2)) Ev.trigDiscard)
      (fun a _ => ((a.collUse_frame _).mono (by simp)).trans (Module.raise_frame _ _ _)) (m.cl.lists.filter fun p => sel p.1 p.2)
      { m with cl := { m.cl with lists := m.cl.lists.filter fun p => !sel p.1 p.2 } }
    exact congrArg (·.ctxs) (hfold .cl (by decide))
  have huse : ∀ a : Module, (a.collUse t).cl = a.cl := fun a => (a.collUse_frame t) .cl (by decide)
  unfold Module.freeColl
  simp only [Bool.false_eq_true, if_false, Module.dropOps_gone (hq _), huse, hcl]

theorem Module.QueuesGone.freeColl {m : Module} (h : m.QueuesGone) : (m.freeColl e t false).QueuesGone := by
  have hq : (m.freeColl e t false).q = m.q := (m.freeColl_gone e t h) .q (by decide)
  rwa [Module.QueuesGone, hq]

end

/-! ## The contexts of both tiles -/

/-- The matching and collective contexts of a tile are freed without unbinding (R629). -/
def Module.tileFreed (m : Module) (e : Env) (t : Nat) : Module := (m.freeMatch e t false).freeColl e t false

/-- What freeing the contexts of a tile leaves, once no operation is left. -/
structure Module.TileGone (t : Nat) (m a : Module) : Prop where
  frame : Module.Frame [.regs, .msix, .out, .q, .mt, .cl] m a
  queues : a.QueuesGone
  keeps : Module.Keeps FreeKept true m a
  mctxs : a.mt.ctxs = m.mt.ctxs.filter fun p => !(mtTile p.1 = t : Bool)
  colls : a.cl.ctxs = m.cl.ctxs.filter fun p => !(collTile p.1 = t : Bool)

theorem Module.tileFreed_gone (m : Module) (e : Env) (t : Nat) (ht : t < 2) (h : m.QueuesGone) : m.TileGone t (m.tileFreed e t) := by
  unfold Module.tileFreed
  have hq : (m.freeMatch e t false).QueuesGone := h.freeMatch e t
  have hmatch : Module.Frame [.regs, .msix, .out, .q, .mt] m (m.freeMatch e t false) := m.freeMatch_frame e t
  have hcoll := Module.freeColl_gone _ e t hq
  exact ⟨(hmatch.mono (by simp)).trans (hcoll.mono (by simp)), hq.freeColl e t,
    (m.keeps_freeMatch e t ht).trans ((Module.keeps_freeColl _ e t ht hq).mono fun _ _ hf => hf.1),
    by rw [hcoll .mt (by decide), m.freeMatch_ctxs], by rw [Module.freeColl_ctxs _ e t hq, hmatch .cl (by decide)]⟩

/-- No number is of neither tile. -/
theorem filter_tiles {V : Type} (l : List (Nat × V)) :
    (l.filter fun p => !(p.1 % 2 = 0 : Bool)).filter (fun p => !(p.1 % 2 = 1 : Bool)) = [] := by
  rw [List.filter_filter]
  refine List.filter_eq_nil_iff.2 fun p _ => ?_
  rcases Nat.mod_two_eq_zero_or_one p.1 with h | h <;> simp [h]

/-! ## The endpoint -/

section
variable (m : Module)

theorem Module.keepsPower_eraseSlot (k : Nat) : m.KeepsPower (m.eraseSlot k) :=
  (((Module.KeepsPower.refl m).put _ 0 (by simp only [F.trustKslotUsed]; omega)).put _ 0 (by simp only [F.trustKslotNd]; omega)).trans (.of_regs rfl)

theorem Module.keepsPower_queuesClear : m.KeepsPower m.queuesClear := by
  refine .of_keeps m.keeps_queuesClear fun f hf => ⟨fun hmem => ?_, by have := hf.1; omega, fun he => ?_⟩
  · have := hf.1
    simp only [errRegs, List.mem_cons, List.not_mem_nil, or_false] at hmem
    omega
  · have := hf.1
    have hreg : (F.pgBlock pgQctl 0 0).reg = 0x28020 := rfl
    omega

/-- Keys are erased slot by slot (R149). -/
theorem Module.keys_eraseSlots (l : List Nat) : ∀ m : Module, (l.foldl (fun m k => m.eraseSlot k) m).x.keys = m.x.keys.filter fun p => !l.contains p.1 := by
  induction l with
  | nil => exact fun m => (List.filter_true _).symm
  | cons k l ih =>
    intro m
    rw [List.foldl_cons, ih (m.eraseSlot k)]
    simp only [Module.eraseSlot, Module.put_x, KMap.erase, List.filter_filter]
    refine List.filter_congr fun p _ => ?_
    by_cases hk : p.1 = k <;> simp [hk]

theorem Module.conns_eraseSlots (l : List Nat) : ∀ m : Module, (l.foldl (fun m k => m.eraseSlot k) m).x.conns = m.x.conns := by
  induction l with
  | nil => exact fun _ => rfl
  | cons k l ih => exact fun m => (ih (m.eraseSlot k)).trans (by simp only [Module.eraseSlot, Module.put_x])

theorem Module.eraseSlot_frame (k : Nat) : Module.Frame [.regs, .x] m (m.eraseSlot k) :=
  (((m.put_frame _ _).mono (by simp)).trans ((Module.put_frame _ _ _).mono (by simp))).trans ((Module.frame_x _ _).mono (by simp))

/-- A field that reads 0 still does when keys are erased. -/
theorem Module.get_eraseSlots_zero (f : Fld) (l : List Nat) : ∀ m : Module, m.get f = 0 → (l.foldl (fun m k => m.eraseSlot k) m).get f = 0 := by
  induction l with
  | nil => exact fun _ h => h
  | cons k l ih =>
    refine fun m h => ih (m.eraseSlot k) ?_
    have hregs : (m.eraseSlot k).get f = ((m.put (F.trustKslotUsed k) 0).put (F.trustKslotNd k) 0).get f := by
      simp only [Module.eraseSlot, Module.get, Module.word]
    rw [hregs]
    have hused := m.get_put_zero (F.trustKslotUsed k) f (by simp [F.trustKslotUsed]) (by simp [F.trustKslotUsed]) h
    exact Module.get_put_zero _ (F.trustKslotNd k) f (by simp [F.trustKslotNd]) (by simp [F.trustKslotNd]) hused

end

/-! ## Stopping -/

/-- What the stop of the endpoint leaves before the store stops: nothing of queues, contexts and caches, and ND 0 alone of connections and
keys (R629). -/
structure Module.EndpointEmpty (m a : Module) : Prop where
  frame : Module.Frame [.regs, .msix, .out, .q, .smp, .x, .mt, .cl, .dtu] m a
  keeps : m.KeepsPower a
  disabled : a.get (F.pgEnable pgQctl) = 0
  queues : a.QueuesGone
  conns : ∀ p ∈ a.x.conns, p.2.nd = 0
  keys : ∀ p ∈ a.x.keys, p.2.nd = 0
  mctxs : a.mt.ctxs = []
  colls : a.cl.ctxs = []
  dirs : a.x.dirs = []
  regions : a.x.regions = []

section
variable (m : Module) (e : Env) (ok : Bool)

/-- A field that the freeing of contexts keeps is none of the first pages, and not the enable of the queue block. -/
theorem freeKept_power {f : Fld} (hf : PowerFld f) : FreeKept f := by
  have hlow := hf.1
  refine ⟨fun h => ?_, ?_⟩
  · simp only [errRegs, List.mem_cons, List.not_mem_nil, or_false] at h
    omega
  · rintro (h | h) <;> simp only [F.matchUseUnexp] at h <;> omega

theorem Module.freeConns_frame (sel : Nat → Bool) : Module.Frame [.x] m (m.freeConns sel) := by
  unfold Module.freeConns
  exact m.frame_x _

/-- The queue block is disabled and empty, and only connections of ND 0 are left. -/
theorem Module.disabledBlock_facts {a : Module} (ha : a = ((m.put (F.pgEnable pgQctl) 0).queuesClear).freeConns (· ≠ 0)) :
    Module.Frame [.regs, .q, .smp, .x] m a ∧ m.KeepsPower a ∧ a.get (F.pgEnable pgQctl) = 0 ∧ a.QueuesGone ∧ ∀ p ∈ a.x.conns, p.2.nd = 0 := by
  subst ha
  have hfree := ((m.put (F.pgEnable pgQctl) 0).queuesClear).freeConns_frame (· ≠ 0)
  have hfield : (m.put (F.pgEnable pgQctl) 0).queuesClear.get (F.pgEnable pgQctl) = 0 := by
    have hkept : ClearKept (F.pgEnable pgQctl) := ⟨by simp only [ErrKept]; decide, by decide, fun he => absurd he (by decide)⟩
    rw [(Module.keeps_queuesClear _).field _ ⟨by decide, by decide⟩ hkept, m.get_put_same _ _ (by decide) (by decide)]
    rfl
  have hq : (((m.put (F.pgEnable pgQctl) 0).queuesClear).freeConns (· ≠ 0)).q = { Queues.init with nextOp := (m.put (F.pgEnable pgQctl) 0).q.nextOp } :=
    (hfree .q (by decide)).trans (Module.queuesClear_q _)
  refine ⟨(((m.put_frame _ _).mono (by simp)).trans (Module.queuesClear_frame _)).trans (hfree.mono (by simp)),
    ((((Module.KeepsPower.refl m).put _ 0 (by decide)).trans (Module.keepsPower_queuesClear _)).trans (.of_frame hfree (by decide))), ?_, ?_, ?_⟩
  · have hregs : _ = ((m.put (F.pgEnable pgQctl) 0).queuesClear).regs := hfree .regs (by decide)
    rwa [Module.get, Module.word, hregs]
  · simp only [Module.QueuesGone, hq]
    exact ⟨rfl, rfl, rfl⟩
  · intro p hp
    have hnot := (List.mem_filter.1 hp).2
    simpa using hnot

/-- Of the keys, those of ND 0 alone are left. -/
theorem Module.erasedKeys_facts (h : m.get (F.pgEnable pgQctl) = 0) {a : Module}
    (ha : a = ((m.x.keys.filter (fun p => p.2.nd ≠ 0)).map (·.1)).foldl (fun m k => m.eraseSlot k) m) :
    Module.Frame [.regs, .x] m a ∧ m.KeepsPower a ∧ a.get (F.pgEnable pgQctl) = 0 ∧ a.x.conns = m.x.conns ∧ ∀ p ∈ a.x.keys, p.2.nd = 0 := by
  subst ha
  refine ⟨Module.foldl_frame _ (fun a k => a.eraseSlot_frame k) _ m, .foldl _ (fun a k => a.keepsPower_eraseSlot k) _ m,
    Module.get_eraseSlots_zero _ _ m h, Module.conns_eraseSlots _ m, fun p hp => ?_⟩
  rw [Module.keys_eraseSlots _ m, List.mem_filter] at hp
  obtain ⟨hmem, hnot⟩ := hp
  by_contra hnd
  have hin : p.1 ∈ (m.x.keys.filter fun p => p.2.nd ≠ 0).map (·.1) :=
    List.mem_map.2 ⟨p, List.mem_filter.2 ⟨hmem, by simpa using hnd⟩, rfl⟩
  simp only [List.contains_iff_mem.2 hin, Bool.not_true, Bool.false_eq_true] at hnot

/-- The module without translations, region caches and rendezvous entries. -/
def Module.uncached (m : Module) : Module :=
  let m := { m.dtuDrop with x := { m.dtuDrop.x with dirs := [], regions := [] } }
  { m with mt := { m.mt with rdvs := [] } }

theorem Module.uncached_frame : Module.Frame [.x, .dtu, .mt] m m.uncached := by
  unfold Module.uncached
  exact (((m.frame_dtu _).mono (by simp)).trans ((Module.frame_x _ _).mono (by simp))).trans ((Module.frame_mt _ _).mono (by simp))

/-- The steps of R629. -/
theorem Module.endpointStop_eq {m1 m2 m3 : Module} (h1 : m1 = ((m.put (F.pgEnable pgQctl) 0).queuesClear).freeConns (· ≠ 0))
    (h2 : m2 = ((m1.x.keys.filter (fun p => p.2.nd ≠ 0)).map (·.1)).foldl (fun m k => m.eraseSlot k) m1)
    (h3 : m3 = [0, 1].foldl (fun m t => (m.freeMatch e t false).freeColl e t false) m2) :
    m.endpointStop e ok = m3.uncached.storeStop ok := by
  subst h3 h2 h1
  unfold Module.endpointStop Module.uncached
  rfl

theorem Module.endpointStop_empty : ∃ a, m.EndpointEmpty a ∧ m.endpointStop e ok = a.storeStop ok := by
  obtain ⟨m1, h1⟩ : ∃ a, a = ((m.put (F.pgEnable pgQctl) 0).queuesClear).freeConns (· ≠ 0) := ⟨_, rfl⟩
  obtain ⟨m2, h2⟩ : ∃ a, a = ((m1.x.keys.filter (fun p => p.2.nd ≠ 0)).map (·.1)).foldl (fun m k => m.eraseSlot k) m1 := ⟨_, rfl⟩
  obtain ⟨m3, h3⟩ : ∃ a, a = [0, 1].foldl (fun m t => (m.freeMatch e t false).freeColl e t false) m2 := ⟨_, rfl⟩
  have h3' : m3 = (m2.tileFreed e 0).tileFreed e 1 := by
    rw [h3, List.foldl_cons, List.foldl_cons, List.foldl_nil, Module.tileFreed, Module.tileFreed]
  obtain ⟨hf1, hk1, hen1, hq1, hc1⟩ := m.disabledBlock_facts h1
  obtain ⟨hf2, hk2, hen2, hconns2, hkeys2⟩ := m1.erasedKeys_facts hen1 h2
  have hq2 : m2.QueuesGone := by rwa [Module.QueuesGone, hf2 .q (by decide)]
  have hgone0 := m2.tileFreed_gone e 0 (by decide) hq2
  have hgone1 := Module.tileFreed_gone _ e 1 (by decide) hgone0.queues
  rw [← h3'] at hgone1
  have hf3 := hgone0.frame.trans hgone1.frame
  have hk3 := hgone0.keeps.trans hgone1.keeps
  have hx3 : m3.x = m2.x := hf3 .x (by decide)
  have hen3 : m3.get (F.pgEnable pgQctl) = 0 :=
    (hk3.field _ ⟨by decide, by decide⟩ ⟨by simp only [ErrKept]; decide, by simp only [UseRegs]; decide⟩).trans hen2
  have hf4 := m3.uncached_frame
  refine ⟨m3.uncached, ⟨?_, ?_, hen3, hgone1.queues, ?_, ?_, ?_, ?_, rfl, rfl⟩, m.endpointStop_eq e ok h1 h2 h3⟩
  · exact (((hf1.mono (by simp)).trans (hf2.mono (by simp))).trans (hf3.mono (by simp))).trans (hf4.mono (by simp))
  · exact ((hk1.trans hk2).trans (.of_keeps hk3 fun f hf => freeKept_power hf)).trans (.of_frame hf4 (by decide))
  · show ∀ p ∈ m3.x.conns, p.2.nd = 0
    rwa [hx3, hconns2]
  · show ∀ p ∈ m3.x.keys, p.2.nd = 0
    rwa [hx3]
  · show m3.mt.ctxs = []
    rw [hgone1.mctxs, hgone0.mctxs]
    exact filter_tiles _
  · show m3.cl.ctxs = []
    rw [hgone1.colls, hgone0.colls]
    exact filter_tiles _

end

/-! ## The store stops -/

section
variable (m : Module)

theorem Module.frame_st (x : Store) : Module.Frame [.st] m { m with st := x } := by
  intro p hp
  cases p <;> simp_all [Part.same]

/-- A step of the store's drain: the store alone changes, and neither whether it runs nor that it is to stop. -/
structure Module.Drains (m a : Module) : Prop where
  frame : Module.Frame [.st] m a
  stopping : a.st.stopping = m.st.stopping

variable {m} in
theorem Module.Drains.trans {a b : Module} (h : m.Drains a) (k : a.Drains b) : m.Drains b :=
  ⟨h.frame.trans k.frame, k.stopping.trans h.stopping⟩

theorem Module.Drains.refl : m.Drains m := ⟨.refl _ m, rfl⟩

theorem Module.Drains.foldl {α : Type} (f : Module → α → Module) (hf : ∀ m x, Module.Drains m (f m x)) (xs : List α) :
    ∀ m, Module.Drains m (xs.foldl f m) := by
  induction xs with
  | nil => exact .refl
  | cons x xs ih => exact fun m => (hf m x).trans (ih _)

theorem Module.drains_onStore (f : Store → Store) (h : (f m.st).stopping = m.st.stopping) : m.Drains (m.onStore f) := ⟨m.frame_st _, h⟩

theorem Module.drains_commitStart (id : Nat) (o : Obj) (who : Committer) (seals : Bool) : m.Drains (m.commitStart id o who seals) := by
  unfold Module.commitStart
  exact (m.drains_onStore _ rfl).trans (Module.drains_onStore _ _ rfl)

theorem Module.drains_commitIssue : m.Drains m.commitIssue := by
  unfold Module.commitIssue
  exact .foldl _ (fun a c => (a.drains_onStore _ rfl).trans (Module.drains_onStore _ _ rfl)) _ m

theorem Module.drains_stopIssue : m.Drains m.stopIssue := by
  unfold Module.stopIssue
  dsimp only
  split
  · split
    · exact m.drains_onStore _ rfl
    · exact (Module.Drains.foldl (α := Nat × Obj) _ (fun a p => a.drains_commitStart p.1 p.2 .stop false) _ m).trans (Module.drains_commitIssue _)
  · exact .refl m

/-- A store that runs begins its drain. -/
theorem Module.storeDrain_frame : Module.Frame [.st] m m.storeDrain ∧ (m.st.state = .run → m.storeDrain.st.stopping = true) := by
  unfold Module.storeDrain
  split
  next h => exact ⟨.refl _ m, fun hrun => absurd hrun h⟩
  · have hd := ((Module.Drains.foldl (α := Nat × Obj) _ (fun a p => a.drains_commitStart p.1 p.2 .stop false)
      (m.st.objs.filter (fun p => p.2.state = .opened)) (m.onStore fun s => { s with stopping := true })).trans
        (Module.drains_commitIssue _)).trans (Module.drains_stopIssue _)
    exact ⟨(m.frame_st _).trans hd.frame, fun _ => hd.stopping⟩

/-- The store alone changes when it stops; from RUN it begins its drain, or with a failed tile it drops what it staged (R610). -/
theorem Module.storeStop_facts (ok : Bool) : Module.Frame [.st] m (m.storeStop ok) ∧ (m.st.state = .run →
    if ok then (m.storeStop ok).st.stopping = true else (m.storeStop ok).st.state = .stopped ∧ (m.storeStop ok).st.staged = []) := by
  have hon : ∀ f, Module.Frame [.st] m (m.onStore f) := fun f => m.frame_st _
  unfold Module.storeStop
  split
  next hrun =>
    cases ok
    · exact ⟨(hon _).trans (Module.frame_st _ _), fun _ => ⟨rfl, rfl⟩⟩
    · obtain ⟨hframe, hstops⟩ := m.storeDrain_frame
      exact ⟨hframe, fun _ => hstops hrun⟩
  next h => exact ⟨hon _, fun hrun => by rw [h] at hrun; cases hrun⟩
  next h => exact ⟨hon _, fun hrun => by rw [h] at hrun; cases hrun⟩
  next h _ _ => exact ⟨.refl _ m, fun hrun => absurd hrun h⟩

end

/-! ## Entering a mode -/

/-- A field that entering a mode keeps: of MODE.STS the thermal latch alone. -/
def ModeEntryKept (f : Fld) : Prop := f.reg = 0x1040 → f = F.modeStsThermLatch

/-- The module has entered a mode from another. -/
structure Module.Entered (k : Nat) (m a : Module) : Prop where
  frame : Module.Frame [.regs, .msix, .out, .y] m a
  mode : a.mode = k
  prev : a.get F.modeStsPrev = m.mode
  change : a.get (F.cause pgMode Ev.modeChange) = 1
  keeps : Module.Keeps ModeEntryKept true m a

section
variable (m : Module) (k : Nat)

theorem Module.frame_y (y : Sys) : Module.Frame [.y] m { m with y := y } := by
  intro p hp
  cases p <;> simp_all [Part.same]

/-- MODE.STS shows a new mode and the one before it. -/
def Module.showMode (m : Module) : Module :=
  let a := (m.put F.modeStsPrev m.mode).put F.modeStsMode k
  if k = mDusk || k = mNightfall then a else a.put F.modeStsBusy 0

theorem Module.showMode_frame : Module.Frame [.regs] m (m.showMode k) := by
  have h := (m.put_frame F.modeStsPrev m.mode).trans (Module.put_frame _ F.modeStsMode k)
  unfold Module.showMode
  dsimp only
  split
  exacts [h, h.trans (Module.put_frame _ _ _)]

theorem Module.keeps_showMode : Module.Keeps ModeEntryKept true m (m.showMode k) := by
  have hq : Quiet 0x1040 := ⟨by decide, by decide⟩
  have hshow : Module.Keeps ModeEntryKept true m ((m.put F.modeStsPrev m.mode).put F.modeStsMode k) :=
    ((Module.Keeps.refl m).put _ _ (by decide) (by decide) hq fun g hg he => .inr (by rw [hg he]; decide)).put _ _ (by decide) (by decide) hq
      fun g hg he => .inr (by rw [hg he]; decide)
  unfold Module.showMode
  dsimp only
  split
  exacts [hshow, hshow.put _ _ (by decide) (by decide) hq fun g hg he => .inl (by rw [hg he]; decide)]

theorem Module.get_showMode (hk : k < 8) : (m.showMode k).get F.modeStsMode = k ∧ (m.showMode k).get F.modeStsPrev = m.mode := by
  have hmode : ((m.put F.modeStsPrev m.mode).put F.modeStsMode k).get F.modeStsMode = k := by
    rw [Module.get_put_same _ _ _ (by decide) (by decide)]
    exact Nat.mod_eq_of_lt hk
  have hprev : ((m.put F.modeStsPrev m.mode).put F.modeStsMode k).get F.modeStsPrev = m.mode := by
    rw [Module.get_put_apart _ _ _ _ (by decide) (by decide) (by decide), m.get_put_same _ _ (by decide) (by decide)]
    exact Nat.mod_eq_of_lt (bits_lt _ 2 0)
  unfold Module.showMode
  dsimp only
  split
  · exact ⟨hmode, hprev⟩
  · exact ⟨(Module.get_put_apart _ _ _ _ (by decide) (by decide) (by decide)).trans hmode,
      (Module.get_put_apart _ _ _ _ (by decide) (by decide) (by decide)).trans hprev⟩

/-- A mode that is not the current one is entered (R619). -/
theorem Module.enterMode_entered (hk : k < 8) (hmode : m.mode ≠ k) : m.Entered k (m.enterMode k) := by
  obtain ⟨hshown, hbefore⟩ := m.get_showMode k hk
  have hq : Quiet 0x1040 := ⟨by decide, by decide⟩
  have hkept : Module.Keeps (fun _ => True) true (m.showMode k) ((m.showMode k).raise pgMode Ev.modeChange) :=
    (Module.Keeps.refl _).raise _ _ (by decide)
  have hraise : m.Entered k ((m.showMode k).raise pgMode Ev.modeChange) :=
    ⟨((m.showMode_frame k).mono (by simp)).trans ((Module.raise_frame _ _ _).mono (by simp)),
      (hkept.field _ hq trivial).trans hshown, (hkept.field _ hq trivial).trans hbefore,
      Module.raise_cause _ _ _ (by decide), (m.keeps_showMode k).raise _ _ (by decide)⟩
  have heq : m.enterMode k = if ((m.showMode k).raise pgMode Ev.modeChange).y.resetDue && (k = mNoon || k = mTwilight) then
      { (m.showMode k).raise pgMode Ev.modeChange with
        y := { ((m.showMode k).raise pgMode Ev.modeChange).y with resetDue := false } }.raise pgRst Ev.resetDone
      else (m.showMode k).raise pgMode Ev.modeChange := by
    rw [Module.enterMode, if_neg hmode]
    rfl
  rw [heq]
  generalize (m.showMode k).raise pgMode Ev.modeChange = a at hraise
  split
  · obtain ⟨hframe, hmode, hprev, hchange, hkeeps⟩ := hraise
    have htail : Module.Keeps (fun _ => True) true a ({ a with y := { a.y with resetDue := false } }.raise pgRst Ev.resetDone) :=
      (Module.Keeps.of_frame (a.frame_y _) (by decide) (by decide) (by decide)).raise _ _ (by decide)
    exact ⟨hframe.trans (((a.frame_y _).mono (by simp)).trans ((Module.raise_frame _ _ _).mono (by simp))),
      (htail.field _ hq trivial).trans hmode, (htail.field _ hq trivial).trans hprev, htail.cause _ _ (by decide) hchange,
      hkeeps.trans (htail.mono fun _ _ _ => trivial)⟩
  · exact hraise

end

end Sys2Proof.Machine

/-! PROOFS. The causes of Twilight (R618, R627–R629): what sets them, what entering Twilight leaves, and what clears them. -/

namespace Sys2Proof.Machine

set_option Elab.async false

/-! ## Entering Twilight -/

/-- The module has entered Twilight from a state `m`: the fields of the first pages stay, those of MODE.STS but its thermal latch apart. -/
structure Module.Twilit (ok : Bool) (m a : Module) : Prop where
  mode : a.mode = mTwilight
  prev : a.get F.modeStsPrev = m.mode
  change : a.get (F.cause pgMode Ev.modeChange) = 1
  stopped : EndpointStopped ⟨a, []⟩
  field : ∀ f, PowerFld f → ModeEntryKept f → a.get f = m.get f
  cause : ∀ p c, p < 5 → c < 64 → m.get (F.cause p c) = 1 → a.get (F.cause p c) = 1
  store : m.st.state = .run → if ok then a.st.stopping = true else a.st.state = .stopped ∧ a.st.staged = []

section
variable (m : Module) (e : Env) (ok : Bool)

theorem powerFld_mode : PowerFld F.modeStsMode := ⟨by decide, by decide, by decide⟩

theorem Module.enterTwilight_twilit (hmode : m.mode ≠ mTwilight) : m.Twilit ok (m.enterTwilight e ok) := by
  obtain ⟨a, hempty, heq⟩ := m.endpointStop_empty e ok
  obtain ⟨hstop, hstore⟩ := a.storeStop_facts ok
  have hkeeps : m.KeepsPower (a.storeStop ok) := hempty.keeps.trans (.of_frame hstop (by decide))
  have hsame : (a.storeStop ok).mode = m.mode := hkeeps.field _ powerFld_mode
  have hin : (a.storeStop ok).Entered mTwilight ((a.storeStop ok).enterMode mTwilight) :=
    Module.enterMode_entered _ _ (by decide) (by rwa [hsame])
  have hst : a.st = m.st := hempty.frame .st (by decide)
  unfold Module.enterTwilight
  rw [heq]
  generalize a.storeStop ok = b at hstop hstore hkeeps hsame hin
  generalize b.enterMode mTwilight = c at hin
  have hq : c.q = a.q := (hin.frame .q (by decide)).trans (hstop .q (by decide))
  have hx : c.x = a.x := (hin.frame .x (by decide)).trans (hstop .x (by decide))
  have hmt : c.mt = a.mt := (hin.frame .mt (by decide)).trans (hstop .mt (by decide))
  have hcl : c.cl = a.cl := (hin.frame .cl (by decide)).trans (hstop .cl (by decide))
  have hcst : c.st = b.st := hin.frame .st (by decide)
  have hen : c.get (F.pgEnable pgQctl) = 0 := by
    have hregs : b.get (F.pgEnable pgQctl) = a.get (F.pgEnable pgQctl) := by rw [Module.get, Module.word, hstop .regs (by decide)]; rfl
    exact ((hin.keeps.field _ ⟨by decide, by decide⟩ fun h => absurd h (by decide)).trans hregs).trans hempty.disabled
  obtain ⟨hwqs, hcrs, hops⟩ := hempty.queues
  refine ⟨hin.mode, hin.prev.trans hsame, hin.change, ⟨hen, ?_, ?_, ?_, ?_, ?_, ?_, ?_, ?_, ?_⟩,
    fun f hf hk => (hin.keeps.field f hf.2 hk).trans (hkeeps.field f hf),
    fun p d hp hd hs => hin.keeps.cause p d hd (hkeeps.cause p d hp hd hs), fun hrun => ?_⟩
  · exact (congrArg (·.wqs) hq).trans hwqs
  · exact (congrArg (·.crs) hq).trans hcrs
  · exact (congrArg (·.ops) hq).trans hops
  · exact (show c.x.conns = a.x.conns from congrArg (·.conns) hx) ▸ hempty.conns
  · exact (show c.x.keys = a.x.keys from congrArg (·.keys) hx) ▸ hempty.keys
  · exact (congrArg (·.ctxs) hmt).trans hempty.mctxs
  · exact (congrArg (·.ctxs) hcl).trans hempty.colls
  · exact (congrArg (·.dirs) hx).trans hempty.dirs
  · exact (congrArg (·.regions) hx).trans hempty.regions
  · rw [hcst]
    exact hstore (by rwa [hst])

end

/-! ## A cause arises -/

/-- A single bit of MODE.CAUSE.cause (R627). -/
def causeBit (b : Nat) : Fld := ⟨F.modeCauseCause.reg, b, b⟩

theorem bit_word (m : Module) (a i : Nat) : bit (m.word a) i = decide (m.get ⟨a, i, i⟩ = 1) := by
  simp [bit, Module.get, bits, Nat.testBit_eq_decide_div_mod_eq, Nat.shiftRight_eq_div_pow]

/-- Of the first pages, recording a cause changes MODE.CAUSE alone. -/
theorem Module.get_putCause (m : Module) (b v : Nat) {f : Fld} (hf : f.reg ≠ 0x1058) : (m.put (causeBit b) v).get f = m.get f :=
  m.get_put_reg (causeBit b) f v hf

theorem Module.get_putCause_same (m : Module) (b v : Nat) (hb : b < 6) : (m.put (causeBit b) v).get (causeBit b) = v % 2 := by
  have hbit : (m.put (causeBit b) v).get (causeBit b) = v % 2 ^ (b + 1 - b) := m.get_put_same (causeBit b) v (Nat.le_refl b) (show b < 64 by omega)
  rw [hbit, Nat.add_sub_cancel_left, Nat.pow_one]

theorem Module.get_putCause_apart (m : Module) (b v : Nat) {f : Fld} (hb : b < 6) (hf : f.hi < b ∨ b < f.lo) :
    (m.put (causeBit b) v).get f = m.get f := m.get_put_apart (causeBit b) f v (Nat.le_refl b) (show b < 64 by omega) hf

theorem powerFld_cause (b : Nat) : PowerFld (causeBit b) := ⟨show 0x1058 < 0x5000 by decide, show 0x1058 % 0x1000 ≠ 0x38 by decide, show 0x1058 % 0x1000 < 0x800 by decide⟩

theorem modeEntryKept_cause (b : Nat) : ModeEntryKept (causeBit b) := fun he => absurd (show (0x1058 : Nat) = 0x1040 from he) (by decide)

section
variable {m : Module} {e : Env} {b : Nat} {ok : Bool}

theorem Module.mainOff_of_noonish (h : m.mode = mNoon ∨ m.mode = mAfternoon) : m.mainOff = false := by
  rcases h with h | h <;> simp [Module.mainOff, h, mNoon, mAfternoon, mMidnight, mNightfall]

theorem Module.mode_putCause (v : Nat) : (m.put (causeBit b) v).mode = m.mode := m.get_putCause b v (by decide)

theorem Module.noonish_putCause (v : Nat) : (m.put (causeBit b) v).noonish = m.noonish := by
  simp only [Module.noonish, Module.mode_putCause]

/-- A cause leads from Noon or Afternoon to Twilight (R618). -/
theorem Module.twilightCause_noonish (h : m.mode = mNoon ∨ m.mode = mAfternoon) :
    (m.put (causeBit b) 1).Twilit ok (m.twilightCause e b ok) := by
  have hnoon : (m.put (causeBit b) 1).noonish = true := by
    rw [Module.noonish_putCause]
    rcases h with h | h <;> simp [Module.noonish, h]
  have heq : m.twilightCause e b ok = (m.put (causeBit b) 1).enterTwilight e ok := by
    unfold Module.twilightCause
    rw [Module.mainOff_of_noonish h, if_neg (by decide)]
    exact if_pos hnoon
  rw [heq]
  refine Module.enterTwilight_twilit _ e ok ?_
  rw [Module.mode_putCause]
  rcases h with h | h <;> rw [h] <;> decide

/-- In every other mode with the main input on it is recorded. -/
theorem Module.twilightCause_other (hoff : m.mainOff = false) (h : m.mode ≠ mNoon) (h' : m.mode ≠ mAfternoon) :
    m.twilightCause e b ok = m.put (causeBit b) 1 := by
  have hnoon : (m.put (causeBit b) 1).noonish = false := by
    rw [Module.noonish_putCause]
    simp [Module.noonish, h, h']
  unfold Module.twilightCause
  rw [hoff, if_neg (by decide)]
  exact if_neg (by rw [Bool.not_eq_true]; exact hnoon)

/-- What Twilight shows of the state a cause arose in. -/
theorem Module.Twilit.causes {s : State} {a : Module} (hmode : m.mode = s.mode) (hb : b < 6) (h : (m.put (causeBit b) 1).Twilit ok a) :
    ModeChanges s (s.upd fun _ => a) mTwilight ∧ bit (a.word F.modeCauseCause.reg) b = true ∧ EndpointStopped (s.upd fun _ => a) := by
  have hset : a.get (causeBit b) = 1 := by
    rw [h.field (causeBit b) (powerFld_cause b) (modeEntryKept_cause b), m.get_putCause_same b 1 hb]
  exact ⟨⟨h.mode, h.prev.trans ((Module.mode_putCause 1).trans hmode), h.change⟩, by rw [bit_word]; exact decide_eq_true hset, h.stopped⟩

theorem bit_putCause (hb : b < 6) : bit ((m.put (causeBit b) 1).word F.modeCauseCause.reg) b = true := by
  rw [bit_word]
  exact decide_eq_true (m.get_putCause_same b 1 hb)

end

/-! ## Lost hosts and power -/

theorem Module.since_some {m : Module} {o : Option Nat} {n ns : Nat} (h : o = some n) : m.since o ns = decide (n + ns ≤ m.now) := by
  subst h
  rfl

/-- R627: the clause about HOST_LOSS_TIMEOUT. -/
theorem hostLoss_causes (e : Env) (s : State) (n : Nat) (hdown : s.y.hostDownAt = some n) (hbound : s.get F.modeCfgHostTo ≠ 0) :
    (max s.now e.t < n + s.get F.modeCfgHostTo * 1000000 → exec (.hostLossTimeout e) s = .next (s.upd fun m => m.at e)) ∧
    (n + s.get F.modeCfgHostTo * 1000000 ≤ max s.now e.t →
      (s.mode = mNoon ∨ s.mode = mAfternoon → Answers (exec (.hostLossTimeout e) s) fun t => ModeChanges s t mTwilight ∧
        bit (t.word F.modeCauseCause.reg) 1 = true ∧ EndpointStopped t) ∧
      (s.mode = mDusk ∨ s.mode = mTwilight → Answers (exec (.hostLossTimeout e) s) fun t => t.mode = s.mode ∧
        bit (t.word F.modeCauseCause.reg) 1 = true ∧ Touches [.regs, .now] s t)) := by
  have hmode : (s.at e).mode = s.mode := rfl
  have hexec : exec (.hostLossTimeout e) s = s.run fun m => if ((m.at e).noonish || (m.at e).mode = mDusk || (m.at e).mode = mTwilight) &&
      (m.at e).get F.modeCfgHostTo ≠ 0 && (m.at e).since (m.at e).y.hostDownAt ((m.at e).get F.modeCfgHostTo * 1000000)
    then (m.at e).twilightCause e 1 true else m.at e := rfl
  have hsince : (s.at e).since (s.at e).y.hostDownAt ((s.at e).get F.modeCfgHostTo * 1000000) =
      decide (n + s.get F.modeCfgHostTo * 1000000 ≤ max s.now e.t) := Module.since_some hdown
  have hne : ((s.at e).get F.modeCfgHostTo ≠ 0) := hbound
  refine ⟨fun hearly => ?_, fun hlate => ⟨fun hnoon => ?_, fun hother => ?_⟩⟩
  · rw [hexec]
    exact s.run_of _ (if_neg (by rw [hsince, decide_eq_false (Nat.not_le.2 hearly)]; simp))
  · have hstart := Module.twilightCause_noonish (m := s.at e) (e := e) (b := 1) (ok := true) hnoon
    refine ⟨_, ?_, hstart.causes hmode (by decide)⟩
    rw [hexec]
    refine s.run_of _ (if_pos ?_)
    rw [hsince, decide_eq_true hlate, hmode]
    rcases hnoon with h | h <;> simp [Module.noonish, hmode, h, hne]
  · have hoff : (s.at e).mainOff = false := by
      rcases hother with h | h <;> simp [Module.mainOff, hmode, h, mDusk, mTwilight, mMidnight, mNightfall]
    have hstay : (s.at e).twilightCause e 1 true = (s.at e).put (causeBit 1) 1 := by
      refine Module.twilightCause_other hoff ?_ ?_ <;> rcases hother with h | h <;> rw [hmode, h] <;> decide
    have hmode' : ((s.at e).put (causeBit 1) 1).mode = s.mode := (Module.mode_putCause 1).trans hmode
    have hbit : bit (((s.at e).put (causeBit 1) 1).word F.modeCauseCause.reg) 1 = true := bit_putCause (by decide)
    have hframe : Module.Frame [.regs, .now] s.toModule ((s.at e).put (causeBit 1) 1) :=
      ((s.at_frame e).mono (by simp)).trans ((Module.put_frame _ _ _).mono (by simp))
    refine ⟨s.upd fun _ => (s.at e).put (causeBit 1) 1, ?_, hmode', hbit, hframe.touches_left⟩
    rw [hexec]
    refine s.run_of _ ((if_pos ?_).trans hstay)
    rw [hsince, decide_eq_true hlate, hmode]
    rcases hother with h | h <;> simp [h, hne]

/-- R627: the clause about POWER_OVER_TIMEOUT. -/
theorem powerOver_causes (power : Nat) (e : Env) (s : State) :
    (power ≤ 10 * s.variantMax → Answers (exec (.powerOverTimeout power e) s) fun t => t.y.powerOver = false ∧
      (t.y.powerLowAt.isSome ↔ power < 10 * s.get F.govBudgetPcap) ∧ Touches [.y, .now] s t) ∧
    (10 * s.variantMax < power → s.mode = mNoon ∨ s.mode = mAfternoon → Answers (exec (.powerOverTimeout power e) s) fun t =>
      ModeChanges s t mTwilight ∧ bit (t.word F.modeCauseCause.reg) 3 = true ∧ EndpointStopped t) := by
  have hexec : exec (.powerOverTimeout power e) s = s.run fun m => if ((m.at e).notePower power).y.powerOver then
      ((m.at e).notePower power).twilightCause e 3 true else (m.at e).notePower power := rfl
  have hover : ((s.at e).notePower power).y.powerOver = decide (10 * s.variantMax < power) := rfl
  have hframe : Module.Frame [.y, .now] s.toModule ((s.at e).notePower power) :=
    ((s.at_frame e).mono (by simp)).trans ((Module.frame_y _ _).mono (by simp))
  refine ⟨fun hlow => ?_, fun hhigh hnoon => ?_⟩
  · have hno : decide (10 * s.variantMax < power) = false := decide_eq_false (by omega)
    refine ⟨s.upd fun _ => (s.at e).notePower power, ?_, hover.trans hno, ?_, hframe.touches_left⟩
    · rw [hexec]
      exact s.run_of _ (if_neg (by rw [hover, hno]; decide))
    · show (if decide (power < 10 * s.get F.govBudgetPcap) then some (((s.at e).y.powerLowAt).getD (s.at e).now) else none).isSome ↔ _
      by_cases h : power < 10 * s.get F.govBudgetPcap <;> simp [h]
  · have hmode : ((s.at e).notePower power).mode = s.mode := rfl
    have hstart := Module.twilightCause_noonish (m := (s.at e).notePower power) (e := e) (b := 3) (ok := true) hnoon
    refine ⟨_, ?_, hstart.causes hmode (by decide)⟩
    rw [hexec]
    exact s.run_of _ (if_pos (hover.trans (decide_eq_true hhigh)))

/-! ## A write of MODE.CAUSE -/

/-- One cause of a write is cleared, where its condition is gone (R627). -/
def Module.clearCause (w : Wr) (m : Module) (b : Nat) : Module :=
  if bit (writeOnes w) b && m.causeGone b then m.put (causeBit b) 0 else m

/-- The causes of a list have been cleared so. -/
structure Module.CausesCleared (w : Wr) (l : List Nat) (m a : Module) : Prop where
  frame : Module.Frame [.regs] m a
  word : ∀ r, r ≠ 0x1058 → a.word r = m.word r
  tile : a.get F.modeCauseTile = m.get F.modeCauseTile
  bits : ∀ b < 6, a.get (causeBit b) = if b ∈ l ∧ (bit (writeOnes w) b && m.causeGone b) = true then 0 else m.get (causeBit b)

section
variable {w : Wr} {m a : Module}

theorem Module.causeGone_congr (hf : Module.Frame [.regs] m a) (hw : ∀ r, r ≠ 0x1058 → a.word r = m.word r) (b : Nat) :
    a.causeGone b = m.causeGone b := by
  have hlink : a.linkUp = m.linkUp := funext fun i => by
    have hget : a.get (F.hostLstsUp i) = m.get (F.hostLstsUp i) := by
      rw [Module.get, hw (F.hostLstsUp i).reg (by simp only [F.hostLstsUp]; omega), Module.get]
    rw [Module.linkUp, Module.linkUp, Module.flag, Module.flag, hget]
  have hlevel : ∀ k, a.thermLevel k = m.thermLevel k := fun k => by
    simp only [Module.thermLevel, Module.get, hw F.thermStsLevel.reg (by decide)]
  have hy : a.y = m.y := hf .y (by decide)
  have hn : a.now = m.now := hf .now (by decide)
  unfold Module.causeGone
  split
  · simp only [hlink]
  · simp only [hlevel]
  · simp only [Module.since, hy, hn]
  · rfl
  · rfl

theorem Module.clearCauses (w : Wr) (l : List Nat) (hl : ∀ b ∈ l, b < 6) : ∀ m : Module, Module.CausesCleared w l m (l.foldl (Module.clearCause w) m) := by
  induction l with
  | nil => exact fun m => ⟨.refl _ m, fun _ _ => rfl, rfl, fun b _ => by simp⟩
  | cons b l ih =>
    intro m
    have hb : b < 6 := hl b List.mem_cons_self
    have hone : Module.CausesCleared w [b] m (Module.clearCause w m b) := by
      unfold Module.clearCause
      split
      next hgone =>
        refine ⟨m.put_frame _ _, fun r hr => m.word_put_other (causeBit b) 0 r hr,
          m.get_putCause_apart b 0 hb (.inr (by simp only [F.modeCauseTile]; omega)), fun c hc => ?_⟩
        by_cases hcb : c = b
        · subst hcb
          rw [m.get_putCause_same c 0 hb, if_pos ⟨List.mem_singleton_self c, hgone⟩]
        · rw [if_neg (by simp [hcb])]
          exact m.get_putCause_apart b 0 hb (by simp only [causeBit]; omega)
      next hgone =>
        refine ⟨.refl _ m, fun _ _ => rfl, rfl, fun c _ => (if_neg ?_).symm⟩
        rintro ⟨hmem, hclear⟩
        exact hgone (List.mem_singleton.1 hmem ▸ hclear)
    have hrest := ih (fun c hc => hl c (List.mem_cons_of_mem _ hc)) (Module.clearCause w m b)
    refine ⟨hone.frame.trans hrest.frame, fun r hr => (hrest.word r hr).trans (hone.word r hr), hrest.tile.trans hone.tile, fun c hc => ?_⟩
    rw [List.foldl_cons, hrest.bits c hc, hone.bits c hc, Module.causeGone_congr hone.frame hone.word]
    generalize (bit (writeOnes w) c && m.causeGone c) = clears
    by_cases hin : c ∈ l
    · cases clears <;> simp [hin]
    · cases clears <;> simp [hin]

end

theorem Module.since_eq_any (m : Module) (o : Option Nat) (ns : Nat) : m.since o ns = o.any fun n => decide (n + ns ≤ m.now) := by
  cases o <;> rfl

/-- The condition of a cause as R627 lists it. -/
theorem Module.causeGone_eq (m : Module) (b : Nat) : m.causeGone b = (decide (b = 4) || (decide (b = 1) && (List.range 4).any m.linkUp) ||
    (decide (b = 2) && (List.range 3).all fun k => decide (m.thermLevel k < 3)) || (decide (b = 3) && m.since m.y.powerLowAt 100000000)) := by
  generalize hpower : m.since m.y.powerLowAt 100000000 = low
  unfold Module.causeGone
  split
  · simp
  · simp [show List.range 3 = [0, 1, 2] from rfl]
  · exact hpower.trans (by simp)
  · simp
  next h1 h2 h3 h4 => simp [decide_eq_false h1, decide_eq_false h2, decide_eq_false h3, decide_eq_false h4]

theorem Module.reaches_cause (m : Module) : m.reaches F.modeCauseCause.reg = true := by
  have hblock : blockOf (regAddr F.modeCauseCause.reg / 0x1000) = some (⟨.mode, 1, 1, 2, .mgmt⟩, 0) := by decide
  have hdom : domOf (regAddr F.modeCauseCause.reg) = .mgmt := by decide
  have hmsix : isMsixPage (regAddr F.modeCauseCause.reg / 0x1000) = false := by decide
  have hlock : tableLock (regAddr F.modeCauseCause.reg) = none := by decide
  simp [Module.reaches, Module.fate, Module.absent, hblock, hdom, hmsix, hlock, Module.domStopped]

/-- R627: the clause about CAUSE_CLEAR. -/
theorem causeClear_clears (w : Wr) (e : Env) (s : State) (h : s.Arrives w F.modeCauseCause.reg) : Answers (exec (.causeClear w e) s) fun t =>
    (∀ b < 6, bit (t.word F.modeCauseCause.reg) b = (bit (s.word F.modeCauseCause.reg) b && !(bit (writeOnes w) b &&
      (b = 4 || (b = 1 && (List.range 4).any s.linkUp) || (b = 2 && (List.range 3).all fun k => decide (s.thermLevel k < 3)) ||
        (b = 3 && s.y.powerLowAt.any fun n => decide (n + 100000000 ≤ t.now)))))) ∧
    t.get F.modeCauseTile = s.get F.modeCauseTile ∧ RegsKept (fun a => a = F.modeCauseCause.reg) s t ∧ Touches [.regs, .now] s t := by
  obtain ⟨hm, -⟩ := h
  have heq : (s.at e).causeWrite w = (List.range 6).foldl (Module.clearCause w) (s.at e) := by
    unfold Module.causeWrite
    dsimp only
    rw [(s.at e).reaches_cause, if_neg (by decide)]
    rfl
  obtain ⟨hframe, hword, htile, hbits⟩ := Module.clearCauses w (List.range 6) (fun b hb => List.mem_range.1 hb) (s.at e)
  rw [← heq] at hframe hword htile hbits
  have hnow : ((s.at e).causeWrite w).now = (s.at e).now := hframe .now (by decide)
  refine State.answers_runAs_eq (f := fun m => (m.at e).causeWrite w) hm rfl ⟨fun b hb => ?_, htile, fun r hr => hword r hr,
    Module.Frame.touches_left (((s.at_frame e).mono (by simp)).trans (hframe.mono (by simp)))⟩
  have hgone := (s.at e).causeGone_eq b
  rw [Module.since_eq_any, ← hnow] at hgone
  have hin : bit (s.word F.modeCauseCause.reg) b = decide ((s.at e).get (causeBit b) = 1) := bit_word _ _ _
  have hout : bit (((s.at e).causeWrite w).word F.modeCauseCause.reg) b =
      (bit (s.word F.modeCauseCause.reg) b && !(bit (writeOnes w) b && (s.at e).causeGone b)) := by
    refine (bit_word _ F.modeCauseCause.reg b).trans ?_
    rw [hin, show ((s.at e).causeWrite w).get ⟨F.modeCauseCause.reg, b, b⟩ = _ from hbits b hb]
    cases bit (writeOnes w) b && (s.at e).causeGone b <;> simp [hb]
  rw [hgone] at hout
  exact hout

end Sys2Proof.Machine

/-! PROOFS. Fatal errors of tiles (R628): a port is held DISABLED, the error of an engine tile leads to Twilight. -/

namespace Sys2Proof.Machine

set_option Elab.async false

/-! ## A port that goes down -/

section
variable {m a : Module}

theorem Module.KeepsPower.of_onPort (p : Nat) (f : Port → Port) (h : m.KeepsPower a) : m.KeepsPower (a.onPort p f) := h.trans (.of_regs rfl)

/-- A register of a later page takes a whole word. -/
theorem Module.KeepsPower.setWord (h : m.KeepsPower a) (r : Nat) (w : Word) (hr : 0x5000 ≤ r) : m.KeepsPower (a.setWord r w) :=
  h.trans (.of_word fun b hb => a.word_setWord_other r b w (by omega))

theorem Module.KeepsPower.emit (x : Emit) (h : m.KeepsPower a) : m.KeepsPower (a.emit x) :=
  h.trans (.of_keeps (K := fun _ => True) ((Module.Keeps.refl a).emit x) fun _ _ => trivial)

theorem Module.KeepsPower.count (p n : Nat) (hn : n < 256) (h : m.KeepsPower a) : m.KeepsPower (a.count p n) :=
  h.trans (.of_keeps (K := fun _ => True) (loud := true) ((Module.Keeps.refl a).count p n hn) fun _ _ => trivial)

end

section
variable (m : Module) (p : Nat)

theorem Module.keepsPower_sendFlit (c : Ctl) : m.KeepsPower (m.sendFlit p c) := by
  unfold Module.sendFlit
  have hout : ∀ x, m.KeepsPower ((m.emit x).count (pgPort p) 0) := fun x => (Module.KeepsPower.refl m).emit x |>.count _ _ (by decide)
  dsimp only
  split
  · exact .of_onPort p _ (hout _)
  · exact .count _ _ (by decide) (hout _)
  · exact .of_onPort p _ (hout _)
  · exact .of_onPort p _ (hout _)
  · exact hout _

theorem Module.keepsPower_goEnds : m.KeepsPower (m.goEnds p) := by
  have hreg : 0x5000 ≤ (F.portLwidGo p).reg := by simp only [F.portLwidGo]; omega
  unfold Module.goEnds
  exact (((Module.KeepsPower.refl m).put _ 0 hreg).of_onPort p _).trans
    (.foldl _ (fun a w => (Module.KeepsPower.refl a).setWord _ _ hreg) _ _)

theorem Module.keepsPower_endWidths : m.KeepsPower (m.endWidths p) := by
  unfold Module.endWidths
  dsimp only
  split
  · exact .refl m
  · refine Module.KeepsPower.put ?_ _ _ (by simp only [F.portLstsWchg]; omega)
    exact (((Module.KeepsPower.refl m).of_onPort p _).put _ 5 (by simp only [F.portLwidResult]; omega)).trans (Module.keepsPower_goEnds _ p)

/-- TIME.STS shows the source that has been chosen (R383). -/
def Module.timeShown : Module :=
  let m := m.put F.timeStsGm (m.get F.timeCfgGm)
  if m.flag F.timeCfgGm then m.put F.timeStsDist 0
  else
    match m.timeSource with
    | none => m.put F.timeStsDist 31
    | some p => (m.put F.timeStsDist ((m.port p).farDist + 1)).put F.timeStsPort p

theorem Module.showSource_eq : ∃ n, m.showSource = { m with n := n }.timeShown := ⟨_, rfl⟩

theorem Module.keepsPower_timeShown : m.KeepsPower m.timeShown := by
  have hgm : m.KeepsPower (m.put F.timeStsGm (m.get F.timeCfgGm)) := (Module.KeepsPower.refl m).put F.timeStsGm _ (by decide)
  unfold Module.timeShown
  dsimp only
  generalize m.put F.timeStsGm (m.get F.timeCfgGm) = a at hgm
  split
  · exact hgm.put F.timeStsDist _ (by decide)
  · split
    · exact hgm.put F.timeStsDist _ (by decide)
    · exact (hgm.put F.timeStsDist _ (by decide)).put F.timeStsPort _ (by decide)

theorem Module.keepsPower_showSource : m.KeepsPower m.showSource := by
  obtain ⟨n, heq⟩ := m.showSource_eq
  rw [heq]
  exact (Module.KeepsPower.of_frame (m.frame_n n) (by decide)).trans (Module.keepsPower_timeShown _)

theorem Module.keepsPower_linkDown (grace : Bool) : m.KeepsPower (m.linkDown p grace) := by
  unfold Module.linkDown
  extract_lets +onlyGivenNames was m1 m2 up wait m3 m4
  split
  · exact .refl m
  have h1 : m.KeepsPower m1 := (m.keepsPower_endWidths p).put _ _ (by simp only [F.portLstsState]; omega)
  have h2 : m.KeepsPower m2 := ((h1.put _ 0 (by simp only [F.portLstsLanes]; omega)).put _ 0 (by simp only [F.portLctlDown]; omega)).put _ 0
    (by simp only [F.portLctlRetrain]; omega)
  have h3 : m.KeepsPower m3 := h2.of_onPort p _
  have h4 : m.KeepsPower m4 := by
    show m.KeepsPower (if up = true then (m3.putFlag (F.portLstsGrace p) wait).raise (pgPort p) Ev.linkDown else m3)
    split
    · exact (h3.put _ _ (by simp only [F.portLstsGrace]; omega)).raise _ _ (by decide)
    · exact h3
  exact h4.trans (Module.keepsPower_showSource _)

theorem Module.keepsPower_takeDown (grace : Bool) : m.KeepsPower (m.takeDown p grace) := by
  unfold Module.takeDown
  dsimp only
  split
  · exact (m.keepsPower_sendFlit p _).trans (Module.keepsPower_linkDown _ p grace)
  · exact m.keepsPower_linkDown p grace

end

/-! ## A port that is disabled -/

section
variable (m : Module)

theorem Module.keeps_stopLane (n : Nat) : Module.Keeps (LaneKept n) true m (m.stopLane n) := by
  unfold Module.stopLane
  exact .emit (.injUpdate (.setStage (.putRxsts (.abortScan (.refl m)) 60 60 0 (by decide)) lgOff) n) _

theorem laneKept_power {n : Nat} {f : Fld} (hf : PowerFld f) : LaneKept n f := by
  have hlow := hf.1
  exact ⟨by omega, fun h => by omega⟩

theorem laneKept_lstate (n p : Nat) : LaneKept n (F.portLstsState p) := by
  refine ⟨?_, fun h => ?_⟩ <;> simp only [F.portLstsState] at * <;> omega

/-- A disabled port stands DISABLED, and the first pages are kept (R628). -/
theorem Module.disablePort_facts (d : Nat) (hd : d < 46) : m.KeepsPower (m.disablePort d) ∧ (m.disablePort d).lstate (leadDuo d) = lsDisabled := by
  have hlanes : ∀ (l : List Nat) (a : Module), a.KeepsPower (l.foldl (fun m n => m.stopLane n) a) :=
    .foldl _ (fun a n => .of_keeps (a.keeps_stopLane n) fun f hf => laneKept_power hf)
  have hstate : ∀ (l : List Nat) (a : Module) q, (l.foldl (fun m n => m.stopLane n) a).lstate q = a.lstate q := by
    intro l
    induction l with
    | nil => exact fun _ _ => rfl
    | cons n l ih => exact fun a q => (ih (a.stopLane n) q).trans ((a.keeps_stopLane n).field _ (quiet_lsts q) (laneKept_lstate n q))
  have hdown : m.KeepsPower (if isPort (leadDuo d) then m.takeDown (leadDuo d) true else m) := by
    split
    exacts [m.keepsPower_takeDown _ true, .refl m]
  unfold Module.disablePort
  rw [if_neg (Nat.not_le.2 hd)]
  extract_lets +onlyGivenNames p a b
  have hp : p = leadDuo d := rfl
  have ha : a = if isPort p then m.takeDown p true else m := rfl
  have hb : b = a.put (F.portLstsState p) lsDisabled := rfl
  clear_value b a p
  subst hp
  rw [← ha] at hdown
  subst hb
  refine ⟨(hdown.put _ lsDisabled (by simp only [F.portLstsState]; omega)).trans (hlanes _ _), (hstate _ _ _).trans ?_⟩
  exact Module.get_put_same _ _ _ (by simp [F.portLstsState]) (by simp [F.portLstsState])

end

/-! ## Fatal errors -/

theorem Module.tileFails_eq (m : Module) (e : Env) (t : Nat) : m.tileFails e t =
    if m.mainOff || (tileKind t).1 = 0 || (tileKind t).1 = 9 then m
    else if (tileKind t).1 = 1 then m.disablePort (tileKind t).2
    else (m.put F.modeCauseTile t).twilightCause e 0 ((tileKind t).1 ≠ 8) := rfl

/-- R628 and R629: the clause about FATAL_ENGINE_ERROR. -/
theorem fatalEngineError_causes (tile : Fin 64) (e : Env) (s : State) :
    let k := (tileKind tile).1
    let u := (tileKind tile).2
    (s.mainOff = true ∨ k = 0 ∨ k = 9 → exec (.fatalEngineError tile e) s = .next (s.upd fun m => m.at e)) ∧
    (s.mainOff = false → k = 1 → u < 46 → Answers (exec (.fatalEngineError tile e) s) fun t => t.lstate (leadDuo u) = lsDisabled ∧
      t.mode = s.mode ∧ t.get F.modeCauseCause = s.get F.modeCauseCause) ∧
    (s.mainOff = false → k ≠ 0 → k ≠ 1 → k ≠ 9 →
      (s.mode = mNoon ∨ s.mode = mAfternoon → Answers (exec (.fatalEngineError tile e) s) fun t => ModeChanges s t mTwilight ∧
        bit (t.word F.modeCauseCause.reg) 0 = true ∧ t.get F.modeCauseTile = tile ∧ EndpointStopped t ∧
        (s.st.state = .run → if k = 8 then t.st.state = .stopped ∧ t.st.staged = [] else t.st.stopping = true)) ∧
      (s.mode ≠ mNoon → s.mode ≠ mAfternoon → Answers (exec (.fatalEngineError tile e) s) fun t => t.mode = s.mode ∧
        bit (t.word F.modeCauseCause.reg) 0 = true ∧ t.get F.modeCauseTile = tile ∧ Touches [.regs, .now] s t)) := by
  intro k u
  have hrun : ∀ {a}, (s.at e).tileFails e tile.val = a → exec (.fatalEngineError tile e) s = .next (s.upd fun _ => a) := fun h =>
    s.run_of (fun m => (m.at e).tileFails e tile.val) h
  have hoff : (s.at e).mainOff = s.mainOff := rfl
  have hfails := (s.at e).tileFails_eq e tile.val
  rw [hoff] at hfails
  change _ = if s.mainOff || k = 0 || k = 9 then _ else if k = 1 then (s.at e).disablePort u else
    ((s.at e).put F.modeCauseTile tile.val).twilightCause e 0 (k ≠ 8) at hfails
  clear_value k u
  have htile : ((s.at e).put F.modeCauseTile tile.val).get F.modeCauseTile = tile := by
    rw [Module.get_put_same _ _ _ (by decide) (by decide)]
    exact Nat.mod_eq_of_lt tile.isLt
  have hmode : ((s.at e).put F.modeCauseTile tile.val).mode = s.mode := (s.at e).get_put_reg F.modeCauseTile F.modeStsMode _ (by decide)
  have hframe : Module.Frame [.regs, .now] s.toModule ((s.at e).put F.modeCauseTile tile.val) :=
    ((s.at_frame e).mono (by simp)).trans ((Module.put_frame _ _ _).mono (by simp))
  refine ⟨fun h => ?_, fun hon hk hu => ?_, fun hon h0 h1 h9 => ?_⟩
  · exact hrun (hfails.trans (if_pos (by simpa [or_assoc] using h)))
  · obtain ⟨hkeeps, hstate⟩ := (s.at e).disablePort_facts u hu
    have heq : (s.at e).tileFails e tile.val = (s.at e).disablePort u := hfails.trans (by rw [if_neg (by simp [hon, hk]), if_pos hk])
    have hsame : ((s.at e).disablePort u).mode = s.mode := hkeeps.field _ powerFld_mode
    have hcause : ((s.at e).disablePort u).get F.modeCauseCause = s.get F.modeCauseCause :=
      hkeeps.field F.modeCauseCause ⟨by decide, by decide, by decide⟩
    exact ⟨_, hrun heq, hstate, hsame, hcause⟩
  · have heq : (s.at e).tileFails e tile.val = ((s.at e).put F.modeCauseTile tile.val).twilightCause e 0 (k ≠ 8) :=
      hfails.trans (by rw [if_neg (by simp [hon, h0, h9]), if_neg h1])
    generalize (s.at e).put F.modeCauseTile tile.val = b at heq htile hmode hframe
    have hst : b.st = s.st := hframe .st (by decide)
    have htile' : (b.put (causeBit 0) 1).get F.modeCauseTile = tile := (b.get_putCause_apart 0 1 (by decide) (by decide)).trans htile
    refine ⟨fun hnoon => ?_, fun hnoon hafter => ?_⟩
    · have hin := Module.twilightCause_noonish (m := b) (e := e) (b := 0) (ok := k ≠ 8) (by rwa [hmode])
      obtain ⟨hchange, hbit, hstop⟩ := hin.causes hmode (by decide)
      have hkept := hin.field F.modeCauseTile ⟨by decide, by decide, by decide⟩ fun he => absurd he (by decide)
      refine ⟨_, hrun heq, hchange, hbit, hkept.trans htile', hstop, fun hst' => ?_⟩
      have hstore := hin.store (hst'.symm ▸ congrArg (·.state) hst)
      by_cases h8 : k = 8
      · rw [if_neg (by simp [h8])] at hstore
        rw [if_pos h8]
        exact hstore
      · rw [if_pos (by simp [h8])] at hstore
        rw [if_neg h8]
        exact hstore
    · have hstay : b.twilightCause e 0 (k ≠ 8) = b.put (causeBit 0) 1 :=
        Module.twilightCause_other (by rwa [Module.mainOff, hmode]) (by rwa [hmode]) (by rwa [hmode])
      have hmode' : (b.put (causeBit 0) 1).mode = s.mode := (Module.mode_putCause 1).trans hmode
      have hbit : bit ((b.put (causeBit 0) 1).word F.modeCauseCause.reg) 0 = true := bit_putCause (by decide)
      exact ⟨s.upd fun _ => b.put (causeBit 0) 1, hrun (heq.trans hstay), hmode', hbit, htile',
        (hframe.trans ((Module.put_frame _ _ _).mono (by simp))).touches_left⟩

end Sys2Proof.Machine

/-! PROOFS. Temperatures (R627, R645–R647): the level that a sensor takes, its events, and the cause THERMAL. -/

namespace Sys2Proof.Machine

set_option Elab.async false

/-! ## Levels -/

/-- The level of a sensor in THERM.STS (R645). -/
def levelFld (k : Nat) : Fld := ⟨F.thermStsLevel.reg, 2 * k + 1, 2 * k⟩

theorem Module.thermLevel_eq (m : Module) (k : Nat) (hk : k < 3) : m.thermLevel k = m.get (levelFld k) := by
  have hsplit : ∀ w : Word, bits w 5 0 / 4 ^ k % 4 = bits w (2 * k + 1) (2 * k) := by
    intro w
    have hwidth : 2 * k + 1 + 1 - 2 * k = 2 := by omega
    rw [bits, bits, hwidth]
    simp only [Nat.shiftRight_eq_div_pow]
    interval_cases k <;> omega
  exact hsplit _

theorem powerFld_therm (hi lo : Nat) : PowerFld ⟨0x4060, hi, lo⟩ :=
  ⟨show 0x4060 < 0x5000 by decide, show 0x4060 % 0x1000 ≠ 0x38 by decide, show 0x4060 % 0x1000 < 0x800 by decide⟩

theorem modeEntryKept_of_ne {f : Fld} (h : f.reg ≠ 0x1040) : ModeEntryKept f := fun he => absurd he h

/-- What an operation that keeps the first pages leaves of a level. -/
theorem Module.thermLevel_congr {m a : Module} {k : Nat} (hk : k < 3) (h : a.get (levelFld k) = m.get (levelFld k)) : a.thermLevel k = m.thermLevel k := by
  rw [a.thermLevel_eq k hk, m.thermLevel_eq k hk, h]

section
variable (m : Module)

/-- The events of the levels that a sensor has reached on its way to a level (R646). -/
def Module.levelEvents (old l : Nat) : Module :=
  let a := if decide (old < 1) && decide (1 ≤ l) then m.raise pgTherm Ev.tempWarn else m
  if decide (old < 2) && decide (2 ≤ l) then a.raise pgTherm Ev.tempThrottle else a

theorem Module.levelEvents_frame (old l : Nat) : Module.Frame [.regs, .msix, .out] m (m.levelEvents old l) := by
  unfold Module.levelEvents
  dsimp only
  split <;> split
  exacts [(m.raise_frame _ _).trans (Module.raise_frame _ _ _), m.raise_frame _ _, m.raise_frame _ _, .refl _ m]

theorem Module.keepsPower_levelEvents (old l : Nat) : m.KeepsPower (m.levelEvents old l) := by
  unfold Module.levelEvents
  dsimp only
  split <;> split
  exacts [((Module.KeepsPower.refl m).raise _ _ (by decide)).raise _ _ (by decide), (Module.KeepsPower.refl m).raise _ _ (by decide),
    (Module.KeepsPower.refl m).raise _ _ (by decide), .refl m]

/-- The sensor shows a level, and its events have occurred. -/
def Module.levelSet (k l : Nat) : Module := (m.put (levelFld k) l).levelEvents (m.thermLevel k) l

/-- The level, and beyond the Twilight limit the event and the cause of R627. -/
theorem Module.setLevel_eq (e : Env) (k l : Nat) (critical : Bool) : m.setLevel e k l critical =
    if !(decide (m.thermLevel k < 3) && decide (3 ≤ l)) then m.levelSet k l
    else if critical then
      if ((m.levelSet k l).raise pgTherm Ev.tempTwilight).mainOff then (m.levelSet k l).raise pgTherm Ev.tempTwilight
      else ((m.levelSet k l).raise pgTherm Ev.tempTwilight).put (causeBit 2) 1
    else ((m.levelSet k l).raise pgTherm Ev.tempTwilight).twilightCause e 2 true := by
  unfold Module.setLevel Module.levelSet Module.levelEvents
  rfl

theorem Module.setLevel_low (e : Env) (k l : Nat) (critical : Bool) (h : l < 3 ∨ 3 ≤ m.thermLevel k) :
    m.setLevel e k l critical = m.levelSet k l := by
  rw [m.setLevel_eq, if_pos]
  rcases h with h | h
  · simp [Nat.not_le.2 h]
  · simp [Nat.not_lt.2 h]

theorem Module.setLevel_high (e : Env) (k : Nat) (h : m.thermLevel k < 3) :
    m.setLevel e k 3 false = ((m.levelSet k 3).raise pgTherm Ev.tempTwilight).twilightCause e 2 true := by
  rw [m.setLevel_eq, if_neg (by simp [h]), if_neg (by decide)]

theorem Module.levelSet_frame (k l : Nat) : Module.Frame [.regs, .msix, .out] m (m.levelSet k l) :=
  ((m.put_frame _ _).mono (by simp)).trans (Module.levelEvents_frame _ _ _)

/-- The level reads as it was set; the fields beside it in THERM.STS and those of the other first pages stay. -/
theorem Module.levelSet_fields (k l : Nat) (hk : k < 3) (hl : l < 4) : (m.levelSet k l).thermLevel k = l ∧
    ∀ f, PowerFld f → (f.reg = 0x4060 → 6 ≤ f.lo) → (m.levelSet k l).get f = m.get f := by
  have hkeeps := (m.put (levelFld k) l).keepsPower_levelEvents (m.thermLevel k) l
  have h64 : (levelFld k).hi < 64 := by simp only [levelFld]; omega
  have hlo : (levelFld k).lo ≤ (levelFld k).hi := by simp only [levelFld]; omega
  constructor
  · have hset : (m.put (levelFld k) l).get (levelFld k) = l := by
      rw [Module.get_put_same _ _ _ hlo h64]
      have hwidth : (levelFld k).hi + 1 - (levelFld k).lo = 2 := by simp only [levelFld]; omega
      rw [hwidth]
      exact Nat.mod_eq_of_lt hl
    rw [Module.thermLevel_eq _ k hk]
    exact (hkeeps.field _ (powerFld_therm _ _)).trans hset
  · intro f hf hapart
    refine (hkeeps.field f hf).trans ?_
    by_cases hr : f.reg = 0x4060
    · exact m.get_put_apart _ f l hlo h64 (.inr (by have := hapart hr; simp only [levelFld]; omega))
    · exact m.get_put_reg _ f l hr

end

/-! ## A reading -/

section
variable (m : Module) (k : Nat) (temp : Int) (tile : Nat)

/-- THERM.STS shows what a sensor reads (R645). -/
def Module.reading : Module :=
  let y := { m.y with sensorsOut := m.y.sensorsOut.filter (· ≠ k), temps := m.y.temps.filter (fun p => p.1 ≠ k) ++ [(k, temp)] }
  let m := { m with y := y }.putFlag F.thermStsSensorFail (!y.sensorsOut.isEmpty)
  match k with
  | 0 => (m.put F.thermStsDie (unsigned 8 temp)).put F.thermStsDieTile tile
  | 1 => m.put F.thermStsNand (unsigned 8 temp)
  | _ => m.put F.thermStsCool (unsigned 8 temp)

theorem Module.senses_eq (e : Env) (hk : k = 1 → m.noStore = false) (hlo : -40 ≤ temp) (hhi : temp ≤ 150) :
    m.senses e k temp tile =
      if decide (((m.reading k temp tile).get (F.thermLimCrit k) : Int) ≤ temp) then
        ((m.reading k temp tile).setLevel e k ((m.reading k temp tile).levelFor k temp)
          (decide (((m.reading k temp tile).get (F.thermLimCrit k) : Int) ≤ temp))).thermCritical
      else (m.reading k temp tile).setLevel e k ((m.reading k temp tile).levelFor k temp)
        (decide (((m.reading k temp tile).get (F.thermLimCrit k) : Int) ≤ temp)) := by
  unfold Module.senses
  rw [if_neg, if_neg]
  · rfl
  · rw [Bool.or_eq_true, decide_eq_true_eq, decide_eq_true_eq]
    omega
  · simpa using hk

/-- The reading of a sensor in THERM.STS. -/
def Module.Reads (a : Module) (k : Nat) (temp : Int) : Prop :=
  (k = 1 → a.get F.thermStsNand = unsigned 8 temp) ∧ (k = 2 → a.get F.thermStsCool = unsigned 8 temp) ∧
  (k = 0 → a.get F.thermStsDie = unsigned 8 temp)

/-- THERM.STS has changed above its levels, and nothing else but `y`. -/
structure Module.Showing (m a : Module) : Prop where
  frame : Module.Frame [.regs, .y] m a
  get : ∀ f, (f.reg = 0x4060 → f.hi < 6) → a.get f = m.get f

theorem Module.Showing.put {m a : Module} (h : m.Showing a) (g : Fld) (v : Nat) (hg : g.reg = 0x4060) (h6 : 6 ≤ g.lo)
    (hw : g.lo ≤ g.hi ∧ g.hi < 64) : m.Showing (a.put g v) := by
  refine ⟨h.frame.trans ((Module.put_frame _ _ _).mono (by simp)), fun f hf => ?_⟩
  by_cases hr : f.reg = 0x4060
  · exact (a.get_put_apart g f v hw.1 hw.2 (.inl (by have := hf hr; omega))).trans (h.get f hf)
  · exact (a.get_put_reg g f v (by rwa [hg])).trans (h.get f hf)

theorem unsigned_lt (w : Nat) (i : Int) : unsigned w i < 2 ^ w := by
  have hpos : (0 : Int) < (2 ^ w : Nat) := by exact_mod_cast Nat.two_pow_pos w
  have hlt := Int.emod_lt_of_pos i hpos
  have hnn := Int.emod_nonneg i hpos.ne'
  unfold unsigned
  omega

/-- A reading changes THERM.STS above its levels, and shows the temperature. -/
theorem Module.reading_facts (hk : k < 3) : m.Showing (m.reading k temp tile) ∧ (m.reading k temp tile).Reads k temp := by
  have hflag : ∀ y v, m.Showing ({ m with y := y }.putFlag F.thermStsSensorFail v) := fun y v =>
    Module.Showing.put ⟨(m.frame_y y).mono (by simp), fun _ _ => rfl⟩ F.thermStsSensorFail _ rfl (by decide) (by decide)
  have hread : ∀ (a : Module) (f : Fld), f.lo ≤ f.hi → f.hi < 64 → f.hi + 1 - f.lo = 8 → (a.put f (unsigned 8 temp)).get f = unsigned 8 temp :=
    fun a f hf h64 hw => by
      rw [a.get_put_same f _ hf h64, hw]
      exact Nat.mod_eq_of_lt (unsigned_lt 8 temp)
  unfold Module.reading
  extract_lets +onlyGivenNames old y b
  have hb : m.Showing b := hflag _ _
  clear_value b
  interval_cases k
  · refine ⟨(hb.put F.thermStsDie _ rfl (by decide) (by decide)).put F.thermStsDieTile _ rfl (by decide) (by decide), nofun, nofun, fun _ => ?_⟩
    exact (Module.get_put_apart _ F.thermStsDieTile F.thermStsDie _ (by decide) (by decide) (by decide)).trans
      (hread b F.thermStsDie (by decide) (by decide) rfl)
  · exact ⟨hb.put F.thermStsNand _ rfl (by decide) (by decide), fun _ => hread b F.thermStsNand (by decide) (by decide) rfl, nofun, nofun⟩
  · exact ⟨hb.put F.thermStsCool _ rfl (by decide) (by decide), nofun, fun _ => hread b F.thermStsCool (by decide) (by decide) rfl, nofun⟩

end

/-! ## The level of a temperature -/

section
variable {m : Module} {k : Nat} {temp : Int}

/-- Whether a level stands at a temperature (R646): at its limit, and once reached until 5 °C below it. -/
def levelStands (old l limit : Nat) (temp : Int) : Bool := decide ((limit : Int) ≤ temp) || (decide (l ≤ old) && decide ((limit : Int) - 5 < temp))

theorem Module.levelFor_eq : m.levelFor k temp =
    if levelStands (m.thermLevel k) 3 (m.get (F.thermLimTwi k)) temp then 3
    else if levelStands (m.thermLevel k) 2 (m.get (F.thermLimThrottle k)) temp then 2
    else if levelStands (m.thermLevel k) 1 (m.get (F.thermLimWarn k)) temp then 1 else 0 := rfl

/-- A level stands at its limit. -/
theorem levelStands_of_le {limit : Nat} (old l : Nat) (h : (limit : Int) ≤ temp) : levelStands old l limit temp = true := by
  simp [levelStands, h]

/-- A limit above the temperature does not stand for a level that has not been reached. -/
theorem not_levelStands {old l limit : Nat} (h : temp < limit) (hold : old < l) : ¬ levelStands old l limit temp = true := by
  simp [levelStands, Int.not_le.2 h, Nat.not_le.2 hold]

theorem Module.levelFor_high (h : (m.get (F.thermLimTwi k) : Int) ≤ temp) : m.levelFor k temp = 3 := by
  rw [Module.levelFor_eq, if_pos (levelStands_of_le _ _ h)]

theorem Module.levelFor_throttle (h0 : m.thermLevel k < 3) (hthr : (m.get (F.thermLimThrottle k) : Int) ≤ temp)
    (htwi : temp < m.get (F.thermLimTwi k)) : m.levelFor k temp = 2 := by
  rw [Module.levelFor_eq, if_neg (not_levelStands htwi h0), if_pos (levelStands_of_le _ _ hthr)]

theorem Module.levelFor_warn (h0 : m.thermLevel k < 2) (hwarn : (m.get (F.thermLimWarn k) : Int) ≤ temp)
    (hthr : temp < m.get (F.thermLimThrottle k)) (htwi : temp < m.get (F.thermLimTwi k)) : m.levelFor k temp = 1 := by
  rw [Module.levelFor_eq, if_neg (not_levelStands htwi (by omega)), if_neg (not_levelStands hthr h0), if_pos (levelStands_of_le _ _ hwarn)]

theorem Module.levelFor_low (h0 : m.thermLevel k = 0) (hwarn : temp < m.get (F.thermLimWarn k))
    (hthr : temp < m.get (F.thermLimThrottle k)) (htwi : temp < m.get (F.thermLimTwi k)) : m.levelFor k temp = 0 := by
  rw [Module.levelFor_eq, if_neg (not_levelStands htwi (by omega)), if_neg (not_levelStands hthr (by omega)), if_neg (not_levelStands hwarn (by omega))]

/-- A sensor at its warning level keeps it until 5 °C below the limit. -/
theorem Module.levelFor_cooling (h1 : m.thermLevel k = 1) (hthr : temp < m.get (F.thermLimThrottle k))
    (htwi : temp < m.get (F.thermLimTwi k)) : m.levelFor k temp = if (m.get (F.thermLimWarn k) : Int) - 5 < temp then 1 else 0 := by
  rw [Module.levelFor_eq, if_neg (not_levelStands htwi (by omega)), if_neg (not_levelStands hthr (by omega))]
  refine if_congr ?_ rfl rfl
  simp only [levelStands, h1, Bool.or_eq_true, Bool.and_eq_true, decide_eq_true_eq]
  omega

end

/-! ## The events of a level -/

/-- An event leaves the other causes of its page as they are. -/
theorem Module.raise_cause_other (m : Module) (p c d : Nat) (hc : c < 64) (hcd : d ≠ c) (hp : ¬ MsgRegs (p * 0x1000 + 0x38)) :
    (m.raise p c).get (F.cause p d) = m.get (F.cause p d) := by
  have hput : (m.put (F.cause p c) 1).get (F.cause p d) = m.get (F.cause p d) :=
    m.get_put_apart (F.cause p c) (F.cause p d) 1 (Nat.le_refl c) hc (by simp only [F.cause]; omega)
  have hrise := (m.put (F.cause p c) 1).onRise_word m p _ hp
  exact (congrArg (fun w => bits w d d) hrise).trans hput

section
variable {m : Module}

theorem Module.levelEvents_none {old l : Nat} (h : l ≤ old) : m.levelEvents old l = m := by
  unfold Module.levelEvents
  have h1 : (decide (old < 1) && decide (1 ≤ l)) = false := by simp; omega
  have h2 : (decide (old < 2) && decide (2 ≤ l)) = false := by simp; omega
  simp only [h1, h2, Bool.false_eq_true, if_false]

theorem Module.levelEvents_warn : m.levelEvents 0 1 = m.raise pgTherm Ev.tempWarn := rfl

theorem Module.levelEvents_throttle : m.levelEvents 0 2 = (m.raise pgTherm Ev.tempWarn).raise pgTherm Ev.tempThrottle := rfl

end

/-! ## A sensor below its critical limit -/

/-- A sensor's reading shows in a module that was `s`. -/
structure State.ShowsReading (s : State) (k : Nat) (temp : Int) (r : Module) : Prop where
  frame : Module.Frame [.regs, .y, .now] s.toModule r
  get : ∀ f, (f.reg = 0x4060 → f.hi < 6) → r.get f = s.get f
  reads : r.Reads k temp

section
variable {s : State} {e : Env} {k : Nat} {temp : Int} {r : Module}

theorem State.showsReading (s : State) (e : Env) (hk : k < 3) (tile : Nat) : s.ShowsReading k temp ((s.at e).reading k temp tile) := by
  obtain ⟨hshow, hreads⟩ := (s.at e).reading_facts k temp tile hk
  exact ⟨((s.at_frame e).mono (by simp)).trans (hshow.frame.mono (by simp)), hshow.get, hreads⟩

variable (h : s.ShowsReading k temp r) (hk : k < 3)
include h

theorem State.ShowsReading.limit (hi lo : Nat) (hk : k < 3) : r.get ⟨0x4040 + 8 * k, hi, lo⟩ = s.get ⟨0x4040 + 8 * k, hi, lo⟩ :=
  h.get _ fun he => by simp only at he; omega

theorem State.ShowsReading.mode : r.mode = s.mode := h.get F.modeStsMode (by decide)

/-- The reading stays when a level is set. -/
theorem State.ShowsReading.reads_of {a : Module} (hget : ∀ hi lo, 6 ≤ lo → a.get ⟨0x4060, hi, lo⟩ = r.get ⟨0x4060, hi, lo⟩) : a.Reads k temp := by
  obtain ⟨hnand, hcool, hdie⟩ := h.reads
  exact ⟨fun he => (hget 47 40 (by decide)).trans (hnand he), fun he => (hget 39 32 (by decide)).trans (hcool he),
    fun he => (hget 63 56 (by decide)).trans (hdie he)⟩

include hk

theorem State.ShowsReading.level : r.thermLevel k = s.thermLevel k :=
  Module.thermLevel_congr hk (h.get _ fun _ => by simp only [levelFld]; omega)

theorem State.ShowsReading.levelSet_facts {l : Nat} (hl : l < 4) : (r.levelSet k l).thermLevel k = l ∧ (r.levelSet k l).Reads k temp ∧
    Module.Frame [.regs, .msix, .out, .y, .now] s.toModule (r.levelSet k l) := by
  obtain ⟨hlevel, hfields⟩ := r.levelSet_fields k l hk hl
  exact ⟨hlevel, h.reads_of fun hi lo hlo => hfields _ (powerFld_therm hi lo) fun _ => hlo, (h.frame.mono (by simp)).trans ((r.levelSet_frame k l).mono (by simp))⟩

/-- A level that is not risen to has no event. -/
theorem State.ShowsReading.levelSet_quiet {l : Nat} (hl : l ≤ s.thermLevel k) : Module.Frame [.regs, .y, .now] s.toModule (r.levelSet k l) := by
  unfold Module.levelSet
  rw [h.level hk, Module.levelEvents_none hl]
  exact h.frame.trans ((r.put_frame _ _).mono (by simp))

/-- Reaching the Twilight limit leads to Twilight (R627). -/
theorem State.ShowsReading.setLevel_twilight (hlevel : s.thermLevel k < 3) (hmode : s.mode = mNoon ∨ s.mode = mAfternoon) :
    (r.setLevel e k 3 false).thermLevel k = 3 ∧ (r.setLevel e k 3 false).Reads k temp ∧
    (r.setLevel e k 3 false).get (F.cause pgTherm Ev.tempTwilight) = 1 ∧
    ModeChanges s (s.upd fun _ => r.setLevel e k 3 false) mTwilight ∧ bit ((r.setLevel e k 3 false).word F.modeCauseCause.reg) 2 = true ∧
    EndpointStopped (s.upd fun _ => r.setLevel e k 3 false) := by
  rw [r.setLevel_high e k (by rwa [h.level hk])]
  obtain ⟨hset, hfields⟩ := r.levelSet_fields k 3 hk (by decide)
  have hraise : (r.levelSet k 3).KeepsPower ((r.levelSet k 3).raise pgTherm Ev.tempTwilight) := (Module.KeepsPower.refl _).raise _ _ (by decide)
  have hevent : ((r.levelSet k 3).raise pgTherm Ev.tempTwilight).get (F.cause pgTherm Ev.tempTwilight) = 1 := Module.raise_cause _ _ _ (by decide)
  generalize (r.levelSet k 3).raise pgTherm Ev.tempTwilight = b at hraise hevent
  have hbmode : b.mode = s.mode :=
    ((hraise.field _ powerFld_mode).trans (hfields _ powerFld_mode fun he => absurd he (by decide))).trans h.mode
  have hin := Module.twilightCause_noonish (m := b) (e := e) (b := 2) (ok := true) (by rwa [hbmode])
  have hkept : ∀ f, PowerFld f → f.reg ≠ 0x1040 → f.reg ≠ 0x1058 → (b.twilightCause e 2 true).get f = b.get f := fun f hf h40 h58 =>
    (hin.field f hf (modeEntryKept_of_ne h40)).trans (b.get_putCause 2 1 h58)
  have hcause : (b.put (causeBit 2) 1).get (F.cause pgTherm Ev.tempTwilight) = 1 := (b.get_putCause 2 1 (by decide)).trans hevent
  obtain ⟨hchange, hbit, hstop⟩ := hin.causes hbmode (by decide)
  have htherm : ∀ hi lo, (b.twilightCause e 2 true).get ⟨0x4060, hi, lo⟩ = (r.levelSet k 3).get ⟨0x4060, hi, lo⟩ := fun hi lo =>
    (hkept _ (powerFld_therm hi lo) (show (0x4060 : Nat) ≠ 0x1040 by decide) (show (0x4060 : Nat) ≠ 0x1058 by decide)).trans
      (hraise.field _ (powerFld_therm hi lo))
  exact ⟨(Module.thermLevel_congr hk (htherm _ _)).trans hset,
    h.reads_of fun hi lo hlo => (htherm hi lo).trans (hfields _ (powerFld_therm hi lo) fun _ => hlo),
    hin.cause _ _ (by decide) (by decide) hcause, hchange, hbit, hstop⟩

end

/-- SENSOR_LIMIT and THERMAL_CRITICAL both read a sensor; they differ in the tile they show for the die. -/
theorem sensor_runs {k : Fin 3} {temp : Int} {tile : Fin 64} {e : Env} (s : State) {i : Instr}
    (hi : i = .sensorLimit k temp tile e ∨ i = .thermalCritical k temp e) :
    ∃ d, ∀ {a}, (s.at e).senses e k.val temp d = a → exec i s = .next (s.upd fun _ => a) := by
  rcases hi with rfl | rfl
  · exact ⟨tile.val, fun h => s.run_of (fun m => (m.at e).senses e k.val temp tile.val) h⟩
  · exact ⟨s.get F.thermStsDieTile, fun h => s.run_of (fun m => (m.at e).senses e k.val temp (m.get F.thermStsDieTile)) h⟩

/-- R645 and R646: the clause about a sensor below its critical limit. -/
theorem sensor_level (k : Fin 3) (temp : Int) (tile : Fin 64) (e : Env) (s : State) (i : Instr)
    (hi : i = .sensorLimit k temp tile e ∨ i = .thermalCritical k temp e) (hthere : k.val ≠ 1 ∨ s.noStore = false) (hlo : -40 ≤ temp)
    (hhi : temp ≤ 150) (hcrit : temp < (s.get (F.thermLimCrit k) : Int)) :
    let lim (f : Nat → Fld) : Int := s.get (f k)
    let reads (t : State) : Prop := (k.val = 1 → t.get F.thermStsNand = unsigned 8 temp) ∧ (k.val = 2 → t.get F.thermStsCool = unsigned 8 temp) ∧
      (k.val = 0 → t.get F.thermStsDie = unsigned 8 temp)
    (s.thermLevel k = 0 → temp < lim F.thermLimWarn → temp < lim F.thermLimThrottle → temp < lim F.thermLimTwi →
      Answers (exec i s) fun t => t.thermLevel k = 0 ∧ reads t ∧ Touches [.regs, .y, .now] s t) ∧
    (s.thermLevel k = 0 → lim F.thermLimWarn ≤ temp → temp < lim F.thermLimThrottle → temp < lim F.thermLimTwi →
      Answers (exec i s) fun t => t.thermLevel k = 1 ∧ reads t ∧ t.get (F.cause pgTherm Ev.tempWarn) = 1 ∧
        t.get (F.cause pgTherm Ev.tempThrottle) = s.get (F.cause pgTherm Ev.tempThrottle) ∧ Touches [.regs, .msix, .out, .y, .now] s t) ∧
    (s.thermLevel k = 0 → lim F.thermLimThrottle ≤ temp → temp < lim F.thermLimTwi →
      Answers (exec i s) fun t => t.thermLevel k = 2 ∧ reads t ∧ t.get (F.cause pgTherm Ev.tempWarn) = 1 ∧
        t.get (F.cause pgTherm Ev.tempThrottle) = 1 ∧ Touches [.regs, .msix, .out, .y, .now] s t) ∧
    (s.thermLevel k < 3 → lim F.thermLimTwi ≤ temp → s.mode = mNoon ∨ s.mode = mAfternoon →
      Answers (exec i s) fun t => t.thermLevel k = 3 ∧ reads t ∧ t.get (F.cause pgTherm Ev.tempTwilight) = 1 ∧
        ModeChanges s t mTwilight ∧ bit (t.word F.modeCauseCause.reg) 2 = true ∧ EndpointStopped t) ∧
    (s.thermLevel k = 1 → temp < lim F.thermLimThrottle → temp < lim F.thermLimTwi → Answers (exec i s) fun t =>
      t.thermLevel k = (if lim F.thermLimWarn - 5 < temp then 1 else 0) ∧ reads t ∧ Touches [.regs, .y, .now] s t) := by
  intro lim reads
  obtain ⟨d, hrun⟩ := sensor_runs s hi
  have hshow := s.showsReading e (temp := temp) k.isLt d
  have hsenses := (s.at e).senses_eq k.val temp d e (fun h1 => hthere.resolve_left (not_not_intro h1)) hlo hhi
  generalize (s.at e).reading k.val temp d = r at hshow hsenses
  have hlim : ∀ hi lo, r.get ⟨0x4040 + 8 * k.val, hi, lo⟩ = s.get ⟨0x4040 + 8 * k.val, hi, lo⟩ := fun hi lo => hshow.limit hi lo k.isLt
  have hlevel : r.thermLevel k.val = s.thermLevel k := hshow.level k.isLt
  have hcold : decide ((r.get (F.thermLimCrit k.val) : Int) ≤ temp) = false := decide_eq_false (by
    rw [show r.get (F.thermLimCrit k.val) = _ from hlim 39 32]
    exact Int.not_le.2 hcrit)
  rw [hcold, if_neg (by decide)] at hsenses
  have hset : ∀ {l}, l < 3 → r.levelFor k.val temp = l → exec i s = .next (s.upd fun _ => r.levelSet k.val l) := fun hl h =>
    hrun (hsenses.trans (h.symm ▸ r.setLevel_low e k.val _ false (.inl (h ▸ hl))))
  have hwarn : r.get (F.thermLimWarn k.val) = s.get (F.thermLimWarn k) := hlim 63 56
  have hthr : r.get (F.thermLimThrottle k.val) = s.get (F.thermLimThrottle k) := hlim 55 48
  have htwi : r.get (F.thermLimTwi k.val) = s.get (F.thermLimTwi k) := hlim 47 40
  have hcause : ∀ l c, (r.put (levelFld k.val) l).get (F.cause pgTherm c) = s.get (F.cause pgTherm c) := fun l c =>
    (r.get_put_reg (levelFld k.val) (F.cause pgTherm c) l (show (0x4038 : Nat) ≠ 0x4060 by decide)).trans
      (hshow.get _ fun he => absurd (show (0x4038 : Nat) = 0x4060 from he) (by decide))
  have hmsg : ¬ MsgRegs (pgTherm * 0x1000 + 0x38) := by
    rintro (h | ⟨i, -, h⟩)
    · exact absurd h (by decide)
    · simp only [pgTherm, pgHost] at h; omega
  refine ⟨fun h0 hw ht hx => ?_, fun h0 hw ht hx => ?_, fun h0 ht hx => ?_, fun h3 hx hnoon => ?_, fun h1 ht hx => ?_⟩
  · have hfor := Module.levelFor_low (temp := temp) (hlevel.trans h0) (by rwa [hwarn]) (by rwa [hthr]) (by rwa [htwi])
    obtain ⟨hl, hreads, -⟩ := hshow.levelSet_facts k.isLt (l := 0) (by decide)
    exact ⟨_, hset (by decide) hfor, hl, hreads, (hshow.levelSet_quiet k.isLt (Nat.zero_le _)).touches_left⟩
  · have hfor := Module.levelFor_warn (temp := temp) (by rw [hlevel, h0]; decide) (by rwa [hwarn]) (by rwa [hthr]) (by rwa [htwi])
    obtain ⟨hl, hreads, hframe⟩ := hshow.levelSet_facts k.isLt (l := 1) (by decide)
    have heq : r.levelSet k.val 1 = (r.put (levelFld k.val) 1).raise pgTherm Ev.tempWarn := by
      rw [Module.levelSet, hlevel, h0, Module.levelEvents_warn]
    have hset1 : (r.levelSet k.val 1).get (F.cause pgTherm Ev.tempWarn) = 1 := heq ▸ Module.raise_cause _ _ _ (by decide)
    have hkept : (r.levelSet k.val 1).get (F.cause pgTherm Ev.tempThrottle) = s.get (F.cause pgTherm Ev.tempThrottle) := by
      rw [heq]
      exact (Module.raise_cause_other _ pgTherm Ev.tempWarn Ev.tempThrottle (by decide) (by decide) hmsg).trans (hcause _ _)
    exact ⟨_, hset (by decide) hfor, hl, hreads, hset1, hkept, hframe.touches_left⟩
  · have hfor := Module.levelFor_throttle (temp := temp) (by rw [hlevel, h0]; decide) (by rwa [hthr]) (by rwa [htwi])
    obtain ⟨hl, hreads, hframe⟩ := hshow.levelSet_facts k.isLt (l := 2) (by decide)
    have heq : r.levelSet k.val 2 = ((r.put (levelFld k.val) 2).raise pgTherm Ev.tempWarn).raise pgTherm Ev.tempThrottle := by
      rw [Module.levelSet, hlevel, h0, Module.levelEvents_throttle]
    have hset1 : (r.levelSet k.val 2).get (F.cause pgTherm Ev.tempWarn) = 1 :=
      heq ▸ Module.raise_cause_set _ _ _ _ _ (by decide) (by decide) (Module.raise_cause _ _ _ (by decide))
    have hset2 : (r.levelSet k.val 2).get (F.cause pgTherm Ev.tempThrottle) = 1 := heq ▸ Module.raise_cause _ _ _ (by decide)
    exact ⟨_, hset (by decide) hfor, hl, hreads, hset1, hset2, hframe.touches_left⟩
  · have hfor := Module.levelFor_high (temp := temp) (by rwa [htwi])
    rw [hfor] at hsenses
    obtain ⟨hl, hreads, hevent, hchange, hbit, hstop⟩ := hshow.setLevel_twilight (e := e) k.isLt h3 hnoon
    exact ⟨_, hrun hsenses, hl, hreads, hevent, hchange, hbit, hstop⟩
  · have hfor := Module.levelFor_cooling (temp := temp) (hlevel.trans h1) (by rwa [hthr]) (by rwa [htwi])
    rw [hwarn] at hfor
    have hle : (if (s.get (F.thermLimWarn k) : Int) - 5 < temp then 1 else 0) ≤ 1 := by split <;> decide
    obtain ⟨hl, hreads, -⟩ := hshow.levelSet_facts k.isLt (Nat.lt_of_le_of_lt hle (by decide))
    exact ⟨_, hset (Nat.lt_of_le_of_lt hle (by decide)) hfor, hl, hreads, (hshow.levelSet_quiet k.isLt (h1 ▸ hle)).touches_left⟩

/-! ## A sensor that fails -/

/-- A sensor is out, and THERM.STS shows it (R647). -/
def Module.sensorOut (m : Module) (k : Nat) : Module :=
  ({ m with y := { m.y with sensorsOut := addNum m.y.sensorsOut k, temps := m.y.temps.filter (fun p => p.1 ≠ k) } }.put F.thermStsSensorFail
    1).raise pgTherm Ev.sensorFail

theorem Module.sensorFails_eq (m : Module) (e : Env) (k : Nat) : m.sensorFails e k =
    (m.sensorOut k).setLevel e k ((m.sensorOut k).levelFor k ((m.sensorOut k).get (F.thermLimThrottle k))) false := rfl

theorem Module.sensorOut_facts (m : Module) (k : Nat) : Module.Frame [.regs, .msix, .out, .y] m (m.sensorOut k) ∧
    (∀ f, PowerFld f → (f.reg = 0x4060 → f.hi < 6) → (m.sensorOut k).get f = m.get f) ∧ (m.sensorOut k).get F.thermStsSensorFail = 1 ∧
    (m.sensorOut k).get (F.cause pgTherm Ev.sensorFail) = 1 ∧ k ∈ (m.sensorOut k).y.sensorsOut := by
  have hput : ∀ y, m.Showing ({ m with y := y }.put F.thermStsSensorFail 1) := fun y =>
    Module.Showing.put ⟨(m.frame_y y).mono (by simp), fun _ _ => rfl⟩ F.thermStsSensorFail _ rfl (by decide) (by decide)
  have hset : ∀ y, ({ m with y := y }.put F.thermStsSensorFail 1).get F.thermStsSensorFail = 1 := fun y =>
    Module.get_put_same _ F.thermStsSensorFail 1 (by decide) (by decide)
  have hy : ∀ y, ({ m with y := y }.put F.thermStsSensorFail 1).y = y := fun y => (Module.put_frame _ _ _) .y (by decide)
  unfold Module.sensorOut
  generalize hnew : { m.y with sensorsOut := addNum m.y.sensorsOut k, temps := m.y.temps.filter (fun p => p.1 ≠ k) } = y
  have hin : k ∈ y.sensorsOut := hnew ▸ mem_addNum m.y.sensorsOut k
  specialize hput y
  specialize hset y
  specialize hy y
  generalize { m with y := y }.put F.thermStsSensorFail 1 = a at *
  have hkeeps : a.KeepsPower (a.raise pgTherm Ev.sensorFail) := (Module.KeepsPower.refl a).raise _ _ (by decide)
  exact ⟨(hput.frame.mono (by simp)).trans ((a.raise_frame _ _).mono (by simp)), fun f hf hlow => (hkeeps.field f hf).trans (hput.get f hlow),
    (hkeeps.field _ (powerFld_therm 6 6)).trans hset, a.raise_cause _ _ (by decide), by rwa [(a.raise_frame _ _) .y (by decide), hy]⟩

/-- R647: the clause about SENSOR_FAIL. -/
theorem sensorFail_level (k : Fin 3) (e : Env) (s : State) :
    (k.val = 1 → s.noStore = true → exec (.sensorFail k e) s = .next (s.upd fun m => m.at e)) ∧
    (k.val ≠ 1 ∨ s.noStore = false → s.thermLevel k = 0 → s.get (F.thermLimThrottle k) < s.get (F.thermLimTwi k) →
      Answers (exec (.sensorFail k e) s) fun t => t.get F.thermStsSensorFail = 1 ∧ t.thermLevel k = 2 ∧ k.val ∈ t.y.sensorsOut ∧
        t.get (F.cause pgTherm Ev.sensorFail) = 1 ∧ t.get (F.cause pgTherm Ev.tempThrottle) = 1 ∧
        Touches [.regs, .msix, .out, .y, .now] s t) := by
  have hrun : ∀ {a}, (if k.val = 1 && s.noStore then s.at e else (s.at e).sensorFails e k.val) = a →
      exec (.sensorFail k e) s = .next (s.upd fun _ => a) := fun h =>
    s.run_of (fun m => if k.val = 1 && m.noStore then m.at e else (m.at e).sensorFails e k.val) h
  refine ⟨fun h1 hno => hrun (if_pos (by simp [h1, hno])), fun hthere h0 hlims => ?_⟩
  have hfails := (s.at e).sensorFails_eq e k.val
  obtain ⟨hframe, hget, hfail, hcause, hout⟩ := (s.at e).sensorOut_facts k.val
  generalize (s.at e).sensorOut k.val = r at *
  have hlim : ∀ hi lo, r.get ⟨0x4040 + 8 * k.val, hi, lo⟩ = s.get ⟨0x4040 + 8 * k.val, hi, lo⟩ := fun hi lo => by
    have hk := k.isLt
    exact hget ⟨0x4040 + 8 * k.val, hi, lo⟩ ⟨show 0x4040 + 8 * k.val < 0x5000 by omega, show (0x4040 + 8 * k.val) % 0x1000 ≠ 0x38 by omega,
      show (0x4040 + 8 * k.val) % 0x1000 < 0x800 by omega⟩ fun he => by simp only at he; omega
  have hlevel : r.thermLevel k.val = s.thermLevel k.val :=
    Module.thermLevel_congr k.isLt (hget _ (powerFld_therm _ _) fun _ => by have := k.isLt; simp only [levelFld]; omega)
  have hfor : r.levelFor k.val (r.get (F.thermLimThrottle k.val)) = 2 := Module.levelFor_throttle (by rw [hlevel, h0]; decide) (Int.le_refl _) (by
    have h1 : r.get (F.thermLimThrottle k.val) = s.get (F.thermLimThrottle k) := hlim 55 48
    have h2 : r.get (F.thermLimTwi k.val) = s.get (F.thermLimTwi k) := hlim 47 40
    rw [h1, h2]
    exact_mod_cast hlims)
  rw [hfor, r.setLevel_low e k.val 2 false (.inl (by decide))] at hfails
  obtain ⟨hl, hfields⟩ := r.levelSet_fields k.val 2 k.isLt (by decide)
  have hsetframe := r.levelSet_frame k.val 2
  have heq : r.levelSet k.val 2 = ((r.put (levelFld k.val) 2).raise pgTherm Ev.tempWarn).raise pgTherm Ev.tempThrottle := by
    rw [Module.levelSet, hlevel, h0, Module.levelEvents_throttle]
  have hput : (r.put (levelFld k.val) 2).get (F.cause pgTherm Ev.sensorFail) = 1 :=
    (r.get_put_reg (levelFld k.val) _ 2 (show (0x4038 : Nat) ≠ 0x4060 by decide)).trans hcause
  have hkept : (r.levelSet k.val 2).get (F.cause pgTherm Ev.sensorFail) = 1 :=
    heq ▸ Module.raise_cause_set _ _ _ _ _ (by decide) (by decide) (Module.raise_cause_set _ _ _ _ _ (by decide) (by decide) hput)
  have hthr : (r.levelSet k.val 2).get (F.cause pgTherm Ev.tempThrottle) = 1 := heq ▸ Module.raise_cause _ _ _ (by decide)
  have hy : (r.levelSet k.val 2).y = r.y := hsetframe .y (by decide)
  have hshown : (r.levelSet k.val 2).get F.thermStsSensorFail = 1 := (hfields _ (powerFld_therm 6 6) fun _ => Nat.le_refl 6).trans hfail
  have hin : k.val ∈ (r.levelSet k.val 2).y.sensorsOut := by rwa [hy]
  exact ⟨_, hrun ((if_neg (by simpa using fun h1 => hthere.resolve_left (not_not_intro h1))).trans hfails), hshown, hl, hin, hkept, hthr,
    Module.Frame.touches_left ((((s.at_frame e).mono (by simp)).trans (hframe.mono (by simp))).trans (hsetframe.mono (by simp)))⟩

end Sys2Proof.Machine

/-! PROOFS. Thermal critical (R632): the FET turns off, and the module enters Nightfall (R631). -/

namespace Sys2Proof.Machine

set_option Elab.async false

/-! ## What the main input takes with it -/

section
variable (m : Module)

theorem not_msgRegs {a : Nat} (h : a < 0x5000) : ¬ MsgRegs a := by
  rintro (he | ⟨i, -, he⟩)
  · simp only [pgSample] at he; omega
  · simp only [pgHost] at he; omega

theorem Module.keepsPower_assertSrc (n : Nat) : m.KeepsPower (m.assertSrc n) :=
  .of_word fun a ha => by
    rw [Module.assertSrc, Module.onRise_word _ _ _ _ (not_msgRegs ha), Module.word_put_other _ _ _ _ (by simp only [F.srcPend]; omega)]

theorem Module.assertSrc_frame (n : Nat) : Module.Frame [.regs, .msix, .out] m (m.assertSrc n) := by
  intro p hp
  cases p <;> simp_all [Part.same]

/-- An operation that keeps the first pages, and changes nothing but registers and what events send. -/
structure Module.Aside (m a : Module) : Prop where
  keeps : m.KeepsPower a
  frame : Module.Frame [.regs, .msix, .out] m a

variable {m} in
theorem Module.Aside.trans {a b : Module} (h : m.Aside a) (k : a.Aside b) : m.Aside b := ⟨h.keeps.trans k.keeps, h.frame.trans k.frame⟩

theorem Module.Aside.refl : m.Aside m := ⟨.refl m, .refl _ m⟩

theorem Module.Aside.foldl {α : Type} (f : Module → α → Module) (hf : ∀ m x, Module.Aside m (f m x)) (xs : List α) :
    ∀ m, Module.Aside m (xs.foldl f m) := by
  induction xs with
  | nil => exact .refl
  | cons x xs ih => exact fun m => (hf m x).trans (ih _)

theorem Module.aside_put (f : Fld) (v : Nat) (hf : 0x5000 ≤ f.reg) : m.Aside (m.put f v) :=
  ⟨(Module.KeepsPower.refl m).put f v hf, (m.put_frame f v).mono (by simp)⟩

theorem Module.aside_semWake (n : Nat) : m.Aside (m.semWake n) := by
  unfold Module.semWake
  refine (m.aside_put _ 0 (by simp only [F.semLockWaiters]; omega)).trans (.foldl _ (fun a i => ?_) _ _)
  split
  · exact (a.aside_put _ 1 (by simp only [F.semWkpndPend]; omega)).trans ⟨Module.keepsPower_assertSrc _ _, Module.assertSrc_frame _ _⟩
  · exact .refl a

theorem Module.aside_masterReset (id : Nat) : m.Aside (m.masterReset id) := by
  unfold Module.masterReset
  refine (Module.Aside.foldl _ (fun a n => a.aside_put _ 0 (by simp only [F.semLockWaiters]; omega)) _ m).trans (.foldl _ (fun a n => ?_) _ _)
  split
  · exact ((a.aside_put _ 0 (by simp only [F.semLockOwner]; omega)).trans
      (Module.aside_put _ _ 1 (by simp only [F.semLockBroken]; omega))).trans (Module.aside_semWake _ n)
  · exact .refl a

theorem Module.aside_lanesOff : m.Aside m.lanesOff := by
  unfold Module.lanesOff
  refine .foldl _ (fun a n => ?_) _ m
  split
  · exact .refl a
  · exact ⟨(Module.KeepsPower.refl a).emit _, (a.emit_frame _).mono (by simp)⟩

theorem Module.aside_hostsReset : m.Aside m.hostsReset := .foldl _ (fun a i => a.aside_masterReset i) _ m

end

/-! ## Engines and registers -/

/-- The parts that the loss of the engines may change. -/
abbrev lostParts : List Part := [.regs, .msix, .out, .q, .dtu, .smp, .x, .mt, .cl, .n, .y]

theorem EnginesGone.of_frame {l : List Part} {m a : Module} (h : EnginesGone ⟨m, []⟩) (hf : Module.Frame l m a)
    (hl : l ⊆ [.regs, .msix, .out, .st, .y]) : EnginesGone ⟨a, []⟩ := by
  have hnot : ∀ p, p ∉ ([.regs, .msix, .out, .st, .y] : List Part) → p ∉ l := fun p hp hin => hp (hl hin)
  have hq : a.q = m.q := hf .q (hnot _ (by decide))
  have hx : a.x = m.x := hf .x (hnot _ (by decide))
  have hmt : a.mt = m.mt := hf .mt (hnot _ (by decide))
  have hcl : a.cl = m.cl := hf .cl (hnot _ (by decide))
  have hn : a.n = m.n := hf .n (hnot _ (by decide))
  have hdtu : a.dtu = m.dtu := hf .dtu (hnot _ (by decide))
  simpa only [EnginesGone, hq, hx, hmt, hcl, hn, hdtu] using h

section
variable (m : Module)

theorem Module.enginesLost_facts : m.KeepsPower m.enginesLost ∧ Module.Frame lostParts m m.enginesLost ∧ EnginesGone ⟨m.enginesLost, []⟩ := by
  unfold Module.enginesLost
  extract_lets +onlyGivenNames a
  have hk : m.KeepsPower a := .foldl _ (fun a k => a.keepsPower_eraseSlot k) _ m
  have hf : Module.Frame [.regs, .x] m a := Module.foldl_frame _ (fun a k => a.eraseSlot_frame k) _ m
  clear_value a
  refine ⟨hk.trans (.of_regs rfl), (hf.mono (by simp)).trans fun p hp => ?_, ⟨rfl, rfl, rfl, rfl, rfl, rfl, rfl, rfl, rfl⟩⟩
  cases p <;> simp_all [Part.same]

/-- A read sees nothing of what a filter drops at other keys. -/
theorem Sparse.read_filter {V : Type} (d : Nat → V) (p : Nat × V → Bool) (k : Nat) (h : ∀ v, p (k, v) = true) (l : List (Nat × V)) :
    Sparse.read d (l.filter p) k = Sparse.read d l k := by
  induction l with
  | nil => rfl
  | cons e l ih =>
    obtain ⟨k', v⟩ := e
    by_cases hk : k = k'
    · subst hk
      simp [Sparse.read, h]
    · by_cases hp : p (k', v) <;> simp [Sparse.read, hp, hk, ih]

theorem Module.regsLost_frame (store : Bool) : Module.Frame [.regs] m (m.regsLost store) := by
  intro p hp
  cases p <;> simp_all [Part.same, Module.regsLost]

/-- A register whose domain does not stop keeps its word. -/
theorem Module.word_regsLost (a : Nat) (h : domOf a = .aon ∨ domOf a = .mgmt) : (m.regsLost false).word a = m.word a := by
  unfold Module.regsLost Module.word
  dsimp only
  refine Sparse.read_filter resetWord _ a (fun _ => ?_) m.regs
  rcases h with h | h <;> simp only [h]

/-- A field of a register that no stop of the main input resets (R57). -/
def AlwaysOn (f : Fld) : Prop := PowerFld f ∧ (domOf f.reg = .aon ∨ domOf f.reg = .mgmt)

/-- Nightfall is entered with the engines gone; what is always on stays (R631). -/
theorem Module.enterNightfall_facts (hmode : m.mode ≠ mNightfall) (hstore : m.noStore = false) :
    m.enterNightfall.mode = mNightfall ∧ m.enterNightfall.get F.modeStsPrev = m.mode ∧
    m.enterNightfall.get (F.cause pgMode Ev.modeChange) = 1 ∧ EnginesGone ⟨m.enterNightfall, []⟩ ∧
    ∀ f, AlwaysOn f → ModeEntryKept f → m.enterNightfall.get f = m.get f := by
  unfold Module.enterNightfall
  extract_lets +onlyGivenNames a b c
  have hhosts : m.Aside m.lanesOff.hostsReset := m.aside_lanesOff.trans (Module.aside_hostsReset _)
  obtain ⟨hkeeps, hframe, hgone⟩ := Module.enginesLost_facts m.lanesOff.hostsReset
  have hget : ∀ f, AlwaysOn f → a.get f = m.get f := fun f hf =>
    (congrArg (fun w => bits w f.hi f.lo) (Module.word_regsLost _ f.reg hf.2)).trans ((hhosts.keeps.trans hkeeps).field f hf.1)
  have hgone' : EnginesGone ⟨a, []⟩ := hgone.of_frame (Module.regsLost_frame _ _) (by simp)
  have hfr : Module.Frame lostParts m a := ((hhosts.frame.mono (by simp)).trans hframe).trans ((Module.regsLost_frame _ _).mono (by simp))
  have hb : Module.Frame [.st] a b := a.frame_st _
  have hc : Module.Frame [.y] (b.enterMode mNightfall) c := Module.frame_y _ _
  clear_value c b a
  have hgetb : ∀ f, AlwaysOn f → b.get f = m.get f := fun f hf => by
    rw [Module.get, Module.word, hb .regs (by decide)]
    exact hget f hf
  have hon : AlwaysOn F.modeStsMode := ⟨powerFld_mode, .inr (by decide)⟩
  have hin : b.Entered mNightfall (b.enterMode mNightfall) :=
    b.enterMode_entered _ (by decide) (by rw [Module.mode, hgetb _ hon]; exact hmode)
  have hregs : ∀ f, c.get f = (b.enterMode mNightfall).get f := fun f => by
    rw [Module.get, Module.word, hc .regs (by decide)]
    rfl
  have hfuses : c.fuses = m.fuses :=
    (((hc .fuses (by decide)).trans (hin.frame .fuses (by decide))).trans (hb .fuses (by decide))).trans (hfr .fuses (by decide))
  have hno : c.noStore = false := by
    rw [← hstore, Module.noStore, Module.dies, hfuses]
    rfl
  rw [hno, if_neg (by decide)]
  refine ⟨(hregs _).trans hin.mode, ((hregs _).trans hin.prev).trans (hgetb _ hon), (hregs _).trans hin.change,
    ((hgone'.of_frame hb (by simp)).of_frame hin.frame (by simp)).of_frame hc (by simp),
    fun f hf hk => ((hregs f).trans (hin.keeps.field f hf.1.2 hk)).trans (hgetb f hf)⟩

end

/-! ## The FET turns off -/

/-- The FET is off and power-good has fallen; of the first pages PWR.STS alone has changed, and MODE.STS.busy. -/
structure Module.Unpowered (m a : Module) : Prop where
  frame : Module.Frame [.regs, .msix, .out, .y] m a
  get : ∀ f, PowerFld f → f.reg ≠ 0x3050 → (f.reg = 0x1040 → f.hi < 63) → a.get f = m.get f
  fet : a.fetOn = false
  pg : a.pg = false

theorem powerFld_fe (hi lo : Nat) : PowerFld ⟨0x3050, hi, lo⟩ :=
  ⟨show 0x3050 < 0x5000 by decide, show 0x3050 % 0x1000 ≠ 0x38 by decide, show 0x3050 % 0x1000 < 0x800 by decide⟩

section
variable {m a b : Module}

/-- A change that keeps the front end's state and power-good, and what the others must. -/
theorem Module.Unpowered.step (h : m.Unpowered a) (hf : Module.Frame [.regs, .msix, .out, .y] a b)
    (hget : ∀ f, PowerFld f → f.reg ≠ 0x3050 → (f.reg = 0x1040 → f.hi < 63) → b.get f = a.get f) (hfet : b.fetOn = false)
    (hpg : b.get F.pwrStsPg = a.get F.pwrStsPg) : m.Unpowered b :=
  ⟨h.frame.trans hf, fun f hp hr hb => (hget f hp hr hb).trans (h.get f hp hr hb), hfet, by
    rw [← h.pg, Module.pg, Module.pg, Module.flag, Module.flag, hpg]⟩

theorem Module.fetOn_of_state (h : b.get F.pwrStsState = a.get F.pwrStsState) : b.fetOn = a.fetOn := by
  rw [Module.fetOn, Module.fetOn, Module.feState, Module.feState, h]

theorem Module.fetOn_off (h : a.get F.pwrStsState = feOff) : a.fetOn = false := by
  simp [Module.fetOn, Module.feState, h, feOff, feRamp, feRun]

/-- The gate is off, and foldback and current limit have ended with it. -/
def Module.gateOff (m : Module) : Module :=
  ((if m.fetOn then m.put F.pwrStsState feOff else m).put F.pwrStsFold 0).put F.pwrStsIlim 0

theorem Module.gateOff_facts (m : Module) : Module.Frame [.regs] m m.gateOff ∧ (∀ f, f.reg ≠ 0x3050 → m.gateOff.get f = m.get f) ∧
    m.gateOff.fetOn = false := by
  have hstate : ∀ a : Module, ((a.put F.pwrStsFold 0).put F.pwrStsIlim 0).get F.pwrStsState = a.get F.pwrStsState := fun a =>
    (Module.get_put_apart _ F.pwrStsIlim F.pwrStsState 0 (by decide) (by decide) (by decide)).trans
      (a.get_put_apart F.pwrStsFold F.pwrStsState 0 (by decide) (by decide) (by decide))
  have hframe : ∀ a : Module, Module.Frame [.regs] a ((a.put F.pwrStsFold 0).put F.pwrStsIlim 0) := fun a =>
    (a.put_frame _ _).trans (Module.put_frame _ _ _)
  have hget : ∀ (a : Module) f, f.reg ≠ 0x3050 → ((a.put F.pwrStsFold 0).put F.pwrStsIlim 0).get f = a.get f := fun a f hr =>
    (Module.get_put_reg _ F.pwrStsIlim f 0 hr).trans (a.get_put_reg F.pwrStsFold f 0 hr)
  unfold Module.gateOff
  cases hon : m.fetOn
  · exact ⟨hframe m, hget m, (Module.fetOn_of_state (hstate m)).trans hon⟩
  · refine ⟨(m.put_frame _ _).trans (hframe _), fun f hr => (hget _ f hr).trans (m.get_put_reg F.pwrStsState f feOff hr), ?_⟩
    exact Module.fetOn_off ((hstate _).trans (m.get_put_same F.pwrStsState feOff (by decide) (by decide)))

theorem Module.onFe_frame (m : Module) (f : Front → Front) : Module.Frame [.y] m (m.onFe f) := m.frame_y _

theorem Module.get_of_frame {l : List Part} (h : Module.Frame l m a) (hr : Part.regs ∉ l) (f : Fld) : a.get f = m.get f := by
  have hregs : a.regs = m.regs := h .regs hr
  rw [Module.get, Module.get, Module.word, Module.word, hregs]

/-- Power-good falls where it stands (R662, R663). -/
theorem Module.pgFall_unpowered (m : Module) (hoff : m.fetOn = false) : m.Unpowered m.pgFall := by
  unfold Module.pgFall
  split
  next hpg =>
    have hput : ∀ f, f.reg ≠ 0x3050 → (m.put F.pwrStsPg 0).get f = m.get f := fun f hr => m.get_put_reg F.pwrStsPg f 0 hr
    have hstate : (m.put F.pwrStsPg 0).get F.pwrStsState = m.get F.pwrStsState :=
      m.get_put_apart F.pwrStsPg F.pwrStsState 0 (by decide) (by decide) (by decide)
    have hzero : (m.put F.pwrStsPg 0).get F.pwrStsPg = 0 := m.get_put_same F.pwrStsPg 0 (by decide) (by decide)
    have hframe : Module.Frame [.regs] m (m.put F.pwrStsPg 0) := m.put_frame _ _
    generalize m.put F.pwrStsPg 0 = a at *
    have hfe : Module.Frame [.y] a (a.onFe fun f => { f with pgAt := none }) := a.onFe_frame _
    generalize (a.onFe fun f => { f with pgAt := none }) = b at *
    have hregs : ∀ f, b.get f = a.get f := Module.get_of_frame hfe (by decide)
    have hfall : b.KeepsPower (b.raise pgPwr Ev.pgFall) := (Module.KeepsPower.refl b).raise _ _ (by decide)
    refine ⟨((hframe.mono (by simp)).trans (hfe.mono (by simp))).trans ((Module.raise_frame _ _ _).mono (by simp)),
      fun f hp hr _ => ((hfall.field f hp).trans (hregs f)).trans (hput f hr), ?_, ?_⟩
    · exact (Module.fetOn_of_state (((hfall.field F.pwrStsState (powerFld_fe 63 61)).trans (hregs _)).trans hstate)).trans hoff
    · rw [Module.pg, Module.flag, hfall.field F.pwrStsPg (powerFld_fe 60 60), hregs]
      exact decide_eq_false (not_not_intro hzero)
  next hpg => exact ⟨.refl _ m, fun _ _ _ _ => rfl, hoff, Bool.eq_false_iff.2 hpg⟩

/-- The FET turns off (R662–R664). -/
theorem Module.fetOff_unpowered (m : Module) (cause : Nat) : m.Unpowered (m.fetOff cause) := by
  obtain ⟨hframe, hget, hfet⟩ := m.gateOff_facts
  have heq : m.fetOff cause = (m.gateOff.onFe fun f =>
      { f with rampAt := none, inrush := false, runAt := none, offBy := if m.fetOn then cause else f.offBy }).pgFall := rfl
  rw [heq]
  generalize hfe : (m.gateOff.onFe fun f =>
      { f with rampAt := none, inrush := false, runAt := none, offBy := if m.fetOn then cause else f.offBy }) = a
  have ha : Module.Frame [.y] m.gateOff a := hfe ▸ Module.onFe_frame _ _
  have hregs : ∀ f, a.get f = m.gateOff.get f := Module.get_of_frame ha (by decide)
  have hfall := a.pgFall_unpowered ((Module.fetOn_of_state (hregs _)).trans hfet)
  exact ⟨((hframe.mono (by simp)).trans (ha.mono (by simp))).trans hfall.frame,
    fun f hp hr hb => ((hfall.get f hp hr hb).trans (hregs f)).trans (hget f hr), hfall.fet, hfall.pg⟩

/-- With sw_off set the front end does not start (R650, R664). -/
theorem Module.Unpowered.feJudge (h : m.Unpowered a) (hsw : a.flag F.pwrCtlSwOff = true) : m.Unpowered a.feJudge := by
  have hmay : a.feMay = false := by simp [Module.feMay, hsw]
  unfold Module.feJudge
  rw [hmay]
  simp only [Bool.and_false, Bool.false_eq_true, if_false, Bool.not_false, Bool.and_true]
  split
  · have hput : Module.Frame [.regs] a (a.put F.pwrStsState feOff) := a.put_frame _ _
    have hstate : (a.put F.pwrStsState feOff).get F.pwrStsState = feOff := a.get_put_same F.pwrStsState feOff (by decide) (by decide)
    have hpg : (a.put F.pwrStsState feOff).get F.pwrStsPg = a.get F.pwrStsPg :=
      a.get_put_apart F.pwrStsState F.pwrStsPg feOff (by decide) (by decide) (by decide)
    have hother : ∀ f, f.reg ≠ 0x3050 → (a.put F.pwrStsState feOff).get f = a.get f := fun f hr => a.get_put_reg F.pwrStsState f feOff hr
    generalize a.put F.pwrStsState feOff = b at *
    have hfe : Module.Frame [.y] b (b.onFe fun f => { f with waitAt := none }) := b.onFe_frame _
    have hregs := Module.get_of_frame hfe (by decide)
    exact h.step ((hput.mono (by simp)).trans (hfe.mono (by simp))) (fun f _ hr _ => (hregs f).trans (hother f hr))
      (Module.fetOn_off ((hregs _).trans hstate)) ((hregs _).trans hpg)
  · exact h

/-- An attempt to reach Dawn ends with it (R652). -/
theorem Module.Unpowered.dawnFails (h : m.Unpowered a) : m.Unpowered a.dawnFails := by
  unfold Module.dawnFails
  split
  · have hy : Module.Frame [.y] a { a with y := { a.y with dawnWait := false } } := a.frame_y _
    generalize { a with y := { a.y with dawnWait := false } } = b at *
    have hput : Module.Frame [.regs] b (b.put F.modeStsBusy 0) := b.put_frame _ _
    have hapart : ∀ f, (f.reg = 0x1040 → f.hi < 63) → (b.put F.modeStsBusy 0).get f = b.get f := fun f hf => by
      by_cases hr : f.reg = 0x1040
      · exact b.get_put_apart F.modeStsBusy f 0 (by decide) (by decide) (.inl (hf hr))
      · exact b.get_put_reg F.modeStsBusy f 0 hr
    generalize b.put F.modeStsBusy 0 = c at *
    have hraise : c.KeepsPower (c.raise pgMode Ev.reqRefused) := (Module.KeepsPower.refl c).raise _ _ (by decide)
    have hget : ∀ f, PowerFld f → (f.reg = 0x1040 → f.hi < 63) → (c.raise pgMode Ev.reqRefused).get f = a.get f := fun f hp hb =>
      ((hraise.field f hp).trans (hapart f hb)).trans (Module.get_of_frame hy (by decide) f)
    exact h.step (((hy.mono (by simp)).trans (hput.mono (by simp))).trans ((c.raise_frame _ _).mono (by simp))) (fun f hp _ hb => hget f hp hb)
      ((Module.fetOn_of_state (hget _ (powerFld_fe 63 61) (by decide))).trans h.fet) (hget _ (powerFld_fe 60 60) (by decide))
  · exact h

end

/-! ## Thermal critical -/

/-- The latch and sw_off are set, and the FET is off (R632). -/
theorem Module.critical_unpowered (m : Module) :
    let b := (m.put F.pwrCtlSwOff 1).put F.modeStsThermLatch 1
    b.Unpowered ((b.fetOff 5).feJudge.dawnFails) := by
  intro b
  have hoff := b.fetOff_unpowered 5
  have hsw : (b.fetOff 5).flag F.pwrCtlSwOff = true := by
    have hset : b.get F.pwrCtlSwOff = 1 := (Module.get_put_reg _ F.modeStsThermLatch F.pwrCtlSwOff 1 (by decide)).trans
      (m.get_put_same F.pwrCtlSwOff 1 (by decide) (by decide))
    rw [Module.flag, hoff.get F.pwrCtlSwOff ⟨by decide, by decide, by decide⟩ (by decide) (by decide), hset]
    rfl
  exact (hoff.feJudge hsw).dawnFails

/-- What a critical temperature leaves (R631, R632). -/
theorem Module.thermCritical_facts (m : Module) (hon : m.mainOff = false) (hstore : m.noStore = false) :
    m.thermCritical.mode = mNightfall ∧ m.thermCritical.get F.modeStsPrev = m.mode ∧
    m.thermCritical.get (F.cause pgMode Ev.modeChange) = 1 ∧ m.thermCritical.get F.modeStsThermLatch = 1 ∧
    m.thermCritical.get F.pwrCtlSwOff = 1 ∧ m.thermCritical.fetOn = false ∧ m.thermCritical.pg = false ∧ EnginesGone ⟨m.thermCritical, []⟩ := by
  have hoff := m.critical_unpowered
  have hframe : Module.Frame [.regs] m ((m.put F.pwrCtlSwOff 1).put F.modeStsThermLatch 1) := (m.put_frame _ _).trans (Module.put_frame _ _ _)
  have hmode : ((m.put F.pwrCtlSwOff 1).put F.modeStsThermLatch 1).get F.modeStsMode = m.mode :=
    (Module.get_put_apart _ F.modeStsThermLatch F.modeStsMode 1 (by decide) (by decide) (by decide)).trans
      (m.get_put_reg F.pwrCtlSwOff F.modeStsMode 1 (by decide))
  have hlatch : ((m.put F.pwrCtlSwOff 1).put F.modeStsThermLatch 1).get F.modeStsThermLatch = 1 :=
    Module.get_put_same _ F.modeStsThermLatch 1 (by decide) (by decide)
  have hsw : ((m.put F.pwrCtlSwOff 1).put F.modeStsThermLatch 1).get F.pwrCtlSwOff = 1 :=
    (Module.get_put_reg _ F.modeStsThermLatch F.pwrCtlSwOff 1 (by decide)).trans (m.get_put_same F.pwrCtlSwOff 1 (by decide) (by decide))
  unfold Module.thermCritical
  dsimp only at hoff ⊢
  generalize (m.put F.pwrCtlSwOff 1).put F.modeStsThermLatch 1 = b at *
  generalize (b.fetOff 5).feJudge.dawnFails = c at *
  have hcmode : c.mode = m.mode := (hoff.get _ powerFld_mode (by decide) (by decide)).trans hmode
  have hconn : c.mainOff = false := by rwa [Module.mainOff, hcmode]
  have hfuses : c.fuses = m.fuses := (hoff.frame .fuses (by decide)).trans (hframe .fuses (by decide))
  have hno : c.noStore = false := by
    rw [← hstore, Module.noStore, Module.dies, hfuses]
    rfl
  have hnight : c.mode ≠ mNightfall := fun h => by simp [Module.mainOff, h] at hconn
  obtain ⟨hin, hprev, hchange, hgone, hkept⟩ := c.enterNightfall_facts hnight hno
  rw [hconn, if_neg (by decide)]
  have hfe : ∀ hi lo, c.enterNightfall.get ⟨0x3050, hi, lo⟩ = c.get ⟨0x3050, hi, lo⟩ := fun hi lo =>
    hkept _ ⟨powerFld_fe hi lo, .inl (show domOf 0x3050 = .aon by decide)⟩ fun he => absurd (show (0x3050 : Nat) = 0x1040 from he) (by decide)
  refine ⟨hin, hprev.trans hcmode, hchange, ?_, ?_, (Module.fetOn_of_state (hfe 63 61)).trans hoff.fet, ?_, hgone⟩
  · exact (hkept F.modeStsThermLatch ⟨⟨by decide, by decide, by decide⟩, .inr (by decide)⟩ fun _ => rfl).trans
      ((hoff.get _ ⟨by decide, by decide, by decide⟩ (by decide) (by decide)).trans hlatch)
  · exact (hkept F.pwrCtlSwOff ⟨⟨by decide, by decide, by decide⟩, .inl (by decide)⟩ fun he => absurd he (by decide)).trans
      ((hoff.get _ ⟨by decide, by decide, by decide⟩ (by decide) (by decide)).trans hsw)
  · have hpg : c.enterNightfall.get F.pwrStsPg = c.get F.pwrStsPg := hfe 60 60
    rw [← hoff.pg, Module.pg, Module.pg, Module.flag, Module.flag, hpg]

/-- Below Nightfall the level is shown first; mode and fuses stay. -/
theorem Module.setLevel_critical (m : Module) (e : Env) (k l : Nat) : (m.setLevel e k l true).mode = m.mode ∧ (m.setLevel e k l true).fuses = m.fuses := by
  have hlevel : (m.levelSet k l).mode = m.mode := (((m.put (levelFld k) l).keepsPower_levelEvents (m.thermLevel k) l).field _ powerFld_mode).trans
    (m.get_put_reg (levelFld k) F.modeStsMode l (show (0x1040 : Nat) ≠ 0x4060 by decide))
  have hlevel' : (m.levelSet k l).fuses = m.fuses := (m.levelSet_frame k l) .fuses (by decide)
  rw [m.setLevel_eq]
  generalize m.levelSet k l = a at *
  have hraise : (a.raise pgTherm Ev.tempTwilight).mode = a.mode := ((Module.KeepsPower.refl a).raise pgTherm Ev.tempTwilight (by decide)).field _ powerFld_mode
  have hraise' : (a.raise pgTherm Ev.tempTwilight).fuses = a.fuses := (a.raise_frame _ _) .fuses (by decide)
  generalize a.raise pgTherm Ev.tempTwilight = b at *
  split
  · exact ⟨hlevel, hlevel'⟩
  · rw [if_pos rfl]
    split
    · exact ⟨hraise.trans hlevel, hraise'.trans hlevel'⟩
    · exact ⟨((Module.mode_putCause 1).trans hraise).trans hlevel, (((b.put_frame _ _) .fuses (by decide)).trans hraise').trans hlevel'⟩

/-- R632 and R669: the clause about a sensor at its critical limit. -/
theorem sensor_critical (k : Fin 3) (temp : Int) (tile : Fin 64) (e : Env) (s : State) (i : Instr)
    (hi : i = .sensorLimit k temp tile e ∨ i = .thermalCritical k temp e) (hlo : -40 ≤ temp) (hhi : temp ≤ 150)
    (hcrit : (s.get (F.thermLimCrit k) : Int) ≤ temp) (hon : s.mainOff = false) (hstore : s.noStore = false) :
    Answers (exec i s) fun t => ModeChanges s t mNightfall ∧
      t.get F.modeStsThermLatch = 1 ∧ t.get F.pwrCtlSwOff = 1 ∧ t.fetOn = false ∧ t.pg = false ∧ EnginesGone t := by
  obtain ⟨d, hrun⟩ := sensor_runs s hi
  have hshow := s.showsReading e (temp := temp) k.isLt d
  have hsenses := (s.at e).senses_eq k.val temp d e (fun _ => hstore) hlo hhi
  generalize (s.at e).reading k.val temp d = r at hshow hsenses
  have hhot : decide ((r.get (F.thermLimCrit k.val) : Int) ≤ temp) = true := decide_eq_true (by
    rw [show r.get (F.thermLimCrit k.val) = _ from hshow.limit 39 32 k.isLt]
    exact hcrit)
  rw [hhot, if_pos rfl] at hsenses
  obtain ⟨hmode, hfuses⟩ := r.setLevel_critical e k.val (r.levelFor k.val temp)
  generalize r.setLevel e k.val (r.levelFor k.val temp) true = a at *
  have hamode : a.mode = s.mode := hmode.trans hshow.mode
  have hafuses : a.fuses = s.fuses := hfuses.trans (hshow.frame .fuses (by decide))
  have hano : a.noStore = false := by
    rw [← hstore, Module.noStore, Module.dies, hafuses]
    rfl
  obtain ⟨hin, hprev, hchange, hlatch, hsw, hfet, hpg, hgone⟩ := a.thermCritical_facts (by rwa [Module.mainOff, hamode]) hano
  exact ⟨_, hrun hsenses, ⟨hin, hprev.trans hamode, hchange⟩, hlatch, hsw, hfet, hpg, hgone⟩

end Sys2Proof.Machine

/-! PROOFS. MGMT_REQ (R245–R247): the entries of a manager are performed, and every request is answered: O54. -/

namespace Sys2Proof.Machine

set_option Elab.async false

/-! ## What accepting a packet keeps of the first pages -/

section
variable {m a : Module} {cid : Nat} {c : Conn}

theorem Module.Routed.keepsPower (h : m.Routed a) : m.KeepsPower a :=
  .of_word fun r hr => h.word r (by simp only [pgRoute]; omega) (by
    rintro (he | he)
    · simp only [pgRoute] at he; omega
    · exact not_msgRegs hr he)

theorem Module.keepsPower_sendAck (hc : m.conn cid = some c) (hcsn : c.rxCsn ≤ 0xFFFFFF) (tc : Nat) : m.KeepsPower (m.sendAck cid tc) := by
  let c1 : Conn := { c with ackPend := 0, ackTc := 0, ackQuiet := m.now + m.ackDelay }
  have hset : Module.Frame [.x] m (m.setConn cid c1) := m.setConn_frame cid c1
  have hdrop : Module.Frame [.n] (m.setConn cid c1) ((m.setConn cid c1).dropOldAcks (tileOfCid cid) c) := Module.dropOldAcks_frame _ _ _
  have hconn : ((m.setConn cid c1).dropOldAcks (tileOfCid cid) c).conn cid = some c1 :=
    (Module.conn_congr _ (hdrop .x (by decide)) cid).trans m.conn_setConn_same
  unfold Module.sendAck
  rw [hc]
  dsimp only
  generalize (m.setConn cid c1).dropOldAcks (tileOfCid cid) c = b at hdrop hconn ⊢
  have hb : m.KeepsPower b := (Module.KeepsPower.of_frame hset (by decide)).trans (.of_frame hdrop (by decide))
  unfold Module.sendCtl
  rw [hconn]
  dsimp only
  rw [if_neg (Nat.not_lt.2 hcsn)]
  split
  · exact hb
  · exact (hb.trans (.of_frame (b.setConn_frame _ _) (by decide))).trans (Module.routed_originate _ _ _).keepsPower

theorem Module.keepsPower_rxAccept (hc : m.conn cid = some c) (hcsn : c.rxCsn ≤ 0xFFFFFF) (psn tc : Nat) : m.KeepsPower (m.rxAccept cid psn tc) := by
  obtain ⟨-, hcsn'⟩ := Conn.advance_sameSend 1024 { c with bitmap := addNum c.bitmap psn }
  let c1 := c.accepted m.now m.ackDelay psn tc
  have hcount : m.KeepsPower ((m.setConn cid c1).count (pgXpt (tileOfCid cid)) 3) :=
    .count _ _ (by decide) (.of_frame (m.setConn_frame cid c1) (by decide))
  have hconn : ((m.setConn cid c1).count (pgXpt (tileOfCid cid)) 3).conn cid = some c1 :=
    (Module.conn_congr _ ((Module.count_frame _ _ _) .x (by simp)) cid).trans m.conn_setConn_same
  have heq : m.rxAccept cid psn tc = if ((m.setConn cid c1).count (pgXpt (tileOfCid cid)) 3).get F.xptCfgAckCount ≤ c1.ackPend
      then ((m.setConn cid c1).count (pgXpt (tileOfCid cid)) 3).sendAck cid tc
      else (m.setConn cid c1).count (pgXpt (tileOfCid cid)) 3 := by
    unfold Module.rxAccept
    rw [hc]
    rfl
  rw [heq]
  split
  · exact hcount.trans (Module.keepsPower_sendAck hconn (hcsn'.trans_le hcsn) tc)
  · exact hcount

theorem Module.keepsPower_markSeen (hc : m.conn cid = some c) (hheld : m.mt.unexp = []) (e : Env) (msn : Nat) :
    m.KeepsPower (m.markSeen e cid msn) := by
  unfold Module.markSeen
  rw [hc]
  dsimp only
  split
  · exact .refl m
  · have hset : Module.Frame [.x] m (m.setConn cid (({ c with seen := addNum c.seen msn } : Conn).pass 1024)) := m.setConn_frame _ _
    have hconn := m.conn_setConn_same (cid := cid) (c := ({ c with seen := addNum c.seen msn } : Conn).pass 1024)
    generalize m.setConn cid (({ c with seen := addNum c.seen msn } : Conn).pass 1024) = b at hset hconn ⊢
    have hnone : b.mt.unexp = [] := (congrArg (·.unexp) (hset .mt (by decide))).trans hheld
    rw [Module.heldSteps, hconn]
    dsimp only
    rw [Module.heldMsg, hnone]
    exact .of_frame hset (by decide)

theorem Module.Calm.keepsPower_settle (h : m.Calm) (e : Env) : m.KeepsPower (m.settle e) :=
  .of_word fun r hr => h.settle_word e (by rintro (he | he) <;> simp only [F.matchUseUnexp] at he <;> omega)

end

/-! ## Register entries -/

section
variable (m : Module)

theorem Module.word_settleInjections (a : Nat) (h : Quiet a) : m.settleInjections.word a = m.word a := by
  unfold Module.settleInjections
  generalize m.n.lanes = l
  induction l generalizing m with
  | nil => rfl
  | cons x l ih =>
    rw [List.foldl_cons, ih]
    unfold Module.settleInjection
    split
    · rfl
    · exact Module.countUp_word_quiet _ _ 8 _ a (by decide) h

theorem blockOf_mode : blockOf 1 = some (⟨.mode, 1, 1, 2, .mgmt⟩, 0) := by decide

theorem blockOf_gov : blockOf 2 = some (⟨.gov, 2, 1, 3, .mgmt⟩, 0) := by decide

/-- A read of MODE.STS returns its word, and changes nothing (R50, R64). -/
theorem Module.readAny_modeSts (master : Nat) : m.readAny master 0x1040 = (m.word 0x1040, m) := by
  have hdom : domOf 0x1040 = .mgmt := by decide
  have habsent : m.absent 1 = false := by simp [Module.absent, blockOf_mode]
  have hshown : m.settleInjections.shown 0x1040 = m.settleInjections.word 0x1040 := by
    unfold Module.shown
    dsimp only
    rw [show 0x1040 / 0x1000 = 1 from rfl, blockOf_mode] <;> rfl
  unfold Module.readAny
  dsimp only
  rw [show regAddr 0x1040 = 0x1040 from rfl, show 0x1040 / 0x1000 = 1 from rfl, if_neg (by decide), habsent, if_neg (by decide), hdom,
    Module.domStopped, if_neg (by decide), hshown, m.word_settleInjections _ ⟨by decide, by decide⟩]

/-- The entry of GOV.CTL in the table of its page (R766). -/
def govCtlReg : RegD := ⟨0x040, 1, 8, none, .mgmt, [fld 1 1 .rw 0, fld 0 0 .rw 1]⟩

theorem regAt_govCtl : regAt 0x2040 = some govCtlReg := by decide

theorem Module.reaches_govCtl : m.reaches 0x2040 = true := by
  have hdom : domOf (regAddr 0x2040) = .mgmt := by decide
  have hlock : tableLock (regAddr 0x2040) = none := by decide
  simp [Module.reaches, Module.fate, Module.absent, show regAddr 0x2040 / 0x1000 = 2 from rfl, blockOf_gov, hdom, hlock,
    Module.domStopped]

theorem Module.writeOk_govCtl (old new : Word) : m.writeOk 0x2040 old new = true := by
  unfold Module.writeOk
  dsimp only
  rw [show 0x2040 / 0x1000 = 2 from rfl, blockOf_gov] <;> rfl

/-- A write of the whole of GOV.CTL sets `en` and `freeze`. -/
theorem Module.bits_writtenWord_govCtl (w : Wr) (hw : w.half = .full) :
    bits (m.writtenWord 0x2040 w) 0 0 = bits w.value 0 0 ∧ bits (m.writtenWord 0x2040 w) 1 1 = bits w.value 1 1 := by
  have hrange : ∀ old locked, govCtlReg.fields.all (fun f => f.inRange locked w old) = true := by
    intro old locked
    simp [govCtlReg, fld, FieldD.inRange, hw, mergeHalf_full, bits_one_le]
  simp only [Module.writtenWord, regAt_govCtl, m.writeOk_govCtl, if_true, RegD.write, hrange]
  simp only [govCtlReg, fld, List.foldl_cons, List.foldl_nil, FieldD.write, hw, mergeHalf_full]
  constructor
  · rw [bits_setBits_same _ _ _ _ (by decide) (by decide)]
    exact Nat.mod_eq_of_lt (bits_lt w.value 0 0)
  · rw [bits_setBits_apart _ _ _ _ _ _ (by decide) (by decide) (by decide), bits_setBits_same _ _ _ _ (by decide) (by decide)]
    exact Nat.mod_eq_of_lt (bits_lt w.value 1 1)

/-- A write of GOV.CTL by any master (R13, R58). -/
theorem Module.writeAny_govCtl (e : Env) (w : Wr) : m.writeAny e 0x2040 w = m.setWord 0x2040 (m.writtenWord 0x2040 w) := by
  rw [← m.regWrite_eq_setWord 0x2040 w m.reaches_govCtl (by decide) (by decide) (by decide)]
  unfold Module.writeAny
  dsimp only
  rw [show regAddr 0x2040 = 0x2040 from rfl, show 0x2040 / 0x1000 = 2 from rfl, blockOf_gov]
  rfl

end

/-! ## The request and its answer -/

/-- The response to a MGMT_REQ (R247). -/
def mgmtRspMsg (p : Opened) (body : List Byte) : Msg :=
  { Msg.new .mgmtRsp wMgmtRsp p.tc body.length (.inline body) with xdata := pXdata p % 2 ^ 16 }

section
variable {s : State} {k cid : Nat} {p : Opened} {c : Conn}

theorem exec_mgmtReq (k : Nat) (e : Env) (s : State) : exec (.mgmtReq k e) s = execMgmtReq k e s := rfl

/-- What follows an engine that has performed the entries of a request in the registers, with `body` for an answer: the packet is
accepted, the response is queued, and the pages of modes and power are as the entries left them. -/
theorem State.Receives.mgmtReq_answers (h : s.Receives k p cid c) (hop : p.opcode = wMgmtReq) (hcan : c.canAnswer = true) (e : Env)
    {b : Module} {body : List Byte} (hb : Module.Frame [.regs] ((s.took k e).setConn cid c) b)
    (heng : ((s.took k e).setConn cid c).mgmtEngine e p cid = (.accept, b.queueMsg cid (mgmtRspMsg p body))) :
    Answers (exec (.mgmtReq k e) s) fun t => (Accepts t p cid ∧ PostsBack s t cid c (mgmtRspMsg p body)) ∧ Touches sendParts s t ∧
      b.KeepsPower t.toModule := by
  let c1 : Conn := { c with msgs := c.msgs ++ [{ mgmtRspMsg p body with id := b.x.nextMsg }] }
  have hx : b.x = ((s.took k e).setConn cid c).x := hb .x (by decide)
  have hmt : b.mt = s.mt := hb .mt (by decide)
  have hconn : b.conn cid = some c := (Module.conn_congr _ hx cid).trans (Module.conn_setConn_same _)
  have hcalm : b.Calm := (h.calm_at e).congr hmt (congrArg (·.conns) hx)
  have hanew : c.anew = false := (h.calm_at e).anew (Module.conn_setConn_same _)
  have hleaves := b.leaves_queued cid c1
  rw [Module.queueMsg_answers (c := c) hconn hcan rfl] at heng
  have hcsn : c1.rxCsn ≤ 0xFFFFFF := h.2.2.2.2.2.2.2.2.2.1
  have hheld : (b.counting.setConn cid c1).mt.unexp = [] :=
    (congrArg (·.unexp) ((hleaves.frame .mt (by decide)).trans hmt)).trans h.unexp
  have hqueued : b.KeepsPower (b.counting.setConn cid c1) := .of_regs rfl
  have hne : p.opcode ≠ wEager ∧ p.opcode ≠ wRts := by rw [hop]; decide
  obtain ⟨c2, hseen, h2, hcsn2⟩ := Module.leaves_markSeen hleaves.conn hheld e p.msn
  obtain ⟨c3, hacc, h3, hpsn⟩ := Module.leaves_rxAccept hseen.conn (hcsn2.trans_le hcsn) p.psn p.tc
  have hboth := (hleaves.trans hseen h2.toSameEnds).trans hacc h3.toSameEnds
  have hanew3 : c3.anew = false := (h3.anew.trans h2.anew).trans hanew
  have hend := hboth.trans ((hboth.calm hcalm hanew3).leaves_settle e hboth.conn) (.refl c3)
  have hpower := ((hqueued.trans (Module.keepsPower_markSeen hleaves.conn hheld e p.msn)).trans
    (Module.keepsPower_rxAccept hseen.conn (hcsn2.trans_le hcsn) p.psn p.tc)).trans ((hboth.calm hcalm hanew3).keepsPower_settle e)
  have heq := h.rxPacket_accepted e hne (engine := fun m cid => m.mgmtEngine e p cid) heng hseen.conn (.inr hcan)
  rw [← heq] at hend hpower
  have hmsgs : c3.msgs = c.msgs ++ [{ mgmtRspMsg p body with id := s.x.nextMsg }] := by
    rw [h3.msgs, h2.msgs, show s.x.nextMsg = b.x.nextMsg from (congrArg (·.nextMsg) hx).symm]
  have htook : Module.Frame sendParts s.toModule ((s.took k e).setConn cid c) :=
    ((s.took_frame k e).mono (by simp [sendParts])).trans ((Module.setConn_frame _ _ _).mono (by simp [sendParts]))
  have hframe := (htook.trans (hb.mono (by simp [sendParts]))).trans (hend.frame.mono (by simp [sendParts]))
  have hconn3 := hend.conn
  clear_value c1
  generalize hr : (s.took k e).toModule.rxPacket e p (fun m cid => m.mgmtEngine e p cid) = r at hpower hframe hconn3
  refine ⟨s.upd fun _ => r, ?_, ⟨⟨c3, hconn3, hpsn⟩, c3, hconn3, hmsgs⟩, Module.Frame.touches_left hframe, hpower⟩
  rw [exec_mgmtReq, execMgmtReq, h.1.arriving hop, hr]

/-- The clause about MGMT_REQ of another source (R247). -/
theorem mgmtReq_refused (h : s.Receives k p cid c) (hop : p.opcode = wMgmtReq) (hcan : c.canAnswer = true) (e : Env)
    (hno : s.isManager p.src = false ∨ p.nd ≠ 0) : Answers (exec (.mgmtReq k e) s) fun t => (Accepts t p cid ∧
      PostsBack s t cid c (mgmtRspMsg p ((entriesOf 32 p.payload).flatMap fun b => entryAnswer b 2 0))) ∧ Touches sendParts s t := by
  let m := (s.took k e).setConn cid c
  have hman : ¬ (m.isManager p.src && decide (p.nd = 0)) = true := by
    rcases hno with hno | hno
    · simp [show m.isManager p.src = s.isManager p.src from rfl, hno]
    · simp [hno]
  obtain ⟨t, ht, hans, htouch, -⟩ := h.mgmtReq_answers hop hcan e (b := m) (.refl _ m)
    (body := (entriesOf 32 p.payload).flatMap fun b => entryAnswer b 2 0) (by
      unfold Module.mgmtEngine
      dsimp only
      rw [if_neg hman]
      rfl)
  exact ⟨t, ht, hans, htouch⟩

/-- The one entry of a payload of 16 bytes (R246). -/
theorem entriesOf_single (bs : List Byte) (h : bs.length = 16) : entriesOf 32 bs = [bs] := by
  rw [entriesOf, if_neg (by omega), List.take_of_length_le (by omega), List.drop_of_length_le (by omega), entriesOf, if_pos (by decide)]

/-- The address of a register entry (R246). -/
def entryAddr (b : List Byte) : Nat := fieldLE b 2 2 % 2 ^ 12 * 0x1000 + fieldLE b 4 2 % 2 ^ 12

/-- A manager's request of one entry: the entry is performed as master 10. -/
theorem State.mgmtEngine_single (s : State) (k cid : Nat) (p : Opened) (c : Conn) (e : Env) (hman : s.isManager p.src = true) (hnd : p.nd = 0)
    (hlen : p.payload.length = 16) {status value : Nat} {b : Module}
    (hentry : ((s.took k e).setConn cid c).entryAccess e 10 (fieldLE p.payload 0 1) (entryAddr p.payload) (fieldLE p.payload 8 8) =
      (status, value, b)) :
    ((s.took k e).setConn cid c).mgmtEngine e p cid = (.accept, b.queueMsg cid (mgmtRspMsg p (entryAnswer p.payload status value))) := by
  have hyes : (((s.took k e).setConn cid c).isManager p.src && decide (p.nd = 0)) = true := by
    rw [show ((s.took k e).setConn cid c).isManager p.src = s.isManager p.src from rfl, hman, hnd]
    decide
  have hrun : ((s.took k e).setConn cid c).entriesRun e 10 [p.payload] = (entryAnswer p.payload status value, b) := by
    rw [Module.entriesRun]
    unfold entryAddr at hentry
    rw [hentry]
    simp [Module.entriesRun]
  unfold Module.mgmtEngine
  dsimp only
  rw [if_pos hyes, entriesOf_single _ hlen, hrun]
  rfl

/-- The clause about a manager's MGMT_REQ that reads MODE.STS (R247). -/
theorem mgmtReq_reads (h : s.Receives k p cid c) (hop : p.opcode = wMgmtReq) (hcan : c.canAnswer = true) (e : Env)
    (hman : s.isManager p.src = true) (hnd : p.nd = 0) (hlen : p.payload.length = 16) (hread : fieldLE p.payload 0 1 = 1)
    (haddr : entryAddr p.payload = F.modeStsMode.reg) : Answers (exec (.mgmtReq k e) s) fun t => (Accepts t p cid ∧
      PostsBack s t cid c (mgmtRspMsg p (entryAnswer p.payload 0 (s.word F.modeStsMode.reg).toNat))) ∧ Touches sendParts s t := by
  let m := (s.took k e).setConn cid c
  have hentry : m.entryAccess e 10 (fieldLE p.payload 0 1) (entryAddr p.payload) (fieldLE p.payload 8 8) =
      (0, (s.word F.modeStsMode.reg).toNat, m) := by
    rw [hread, haddr, Module.entryAccess, if_neg (by decide), if_neg (by decide), show F.modeStsMode.reg = 0x1040 from rfl, m.readAny_modeSts]
    rfl
  obtain ⟨t, ht, hans, htouch, -⟩ := h.mgmtReq_answers hop hcan e (.refl _ m) (s.mgmtEngine_single k cid p c e hman hnd hlen hentry)
  exact ⟨t, ht, hans, htouch⟩

/-- The clause about a manager's MGMT_REQ that writes GOV.CTL (R247, R58). -/
theorem mgmtReq_writes (h : s.Receives k p cid c) (hop : p.opcode = wMgmtReq) (hcan : c.canAnswer = true) (e : Env)
    (hman : s.isManager p.src = true) (hnd : p.nd = 0) (hlen : p.payload.length = 16) (hwrite : fieldLE p.payload 0 1 = 2)
    (haddr : entryAddr p.payload = F.govCtlEn.reg) : Answers (exec (.mgmtReq k e) s) fun t => (Accepts t p cid ∧
      PostsBack s t cid c (mgmtRspMsg p (entryAnswer p.payload 0 0))) ∧ Touches sendParts s t ∧
        t.get F.govCtlEn = fieldLE p.payload 8 8 % 2 ∧ t.get F.govCtlFreeze = fieldLE p.payload 8 8 / 2 % 2 := by
  let m := (s.took k e).setConn cid c
  let w : Wr := { master := BitVec.ofNat 4 10, half := .full, value := BitVec.ofNat 64 (fieldLE p.payload 8 8) }
  obtain ⟨hen, hfreeze⟩ := m.bits_writtenWord_govCtl w rfl
  generalize hx : m.writtenWord 0x2040 w = x at hen hfreeze
  have hentry : m.entryAccess e 10 (fieldLE p.payload 0 1) (entryAddr p.payload) (fieldLE p.payload 8 8) = (0, 0, m.setWord 0x2040 x) := by
    rw [hwrite, haddr, Module.entryAccess, if_neg (by decide), if_pos (by decide), ← hx, ← m.writeAny_govCtl e w]
    rfl
  obtain ⟨t, ht, hans, htouch, hpower⟩ := h.mgmtReq_answers hop hcan e (Module.setWord_frame _ _ _) (s.mgmtEngine_single k cid p c e hman hnd hlen hentry)
  refine ⟨t, ht, hans, htouch, ?_, ?_⟩
  · rw [hpower.field F.govCtlEn ⟨by decide, by decide, by decide⟩, Module.get, show F.govCtlEn.reg = 0x2040 from rfl, Module.word_setWord_same]
    refine hen.trans ?_
    simp [w, bits]
  · rw [hpower.field F.govCtlFreeze ⟨by decide, by decide, by decide⟩, Module.get, show F.govCtlFreeze.reg = 0x2040 from rfl, Module.word_setWord_same]
    refine hfreeze.trans ?_
    simp only [w, bits, BitVec.toNat_ofNat, Nat.shiftRight_one]
    omega

end

/-- Settles O54: the causes of Twilight by errors, hosts and power, their W1C writes, the levels of the sensors, and MGMT_REQ. -/
theorem causesLeadToTwilight : Obligations.CausesLeadToTwilight := by
  refine ⟨fatalEngineError_causes, hostLoss_causes, powerOver_causes, causeClear_clears, ?sensors, sensorFail_level, ?mgmt⟩
  case sensors =>
    intro k temp tile e s i hi hthere hlo hhi
    exact ⟨sensor_level k temp tile e s i hi hthere hlo hhi, sensor_critical k temp tile e s i hi hlo hhi⟩
  case mgmt =>
    intro k e s p cid c h hop hcan
    refine ⟨mgmtReq_refused h hop hcan e, fun b hman hnd hb hlen => ?_⟩
    subst hb
    exact ⟨mgmtReq_reads h hop hcan e hman hnd hlen, mgmtReq_writes h hop hcan e hman hnd hlen⟩

end Sys2Proof.Machine
